-- ==== Sys2Proof/Word.lean ====
section
/-! DEFINITION. The word types of the ZV4816: bytes, register words, and the counts and codes the manual numbers as bits. -/

namespace Sys2Proof

/-- One byte of a descriptor, a record or a memory. -/
abbrev Byte := BitVec 8

/-- A 32-bit setup register, handle, result word or event argument (00 R5). -/
abbrev Word := BitVec 32

/-- A 64-bit RESULT, UID or bus address (02 R54). -/
abbrev DWord := BitVec 64

/-- A 32-byte descriptor, byte 0 in bits 7..0 (02 R52, 00 R5 little-endian). -/
abbrev RawDesc := BitVec 256

end Sys2Proof
end

