-- ==== Sys2Proof/Syntax.lean ====
section
/-! DEFINITION. The commands of the block: one constructor of `Instr` per row of spec/opcode_table.json, and the types of their operands. -/

namespace Sys2Proof

/-- A descriptor as it stands at its target function (02 R52): the SQ it came from, its FLAGS byte, TAG, HANDLE and
PAYLOAD (bytes 8 to 31, byte 8 in bits 7..0). The opcode is the row's. `member` marks a member of a chain (02 R62). -/
structure Desc where
  sq     : Fin 16
  flags  : Byte
  tag    : BitVec 16
  handle : Word
  pay    : BitVec 192
  member : Bool := false
  deriving DecidableEq, Repr, Inhabited

/-- How a read issued by the device ended (02 R38, R75). A timeout is its own row (PCIE_COMPLETION_TIMEOUT). -/
inductive DmaEnd where
  | ok | ur | ca | poisoned
  deriving DecidableEq, Repr, Inhabited

/-- A ring that requests an interrupt vector (02 R66). -/
inductive IrqRing where
  | cq (n : Fin 16) | eq | lq
  deriving DecidableEq, Repr, Inhabited

/-- The clocks that SV supervises (01 R27). -/
inductive Clk where
  | xclk | pllA | pllB
  deriving DecidableEq, Repr, Inhabited

/-- The edge of a PWM channel that a compare places (07 R215). -/
inductive Edge where
  | set | clear
  deriving DecidableEq, Repr, Inhabited

/-- The kind of a wire error on a Vale port (11 R314); NO_ACK has a row of its own. -/
inductive WireErr where
  | bit | stuff | crc | form
  deriving DecidableEq, Repr, Inhabited

/-- What an error-free frame from a satellite carries beside its message (11 R309, R323; 12 R337, R340, R352):
the SRC of its ARB field, its DST, whether a receive buffer of the port is free for it, whether it was sent at top age, payload byte 1,
the trailer when one is appended, and the causes of the timing violations seen in it, as they occurred. -/
structure VFrame where
  src     : Fin 64
  dst     : Fin 64 := 0
  room    : Bool := true
  topAge  : Bool := false
  epoch   : Byte
  trailer : Option (Byte × Word) := none
  viols   : List (Fin 8) := []
  deriving DecidableEq, Repr, Inhabited

/-- The reasons an MS/TP or Modbus frame is discarded, with the kind of LG_BB_FRAME_ERR (13 R378, R416). -/
inductive BusErr where
  | headerCrc | dataCrc | framing | abortGap | frameType | length
  deriving DecidableEq, Repr, Inhabited

/-- The SRAMs under SECDED (01 R19 and its table of memories). -/
inductive Sram where
  | engine (e : Fin 12) | plain | logRam | results | eventRam
  deriving DecidableEq, Repr, Inhabited

/-- How a sensor-bus transaction ended on the wire (13 R405): the bytes read, or the cause of its failure.
CHECK failures are found by the device from the bytes. -/
inductive SbEnd where
  | done (data : List Byte)
  | addrNack | dataNack | bus
  deriving DecidableEq, Repr, Inhabited

/-- A frame that the device has sent: its port, and the causes of timing violations of the satellite it went to (11 R313, R323, R335). -/
structure VSent where
  port : Fin 16
  viols : List (Fin 8) := []
  deriving DecidableEq, Repr, Inhabited

/-- What is read of a frame before an error destroys it (11 R309): SRC, CLASS and a top age in its ARB field, and DST. -/
structure VAddrs where
  src : Fin 64 := 0
  cls : Fin 32 := 0
  topAge : Bool := false
  dst : Fin 64 := 0
  deriving DecidableEq, Repr, Inhabited

/-- The registers of the PCI Express configuration space that a configuration write may change here (02 R36 to R40, R68). -/
inductive CfgWrite where
  | msixFunctionMask (masked : Bool)
  | msixEnable (on : Bool)
  | powerStateD0
  | powerStateD3hot
  | aspmL1 (on : Bool)
  | aspmL0s (on : Bool)
  | command (memSpace busMaster : Bool)
  | bar0 (v : DWord)
  | bar2 (v : DWord)
  | maxPayloadSize (k : Fin 8)
  | maxReadRequestSize (k : Fin 8)
  | aerUncStatus (v : Word)
  | aerUncMask (v : Word)
  | aerUncSeverity (v : Word)
  | aerCorStatus (v : Word)
  | aerCorMask (v : Word)
  deriving DecidableEq, Repr, Inhabited

/-- A JTAG access (19 R527): leaving Test-Logic-Reset, halting or resuming an engine. -/
inductive Jtag where
  | leaveReset | halt (e : Fin 12) | resume (e : Fin 12)
  deriving DecidableEq, Repr, Inhabited

/-- The commands of the block, in the order of spec/opcode_table.json. A descriptor's row carries the descriptor;
a register or wire row carries its address and value; a timer's row names the object whose time has come. -/
inductive Instr where
  | sysNop (d : Desc)
  | sysInfoGet (d : Desc)
  | sysCountersGet (d : Desc)
  | sysRingResync (raw : RawDesc)
  | sqProducerCol (n : Fin 16) (v : Word)
  | cqConsumerCol (n : Fin 16) (v : Word)
  | eqConsumerCol (v : Word)
  | lqConsumerCol (v : Word)
  | descriptorFetch (n : Fin 16)
  | fetchCompletion (n : Fin 16) (e : DmaEnd) (data : List RawDesc)
  | fetchRetryTimer (n : Fin 16)
  | descriptorDispatch
  | completionWrite
  | eventWrite
  | lqMirror
  | modTimeExpiry (r : IrqRing)
  | ringStall (n : Fin 16)
  | sqEnable (n : Fin 16) (v : Word)
  | sqDisable (n : Fin 16) (v : Word)
  | cqEnable (n : Fin 16) (v : Word)
  | cqDisable (n : Fin 16) (v : Word)
  | eqEnable (v : Word)
  | eqDisable (v : Word)
  | lqEnable (v : Word)
  | lqDisable (v : Word)
  | ringCtlHold
  | dlDown
  | hotReset
  | d3hotEntry
  | read (addr : BitVec 24) (nbytes : Nat)
  | fastRead (addr : BitVec 24) (nbytes : Nat)
  | quadRead (addr : BitVec 24) (nbytes : Nat)
  | write (addr : BitVec 24) (data : List Byte)
  | quadWrite (addr : BitVec 24) (data : List Byte)
  | readStatus
  | registerWrite (off : BitVec 14) (width : Fin 9) (v : DWord)
  | setupLock
  | fenWrite (k : Fin 3) (v : Word)
  | frstWrite (k : Fin 3) (v : Word)
  | devrst
  | tbAngleRead
  | hollowCntLoRead
  | hollowCntHiRead
  | hollowCal0Read
  | hollowCal1Read
  | freezeExpiry
  | tbConfig (d : Desc)
  | tbStatusGet (d : Desc)
  | tbEventSet (d : Desc)
  | tbEventClear (d : Desc)
  | lineCrossing
  | cycleJudgement
  | calendarEntryFire (e : Fin 256)
  | adcConfig (d : Desc)
  | adcSeqWrite (d : Desc)
  | adcRun (d : Desc)
  | adcUrgent (d : Desc)
  | adcRead (d : Desc)
  | adcCal (d : Desc)
  | settleExpiry (c : Fin 3)
  | endOfConversion (c : Fin 3) (raw : Int) (overload : Bool)
  | urgentConversionEnd (c : Fin 3) (raw : Int) (overload : Bool)
  | postDelayExpiry (c : Fin 3)
  | waitLimitExpiry (c : Fin 3)
  | refOkRise (c : Fin 3)
  | refLost (c : Fin 3)
  | loopBind (d : Desc)
  | loopScale (d : Desc)
  | loopGains (d : Desc)
  | loopLimits (d : Desc)
  | loopProfile (d : Desc)
  | loopSupervise (d : Desc)
  | loopSet (d : Desc)
  | loopCtrl (d : Desc)
  | loopStatusGet (d : Desc)
  | loopTimerExpiry (n : Fin 144)
  | loopRun (n : Fin 144)
  | feTimeExpiry (n : Fin 144)
  | zoneConfig (d : Desc)
  | zoneSetpoints (d : Desc)
  | zoneInput (d : Desc)
  | zoneOutput (d : Desc)
  | zoneOverride (d : Desc)
  | zoneStatusGet (d : Desc)
  | schedWrite (d : Desc)
  | schedExcept (d : Desc)
  | zoneCycle
  | pwmChConfig (d : Desc)
  | pwmSet (d : Desc)
  | pwmField (d : Desc)
  | pwmCommit (d : Desc)
  | pwmCtrl (d : Desc)
  | pwmTripConfig (d : Desc)
  | pwmTripClear (d : Desc)
  | pwmStatusGet (d : Desc)
  | pwmPeriodBoundary (c : Fin 48)
  | pwmCompareMatch (c : Fin 48) (e : Edge)
  | tripActive (t : Fin 8)
  | tripInactive (t : Fin 8)
  | blankWindowEnd (c : Fin 48)
  | valveConfig (d : Desc)
  | valveProfile (d : Desc)
  | valveCmd (d : Desc)
  | valvePropSet (d : Desc)
  | saddleConfig (d : Desc)
  | valveAck (d : Desc)
  | valveStatusGet (d : Desc)
  | thresholdCrossing (c : Fin 16)
  | toffExpiry (c : Fin 16)
  | tblankExpiry (c : Fin 16)
  | tBoostMaxExpiry (c : Fin 16)
  | tPeakExpiry (c : Fin 16)
  | tHoldExpiry (c : Fin 16)
  | offPhaseEnd (c : Fin 16)
  | openTExpiry (c : Fin 16)
  | boostWaitExpiry (c : Fin 16)
  | vboostReady (k : Fin 8)
  | readyWaitExpiry (k : Fin 8)
  | deadTimeEnd (k : Fin 8)
  | ditherStep (c : Fin 16)
  | closingDetected (c : Fin 16)
  | kinkWindowEnd (c : Fin 16)
  | fanConfig (d : Desc)
  | fanBands (d : Desc)
  | fanSet (d : Desc)
  | fanCtrl (d : Desc)
  | fanStatusGet (d : Desc)
  | tachEdge (n : Fin 12)
  | fanEvaluation
  | kickTimeout (n : Fin 12)
  | tachLostTimeout (n : Fin 12)
  | backoffEnd (n : Fin 12)
  | fanSlowTimeout (n : Fin 12)
  | damperConfig (d : Desc)
  | damperSet (d : Desc)
  | damperCtrl (d : Desc)
  | damperCal (d : Desc)
  | damperStatusGet (d : Desc)
  | learnTimeout (n : Fin 12)
  | travelTimeout (n : Fin 12)
  | panelConfig (d : Desc)
  | panelLadder (d : Desc)
  | panelLed (d : Desc)
  | encConfig (d : Desc)
  | encRead (d : Desc)
  | panelStatusGet (d : Desc)
  | keyDebounced (k : Fin 96) (pressed : Bool)
  | encoderTransition (n : Fin 8) (a b : Bool)
  | panelQueueForward
  | valePortConfig (d : Desc)
  | valePortCtrl (d : Desc)
  | valePortStatusGet (d : Desc)
  | valeFrameStart (p : Fin 16)
  | valeArbitrationLost (p : Fin 16)
  | valeFrameSent (f : VSent)
  | valeFrameError (p : Fin 16) (own : Bool) (e : WireErr) (a : VAddrs) (viols : List (Fin 8))
  | valeNoAck (p : Fin 16)
  | valeRetryBackoffEnd (p : Fin 16)
  | roundGap (p : Fin 16)
  | stuckDetect (p : Fin 16)
  | stuckRecovery (p : Fin 16)
  | quietRecovery (p : Fin 16)
  | txfaultDetect (p : Fin 16)
  | wakePulseSeen (p : Fin 16)
  | startTimeout (p : Fin 16)
  | valeConvConfig (d : Desc)
  | valeDiscover (d : Desc)
  | valeKeySet (d : Desc)
  | valeRead (d : Desc)
  | valeWrite (d : Desc)
  | valeBulkOpen (d : Desc)
  | valeBulkAbort (d : Desc)
  | valeSatCtrl (d : Desc)
  | valeSatStatusGet (d : Desc)
  | valeItemWatch (d : Desc)
  | announce (p : Fin 16) (f : VFrame) (uid : DWord) (caps : Byte)
  | annWinEnd (p : Fin 16) (disturbed : Bool)
  | identRsp (p : Fin 16) (f : VFrame) (uid : DWord) (caps items : Byte) (fwver : BitVec 16) (maxsess : Byte)
  | prove (p : Fin 16) (f : VFrame) (ns : DWord) (tag : Word)
  | notify (p : Fin 16) (f : VFrame) (first : Byte) (values : List Word)
  | readRsp (p : Fin 16) (f : VFrame) (tid first : Byte) (values : List Word)
  | writeRsp (p : Fin 16) (f : VFrame) (tid first count : Byte)
  | nak (p : Fin 16) (f : VFrame) (cls : Fin 32) (id code detail : Byte)
  | openAck (p : Fin 16) (f : VFrame) (sid : Byte) (len : Word)
  | sack (p : Fin 16) (f : VFrame) (sid : Byte) (base : BitVec 16) (map : Byte)
  | data (p : Fin 16) (f : VFrame) (sid : Byte) (seg : BitVec 16) (bytes : List Byte)
  | resumeAck (p : Fin 16) (f : VFrame) (sid : Byte)
  | closeAck (p : Fin 16) (f : VFrame) (sid result : Byte)
  | rspTExpiry (p : Fin 16) (slot : Fin 32)
  | sackTExpiry (p : Fin 16) (sid : Fin 16)
  | aliveTExpiry (p : Fin 16) (slot : Fin 32)
  | resumeTimer (p : Fin 16) (sid : Fin 16)
  | resumeTExpiry (p : Fin 16) (sid : Fin 16)
  | probeTExpiry (p : Fin 16)
  | itemPollTimer (p : Fin 16) (slot : Fin 32) (item : Fin 32)
  | maxageExpiry (p : Fin 16) (slot : Fin 32) (item : Fin 32)
  | bbConfig (d : Desc)
  | bbMstpConfig (d : Desc)
  | bbCtrl (d : Desc)
  | bbSend (d : Desc)
  | bbRecv (d : Desc)
  | bbSegSend (d : Desc)
  | bbPollWrite (d : Desc)
  | bbMbReq (d : Desc)
  | bbSlaveImage (d : Desc)
  | bbRead (d : Desc)
  | bbStatusGet (d : Desc)
  | token (p : Fin 8) (src dst : Byte)
  | pollForMaster (p : Fin 8) (src dst : Byte)
  | replyToPollForMaster (p : Fin 8) (src dst : Byte)
  | testRequest (p : Fin 8) (src dst : Byte) (bytes : List Byte)
  | testResponse (p : Fin 8) (src dst : Byte) (bytes : List Byte)
  | bacnetDataExpectingReply (p : Fin 8) (src dst : Byte) (bytes : List Byte)
  | bacnetDataNotExpectingReply (p : Fin 8) (src dst : Byte) (bytes : List Byte)
  | replyPostponed (p : Fin 8) (src dst : Byte)
  | mstpFrameError (p : Fin 8) (e : BusErr)
  | tnoTokenExpiry (p : Fin 8)
  | tUsageExpiry (p : Fin 8)
  | treplyTimeout (p : Fin 8)
  | replyWaitExpiry (p : Fin 8)
  | tsegExpiry (p : Fin 8)
  | tsegRxExpiry (p : Fin 8) (src invoke : Byte)
  | modbusFrame (p : Fin 8) (bytes : List Byte)
  | pollEntryDue (p : Fin 8) (e : Fin 64)
  | rspToExpiry (p : Fin 8)
  | mbTurnExpiry (p : Fin 8)
  | uartIdle (p : Fin 8)
  | sbConfig (d : Desc)
  | sbPollWrite (d : Desc)
  | sbXfer (d : Desc)
  | sbCtrl (d : Desc)
  | sbRead (d : Desc)
  | sbStatusGet (d : Desc)
  | sbEntryDue (p : Fin 8) (e : Fin 32)
  | sbWaitExpiry (p : Fin 8) (e : Fin 32)
  | sbTransactionEnd (p : Fin 8) (r : SbEnd)
  | stretchTExpiry (p : Fin 8) (recovered : Bool)
  | sbRecoveryTimer (p : Fin 8) (recovered : Bool)
  | hollowTimeGet (d : Desc)
  | hollowCalGet (d : Desc)
  | hollowTimeSet (d : Desc)
  | hollowAlarmSet (d : Desc)
  | hollowWakeSet (d : Desc)
  | hollowTrim (d : Desc)
  | hollowBackupRead (d : Desc)
  | hollowBackupWrite (d : Desc)
  | hollowPwron (d : Desc)
  | hollowOsfClear (d : Desc)
  | stagedCommit
  | calendarSecond
  | alarmFire (a : Fin 2)
  | periodicWake
  | pwronRelease
  | oscillatorStop
  | vmainFail
  | vmainQualified
  | vhollowBor
  | pwrState (d : Desc)
  | pwrIdleConfig (d : Desc)
  | pwrWakeConfig (d : Desc)
  | pwrFreset (d : Desc)
  | pwrWatchdog (d : Desc)
  | pwrStatusGet (d : Desc)
  | idleTimerExpiry
  | sleepCommit
  | wakePinEdge (w : Fin 4)
  | keyWake
  | hostWake
  | valeWake (p : Fin 16)
  | wakeGroupStart (g : Fin 8)
  | pllLock (c : Clk)
  | heartbeatTimeout (e : Fin 12)
  | svWatchdogReset
  | hostLossTimeout
  | clockFail (c : Clk)
  | clockRetry (c : Clk) (locked : Bool)
  | clockRestored (c : Clk)
  | porst (hostSel : Bool)
  | vcoreBrownOut
  | autorun
  | sramEccError (m : Sram) (double : Bool)
  | logRead (d : Desc)
  | logConfig (d : Desc)
  | logAck (d : Desc)
  | logStatsGet (d : Desc)
  | logMark (d : Desc)
  | diagEngineGet (d : Desc)
  | coalesceWindowClose (seq : BitVec 16)
  | logLoadEval
  | summaryTimer
  | warnQuietExpiry (src : Word)
  | nvConfigWrite (d : Desc)
  | nvConfigRead (d : Desc)
  | nvStatusGet (d : Desc)
  | fwWrite (d : Desc)
  | nvInvalidate (d : Desc)
  | nvWriteComplete (verified : Bool)
  | pcieCompletionTimeout (n : Option (Fin 16))
  | bulkReadCompletion (e : DmaEnd) (bytes : List Byte)
  | msixVectorUnmask (v : Fin 32)
  | pcieConfigWrite (w : CfgWrite)
  | aspmL1Request
  | refreshPulseEnd (c : Fin 48)
  | scanSlot (kc : BitVec 12)
  | uartCharacter (p : Fin 8) (b : Byte) (err : Bool)
  | bbTransmissionEnd (p : Fin 8)
  | oscillatorRestart
  | vbatReturn
  | jtagTapAccess (j : Jtag)
  | startRecessiveSeen (p : Fin 16)
  deriving DecidableEq, Repr

end Sys2Proof
end

