-- ==== Sys2Proof/Config.lean ====
section
/-! DEFINITION. The values the manual leaves open, as constants without a body: nothing in Lean can know one of them.
A `Nat` argument is the running count of free values drawn (`Dev.fresh`), so that each draw is a value of its own. -/

namespace Sys2Proof.Config

/-- Where the proportional gain of the law of 03 R81 step 4 lies, for a BW, within the bounds that its time constant of 2^BW cycles gives
(`gainP`): the manual gives the constant and the limits of 03 R83 and R85, not the gains. -/
opaque trackP : Nat → Nat

/-- Where the integral gain of that law lies, for a BW, within its bounds (`gainI`). -/
opaque trackI : Nat → Nat

/-- The deviation of the device's dew point from the formula of 06 R180, in 1/65536 K: used within ±0.1 K. -/
opaque dewError : Nat → Int

/-- The device's dew point in 1/65536 °C where 06 R180 gives no bound (T outside -10 to +50 °C). -/
opaque dewOutside : Nat → Int

/-- The backoff of a Vale attempt in bit times, used modulo 16 (11 R316). -/
opaque valeBackoff : Nat → Nat

/-- The 8-byte random value ND of a handshake (12 R351). -/
opaque nonce : Nat → BitVec 64

/-- The firmware version of the image a device leaves the factory with (14 R423: this manual does not fix it). -/
opaque factoryVersion : BitVec 16

/-- The bytes of that image, in its slot (18 R511). -/
opaque factoryImage : List (BitVec 8)

/-- LEN in the header of that slot (18 R502). -/
opaque factoryLen : BitVec 32

/-- CRC in the header of that slot (18 R502). -/
opaque factoryCrc : BitVec 32

/-- MAGIC, LEN and CRC that the read-back of a commit finds when its verification fails (18 R503, R504): the manual does not say what reads wrong. -/
opaque nvFlaw : Nat → BitVec 96

/-- How far a write of the key area has come when it stops or fails (18 R512). -/
opaque keyTorn : Nat → Nat

/-- The firmware version an engine reports (14 R437 DIAG_ENGINE_GET): the manual gives no value. -/
opaque engineVersion : Nat → BitVec 32

/-- The busy fraction of a loop engine in one second, in percent, of which PEAK is the highest (05 R168): a measurement of time the model
does not make. -/
opaque busyPeak : Nat → BitVec 8

/-- The busy fraction of an engine over the last second, in percent (14 R437). -/
opaque busyPercent : Nat → BitVec 8

/-- The peak depth of an engine's event queue (14 R437, 01 R24). -/
opaque queueDepth : Nat → BitVec 8

/-- The DAC code that the current has reached when T_BOOST_MAX ends BOOST (08 R252): a measurement of the coil. -/
opaque boostCode : Nat → BitVec 10

/-- VBOOST at VBOOST_SNS in 0.25 V at a comparison (08 R239): an input, for whose level the manual has no command. -/
opaque vboost : Nat → Nat

/-- The half ripple of the previous chop in DAC codes (08 R234): a measurement of the coil. -/
opaque halfRipple : Nat → Int

/-- The ARG of a log record whose argument the manual does not give (01 R19, R27, 02 R51, 10 R287, R289, R290, R293, 16 R475). -/
opaque openArg : Nat → BitVec 32

/-- The header that AER's Header Log holds after an error (02 R37): the bits of a packet on the link. -/
opaque aerHeader : Nat → BitVec 128

/-- The quadrature order in which ENCnA leads ENCnB counts up (10 R290: the manual does not say which direction is positive). -/
opaque encPositive : Bool

/-- The levels at KR0 to KR7, KC0 to KC11 and LCOM0 to LCOM7, as PIN_IN lays them out, where nothing in the device drives them
(19 R526): inputs, for which the manual has no command. -/
opaque pinLevels : Nat → BitVec 28

/-- The wake sources that are asserted when a SLEEP request comes, bit c the source of code c (16 R465): inputs, for whose levels the manual
has no command. -/
opaque wakeAsserted : Nat → BitVec 32

/-- The I/O banks that run at 1.8 V, as detected at a start-up (19 R526): the board's supplies. -/
opaque bankV18 : Nat → BitVec 8

/-- Where the capability structures of the endpoint's configuration space lie (02 R37): power management, MSI-X, PCI Express. -/
opaque capAt : Fin 3 → Nat

/-- Where its Device Serial Number capability lies (02 R37). -/
opaque serialAt : Nat

/-- Whether the link has trained to Gen 2 (02 R37: Gen 2 and Gen 1). -/
opaque linkGen2 : Bool

end Sys2Proof.Config
end

