-- ==== Sys2Proof/Machine/Codes.lean ====
section
/-! DEFINITION. The event codes of 14 R439 and the log codes of 14 R440. -/

namespace Sys2Proof.Machine

/-- 14 R439. -/
abbrev EV_RING_STALL : BitVec 16 := 0x0001

/-- 14 R439. -/
abbrev EV_RING_ERROR : BitVec 16 := 0x0002

/-- 14 R439. -/
abbrev EV_TB_STATE : BitVec 16 := 0x0101

/-- 14 R439. -/
abbrev EV_ADC_REF : BitVec 16 := 0x0201

/-- 14 R439. -/
abbrev EV_LOOP_STATE : BitVec 16 := 0x0301

/-- 14 R439. -/
abbrev EV_LOOP_FEEDBACK : BitVec 16 := 0x0302

/-- 14 R439. -/
abbrev EV_LOOP_FOLLOW : BitVec 16 := 0x0303

/-- 14 R439. -/
abbrev EV_ZONE_MODE : BitVec 16 := 0x0401

/-- 14 R439. -/
abbrev EV_ZONE_OVR_END : BitVec 16 := 0x0402

/-- 14 R439. -/
abbrev EV_PWM_TRIP : BitVec 16 := 0x0501

/-- 14 R439. -/
abbrev EV_PWM_STALE : BitVec 16 := 0x0502

/-- 14 R439. -/
abbrev EV_VALVE_CLOSED : BitVec 16 := 0x0601

/-- 14 R439. -/
abbrev EV_VALVE_FAULT : BitVec 16 := 0x0602

/-- 14 R439. -/
abbrev EV_FAN_STATE : BitVec 16 := 0x0701

/-- 14 R439. -/
abbrev EV_FAN_FAULT : BitVec 16 := 0x0702

/-- 14 R439. -/
abbrev EV_DM_STATE : BitVec 16 := 0x0703

/-- 14 R439. -/
abbrev EV_KEY : BitVec 16 := 0x0801

/-- 14 R439. -/
abbrev EV_ENC : BitVec 16 := 0x0802

/-- 14 R439. -/
abbrev EV_GHOST : BitVec 16 := 0x0803

/-- 14 R439. -/
abbrev EV_LADDER_MULTI : BitVec 16 := 0x0804

/-- 14 R439. -/
abbrev EV_VALE_PORT : BitVec 16 := 0x0901

/-- 14 R439. -/
abbrev EV_VALE_EXCLUDED : BitVec 16 := 0x0902

/-- 14 R439. -/
abbrev EV_VALE_SLOT : BitVec 16 := 0x0903

/-- 14 R439. -/
abbrev EV_VALE_STRANGER : BitVec 16 := 0x0904

/-- 14 R439. -/
abbrev EV_VALE_DUP : BitVec 16 := 0x0905

/-- 14 R439. -/
abbrev EV_VALE_AUTH : BitVec 16 := 0x0906

/-- 14 R439. -/
abbrev EV_VALE_NOTIFY : BitVec 16 := 0x0907

/-- 14 R439. -/
abbrev EV_BB_PORT : BitVec 16 := 0x0A01

/-- 14 R439. -/
abbrev EV_BB_PEER : BitVec 16 := 0x0A02

/-- 14 R439. -/
abbrev EV_BB_FAULT : BitVec 16 := 0x0A03

/-- 14 R439. -/
abbrev EV_BB_MB_WRITE : BitVec 16 := 0x0A04

/-- 14 R439. -/
abbrev EV_BB_VALUE : BitVec 16 := 0x0A05

/-- 14 R439. -/
abbrev EV_SB_VALUE : BitVec 16 := 0x0B01

/-- 14 R439. -/
abbrev EV_HOLLOW_ALARM : BitVec 16 := 0x0C01

/-- 14 R439. -/
abbrev EV_HOLLOW_WAKE : BitVec 16 := 0x0C02

/-- 14 R439. -/
abbrev EV_HOLLOW_OSF : BitVec 16 := 0x0C03

/-- 14 R439. -/
abbrev EV_PWR_STATE : BitVec 16 := 0x0D01

/-- 14 R439. -/
abbrev EV_HOST_LOSS : BitVec 16 := 0x0D02

/-- 14 R439. -/
abbrev EV_FUNC_RESET : BitVec 16 := 0x0D03

/-- 14 R439. -/
abbrev EV_LOG_FLOOD : BitVec 16 := 0x0E01

/-- 14 R439. -/
abbrev EV_NV_EMPTY : BitVec 16 := 0x0F01

/-- 14 R439. -/
abbrev EV_AUTORUN : BitVec 16 := 0x0F02

/-- 14 R440. -/
abbrev LG_MEM_CE : BitVec 11 := 0x001

/-- 14 R440. -/
abbrev LG_MEM_UE : BitVec 11 := 0x002

/-- 14 R440. -/
abbrev LG_NET_EVT_DROP : BitVec 11 := 0x003

/-- 14 R440. -/
abbrev LG_CLK_PLLA : BitVec 11 := 0x004

/-- 14 R440. -/
abbrev LG_CLK_PLLB : BitVec 11 := 0x005

/-- 14 R440. -/
abbrev LG_CLK_XCLK : BitVec 11 := 0x006

/-- 14 R440. -/
abbrev LG_CLK_RESTORED : BitVec 11 := 0x007

/-- 14 R440. -/
abbrev LG_RING_PROD : BitVec 11 := 0x010

/-- 14 R440. -/
abbrev LG_RING_CONS : BitVec 11 := 0x011

/-- 14 R440. -/
abbrev LG_RING_STALL : BitVec 11 := 0x012

/-- 14 R440. -/
abbrev LG_RING_CFG : BitVec 11 := 0x013

/-- 14 R440. -/
abbrev LG_RESYNC_IGNORED : BitVec 11 := 0x014

/-- 14 R440. -/
abbrev LG_RING_DMA : BitVec 11 := 0x015

/-- 14 R440. -/
abbrev LG_TB_LOCKED : BitVec 11 := 0x081

/-- 14 R440. -/
abbrev LG_TB_HOLDOVER : BitVec 11 := 0x082

/-- 14 R440. -/
abbrev LG_TB_UNLOCKED : BitVec 11 := 0x083

/-- 14 R440. -/
abbrev LG_TB_CORRUPT : BitVec 11 := 0x084

/-- 14 R440. -/
abbrev LG_TB_RANGE : BitVec 11 := 0x085

/-- 14 R440. -/
abbrev LG_ADC_REF_LOST : BitVec 11 := 0x101

/-- 14 R440. -/
abbrev LG_ADC_OPEN : BitVec 11 := 0x102

/-- 14 R440. -/
abbrev LG_ADC_OVR : BitVec 11 := 0x103

/-- 14 R440. -/
abbrev LG_ADC_WAIT_TO : BitVec 11 := 0x104

/-- 14 R440. -/
abbrev LG_ADC_URG_DROP : BitVec 11 := 0x105

/-- 14 R440. -/
abbrev LG_LOOP_FEEDBACK : BitVec 11 := 0x181

/-- 14 R440. -/
abbrev LG_LOOP_FOLLOW : BitVec 11 := 0x182

/-- 14 R440. -/
abbrev LG_LOOP_RECOVER : BitVec 11 := 0x183

/-- 14 R440. -/
abbrev LG_LOOP_OVERRUN : BitVec 11 := 0x184

/-- 14 R440. -/
abbrev LG_LOOP_OUT_HELD : BitVec 11 := 0x185

/-- 14 R440. -/
abbrev LG_ZONE_INPUT : BitVec 11 := 0x201

/-- 14 R440. -/
abbrev LG_ZONE_NOTIME : BitVec 11 := 0x202

/-- 14 R440. -/
abbrev LG_ZONE_OUT_BLOCKED : BitVec 11 := 0x203

/-- 14 R440. -/
abbrev LG_ZONE_DEW : BitVec 11 := 0x204

/-- 14 R440. -/
abbrev LG_PWM_TRIP : BitVec 11 := 0x281

/-- 14 R440. -/
abbrev LG_PWM_TRIP_CBC : BitVec 11 := 0x282

/-- 14 R440. -/
abbrev LG_PWM_STALE : BitVec 11 := 0x283

/-- 14 R440. -/
abbrev LG_PWM_CLAMP : BitVec 11 := 0x284

/-- 14 R440. -/
abbrev LG_PWM_REFRESH_CUT : BitVec 11 := 0x285

/-- 14 R440. -/
abbrev LG_PWM_ANGLE_LOST : BitVec 11 := 0x286

/-- 14 R440. -/
abbrev LG_VALVE_OPEN : BitVec 11 := 0x301

/-- 14 R440. -/
abbrev LG_VALVE_SHORT : BitVec 11 := 0x302

/-- 14 R440. -/
abbrev LG_VALVE_NO_CLOSE : BitVec 11 := 0x303

/-- 14 R440. -/
abbrev LG_VALVE_BOOST_TO : BitVec 11 := 0x304

/-- 14 R440. -/
abbrev LG_VALVE_BOOST_NOT_READY : BitVec 11 := 0x305

/-- 14 R440. -/
abbrev LG_VALVE_SADDLE_OVERLAP : BitVec 11 := 0x306

/-- 14 R440. -/
abbrev LG_VALVE_DECAY_SUBST : BitVec 11 := 0x307

/-- 14 R440. -/
abbrev LG_VALVE_FAILPOS : BitVec 11 := 0x308

/-- 14 R440. -/
abbrev LG_FAN_STALL : BitVec 11 := 0x381

/-- 14 R440. -/
abbrev LG_FAN_LOCKED : BitVec 11 := 0x382

/-- 14 R440. -/
abbrev LG_FAN_TACH_LOST : BitVec 11 := 0x383

/-- 14 R440. -/
abbrev LG_FAN_SLOW : BitVec 11 := 0x384

/-- 14 R440. -/
abbrev LG_FAN_TACH_OK : BitVec 11 := 0x385

/-- 14 R440. -/
abbrev LG_FAN_FULL : BitVec 11 := 0x386

/-- 14 R440. -/
abbrev LG_DM_LEARNED : BitVec 11 := 0x391

/-- 14 R440. -/
abbrev LG_DM_LEARN_FAIL : BitVec 11 := 0x392

/-- 14 R440. -/
abbrev LG_DM_RANGE : BitVec 11 := 0x393

/-- 14 R440. -/
abbrev LG_DM_FAILPOS : BitVec 11 := 0x394

/-- 14 R440. -/
abbrev LG_PANEL_GHOST : BitVec 11 := 0x401

/-- 14 R440. -/
abbrev LG_PANEL_MULTI : BitVec 11 := 0x402

/-- 14 R440. -/
abbrev LG_PANEL_ENC_ERR : BitVec 11 := 0x403

/-- 14 R440. -/
abbrev LG_PANEL_DROP : BitVec 11 := 0x404

/-- 14 R440. -/
abbrev LG_VALE_TIMING : BitVec 11 := 0x481

/-- 14 R440. -/
abbrev LG_VALE_PEER_TIMING : BitVec 11 := 0x482

/-- 14 R440. -/
abbrev LG_VALE_WARN : BitVec 11 := 0x483

/-- 14 R440. -/
abbrev LG_VALE_QUIET : BitVec 11 := 0x484

/-- 14 R440. -/
abbrev LG_VALE_STUCK : BitVec 11 := 0x485

/-- 14 R440. -/
abbrev LG_VALE_TXFAULT : BitVec 11 := 0x486

/-- 14 R440. -/
abbrev LG_VALE_FRAME_ERR : BitVec 11 := 0x487

/-- 14 R440. -/
abbrev LG_VALE_STRANGER : BitVec 11 := 0x4C1

/-- 14 R440. -/
abbrev LG_VALE_DUP : BitVec 11 := 0x4C2

/-- 14 R440. -/
abbrev LG_VALE_AUTH_FAIL : BitVec 11 := 0x4C3

/-- 14 R440. -/
abbrev LG_VALE_LOST : BitVec 11 := 0x4C4

/-- 14 R440. -/
abbrev LG_VALE_REBOOT : BitVec 11 := 0x4C5

/-- 14 R440. -/
abbrev LG_VALE_FULL : BitVec 11 := 0x4C6

/-- 14 R440. -/
abbrev LG_VALE_UID_CLASH : BitVec 11 := 0x4C7

/-- 14 R440. -/
abbrev LG_VALE_STALE : BitVec 11 := 0x4C8

/-- 14 R440. -/
abbrev LG_BB_DUP_ADDR : BitVec 11 := 0x501

/-- 14 R440. -/
abbrev LG_BB_TOKEN_LOST : BitVec 11 := 0x502

/-- 14 R440. -/
abbrev LG_BB_NS_LOST : BitVec 11 := 0x503

/-- 14 R440. -/
abbrev LG_BB_SOLE : BitVec 11 := 0x504

/-- 14 R440. -/
abbrev LG_BB_FRAME_ERR : BitVec 11 := 0x505

/-- 14 R440. -/
abbrev LG_BB_RXDROP : BitVec 11 := 0x506

/-- 14 R440. -/
abbrev LG_BB_SEG_TO : BitVec 11 := 0x507

/-- 14 R440. -/
abbrev LG_BB_VALUE_TO : BitVec 11 := 0x508

/-- 14 R440. -/
abbrev LG_SB_VALUE_TO : BitVec 11 := 0x581

/-- 14 R440. -/
abbrev LG_SB_FAIL : BitVec 11 := 0x582

/-- 14 R440. -/
abbrev LG_SB_STUCK : BitVec 11 := 0x583

/-- 14 R440. -/
abbrev LG_SB_RECOVERED : BitVec 11 := 0x584

/-- 14 R440. -/
abbrev LG_HOLLOW_OSF : BitVec 11 := 0x601

/-- 14 R440. -/
abbrev LG_HOLLOW_LOCKOUT : BitVec 11 := 0x602

/-- 14 R440. -/
abbrev LG_HOLLOW_ALARM : BitVec 11 := 0x603

/-- 14 R440. -/
abbrev LG_PWR_STATE : BitVec 11 := 0x681

/-- 14 R440. -/
abbrev LG_SLEEP_ABORT : BitVec 11 := 0x682

/-- 14 R440. -/
abbrev LG_ECO_REFUSED : BitVec 11 := 0x683

/-- 14 R440. -/
abbrev LG_HOST_LOSS : BitVec 11 := 0x684

/-- 14 R440. -/
abbrev LG_HOST_BACK : BitVec 11 := 0x685

/-- 14 R440. -/
abbrev LG_FRESET : BitVec 11 := 0x686

/-- 14 R440. -/
abbrev LG_LOG_SUMMARY : BitVec 11 := 0x701

/-- 14 R440. -/
abbrev LG_LOG_FLOOD_ON : BitVec 11 := 0x702

/-- 14 R440. -/
abbrev LG_LOG_FLOOD_OFF : BitVec 11 := 0x703

/-- 14 R440. -/
abbrev LG_HOST_MARK : BitVec 11 := 0x704

/-- 14 R440. -/
abbrev LG_LOG_DROP_WRAP : BitVec 11 := 0x705

/-- 14 R440. -/
abbrev LG_NV_EMPTY : BitVec 11 := 0x781

/-- 14 R440. -/
abbrev LG_NV_BANK_BAD : BitVec 11 := 0x782

/-- 14 R440. -/
abbrev LG_NV_COMMIT : BitVec 11 := 0x783

/-- 14 R440. -/
abbrev LG_NV_FAIL : BitVec 11 := 0x784

/-- 14 R440. -/
abbrev LG_FW_SIG_FAIL : BitVec 11 := 0x785

/-- 14 R440. -/
abbrev LG_AUTORUN : BitVec 11 := 0x786

/-- 14 R440. -/
abbrev LG_FW_UPDATED : BitVec 11 := 0x787

end Sys2Proof.Machine
end

