-- ==== Sys2Proof/Machine/State/Base.lean ====
section
/-! DEFINITION. The records that pass between the blocks: status codes, completions, events, log records, and the byte memories. -/

namespace Sys2Proof.Machine

/-- The status codes of 14 R420. -/
inductive Status where
  | ok | flushed | badOpcode | badHandle | disabled | busy | range | timeout | peerError | dropped
  | authFail | nvFail | late | conflict | inReset
  deriving DecidableEq, Repr, Inhabited

/-- A completion that has come about and waits for COMPLETION_WRITE (02 R54, R55). `bulk` holds the bulk data that
must reach the host buffer before it, as runs of bytes with their addresses; `resync` marks the completion of a resync, which has no
reserved entry; `discard` one whose bulk data alone go out (02 R74, R76). -/
structure Completion where
  sq     : Fin 16
  tag    : BitVec 16
  status : Status
  handle : Word
  result : DWord
  notify : Bool
  member : Bool := false
  bulk   : List (Nat × List Byte) := []
  resync : Bool := false
  discard : Bool := false
  deriving DecidableEq, Repr, Inhabited

/-- An event that has been raised (02 R56): its fields but for PHASE; `lost` is LOST, filled at acceptance (02 R64),
with the drops a panel event carries of its own (10 R293) added. -/
structure Event where
  code   : BitVec 16
  src    : Nat
  handle : Word
  arg    : Word
  time   : Word
  lost   : Nat := 0
  deriving DecidableEq, Repr, Inhabited

/-- The severities of 02 R57, in their numbering. -/
inductive Sev where
  | alarm | fault | warn | info | trace
  deriving DecidableEq, Repr, Inhabited

/-- LINK of a log record (02 R57). -/
inductive Link where
  | none | secondary | supersedes | summary
  deriving DecidableEq, Repr, Inhabited

/-- A record of log RAM (02 R57, PHASE 0), with its number among all that have been written (17 R484), whether its coalescing window is open (17 R486), whether it has been
delivered (17 R488), and whether it was taken up for mirroring to LQ when it was written (17 R487). -/
structure LogRec where
  code      : BitVec 11
  sev       : Sev
  link      : Link
  repeated  : Nat
  src       : Nat
  num       : Nat
  ref       : BitVec 16
  arg       : Word
  time      : Word
  open_     : Bool := true
  mirrored  : Bool := false
  delivered : Bool := false
  deriving DecidableEq, Repr, Inhabited

/-- SEQ (17 R484): the record's number among all that have been written, modulo 65 536. -/
abbrev LogRec.seq (r : LogRec) : BitVec 16 := BitVec.ofNat 16 r.num

/-- A byte memory: (address, byte) pairs with strictly rising addresses and no entry equal to what an unlisted
address reads as (0). -/
abbrev Memory := List Host.Cell

/-- A descriptor dispatched to its target function, which waits there or executes (02 R59, R60). `ghost`: its completion
has been given up by a FLUSH resync or by a reset of function 1 (02 R74, R76). `img`: it stands in the image of a bank, at an index of
its section (18 R507), and no host waits for its completion. -/
structure QDesc where
  op    : Nat
  d     : Desc
  ghost : Bool := false
  img   : Option (Nat × Nat) := none
  deriving DecidableEq, Repr, Inhabited

/-- An error source being handled (17 R481): its handle, its function, CLASS and CUR_SEQ (none: the record was
not stored), and for a WARN whether its chapter states an end of its own. -/
structure ErrState where
  source : Word
  func   : Nat
  cls    : Sev
  curSeq : Option (BitVec 16)
  code   : BitVec 11
  deriving DecidableEq, Repr, Inhabited

end Sys2Proof.Machine
end

