-- ==== Sys2Proof/Machine/State/Actuators.lean ====
section
/-! DEFINITION. State of the PWM banks and trips, the valve drive, fans, dampers and the panel
(07_pwm.md, 08_valve_drive.md, 09_fans_dampers.md, 10_panel.md). -/

namespace Sys2Proof.Machine

/-- A set of a PWM channel (07 R199). -/
structure PSet where
  period  : Nat := 0
  set     : Nat := 0
  clear   : Nat := 0
  fineSet : Nat := 0
  fineClr : Nat := 0
  deriving DecidableEq, Repr, Inhabited

/-- The fields that staging holds (07 R207). -/
structure Staging where
  period  : Option Nat := none
  set     : Option Nat := none
  clear   : Option Nat := none
  fineSet : Option Nat := none
  fineClr : Option Nat := none
  deriving DecidableEq, Repr, Inhabited

/-- One PWM channel (07 R198). -/
structure Pwm where
  /-- AMODE; R217; reset 0 -/
  amode : Bool := false
  /-- HALF; R217; reset 0 -/
  half : Bool := false
  /-- UPD: true is field mode; R217; reset 0 -/
  upd : Bool := false
  /-- INERT; R217; reset 0 -/
  inert : Nat := 0
  /-- PRESC; R217; reset 0 -/
  presc : Nat := 0
  /-- TRIPMASK; R217; reset 0 -/
  tripMask : BitVec 8 := 0
  /-- TRIPACT; R217; reset 0 -/
  tripAct : Nat := 0
  /-- TRIPLATCH; R217; reset 0 -/
  tripLatch : Bool := false
  /-- REFRESH_N; R217; reset 0 -/
  refN : Nat := 0
  /-- REFRESH_W; R217; reset 0 -/
  refW : Nat := 0
  /-- Enabled by PWM_CTRL; R221; reset false -/
  en : Bool := false
  /-- It runs (STATE 1); otherwise an enabled channel is INERT (STATE 2); R224; reset false -/
  run : Bool := false
  /-- A PWM_CTRL has enabled it in angle mode and its first period has not begun; R221; reset false -/
  starting : Bool := false
  /-- Active set; R198; reset 0 (R226) -/
  active : PSet := {}
  /-- The set pending in the shadow; R198, R205; reset none -/
  shadow : Option PSet := none
  /-- The window register; R205; reset empty -/
  window : Option PSet := none
  /-- Staging; R207; reset empty -/
  staging : Staging := {}
  /-- Boundaries since the first staged write; R209; reset 0 -/
  staleCnt : Nat := 0
  /-- PWM_STALE has been raised for this staging; R209; reset false -/
  staleRaised : Bool := false
  /-- PERIODS, 32 bits; R198; reset 0 (R226) -/
  periods : Word := 0
  /-- LATE, 16 bits; R198, R224; reset 0 -/
  late : BitVec 16 := 0
  /-- TRIPS, 16 bits; R198; reset 0 (R226) -/
  trips : BitVec 16 := 0
  /-- CLAMP; R201, R224; reset 0 -/
  clamp : Bool := false
  /-- STALE; R209, R224; reset 0 -/
  stale : Bool := false
  /-- ANGLE_LOST; R204, R224; reset 0 -/
  angleLost : Bool := false
  /-- NARROW; R202, R224; reset 0 -/
  narrow : Bool := false
  /-- REFRESH_CUT; R211, R224; reset 0 -/
  refCut : Bool := false
  /-- FORCE; R213, R224; reset 0 -/
  force : Bool := false
  /-- LATCHED; R213, R224; reset 0 -/
  latched : Bool := false
  /-- Start of the period that runs, in TCLK; R203; reset 0 -/
  t0 : Nat := 0
  /-- The boundary of a running channel falls on this TCLK; R205; reset none -/
  atB : Option Nat := none
  /-- Level of the waveform; R200; reset low -/
  level : Bool := false
  /-- A refresh pulse is on; R211; reset false -/
  pulse : Bool := false
  /-- Consecutive full-on periods; R211; reset 0 -/
  fullOn : Nat := 0
  /-- TCLK of the channel's last own edge, while a blanking window may still run; R212; reset none -/
  edge : Option Nat := none
  deriving DecidableEq, Repr, Inhabited

/-- One trip input (07 R212, R222). -/
structure Trip where
  /-- EN; R222; reset 0 -/
  en : Bool := false
  /-- POL: true is active low; R222; reset 0 -/
  pol : Bool := false
  /-- QUAL: true is BLANK; R222; reset 0 -/
  qual : Bool := false
  /-- FILT; R222; reset 0 -/
  filt : Nat := 0
  /-- BLANK; R222; reset 0 -/
  blank : Nat := 0
  /-- ACTIVE; R212, R224; reset 0 -/
  active : Bool := false
  /-- SEEN; R224; reset 0 -/
  seen : Bool := false
  deriving DecidableEq, Repr, Inhabited

/-- A profile of a valve channel (08 R246); every field 0 at reset. -/
structure VProfile where
  iBoost    : Nat := 0
  tBoostMax : Nat := 0
  iPeak     : Nat := 0
  tPeak     : Nat := 0
  iHold     : Nat := 0
  tHold     : Nat := 0
  third     : Bool := false
  tri       : Bool := false
  dec       : BitVec 4 := 0
  dithF     : Nat := 0
  dithA     : Nat := 0
  propMax   : Nat := 0
  deriving DecidableEq, Repr, Inhabited

/-- The phases of a valve channel (08 R235, R237) but for WAIT. -/
inductive VPhase where
  | idle | boost | peak | hold | prop | off | fault
  deriving DecidableEq, Repr, Inhabited

/-- A command that waits for the rail (08 R238) or for VBOOST ready (R239), with the flags of its completion so far. `d` is
none for a fail position. -/
structure VWait where
  d      : Option Desc
  rail   : Bool
  waited : Bool := false
  late   : Bool := false
  deriving DecidableEq, Repr, Inhabited

/-- How the coil of a channel is switched (08 R231, R232); none: off, with no decay under way. -/
inductive Chop where
  | none | on | slow | fast
  deriving DecidableEq, Repr, Inhabited

/-- One valve channel (08_valve_drive.md). -/
structure Valve where
  /-- RSHUNT; R245; reset 100 -/
  rshunt : Nat := 100
  /-- TOFF; R245; reset 25 -/
  toff : Nat := 25
  /-- TBLANK; R245; reset 20 -/
  tblank : Nat := 20
  /-- FAIL; R245; reset 0 -/
  fail : Nat := 0
  /-- KINK_EN; R245; reset 0 -/
  kinkEn : Bool := false
  /-- KINK_TH; R245; reset 8 -/
  kinkTh : Nat := 8
  /-- FAIL_I; R245; reset DESIGN CHOICE 0 (log entry 12) -/
  failI : Nat := 0
  /-- KINK_START; R245; reset DESIGN CHOICE 0 (log entry 12) -/
  kinkStart : Nat := 0
  /-- KINK_END; R245; reset DESIGN CHOICE 0 (log entry 12) -/
  kinkEnd : Nat := 0
  /-- SHORT_T; R245; reset DESIGN CHOICE 0 (log entry 12) -/
  shortT : Nat := 0
  /-- OPEN_T; R245; reset DESIGN CHOICE 0 (log entry 12) -/
  openT : Nat := 0
  /-- The profile stored by VALVE_PROFILE; R246; reset 0 -/
  prof : VProfile := {}
  /-- The values of the running profile; R246; reset 0 -/
  cur : VProfile := {}
  /-- PROP set-point, Q16.16 mA; R234, R248; reset DESIGN CHOICE 0 (log entry 12) -/
  sp : Nat := 0
  /-- Phase; R235, R237; reset IDLE -/
  phase : VPhase := .idle
  /-- A command that waits; R238, R239; reset none -/
  wait : Option VWait := none
  /-- The armed command; R243; reset none -/
  armed : Option Desc := none
  /-- Switching of the coil; R231, R232; reset off -/
  chop : Chop := .none
  /-- TBLANK runs; R231; reset false -/
  blank : Bool := false
  /-- TCLK of the last turn-on; R242; reset 0 -/
  onAt : Nat := 0
  /-- TCLK at which TBLANK last ended; R242; reset none -/
  blankEnd : Option Nat := none
  /-- A crossing has come since the last turn-on; R242; reset false -/
  crossed : Bool := false
  /-- The current still falls from the phase before to the lower one of the phase that runs: by the fast method, and since which TCLK; R232;
  reset none -/
  fall : Option (Bool × Nat) := none
  /-- The TCLK on which its OFF decay has started, until that TCLK ends; R233, R254; reset none -/
  offAt : Option Nat := none
  /-- TCLK of the profile start; R241; reset 0 -/
  tStart : Nat := 0
  /-- The kink window is still open or to come; R241; reset false -/
  kink : Bool := false
  /-- CLOSED; R241, R251; reset 0 -/
  closed : Bool := false
  /-- Closing time of the last profile in µs; R250; reset none (0xFFFF) -/
  closeT : Option Nat := none
  /-- Profile starts, 16 bits; R250; reset DESIGN CHOICE 0 (log entry 12) -/
  starts : BitVec 16 := 0
  /-- FAILPOS; R251, R253; reset 0 -/
  failpos : Bool := false
  /-- CAUSE; R251; reset 0 -/
  cause : Nat := 0
  /-- BOOST_NOT_READY; R239, R251; reset 0 -/
  notReady : Bool := false
  /-- SADDLE_OVERLAP; R238, R251; reset 0 -/
  overlap : Bool := false
  /-- DECAY_SUBST; R233, R251; reset 0 -/
  subst : Bool := false
  /-- A replacement has been logged in this profile; R233; reset false -/
  substLogged : Bool := false
  /-- CODE; R251; reset 0 -/
  code : Nat := 0
  /-- Step of the dither period; R234; reset DESIGN CHOICE 0 (log entry 12) -/
  dith : Nat := 0
  /-- The number of the free value that stands for half the ripple of the previous chop in PROP; R234; reset none -/
  ripple : Option Nat := none
  deriving DecidableEq, Repr, Inhabited

/-- One Saddle pair (08 R228, R229, R238 to R240, R249). -/
structure Pair where
  /-- PARALLEL; R249; reset 0 -/
  par : Bool := false
  /-- BPOL; R249; reset 0 -/
  bpol : Bool := false
  /-- BOOST_WAIT; R249; reset 200 -/
  boostWait : Nat := 200
  /-- READY_WAIT; R249; reset 500 -/
  readyWait : Nat := 500
  /-- BOOST_READY; R249; reset 96 -/
  boostReady : Nat := 96
  /-- The channel that holds the rail: false even, true odd; R238; reset free -/
  rail : Option Bool := none
  /-- BGk on; R229; reset off -/
  bg : Bool := false
  /-- HSGk on; R229; reset off -/
  hsg : Bool := false
  /-- A gate has gone off and its 100 ns still run: true BGk, false HSGk; R229; reset none -/
  dead : Option Bool := none
  /-- The channel whose BOOST last ended, and the TCLK; R254; reset none -/
  freed : Option (Bool × Nat) := none
  /-- The channels that calendar strobes of this TCLK select: bit 0 even, bit 1 odd; R243, R254; reset 0 -/
  strobed : Nat := 0
  deriving DecidableEq, Repr, Inhabited

/-- The states of a fan (09 R260), in the order of their codes. -/
inductive FanState where
  | disabled | stopped | kick | run | open_ | backoff | locked | full
  deriving DecidableEq, Repr, Inhabited

/-- One fan (09_fans_dampers.md). -/
structure Fan where
  /-- LOOP; R271; reset DESIGN CHOICE 0 (log entry 12) -/
  loop : Nat := 0
  /-- CH; R271; reset DESIGN CHOICE 0 (log entry 12) -/
  ch : Nat := 0
  /-- DRIVE: true is TRIAC; R271; reset DESIGN CHOICE 0 (log entry 12) -/
  triac : Bool := false
  /-- TFILT; R271; reset DESIGN CHOICE 0 (log entry 12) -/
  tfilt : Nat := 0
  /-- PPR; R271; reset 2 -/
  ppr : Nat := 2
  /-- ISENSE; R271; reset DESIGN CHOICE 0 (log entry 12) -/
  isense : Word := 0
  /-- MIN_RPM; R271; reset 300 -/
  minRpm : Nat := 300
  /-- MAX_RPM; R271; reset 3000 -/
  maxRpm : Nat := 3000
  /-- KICK_T; R271; reset 10 -/
  kickT : Nat := 10
  /-- RETRIES; R271; reset 5 -/
  retries : Nat := 5
  /-- SLOW_PCT; R271; reset 50 -/
  slowPct : Nat := 50
  /-- SLOW_T; R271; reset 10 -/
  slowT : Nat := 10
  /-- LOST_T; R271; reset 500 -/
  lostT : Nat := 500
  /-- I_MIN; R271; reset DESIGN CHOICE 0 (log entry 12) -/
  iMin : Nat := 0
  /-- I_MAX; R271; reset DESIGN CHOICE 0 (log entry 12) -/
  iMax : Nat := 0
  /-- GATE_W; R271; reset DESIGN CHOICE 0 (log entry 12) -/
  gateW : Nat := 0
  /-- LO of the bands; R272; reset 0: DESIGN CHOICE (log entry 12) -/
  lo : Vector Nat 4
  /-- HI of the bands; R272; reset 0: DESIGN CHOICE (log entry 12) -/
  hi : Vector Nat 4
  /-- Target, Q16.16 rpm; R255, R273; reset DESIGN CHOICE 0 (log entry 12) -/
  target : Nat := 0
  /-- Applied target in rpm; R262; reset 0 -/
  applied : Nat := 0
  /-- State; R260, R280; reset DISABLED -/
  state : FanState := .disabled
  /-- Attached; R256; reset false -/
  attached : Bool := false
  /-- Was enabled when its function was held; R282; reset false -/
  wasEn : Bool := false
  /-- SLOW; R264, R280; reset 0 -/
  slow : Bool := false
  /-- Evaluations with the speed at or above SLOW_PCT; R264; reset 0 -/
  slowOk : Nat := 0
  /-- BAND; R262, R280; reset 0 -/
  band : Bool := false
  /-- The host-loss policy applies to the fan; R269, R280; reset 0 -/
  full : Bool := false
  /-- In FULL a tach-speed value has been set since KICK_T was last begun; R269; reset false -/
  seen : Bool := false
  /-- TACH_LOST; R280; reset 0 -/
  tachLost : Bool := false
  /-- STALLS; R263, R280; reset 0 -/
  stalls : Nat := 0
  /-- Tach-speed value, Q16.16 rpm; R258; reset 0 (R280) -/
  speed : Nat := 0
  /-- PCLK times of the last edges, newest first, at most PPR + 1; R258; reset none -/
  edges : List Nat := []
  /-- Edges since the last revolution that ended; R258; reset 0 -/
  edgeCnt : Nat := 0
  /-- Tach-speed values in succession in OPEN; R261; reset 0 -/
  okVals : Nat := 0
  /-- Evaluations with the current low or high in OPEN; R261; reset 0 -/
  curBad : Nat := 0
  /-- Last good duty; R260; reset DESIGN CHOICE 0 (log entry 12) -/
  goodDuty : Int := 0
  deriving DecidableEq, Repr

/-- The states of a damper (09 R266), in the order of their codes. -/
inductive DmState where
  | disabled | unlearned | learnClose | learnOpen | run | travel | halted | fault
  deriving DecidableEq, Repr, Inhabited

/-- How the position of a damper stands (09 R265, 05 R140); the CAUSE of a bad one. -/
inductive InClass where
  | usable | transient | bad (cause : Nat) | reset
  deriving DecidableEq, Repr, Inhabited

/-- One damper (09_fans_dampers.md). -/
structure Damper where
  /-- LOOP; R276; reset DESIGN CHOICE 0 (log entry 12) -/
  loop : Nat := 0
  /-- CH_A; R276; reset DESIGN CHOICE 0 (log entry 12) -/
  chA : Nat := 0
  /-- CH_B; R276; reset DESIGN CHOICE 0 (log entry 12) -/
  chB : Nat := 0
  /-- BRAKE; R276; reset DESIGN CHOICE 0 (log entry 12) -/
  brake : Bool := false
  /-- FAIL_MODE; R276; reset DESIGN CHOICE 0 (log entry 12) -/
  failMode : Nat := 0
  /-- FB; R276; reset DESIGN CHOICE 0 (log entry 12) -/
  fb : Word := 0
  /-- FAIL_POS; R276; reset DESIGN CHOICE 0 (log entry 12) -/
  failPos : Nat := 0
  /-- LEARN_DRIVE; R276; reset 60 -/
  learnDrive : Nat := 60
  /-- TRAVEL_T; R276; reset 120 -/
  travelT : Nat := 120
  /-- LEARN_T; R276; reset 180 -/
  learnT : Nat := 180
  /-- LEARN_BAND; R276; reset 8 -/
  learnBand : Nat := 8
  /-- LEARN_STILL; R276; reset 500 -/
  learnStill : Nat := 500
  /-- MIN_SPAN; R276; reset 1000 -/
  minSpan : Nat := 1000
  /-- DRIVE_MIN; R276; reset 5 -/
  driveMin : Nat := 5
  /-- Target, Q16.16 %; R255, R277; reset DESIGN CHOICE 0 (log entry 12) -/
  target : Int := 0
  /-- CLOSED; R265, R279; reset DESIGN CHOICE 0 (log entry 12) -/
  calClosed : Int := 0
  /-- OPEN; R265, R279; reset DESIGN CHOICE 0 (log entry 12) -/
  calOpen : Int := 0
  /-- LEARNED; R267, R280; reset 0 -/
  learned : Bool := false
  /-- State; R266, R280; reset DISABLED -/
  state : DmState := .disabled
  /-- Attached; R256; reset false -/
  attached : Bool := false
  /-- Was enabled when its function was held; R282; reset false -/
  wasEn : Bool := false
  /-- Raw readings of the running direction, newest first, at most LEARN_STILL; R267; reset none -/
  hist : List Int := []
  /-- The closed end found by the running LEARN; R267; reset 0 -/
  newClosed : Int := 0
  /-- The LEARN that runs; R278; reset none -/
  learnD : Option Desc := none
  /-- Position, Q16.16 %; R255, R265; reset 0 (R280) -/
  pos : Int := 0
  /-- Its class; R265; reset invalid: no calibration exists -/
  posCls : InClass := .bad 4
  /-- FAILPOS; R269, R280; reset 0 -/
  failpos : Bool := false
  /-- RANGE; R265, R280; reset 0 -/
  range : Bool := false
  /-- The position lies outside the range now, so LG_DM_RANGE is not repeated; R265; reset false -/
  outNow : Bool := false
  deriving DecidableEq, Repr, Inhabited

/-- An entry of the panel queue (10 R292, R293). -/
structure PanelEv where
  code   : BitVec 16
  handle : Word
  arg    : Word
  time   : Word
  lost   : Nat := 0
  deriving DecidableEq, Repr, Inhabited

/-- One key (10 R286, R287, R293). -/
structure Key where
  /-- Debounced state; R286; reset released -/
  down : Bool := false
  /-- Consecutive frames that read the other state; R286; reset 0 -/
  cnt : Nat := 0
  /-- Tick and sub-tick of the first of them; R286; reset 0 -/
  since : Word × BitVec 16 := (0, 0)
  /-- The last sample read pressed; R285, R286; reset false -/
  reads : Bool := false
  /-- Its press has been reported; R286, R299; reset false -/
  reported : Bool := false
  /-- Suppressed as phantom or withheld; R287; reset false -/
  withheld : Bool := false
  /-- A release that waits for queue space; R293; reset none -/
  late : Option (Word × BitVec 16 × Bool) := none
  deriving DecidableEq, Repr, Inhabited

/-- A decoded value of a ladder (10 R288). -/
inductive LadVal where
  | idle | key (k : Fin 12) | multi
  deriving DecidableEq, Repr, Inhabited

/-- One ladder (10 R288, R289, R296). -/
structure Ladder where
  /-- SOURCE; R296; reset null: DESIGN CHOICE (log entry 12) -/
  source : Word := 0
  /-- TOL; R296; reset DESIGN CHOICE 0 (log entry 12) -/
  tol : Nat := 0
  /-- TAG; R296; reset DESIGN CHOICE 0 (log entry 12) -/
  tag : Nat := 0
  /-- TAGM; R296; reset DESIGN CHOICE 0 (log entry 12) -/
  tagm : Bool := false
  /-- IDLE; R296; reset DESIGN CHOICE 0 (log entry 12) -/
  idle : Nat := 0
  /-- NOM; R296; reset DESIGN CHOICE 0 (log entry 12) -/
  nom : BitVec 96 := 0
  /-- The accepted value; R289; reset IDLE -/
  value : LadVal := .idle
  /-- The key held before LADDER_MULTI; R289; reset none -/
  held : Option (Fin 12) := none
  /-- The candidate value; R289; reset IDLE -/
  cand : LadVal := .idle
  /-- Its consecutive valid samples; R289; reset 0 -/
  cnt : Nat := 0
  /-- Tick and sub-tick of the first of them; R289; reset 0 -/
  since : Word × BitVec 16 := (0, 0)
  deriving DecidableEq, Repr, Inhabited

/-- One encoder (10 R290, R291, R298). -/
structure Enc where
  /-- EN; R298; reset 0 -/
  en : Bool := false
  /-- MODE; R298; reset 2 -/
  mode : Nat := 2
  /-- INV; R298; reset 0 -/
  inv : Bool := false
  /-- FILT; R298; reset 10 -/
  filt : Nat := 10
  /-- DETENT; R298; reset 4 -/
  detent : Nat := 4
  /-- Count, signed 32 bits; R290; reset DESIGN CHOICE 0 (log entry 12) -/
  count : Word := 0
  /-- ERRORS, 32 bits; R290, R298; reset DESIGN CHOICE 0 (log entry 12) -/
  errors : Word := 0
  /-- Reported position, signed 32 bits; R291; reset DESIGN CHOICE 0 (log entry 12) -/
  rep : Word := 0
  /-- Filtered level of ENCnA; R290, 20 R533; pulled up: reset 1 -/
  a : Bool := true
  /-- Filtered level of ENCnB; R290, 20 R533; pulled up: reset 1 -/
  b : Bool := true
  deriving DecidableEq, Repr, Inhabited

/-- The panel, function 54 (10_panel.md). -/
structure Panel where
  /-- MODE; R284, R295; reset 0 -/
  mode : Nat := 0
  /-- MATRIX.DIODES; R295; reset 0 -/
  diodes : Bool := false
  /-- KEY_SLOT; R295; reset 20 -/
  keySlot : Nat := 20
  /-- LED_SLOTS; R295; reset 0 -/
  ledSlots : Nat := 0
  /-- DEB; R295; reset 3 -/
  deb : Nat := 3
  /-- LED_SLOT; R295; reset 500 -/
  ledSlot : Nat := 500
  /-- BRIGHT; R295; reset 255 -/
  bright : Nat := 255
  /-- The slot of the frame that runs: 0 to 7 key rows, then display slots; R285; reset 0 -/
  slot : Nat := 0
  /-- TCLK at which that slot began; R285; reset 0 -/
  slotAt : Nat := 0
  /-- PINMUX0 and PINMUX1 as they stood when that slot began; R526 and the coincidences of 19; reset 0 -/
  mux : Word × Word := (0, 0)
  /-- A PANEL_CONFIG that waits for the new frame; R295; reset none -/
  cfgD : List Desc := []
  /-- Keys 0 to 191; R286 -/
  keys : Vector Key 192
  /-- Tick and sub-tick of the last sample of each row; R286; reset 0 -/
  rowAt : Vector (Word × BitVec 16) 8 := Vector.replicate 8 (0, 0)
  /-- The ghost blocks in effect, as (r1, r2, c1, c2); R287; reset none -/
  blocks : List (Nat × Nat × Nat × Nat) := []
  /-- Ghost rectangles found, 32 bits; R299; reset DESIGN CHOICE 0 (log entry 12) -/
  ghosts : Word := 0
  /-- The 16 ladders; R296 -/
  ladders : Vector Ladder 16
  /-- The 96 indicators of 2 bits, laid out as bytes 8 to 31 of PANEL_LED; R297; reset DESIGN CHOICE 0, off (log entry 12) -/
  leds : BitVec 192 := 0
  /-- The eight encoders; R298 -/
  encs : Vector Enc 8
  /-- The panel queue, oldest first, at most 64; R292; reset empty -/
  queue : List PanelEv := []
  /-- PANEL_DROP; R293, R300; reset 0 -/
  drops : Word := 0
  /-- Drops since the last panel event, for its LOST; R293; reset 0 -/
  lost : Nat := 0
  /-- LG_PANEL_DROP has been logged for this period of fullness; R293; reset false -/
  fullLogged : Bool := false
  /-- DROPPED; R300; reset 0 -/
  dropped : Bool := false
  /-- MULTI_SEEN; R300; reset 0 -/
  multiSeen : Bool := false
  deriving DecidableEq, Repr

end Sys2Proof.Machine
end

