-- ==== Sys2Proof/Machine/State/Control.lean ====
section
/-! DEFINITION. State of the loops and of the zone sequencer (05_loop_engines.md, 06_zones_schedules.md). -/

namespace Sys2Proof.Machine

/-- The states of a loop (05 R151), in the order of their codes. -/
inductive LoopState where
  | disabled | run | manual | hold | safe | open_
  deriving DecidableEq, Repr, Inhabited

/-- One loop (05_loop_engines.md). Values in Q16.16 are held as integers of 2^-16. -/
structure Loop where
  /-- INPUT; R159; reset DESIGN CHOICE 0, unbound (log entry 12) -/
  input : Word := 0
  /-- OUTPUT; R159; reset DESIGN CHOICE 0, unbound (log entry 12) -/
  output : Word := 0
  /-- TRIG; R133, R159; reset DESIGN CHOICE 0 (log entry 12) -/
  trig : Nat := 0
  /-- FAST; R135, R159; reset DESIGN CHOICE 0 (log entry 12) -/
  fast : Bool := false
  /-- ACTION: true is direct; R146, R159; reset DESIGN CHOICE 0 (log entry 12) -/
  direct : Bool := false
  /-- DSRC; R146, R159; reset DESIGN CHOICE 0 (log entry 12) -/
  dsrc : Bool := false
  /-- AW: true is back-calculation; R146, R159; reset DESIGN CHOICE 0 (log entry 12) -/
  aw : Bool := false
  /-- SP_SRC; R143, R159; reset DESIGN CHOICE 0 (log entry 12) -/
  spSrc : Nat := 0
  /-- TAG; R133, R159; reset DESIGN CHOICE 0 (log entry 12) -/
  tag : Nat := 0
  /-- TAGM; R133, R159; reset DESIGN CHOICE 0 (log entry 12) -/
  tagm : Bool := false
  /-- EOC_DIV; R133, R159; reset DESIGN CHOICE 0 (log entry 12) -/
  eocDiv : Nat := 0
  /-- PERIOD_US; R133, R159; reset DESIGN CHOICE 0 (log entry 12) -/
  periodUs : Nat := 0
  /-- MAX_RATE; R133, R159; reset DESIGN CHOICE 0 (log entry 12) -/
  maxRate : Nat := 0
  /-- PHASE; R142, R159; reset DESIGN CHOICE 0 (log entry 12) -/
  phase : Nat := 0
  /-- The loop has been bound; R166; reset false -/
  bound : Bool := false
  /-- IN_GAIN; R160; reset 0x0001_0000 -/
  inGain : Int := 65536
  /-- IN_OFS; R160; reset 0 -/
  inOfs : Int := 0
  /-- OUT_GAIN; R160; reset 0x0001_0000 -/
  outGain : Int := 65536
  /-- OUT_OFS; R160; reset 0 -/
  outOfs : Int := 0
  /-- KP; R161; reset 0 -/
  kp : Int := 0
  /-- KI; R161; reset 0 -/
  ki : Int := 0
  /-- KD; R161; reset 0 -/
  kd : Int := 0
  /-- KT; R161; reset 0 -/
  kt : Int := 0
  /-- BIAS; R161; reset 0 -/
  bias : Int := 0
  /-- N; R161; reset 8 -/
  nn : Nat := 8
  /-- OUT_MIN; R162; reset 0 -/
  outMin : Int := 0
  /-- OUT_MAX; R162; reset 0x0001_0000 -/
  outMax : Int := 65536
  /-- RATE_MAX; R162; reset 0 -/
  rateMax : Int := 0
  /-- SAFE_VAL; R162; reset 0 -/
  safeVal : Int := 0
  /-- OPEN_VAL; R162; reset 0 -/
  openVal : Int := 0
  /-- VMAX; R163; reset 0 -/
  vmax : Nat := 0
  /-- AMAX; R163; reset 0 -/
  amax : Nat := 0
  /-- JMAX; R163; reset 0 -/
  jmax : Nat := 0
  /-- FE_LIMIT; R164; reset 0 -/
  feLimit : Int := 0
  /-- FE_TIME in ms; R164; reset 1000 -/
  feTime : Nat := 1000
  /-- LOSS_N; R164; reset 3 -/
  lossN : Nat := 3
  /-- RECOV_N; R164; reset 3 -/
  recovN : Nat := 3
  /-- FRZ_BAND; R164; reset 0 -/
  frzBand : Int := 0
  /-- FRZ_N; R164; reset 0 -/
  frzN : Nat := 0
  /-- POLICY; R164; reset 0 HOLD -/
  policy : Nat := 0
  /-- FE_ACT; R164; reset 0 -/
  feAct : Bool := false
  /-- AUTO_REC; R164; reset 0 -/
  autoRec : Bool := false
  /-- State; R151; reset DISABLED -/
  state : LoopState := .disabled
  /-- VALUE of the last LOOP_CTRL MANUAL; R151, R166; reset DESIGN CHOICE 0 (log entry 12) -/
  manual : Int := 0
  /-- Target; R143, R165; reset DESIGN CHOICE 0 (log entry 12) -/
  target : Int := 0
  /-- A LOOP_SET with JUMP acts at the next run; R144; reset false -/
  jump : Bool := false
  /-- r in 2^-16 / (2 × (4 × 10^8)^3); R144; reset DESIGN CHOICE 0 (log entry 12) -/
  r : Int := 0
  /-- rv in 2^-16 / (4 × 10^8)^2 per s; R144; reset DESIGN CHOICE 0 (log entry 12) -/
  rv : Int := 0
  /-- ra in 2^-16 / (4 × 10^8) per s²; R144; reset DESIGN CHOICE 0 (log entry 12) -/
  ra : Int := 0
  /-- SETTLED; R144, R167; reset DESIGN CHOICE 0 (log entry 12) -/
  settled : Bool := false
  /-- Integrator i; R146; reset 0 (R151: 0 on ENABLE) -/
  integ : Int := 0
  /-- x_prev; R146; reset 0 -/
  xPrev : Int := 0
  /-- d_prev; R146; reset 0 (R151) -/
  dPrev : Int := 0
  /-- u_prev; R146; reset DESIGN CHOICE 0 (log entry 12) -/
  uPrev : Int := 0
  /-- The next run is the first after ENABLE or a return to RUN; R145, R146; reset false -/
  first : Bool := false
  /-- It is the first run of a bumpless return; R151; reset false -/
  bumpless : Bool := false
  /-- The profile starts from y or the target at the next run; R151; reset false -/
  startR : Bool := false
  /-- y; R139, R167; reset DESIGN CHOICE 0 (log entry 12) -/
  y : Int := 0
  /-- u; R146, R167; reset DESIGN CHOICE 0 (log entry 12) -/
  u : Int := 0
  /-- Flag [0] saturated high; R167; reset DESIGN CHOICE 0 (log entry 12) -/
  satHi : Bool := false
  /-- Flag [1] saturated low; R167; reset DESIGN CHOICE 0 (log entry 12) -/
  satLo : Bool := false
  /-- Flag [2] rate-limited; R167; reset DESIGN CHOICE 0 (log entry 12) -/
  rateLim : Bool := false
  /-- Flag [4] angle fallback timer active; R133, R134, R167; reset 0 -/
  fallback : Bool := false
  /-- Flag [5] output held; R170, R167; reset 0 -/
  held : Bool := false
  /-- LG_LOOP_OUT_HELD has been logged for this hold of the output; R170; reset false -/
  heldLogged : Bool := false
  /-- Last loss cause; R152, R167; reset DESIGN CHOICE 0 (log entry 12) -/
  cause : Nat := 0
  /-- Runs, 32 bits; R167; reset DESIGN CHOICE 0 (log entry 12) -/
  runs : Word := 0
  /-- OVERRUNS, 16 bits; R137, R167; reset DESIGN CHOICE 0 (log entry 12) -/
  overruns : BitVec 16 := 0
  /-- BAD_IN, 16 bits; R140, R167; reset DESIGN CHOICE 0 (log entry 12) -/
  badIn : BitVec 16 := 0
  /-- Consecutive runs with bad input; R152; reset 0 -/
  badRun : Nat := 0
  /-- Loss has been declared and has not ended: by recovery, ACK, or in MANUAL a usable input; R152, R155; reset false -/
  lost : Bool := false
  /-- Consecutive usable inputs in a fault state; R155; reset 0 -/
  goodRun : Nat := 0
  /-- The last run's input was bad; R155; reset false -/
  lastBad : Bool := false
  /-- |r − y| at the last run exceeded FE_LIMIT; R155, R156; reset false -/
  lastOver : Bool := false
  /-- The cause that put the loop into its fault state: 1 to 5 loss, 6 freeze, 7 following error; R155; reset 0 -/
  faultBy : Nat := 0
  /-- Consecutive saturated runs within the band; R153; reset 0 -/
  frzCnt : Nat := 0
  /-- y at the first of them; R153; reset 0 -/
  frzY : Int := 0
  /-- The FE_TIME timer runs; R156; reset false -/
  feTimer : Bool := false
  /-- LOOP_FOLLOW has been raised and not cleared; R156; reset false -/
  feRaised : Bool := false
  /-- Events counted toward EOC_DIV + 1; R133; reset 0 -/
  eocCnt : Nat := 0
  /-- A trigger has fired and its run has not started; R137; reset false -/
  due : Bool := false
  /-- The TCLK at which that trigger fired; R136; reset 0 -/
  trigAt : Nat := 0
  /-- Its place in the order in which triggers arrived; R34, R135; reset 0 -/
  trigNo : Nat := 0
  /-- The result word that the last triggering event carried; R138; reset 0 -/
  eocWord : Word := 0
  /-- Start of the previous run, in ECLK (2.5 ns); R145; reset none -/
  lastRun : Option Nat := none
  /-- COUNT of the input at the previous run; R140; reset none -/
  refCount : Option Word := none
  deriving DecidableEq, Repr, Inhabited

/-- An input of a zone (06 R173, R174, R188). -/
structure ZoneIn where
  /-- HANDLE; R188; reset null: DESIGN CHOICE (log entry 12) -/
  handle : Word := 0
  /-- IN_GAIN; R188; reset 0x0001_0000 -/
  gain : Int := 65536
  /-- IN_OFS; R188; reset DESIGN CHOICE 0 (log entry 12) -/
  ofs : Int := 0
  /-- The last usable scaled value; R174; reset none -/
  value : Option Int := none
  /-- Bad count; R174; reset 0 -/
  bad : Nat := 0
  /-- Its LOST bit; R174; reset 0 -/
  lost : Bool := false
  /-- COUNT of a converter result at the previous reading; R140, R174; reset none -/
  refCount : Option Word := none
  deriving DecidableEq, Repr, Inhabited

/-- An output of a zone (06 R172, R189). -/
structure ZoneOut where
  /-- HANDLE; R189; reset null: DESIGN CHOICE (log entry 12) -/
  handle : Word := 0
  /-- The value last written; R172; reset none -/
  last : Option Int := none
  /-- The last write was dropped; R172; reset false -/
  blocked : Bool := false
  deriving DecidableEq, Repr, Inhabited

/-- The override of a zone (06 R185, R190). -/
structure Override where
  /-- MODE, 7 NONE -/
  mode : Nat
  /-- EXPIRY -/
  expiry : Nat
  /-- SHIFT, Q8.8 -/
  shift : Int
  /-- Counter value at which DURATION ends -/
  deadline : Nat
  /-- The current point at the first cycle after application -/
  point : Option (Option (Nat × Nat))
  deriving DecidableEq, Repr, Inhabited

/-- One zone (06_zones_schedules.md). Temperatures are integers of 1/256 K. -/
structure Zone where
  /-- EN; R186; reset 0 -/
  en : Bool := false
  /-- SCHED_EN; R186; reset 0 -/
  schedEn : Bool := false
  /-- PRES_UP; R186; reset 0 -/
  presUp : Bool := false
  /-- DEFAULT_MODE; R186; reset 4 -/
  defMode : Nat := 4
  /-- NOTIME_MODE; R186; reset 2 -/
  noMode : Nat := 2
  /-- PRES_DELAY in min; R186; reset 15 -/
  presDelay : Nat := 15
  /-- WIN_DELAY in s; R186; reset 30 -/
  winDelay : Nat := 30
  /-- DEADBAND; R186; reset 0x0100 -/
  deadband : Int := 0x100
  /-- SHIFT_MAX; R186; reset 0x0300 -/
  shiftMax : Int := 0x300
  /-- CO2_LO; R186; reset 800 -/
  co2Lo : Nat := 800
  /-- CO2_HI; R186; reset 1400 -/
  co2Hi : Nat := 1400
  /-- VENT_MIN; R186; reset 0 -/
  ventMin : Nat := 0
  /-- VENT_FAIL; R186; reset 100 -/
  ventFail : Nat := 100
  /-- DEW_MARGIN; R186; reset 0x0200 -/
  dewMargin : Int := 0x200
  /-- DEW_BASE; R186; reset 0x1000 -/
  dewBase : Int := 0x1000
  /-- DEW_FAIL; R186; reset 0x1400 -/
  dewFail : Int := 0x1400
  /-- SP_H of COMFORT, STANDBY, ECONOMY, PROTECTION; R187; reset 0x1500, 0x1300, 0x1000, 0x0700 -/
  spH : Vector Int 4 := #v[0x1500, 0x1300, 0x1000, 0x0700]
  /-- SP_C of the same; R187; reset 0x1800, 0x1A00, 0x1C00, 0x2300 -/
  spC : Vector Int 4 := #v[0x1800, 0x1A00, 0x1C00, 0x2300]
  /-- The six inputs; R173, R188 -/
  ins : Vector ZoneIn 6
  /-- The four outputs; R189 -/
  outs : Vector ZoneOut 4
  /-- OUT_GAIN of SEL 3; R189; reset 0x0001_0000 -/
  outGain : Int := 65536
  /-- OUT_OFS of SEL 3; R189; reset 0 -/
  outOfs : Int := 0
  /-- The override; R185; reset none -/
  ovr : Option Override := none
  /-- The first cycle after the enable, a release or a wake is still to come: every output is written; R172, R196; reset true -/
  fresh : Bool := true
  /-- Resolved mode; R177, R191, R194; reset 0 (R194) -/
  mode : Nat := 0
  /-- The override was active at the last cycle; R191; reset DESIGN CHOICE 0 (log entry 12) -/
  ovrOn : Bool := false
  /-- OVR: an override has become active at a cycle and has not ended; R185, R194; reset 0 (R194) -/
  ovrAct : Bool := false
  /-- Present at the last cycle; R191; reset DESIGN CHOICE 0 (log entry 12) -/
  wasPresent : Bool := false
  /-- OUT_BLOCKED at the last cycle; R191; reset DESIGN CHOICE 0 (log entry 12) -/
  wasBlocked : Bool := false
  /-- LOST at the last cycle, one bit per SEL; R191; reset DESIGN CHOICE 0 (log entry 12) -/
  wasLost : Nat := 0
  /-- SCHED; R191; reset DESIGN CHOICE 0 (log entry 12) -/
  sched : Nat := 0
  /-- REASON; R177, R191; reset DESIGN CHOICE 0 (log entry 12) -/
  reason : Nat := 0
  /-- SEQ; R181, R191; reset DESIGN CHOICE 0 (log entry 12) -/
  seq : Nat := 0
  /-- Present, true from the enable on until the zone becomes absent; R175, R191; reset DESIGN CHOICE 0 (log entry 12) -/
  present : Bool := false
  /-- Consecutive cycles without presence; R175; reset 0 -/
  absentFor : Nat := 0
  /-- Window open; R175, R191; reset DESIGN CHOICE 0 (log entry 12) -/
  winOpen : Bool := false
  /-- Consecutive cycles whose window reading is open; R175; reset 0 -/
  openFor : Nat := 0
  /-- DEW_ACTIVE; R180, R191; reset DESIGN CHOICE 0 (log entry 12) -/
  dew : Bool := false
  /-- Time unavailable at the last cycle; R184, R191; reset DESIGN CHOICE 0 (log entry 12) -/
  noTime : Bool := false
  /-- LG_ZONE_NOTIME has been logged in this period of unavailability; R184; reset false -/
  noTimeLogged : Bool := false
  /-- Written heating target, Q8.8; R191; reset DESIGN CHOICE 0 (log entry 12) -/
  wroteH : Int := 0
  /-- Written cooling target, Q8.8; R191; reset DESIGN CHOICE 0 (log entry 12) -/
  wroteC : Int := 0
  /-- The schedule: 7 day types of 8 points, 16 bits each, point 8 × day type + p; R182, R192; reset unused (0x07FF) -/
  sched8 : Vector (BitVec 16) 56
  deriving DecidableEq, Repr

/-- An exception date (06 R182, R193). -/
structure ExDate where
  /-- EN; reset 0 -/
  en : Bool := false
  /-- DAY; reset DESIGN CHOICE 0 (log entry 12) -/
  day : Nat := 0
  /-- MONTH; reset DESIGN CHOICE 0 (log entry 12) -/
  month : Nat := 0
  /-- YEAR; reset DESIGN CHOICE 0 (log entry 12) -/
  year : Nat := 0
  /-- DAYTYPE; reset DESIGN CHOICE 0 (log entry 12) -/
  dayType : Nat := 0
  /-- ZONES; reset DESIGN CHOICE 0 (log entry 12) -/
  zones : BitVec 16 := 0
  deriving DecidableEq, Repr, Inhabited

end Sys2Proof.Machine
end

