-- ==== Sys2Proof/Machine/State/Ports.lean ====
section
/-! DEFINITION. State of the Vale ports and their conversations, the building-bus and the sensor-bus ports
(11_vale_link.md, 12_vale_conversations.md, 13_building_bus.md). -/

namespace Sys2Proof.Machine

/-- The messages that the device sends (11 R326, 12 R340). -/
inductive VMsg where
  | exclude | readmit
  | probe (plen : Nat) (pfx : DWord)
  | assign (uid : DWord) (addr : Nat)
  | ident
  | release (addr : Nat)
  | chal (nd : DWord)
  | confirm (tag : Word)
  | read (tid : Byte) (first count : Nat)
  | write (tid : Byte) (first : Nat) (values : List Word)
  | open_ (sid : Nat) (get : Bool) (obj : BitVec 16) (len : Nat)
  | sack (sid base : Nat) (map : Byte)
  | resume (sid base : Nat) (map : Byte)
  | data (sid seg : Nat) (bytes : List Byte)
  | close (sid : Nat) (reason : Nat)
  deriving DecidableEq, Repr, Inhabited

/-- A frame of the device in the port's queue or on the wire (11 R308, R309, R316, R317). -/
structure VTx where
  /-- DST -/
  dst : Nat
  /-- EPOCH in payload byte 1 -/
  epoch : Byte := 0
  msg : VMsg
  /-- Age, 0 to 3; R317 -/
  age : Nat := 0
  /-- Attempts used up; R316 -/
  tries : Nat := 0
  /-- CNT and TAG of the trailer; 12 R352 -/
  trailer : Option (Byte × Word) := none
  deriving DecidableEq, Repr, Inhabited

/-- The states of a Vale port (11 R322), in the order of their codes. -/
inductive VPState where
  | stopped | normal | warn | quiet | stuck | txfault
  deriving DecidableEq, Repr, Inhabited

/-- The states of a satellite slot (12 R348), in the order of their codes. -/
inductive VSState where
  | empty | assigning | auth | present | quarantine | lost | excluded
  deriving DecidableEq, Repr, Inhabited

/-- An item of a satellite (12 R355, R370). -/
structure VItem where
  /-- Latest value; R355; reset DESIGN CHOICE 0 (log entry 12) -/
  value : Word := 0
  /-- Arrival time in TCLK; R355; reset none: no value has arrived -/
  time : Option Nat := none
  /-- Its age exceeds MAXAGE; R355; reset false -/
  old : Bool := false
  /-- POLL; R370; reset 0 -/
  poll : Nat := 0
  /-- MAXAGE; R370; reset 0 -/
  maxage : Nat := 0
  /-- EVENT; R370; reset 0 -/
  event : Bool := false
  deriving DecidableEq, Repr, Inhabited

/-- A TXN request (12 R354, R365): of a descriptor, or of POLL. -/
structure VTxn where
  d      : Option Desc
  write  : Bool
  first  : Nat
  count  : Nat
  values : List Word := []
  tid    : Byte := 0
  /-- Repeats sent -/
  tries  : Nat := 0
  /-- NAK AUTH has run a handshake for it; R353 -/
  reauthed : Bool := false
  deriving DecidableEq, Repr, Inhabited

/-- What waits for an answer of a satellite within RSP_T, oldest first (12 R345, R353, R354, R357, R358). -/
inductive VRsp where
  | ident | hs | txn | sess (sid : Nat)
  deriving DecidableEq, Repr, Inhabited

/-- What an IDENT that is out was sent for (12 R345, R347, R349, R373, R348); `epoch` holds
the EPOCH that a NAK EPOCH carried. -/
inductive VIdent where
  | assign | alive | dup | epoch (e : Byte) | start | readmit
  deriving DecidableEq, Repr, Inhabited

/-- One satellite slot (12_vale_conversations.md). -/
structure VSlot where
  /-- UID on record; R336; reset none -/
  uid : Option DWord := none
  /-- State; R348; reset EMPTY -/
  state : VSState := .empty
  /-- EPOCH; R337; reset 0 -/
  epoch : Byte := 0
  /-- CAPS; R336, R369; reset DESIGN CHOICE 0 (log entry 12) -/
  caps : Byte := 0
  /-- ITEMS; R336, R369; reset DESIGN CHOICE 0 (log entry 12) -/
  items : Nat := 0
  /-- FWVER; R336, R369; reset DESIGN CHOICE 0 (log entry 12) -/
  fwver : BitVec 16 := 0
  /-- MAXSESS; R336; reset DESIGN CHOICE 0 (log entry 12) -/
  maxsess : Nat := 0
  /-- Order in which slots were lost, for R345 step 3; reset 0 -/
  lostNo : Nat := 0
  /-- What waits for an answer within RSP_T, oldest first; R345, R354, R357; reset none -/
  rsp : List VRsp := []
  /-- Of what waits, and of the sessions that send RESUME, those whose request has been sent: an answer is expected; R347; reset none -/
  asked : List VRsp := []
  /-- TID of the last request; R354; reset DESIGN CHOICE 0 (log entry 12) -/
  tid : Byte := 0
  /-- The request outstanding; R354; reset none -/
  txn : Option VTxn := none
  /-- Requests queued, oldest first; R354; reset none -/
  queue : List VTxn := []
  /-- Consecutive requests that ended in ST_TIMEOUT; R349; reset 0 -/
  timeouts : Nat := 0
  /-- The IDENT that is out, with the repeats sent; R345, R347, R349; reset none -/
  ident : Option (VIdent × Nat) := none
  /-- ND of the handshake that runs, with the repeats of CHAL sent; R351, R353; reset none -/
  hs : Option (DWord × Nat) := none
  /-- The REAUTHs that wait for the handshake; R368; reset none -/
  reauth : List Desc := []
  /-- KS of a handshake whose CONFIRM has not been sent yet; R351, R352; reset none -/
  conf : Option (BitVec 128) := none
  /-- KS after CONFIRM; R351; reset none -/
  ks : Option (BitVec 128) := none
  /-- The device's frame counter; R352; reset 0 -/
  txCnt : Word := 0
  /-- L, the last counter accepted; R352; reset 0 -/
  rxCnt : Word := 0
  /-- Consecutive trailer failures; R353; reset 0 -/
  badTags : Nat := 0
  /-- Consecutive expected responses destroyed by an error; R347; reset 0 -/
  broken : Nat := 0
  /-- Violations counted; 11 R323, R369; reset 0: DESIGN CHOICE (log entry 12) -/
  viols : Nat := 0
  /-- Cause of the last violation; 11 R324, R333; reset 0: DESIGN CHOICE (log entry 12) -/
  lastViol : Nat := 0
  /-- Consecutive error-free frames; 11 R323; reset 0 -/
  good : Nat := 0
  /-- A top-age frame of it has been seen in this round; 11 R318, R323; reset false -/
  topSeen : Bool := false
  /-- The items; R355 -/
  vals : Vector VItem 32
  deriving DecidableEq, Repr

/-- The states of a bulk session (12 R358). -/
inductive VSessPhase where
  | opening | xfer | suspended | closing
  deriving DecidableEq, Repr, Inhabited

/-- A bulk session (12 R356 to R360). -/
structure VSess where
  slot   : Nat
  get    : Bool
  obj    : BitVec 16
  /-- Buffer length, then the length transferred -/
  len    : Nat
  d      : Desc
  phase  : VSessPhase := .opening
  /-- PUT: the object. GET: the segments received without a gap -/
  bytes  : List Byte := []
  /-- GET: segments received beyond a gap, with their bytes -/
  got    : List (Nat × List Byte) := []
  /-- PUT: BASE of the last SACK received. GET: BASE of the last SACK sent -/
  base   : Nat := 0
  /-- PUT: MAP of the last SACK -/
  map    : Byte := 0
  /-- PUT: the next new segment to send. GET: the lowest segment that lacks -/
  next   : Nat := 0
  /-- Repeats of OPEN or CLOSE -/
  tries  : Nat := 0
  /-- Consecutive failures; R357 -/
  fails  : Nat := 0
  /-- GET: segments received since the last SACK; R357 -/
  since  : Nat := 0
  resumed : Bool := false
  /-- OPEN_ACK or a SACK has arrived; R358 -/
  acked : Bool := false
  /-- NAK AUTH has run a handshake for its request; R353 -/
  reauthed : Bool := false
  /-- Its request waits for that handshake; R353 -/
  authWait : Bool := false
  /-- CLOSING for an abort, with the descriptor already answered -/
  aborted : Bool := false
  deriving DecidableEq, Repr, Inhabited

/-- A sweep (12 R344, R363). -/
structure VSweep where
  /-- Probes still to be sent, next first -/
  stack : List (Nat × DWord)
  /-- The probe that is out -/
  cur   : Option (Nat × DWord) := none
  /-- That probe has been sent: its window runs; R343 -/
  opened : Bool := false
  /-- The error-free ANNOUNCE in its window -/
  one   : Option (DWord × Byte) := none
  /-- Damage or a dominant bit has been seen in its window -/
  bad   : Bool := false
  /-- The sweep waits for the assignment of this slot to end -/
  busy  : Option (Fin 32) := none
  assigned   : Nat := 0
  probes     : Nat := 0
  collisions : Nat := 0
  /-- VALE_DISCOVERs that complete with it -/
  ds    : List Desc := []
  deriving DecidableEq, Repr, Inhabited

/-- One Vale port (11_vale_link.md, 12_vale_conversations.md). -/
structure VPort where
  /-- RATE; R329; reset 0 -/
  rate : Nat := 0
  /-- SLOT_EN; R329; reset 0 -/
  slotEn : Bool := false
  /-- SP; R329; reset 15 -/
  sp : Nat := 15
  /-- SJW; R329; reset 2 -/
  sjw : Nat := 2
  /-- RXFILT; R329; reset 5 -/
  rxfilt : Nat := 5
  /-- RETRY_MAX; R329; reset 3 -/
  retryMax : Nat := 3
  /-- State; R322, R332; reset STOPPED -/
  state : VPState := .stopped
  /-- The state that STUCK left; R322; reset STOPPED -/
  before : VPState := .stopped
  /-- A START waits for 11 recessive bits, with its descriptors (none for the restart at a wake); R330, R334; reset none -/
  starting : Option (List Desc) := none
  /-- Ran when SLEEP stopped it, so that the wake restarts it; R334; reset false -/
  wasRun : Bool := false
  /-- The slot is open; R320; reset closed -/
  slotOpen : Bool := false
  /-- NOSLOT; R320, R332; reset 0 -/
  noslot : Bool := false
  /-- STUCK_SEEN; R332; reset 0 -/
  stuckSeen : Bool := false
  /-- QUIET_SEEN; R332; reset 0 -/
  quietSeen : Bool := false
  /-- EXCL_SEEN; R332; reset 0 -/
  exclSeen : Bool := false
  /-- ERR, 0 to 511; R321; reset 0 -/
  err : Nat := 0
  /-- EXCL, bit a − 1 for address a; R324, R332; reset 0 -/
  excl : Word := 0
  /-- UIDs on the exclusion record, with the cause of the last violation; R324; reset none -/
  exclUids : List (DWord × Nat) := []
  /-- FRAME_ERR, 16 bits; R332; reset 0 -/
  frameErr : BitVec 16 := 0
  /-- NOACK, 16 bits; R332; reset 0 -/
  noack : BitVec 16 := 0
  /-- NOBUF, 16 bits; R332; reset 0 -/
  nobuf : BitVec 16 := 0
  /-- WAKE_SEEN, 16 bits; R332; reset 0 -/
  wakeSeen : BitVec 16 := 0
  /-- Frames waiting, oldest first; R317; reset none -/
  queue : List VTx := []
  /-- The frame on the wire; R317; reset none -/
  wire : Option VTx := none
  /-- A backoff of this many bit times runs; R316; reset none -/
  backoff : Option Nat := none
  /-- A top-age frame of the device has won in this round; R318; reset false -/
  wonTop : Bool := false
  /-- READMIT descriptors that wait for their ACK, with their addresses; R330; reset none -/
  readmit : List (Desc × Nat) := []
  /-- STRANGER: true is QUARANTINE; R362; reset 1 -/
  stranger : Bool := true
  /-- AUTODISC; R362; reset 1 -/
  autodisc : Bool := true
  /-- RSP_T; R362; reset 20 -/
  rspT : Nat := 20
  /-- ALIVE_T; R362; reset 10 -/
  aliveT : Nat := 10
  /-- RESUME_T; R362; reset 30 -/
  resumeT : Nat := 30
  /-- SACK_T; R362; reset 10 -/
  sackT : Nat := 10
  /-- PROBE_T; R362; reset 0 -/
  probeT : Nat := 0
  /-- STALE, 16 bits; R371; reset 0 -/
  stale : BitVec 16 := 0
  /-- AUTHFAIL, 16 bits; R371; reset 0 -/
  authFail : BitVec 16 := 0
  /-- Slots lost so far, for the order of loss; R345; reset 0 -/
  lostCnt : Nat := 0
  /-- The sweep that runs; R344; reset none -/
  sweep : Option VSweep := none
  /-- A further sweep follows, with the VALE_DISCOVERs that wait for it; R344; reset none -/
  again : Option (List Desc) := none
  /-- The 32 satellite slots; R336 -/
  slots : Vector VSlot 32
  /-- The sessions by SID; R356; reset none -/
  sess : Vector (Option VSess) 16
  deriving DecidableEq, Repr

/-- The states of an MS/TP master node (13 R380), in the order of their codes. -/
inductive BbNode where
  | init | idle | useToken | waitReply | doneWithToken | passToken | noToken | poll | answer
  deriving DecidableEq, Repr, Inhabited

/-- A data frame that waits for the token (13 R383, R386, R387). -/
structure BbOut where
  /-- The BB_SEND or BB_SEG_SEND that it belongs to; none for a Segment-ACK or an Abort -/
  d      : Option Desc
  dst    : Byte
  expect : Bool
  data   : List Byte
  /-- It is a segment of a segmented send; R386 -/
  seg    : Bool := false
  /-- It answers a postponed request; R385 -/
  late   : Bool := false
  deriving DecidableEq, Repr, Inhabited

/-- What an MS/TP port transmits (13 R378, R380). -/
inductive BbTx where
  | token (dst : Byte)
  | pfm (dst : Byte)
  | rpfm (dst : Byte)
  | testRsp (dst : Byte) (data : List Byte)
  | postponed (dst : Byte)
  | frame (f : BbOut)
  | answer (f : BbOut)
  | raw (d : Option Desc) (data : List Byte)
  deriving DecidableEq, Repr, Inhabited

/-- A received frame for a BB_RECV buffer (13 R384, R398). -/
structure BbIn where
  data  : List Byte
  src   : Byte
  ftype : Byte
  req   : Byte := 0
  seg   : Bool := false
  reply : Option (BitVec 16) := none
  deriving DecidableEq, Repr, Inhabited

/-- A segmented send (13 R386). -/
structure BbSeg where
  d       : Desc
  dst     : Byte
  npdu    : List Byte
  /-- The APDU header in its segmented form, but for SEG, MOR, sequence number and window -/
  head    : List Byte
  body    : List (List Byte)
  invoke  : Byte
  /-- The APDU sent is a Complex-ACK, so Segment-ACKs carry SRV 0 -/
  complex : Bool
  window  : Nat
  /-- First segment of the running window -/
  base    : Nat := 0
  /-- One past its last segment -/
  top     : Nat := 0
  /-- The last segment of the window went out at this TCLK: TSEG runs; R386 -/
  waits   : Option Nat := none
  tries   : Nat := 0
  used    : Nat := 0
  sent    : Nat := 0
  deriving DecidableEq, Repr, Inhabited

/-- A reassembly session (13 R387). -/
structure BbRx where
  src    : Byte
  invoke : Byte
  ptype  : Nat
  npdu   : List Byte
  head   : List Byte
  data   : List Byte
  next   : Nat
  /-- Sequence number that ends the running window -/
  winEnd : Nat
  window : Nat
  /-- TCLK of its last segment, from which TSEG_RX runs -/
  last   : Nat := 0
  /-- It answers a BB_SEND with this TAG; R383 -/
  reply  : Option (BitVec 16) := none
  deriving DecidableEq, Repr, Inhabited

/-- A Modbus polling entry (13 R390, R400). -/
structure MbEntry where
  /-- EN; R400; reset 0 -/
  en : Bool := false
  /-- EVENT; R400; reset 0 -/
  event : Bool := false
  /-- SLAVE; R400; reset 0 -/
  slave : Nat := 0
  /-- FUNC; R400; reset 0 -/
  func : Nat := 0
  /-- FORMAT; R400; reset 0 -/
  format : Nat := 0
  /-- REG; R400; reset 0 -/
  reg : Nat := 0
  /-- PERIOD; R400; reset 0 -/
  period : Nat := 0
  /-- LSHIFT; R400; reset 0 -/
  lshift : Nat := 0
  /-- FAIL_N; R400; reset 0 -/
  failN : Nat := 0
  /-- X; R390; reset DESIGN CHOICE 0 (log entry 12) -/
  x : Int := 0
  /-- VALID; R403; reset 0 -/
  valid : Bool := false
  /-- The value reads as a read timeout; R390, R400; reset true -/
  timeout : Bool := true
  /-- LG_BB_VALUE_TO has been logged; R390; reset false -/
  logged : Bool := false
  /-- Consecutive failures; R390; reset 0 -/
  fails : Nat := 0
  /-- Exception code of the last failure, 0xFF for none answered; R403; reset DESIGN CHOICE 0 (log entry 12) -/
  exc : Byte := 0
  /-- TCLK of the last success, or of the enable; R390, R403; reset 0 -/
  time : Nat := 0
  deriving DecidableEq, Repr, Inhabited

/-- Work that waits for a Modbus master (13 R389): an entry that fell due at `time`; a BB_MB_REQ that has been dispatched and whose data
have not come, which keeps its place; a BB_MB_REQ with its PDU. -/
inductive MbWork where
  | entry (e : Fin 64) (time : Nat)
  | hold (d : Desc)
  | req (d : Desc) (slave : Byte) (pdu : List Byte)
  deriving DecidableEq, Repr, Inhabited

/-- One building-bus port (13_building_bus.md). -/
structure BbPort where
  /-- MODE; R394; reset 0 -/
  mode : Nat := 0
  /-- RATE; R394; reset 0 -/
  rate : Nat := 0
  /-- PARITY; R394; reset DESIGN CHOICE 0 (log entry 12) -/
  parity : Nat := 0
  /-- STOP; R394; reset DESIGN CHOICE 0 (log entry 12) -/
  stop : Nat := 0
  /-- DE_LEAD; R394; reset 0 -/
  deLead : Nat := 0
  /-- DE_LAG; R394; reset 1 -/
  deLag : Nat := 1
  /-- SLAVE_ADDR; R394; reset DESIGN CHOICE 0 (log entry 12) -/
  slaveAddr : Nat := 0
  /-- IDLE; R394; reset DESIGN CHOICE 0 (log entry 12) -/
  idle : Nat := 0
  /-- RSP_TO; R394; reset DESIGN CHOICE 0 (log entry 12) -/
  rspTo : Nat := 0
  /-- RETRIES; R394; reset DESIGN CHOICE 0 (log entry 12) -/
  retries : Nat := 0
  /-- MB_TURN; R394; reset DESIGN CHOICE 0 (log entry 12) -/
  mbTurn : Nat := 0
  /-- WR_LO; R394; reset DESIGN CHOICE 0 (log entry 12) -/
  wrLo : Nat := 0
  /-- WR_HI; R394; reset DESIGN CHOICE 0 (log entry 12) -/
  wrHi : Nat := 0
  /-- TS; R395; reset 0 -/
  ts : Nat := 0
  /-- NMAX_MASTER; R395; reset 127 -/
  nmaxMaster : Nat := 127
  /-- NMAX_INFO; R395; reset 1 -/
  nmaxInfo : Nat := 1
  /-- T_USAGE; R395; reset 20 -/
  tUsage : Nat := 20
  /-- REPLY_WAIT; R395; reset 100 -/
  replyWait : Nat := 100
  /-- SEGRX; R395; reset 0 -/
  segrx : Bool := false
  /-- RXWIN; R395; reset 4 -/
  rxwin : Nat := 4
  /-- TSEG_RX; R395; reset 2000 -/
  tsegRx : Nat := 2000
  /-- State: 0 STOPPED, 1 RUNNING, 2 DUP_HOLD; R377, R415; reset 0 -/
  state : Nat := 0
  /-- Ran when SLEEP stopped it; R417; reset false -/
  wasRun : Bool := false
  /-- NODE; R380, R415; reset 0 -/
  node : BbNode := .init
  /-- A full poll has found no other master; R381; reset 0 -/
  sole : Bool := false
  /-- DUP_SEEN; R382, R415; reset 0 -/
  dupSeen : Bool := false
  /-- TOKEN_LOST_SEEN; R381, R415; reset 0 -/
  tokSeen : Bool := false
  /-- RXDROP_SEEN; R384, R415; reset 0 -/
  rxSeen : Bool := false
  /-- NS; R380, R415; reset 0 -/
  ns : Nat := 0
  /-- PS; R380; reset 0 -/
  ps : Nat := 0
  /-- Token count; R380; reset 0 -/
  tokens : Nat := 0
  /-- Frames sent in this use of the token; R380; reset 0 -/
  sent : Nat := 0
  /-- Repeats of the token passed; R379, R380; reset 0 -/
  passTries : Nat := 0
  /-- FRAME_ERR, 16 bits; R378, R415; reset 0 -/
  frameErr : BitVec 16 := 0
  /-- TOKEN_LOST, 16 bits; R381, R415; reset 0 -/
  tokenLost : BitVec 16 := 0
  /-- RXDROP, 32 bits; R384, R415; reset 0 -/
  rxdrop : Word := 0
  /-- LG_BB_RXDROP has been logged for this period of dropping; R384; reset false -/
  dropLogged : Bool := false
  /-- Times of the duplicate frames of the last 10 s, in TCLK; R382; reset none -/
  dups : List Nat := []
  /-- Frames that wait for the token, oldest first; R383; reset none -/
  queue : List BbOut := []
  /-- What is being transmitted; R376, R380; reset none (DE low) -/
  tx : Option BbTx := none
  /-- The BB_SEND that waits for an answer, with its station; R383; reset none -/
  expect : Option (BbOut × Byte) := none
  /-- The type 5 frame that awaits the host's reply: REQ and source; R385; reset none -/
  ans : Option (Byte × Byte) := none
  /-- REQ of the next request; R385; reset DESIGN CHOICE 0 (log entry 12) -/
  req : Byte := 0
  /-- The last 8 postponed requests, newest first: REQ and source; R385; reset none -/
  postponed : List (Byte × Byte) := []
  /-- Posted receive buffers, oldest first; R384; reset none -/
  posted : List Desc := []
  /-- Frames held, oldest first, at most 8; R384; reset none -/
  held : List BbIn := []
  /-- Segmented sends; R386; reset none -/
  segs : List BbSeg := []
  /-- Reassembly sessions, at most 4; R387; reset none -/
  rxs : List BbRx := []
  /-- UART characters received and not delivered, oldest first, with their error flags; R392; reset none -/
  chars : List (Byte × Bool) := []
  /-- Polling entries 0 to 63; R400 -/
  entries : Vector MbEntry 64
  /-- Modbus work, in the order of service; R389; reset none -/
  work : List MbWork := []
  /-- The Modbus transaction that runs, with the repeats made; R389; reset none -/
  cur : Option (MbWork × Nat) := none
  /-- The contents of its entry when it began; R418; reset as an entry (DESIGN CHOICE, log entry 12) -/
  curX : MbEntry := {}
  /-- The silence after a broadcast runs; R389; reset false -/
  turn : Bool := false
  /-- The running transaction's entry has been rewritten; R418; reset false -/
  curVoid : Bool := false
  /-- Holding registers of the slave image; R391, R402; reset DESIGN CHOICE 0 (log entry 12) -/
  holding : Vector (BitVec 16) 1024
  /-- Input registers of the slave image; R391, R402; reset DESIGN CHOICE 0 (log entry 12) -/
  input : Vector (BitVec 16) 1024
  deriving DecidableEq, Repr

/-- A sensor-bus polling entry (13 R408, R409, R411). -/
structure SbEntry where
  /-- EN; R411; reset 0 -/
  en : Bool := false
  /-- EVENT; R411; reset 0 -/
  event : Bool := false
  /-- CHECK; R411; reset 0 -/
  check : Nat := 0
  /-- ORDER; R411; reset 0 -/
  order : Bool := false
  /-- SIGN; R411; reset 0 -/
  sign : Bool := false
  /-- ADDR; R411; reset 0 -/
  addr : Nat := 0
  /-- WLEN; R411; reset 0 -/
  wlen : Nat := 0
  /-- RLEN; R411; reset 0 -/
  rlen : Nat := 0
  /-- WDATA; R411; reset 0 -/
  wdata : Word := 0
  /-- WAIT; R411; reset 0 -/
  wait : Nat := 0
  /-- PERIOD; R411; reset 0 -/
  period : Nat := 0
  /-- OFS; R411; reset 0 -/
  ofs : Nat := 0
  /-- WIDTH; R411; reset 0 -/
  width : Nat := 0
  /-- RSHIFT; R411; reset 0 -/
  rshift : Nat := 0
  /-- BITS; R411; reset 0 -/
  bits : Nat := 0
  /-- LSHIFT; R411; reset 0 -/
  lshift : Nat := 0
  /-- FAIL_N; R411; reset 0 -/
  failN : Nat := 0
  /-- X; R409; reset DESIGN CHOICE 0 (log entry 12) -/
  x : Int := 0
  /-- VALID; R413; reset 0 -/
  valid : Bool := false
  /-- The value reads as a read timeout; R409, R411; reset true -/
  timeout : Bool := true
  /-- LG_SB_VALUE_TO has been logged; R409; reset false -/
  logged : Bool := false
  /-- Consecutive failures; R409; reset 0 -/
  fails : Nat := 0
  /-- Last cause; R413; reset DESIGN CHOICE 0 (log entry 12) -/
  cause : Nat := 0
  /-- TCLK of the last success, or of the enable; R409; reset 0 -/
  time : Nat := 0
  deriving DecidableEq, Repr, Inhabited

/-- What a sensor-bus transaction is for (13 R404, R408, R412): an entry that fell due at `time`, its read phase after WAIT under
the contents `x` with which it began, a host transfer. `void`: the entry has been rewritten since (R418). -/
inductive SbWork where
  | entry (e : Fin 32) (time : Nat)
  | readPhase (e : Fin 32) (time : Nat) (x : SbEntry) (void : Bool)
  | xfer (d : Desc) (wdata : List Byte)
  deriving DecidableEq, Repr, Inhabited

/-- One sensor-bus port (13_building_bus.md). -/
structure SbPort where
  /-- SPEED; R410; reset 1 -/
  speed : Nat := 1
  /-- STRETCH_T; R410; reset 25 -/
  stretchT : Nat := 25
  /-- State: 0 STOPPED, 1 RUNNING, 2 RECOVERING, 3 STUCK; R406, R415; reset 0 -/
  state : Nat := 0
  /-- Ran when SLEEP stopped it; R417; reset false -/
  wasRun : Bool := false
  /-- STUCK_SEEN; R415; reset 0 -/
  stuckSeen : Bool := false
  /-- STRETCH_SEEN; R415; reset 0 -/
  stretchSeen : Bool := false
  /-- FAILS, 16 bits; R415; reset 0 -/
  fails : BitVec 16 := 0
  /-- RECOVERIES, 16 bits; R415; reset 0 -/
  recoveries : BitVec 16 := 0
  /-- Entries due, in the order of service, read phases first; R408; reset none -/
  due : List SbWork := []
  /-- Host transfers that wait; R408; reset none -/
  xfers : List SbWork := []
  /-- The last transaction was the host's; R408; reset false -/
  lastHost : Bool := false
  /-- The transaction on the bus, with its entry's contents when it began; R415 BUSY; reset none -/
  cur : Option (SbWork × SbEntry) := none
  /-- Transactions between their write and their read phase: the entry, its contents, and whether it has been rewritten; R408; reset
  none -/
  parked : List (Fin 32 × SbEntry × Bool) := []
  /-- SB_CTRL RECOVER that waits; R413; reset none -/
  recD : List Desc := []
  /-- The running transaction's entry has been rewritten; R411, R418; reset false -/
  curVoid : Bool := false
  /-- Polling entries 0 to 31; R411 -/
  entries : Vector SbEntry 32
  deriving DecidableEq, Repr

end Sys2Proof.Machine
end

