-- ==== Sys2Proof/Machine/State/Rings.lean ====
section
/-! DEFINITION. State of the host attachment: rings, col page, resync, interrupts, links (02_host_rings.md). -/

namespace Sys2Proof.Machine

/-- What an SQ is doing, of 02 R62's table of states, as far as it is not read off its other fields. -/
inductive SqPhase where
  | disabled | active | error | draining
  deriving DecidableEq, Repr, Inhabited

/-- A submission ring (02 R46 to R63, R69). -/
structure Sq where
  /-- SQn_BASE; R69; reset 0 -/
  base : DWord := 0
  /-- SQn_CFG.LOG2SIZE; R69; reset 4 -/
  log2 : Nat := 4
  /-- SQn_CFG.CQ; R69; reset n -/
  cq : Fin 16 := 0
  /-- SQn_CFG.WEIGHT; R69; reset 0 -/
  weight : Nat := 0
  /-- SQn_CFG.EN and what follows from it; R69, R62; reset DISABLED -/
  phase : SqPhase := .disabled
  /-- SQn_STATUS.CFG_ERR; R69; reset 0 -/
  cfgErr : Bool := false
  /-- Producer index, owned by the host; R47; reset 0 (R51) -/
  prod : BitVec 16 := 0
  /-- SQn_STATUS.CONS; R47, R69; reset 0 -/
  cons : BitVec 16 := 0
  /-- Descriptors dispatched whose completions have not been written to the CQ; R58; reset 0 -/
  disp : Nat := 0
  /-- Descriptors fetched and not yet dispatched, oldest first, among them the members of chains that have not started; R58, R62; reset none -/
  fetched : List RawDesc := []
  /-- Members of a chain that has started, not yet dispatched; R62; reset none -/
  chain : List RawDesc := []
  /-- A member of the chain executes, and others wait for it; R62; reset false -/
  chainBusy : Bool := false
  /-- The status with which the members that wait complete without executing; R62; reset none -/
  chainEnd : Option Status := none
  /-- Descriptors asked for by the read that is outstanding; R58, R75; reset none -/
  reading : Option Nat := none
  /-- The address of that read, or of the last one; R47, R58; reset DESIGN CHOICE 0 (log entry 12) -/
  readAddr : Nat := 0
  /-- Failed fetches in a row; R75; reset 0 -/
  retries : Nat := 0
  /-- A failed fetch waits for its 1 ms; R75; reset false -/
  retryWait : Bool := false
  /-- The col's value last written; R51; reset 0 -/
  col : Word := 0
  /-- The col-reject counter; R51; width and reset not given: DESIGN CHOICE 32 bits, 0 (log entry 12) -/
  rejects : Word := 0
  deriving DecidableEq, Repr, Inhabited

/-- What CQs, EQ and LQ have in common (02 R46 to R49, R66, R67, R69). -/
structure Ring where
  /-- BASE; R69; reset 0 -/
  base : DWord := 0
  /-- CFG.LOG2SIZE; R69; reset 4 -/
  log2 : Nat := 4
  /-- CFG.VEC; R66, R69; reset n, 16 for EQ, 17 for LQ -/
  vec : Fin 32 := 0
  /-- CFG.IE; R69; reset 0 -/
  ie : Bool := false
  /-- CFG.EN; R69; reset 0 -/
  en : Bool := false
  /-- MOD.COUNT; R69; reset 1 -/
  modCount : Nat := 1
  /-- MOD.TIME; R69; reset 0 -/
  modTime : Nat := 0
  /-- STATUS.PROD; R47, R69; reset 0 -/
  prod : BitVec 16 := 0
  /-- Consumer index, owned by the host; R47; reset 0 (R51) -/
  cons : BitVec 16 := 0
  /-- STATUS.STALL; R63, R69; reset 0 -/
  stall : Bool := false
  /-- STATUS.DROP_WRAP (EQ, LQ); R64, R69; reset 0 -/
  dropWrap : Bool := false
  /-- Records counted since the vector last fired; R67; reset 0 -/
  count : Nat := 0
  /-- The moderation timer runs; R67; reset false -/
  timer : Bool := false
  /-- The vector was requested during host hold and fires when it ends; R67, R72; reset false -/
  want : Bool := false
  /-- The col's value last written; R51; reset 0 -/
  col : Word := 0
  /-- The col-reject counter; R51; DESIGN CHOICE 0 (log entry 12) -/
  rejects : Word := 0
  deriving DecidableEq, Repr, Inhabited

/-- A completion ring with its completion cache (02 R63). -/
structure Cq where
  /-- The ring; R46, R69 -/
  ring : Ring := {}
  /-- The completion cache in Plain, oldest first; R63; reset empty -/
  cache : List Completion := []
  /-- The stall in force has been reported; R63; reset false -/
  stallSeen : Bool := false
  deriving DecidableEq, Repr, Inhabited

/-- One entry of the MSI-X table and its pending bit (19 R528, 02 R68). -/
structure Msix where
  /-- ADDR_LO; 19 R528; reset 0 -/
  addrLo : Word := 0
  /-- ADDR_HI; 19 R528; reset 0 -/
  addrHi : Word := 0
  /-- DATA; 19 R528; reset 0 -/
  data : Word := 0
  /-- MASK; 19 R528, 02 R39; reset 1 -/
  mask : Bool := true
  /-- PBA bit; 19 R528; reset 0 -/
  pending : Bool := false
  deriving DecidableEq, Repr, Inhabited

/-- The registers of the PCI Express configuration space that a conventional reset sets back (02 R36 to R39), but for those that
`Rings` holds itself. Layout and reset values are the PCI Express standard's: PRESUMED (log entry 189). -/
structure PciCfg where
  /-- Command, Memory Space Enable; R36, R39; DESIGN CHOICE true: the host has set it (log entry 5) -/
  memSpace : Bool := true
  /-- Command, Bus Master Enable; R39, R74; DESIGN CHOICE true: the host has set it (log entry 5) -/
  busMaster : Bool := true
  /-- BAR0 and BAR1, the address bits above 16 KB; R36; reset PRESUMED 0 (log entry 189) -/
  bar0 : DWord := 0
  /-- BAR2 and BAR3, the address bits above 4 KB; R36; reset PRESUMED 0 (log entry 189) -/
  bar2 : DWord := 0
  /-- Max_Payload_Size, 128 × 2^k bytes; R37, R38; reset PRESUMED 0, 128 bytes (log entry 189) -/
  maxPayload : Nat := 0
  /-- Max_Read_Request_Size, 128 × 2^k bytes; R38; reset PRESUMED 2, 512 bytes (log entry 189) -/
  maxRead : Nat := 2
  /-- ASPM L0s enabled by the host; R37; reset PRESUMED 0 (log entry 189) -/
  aspmL0s : Bool := false
  deriving DecidableEq, Repr, Inhabited

/-- Advanced Error Reporting (02 R37, R75): sticky registers, which a reset of the link keeps. Bits and reset values are the PCI Express
standard's: PRESUMED (log entry 189). -/
structure Aer where
  /-- Uncorrectable Error Status; R37, R75; reset PRESUMED 0 (log entry 189) -/
  unc : Word := 0
  /-- Uncorrectable Error Mask; R37; reset PRESUMED 0 (log entry 189) -/
  uncMask : Word := 0
  /-- Uncorrectable Error Severity; R37; reset PRESUMED 0x0046_2030 (log entry 189) -/
  uncSev : Word := 0x00462030
  /-- Correctable Error Status; R37; reset PRESUMED 0 (log entry 189) -/
  cor : Word := 0
  /-- Correctable Error Mask; R37; reset PRESUMED 0x0000_2000 (log entry 189) -/
  corMask : Word := 0x2000
  /-- First Error Pointer; R37; reset PRESUMED 0 (log entry 189) -/
  first : Nat := 0
  /-- Header Log: the number of the free value that it reads as, none while it holds no header; R37; reset PRESUMED 0 (log entry 189) -/
  header : Option Nat := none
  deriving DecidableEq, Repr, Inhabited

/-- The host attachment (02_host_rings.md). -/
structure Rings where
  /-- The PCI Express link is in DL_Active; R35, R39, R72; DESIGN CHOICE true (log entry 5); false in Quad-SPI attachment (R35) -/
  linkUp : Bool := true
  /-- The function is in D3hot; R40; reset false -/
  d3hot : Bool := false
  /-- The configuration space that a reset of the link sets back; R36 to R39 -/
  cfg : PciCfg := {}
  /-- Advanced Error Reporting; R37, R75 -/
  aer : Aer := {}
  /-- ASPM L1 enabled by the host; R37, 16 R460; reset false -/
  aspmL1 : Bool := false
  /-- The endpoint has requested L1; 16 R460; reset false -/
  l1 : Bool := false
  /-- SQ0 to SQ15; R46 -/
  sqs : Vector Sq 16
  /-- CQ0 to CQ15; R46 -/
  cqs : Vector Cq 16
  /-- EQ; R46 -/
  eq : Ring
  /-- The EQ cache, oldest first, at most 256 records; R64; reset empty -/
  eqCache : List Event := []
  /-- Events dropped since the last one accepted; R56, R64; reset 0 -/
  eqLost : Nat := 0
  /-- EQ_DROP; R64, R69; reset 0 -/
  eqDrop : Word := 0
  /-- LQ; R46 -/
  lq : Ring
  /-- LQ_SKIP; R65, R69; reset 0 -/
  lqSkip : Word := 0
  /-- The numbers of the records in LQ that the host has not yet consumed, oldest first; 17 R488; reset none -/
  lqNums : List Nat := []
  /-- RING_CTL.HOLD, host hold; R69, R72; reset 0 -/
  hold : Bool := false
  /-- RING_CTL.LINK_LOST; R69; reset 0 -/
  linkLost : Bool := false
  /-- LOG2SIZE of the enabled rings when host hold began (SQ0-15, CQ0-15, EQ, LQ); R74 -/
  holdSizes : List (Option Nat) := []
  /-- The resync slot; R50, R73; reset 0 -/
  slot : RawDesc := 0
  /-- SYS_STATUS.RESYNC_ST; 19 R521; reset 0 -/
  resyncSt : Byte := 0
  /-- SYS_STATUS.RESYNC_SEEN; 19 R521; reset 0 -/
  resyncSeen : Bool := false
  /-- The SQ that has the turn, or had the last one; R59; reset DESIGN CHOICE 15, so that SQ0's turn is the next (log entry 12) -/
  wrrSq : Fin 16 := 15
  /-- Dispatches left in its turn; R59; reset DESIGN CHOICE 0: a new turn begins (log entry 12) -/
  wrrLeft : Nat := 0
  /-- The MSI-X table and PBA; R37, 19 R528 -/
  msix : Vector Msix 32
  /-- The MSI-X function mask; R68; reset 0 -/
  fnMask : Bool := false
  /-- MSI-X is enabled in configuration space; R68; DESIGN CHOICE true (log entry 5) -/
  msixEn : Bool := true
  /-- IRQ_PEND; 19 R525; reset 0 -/
  irqPend : Word := 0
  /-- IRQ_MASK; 19 R525; reset 0xFFFF_FFFF -/
  irqMask : Word := 0xFFFFFFFF
  /-- QSPI status bit ERR; R41; reset 0: DESIGN CHOICE (log entry 12) -/
  qerr : Bool := false
  /-- QSPI status bit BUSY; R41; 0 between commands -/
  qbusy : Bool := false
  /-- Bulk data of descriptors whose completions have been given up, while nothing may be written at the host; R72, R74, R76; reset none -/
  orphans : List (Nat × List Byte) := []
  /-- The bytes the last host read returned (the model's own field); R41, R42 -/
  rdata : List Byte := []
  deriving DecidableEq, Repr

end Sys2Proof.Machine
end

