-- ==== Sys2Proof/Machine/State/System.lean ====
section
/-! DEFINITION. State of SV's parts: the log (17), Hollow (15), power, clocks and resets (16, 01), the NV store (18) and the setup
registers that belong to no other block (19). -/

namespace Sys2Proof.Machine

/-- The log, function 56, and the error states of all sources (17_faults_log.md). -/
structure Log where
  /-- The stored records, oldest first, at most 4096; R484, R485; reset none -/
  recs : List LogRec := []
  /-- Records written since SEQ started at 0: SEQ of the next one is its low 16 bits; R484; reset 0 (R494) -/
  count : Nat := 0
  /-- LQ_MIN; R437, R487; reset 4 -/
  lqMin : Nat := 4
  /-- LOG_STATUS.FLOOD, Floodplain mode; R489, R493; reset 0 -/
  flood : Bool := false
  /-- IN of the running interval; R489; reset 0 -/
  inCnt : Nat := 0
  /-- OUT of the running interval; R489; reset 0 -/
  outCnt : Nat := 0
  /-- Suppressed TRACE occurrences since the last SUMMARY; R491; reset 0 -/
  supTrace : Nat := 0
  /-- Suppressed INFO occurrences since the last SUMMARY; R491; reset 0 -/
  supInfo : Nat := 0
  /-- LOG_DROP0 to LOG_DROP4, 32 bits each; R492, R493; reset 0 -/
  drops : Vector Word 5
  /-- LOG_STATUS.WRAP, one bit per severity; R492, R493; reset 0 -/
  wrap : Vector Bool 5
  /-- The sources that are HANDLING, with CLASS and CUR_SEQ; R481, R482; reset none (all IDLE) -/
  errs : List ErrState := []
  /-- Records and closing copies that wait for mirroring, in the mirror order: the record's number, and whether it is a closing copy; R65, 17 R487; reset none -/
  mirrorQ : List (Nat × Bool) := []
  /-- An uncorrectable error has been found in log RAM, so its check at a device reset fails; R494, 01 R19; reset false -/
  bad : Bool := false
  deriving DecidableEq, Repr

/-- SEQ of the next record (17 R484). -/
abbrev Log.next (g : Log) : BitVec 16 := BitVec.ofNat 16 g.count

/-- The calendar fields of 15 R442. -/
structure Cal where
  second  : BitVec 6 := 0
  minute  : BitVec 6 := 0
  hour    : BitVec 5 := 0
  weekday : BitVec 3 := 0
  day     : BitVec 5 := 0
  month   : BitVec 4 := 0
  year    : BitVec 7 := 0
  deriving DecidableEq, Repr, Inhabited

/-- An alarm of 15 R447. -/
structure Alarm where
  /-- The value to match, 48 bits -/
  value : BitVec 48 := 0
  /-- ALARMn_EN -/
  armed : Bool := false
  /-- ALARMn_HIT -/
  hit : Bool := false
  /-- The counter has passed the value while it was armed: ALARM_FIRE is due (the model's own field) -/
  due : Bool := false
  deriving DecidableEq, Repr, Inhabited

/-- The values a HOLLOW_TIME_SET has staged (15 R446). -/
structure Staged where
  cnt : Option (BitVec 48)
  cal : Option Cal
  d   : Desc
  deriving DecidableEq, Repr, Inhabited

/-- A freeze in force (15 R445): whether the calendar group opened it, and the shadows. -/
structure Freeze where
  byCal  : Bool
  cnt    : BitVec 48
  cal    : Cal
  deriving DecidableEq, Repr, Inhabited

/-- A HOLLOW_TIME_SET whose values a tick has committed and which STAGED_COMMIT completes: the descriptor, and the counter before (15 R446). -/
structure Committed where
  d   : Desc
  cnt : BitVec 48
  deriving DecidableEq, Repr, Inhabited

/-- Hollow, the backup domain (15_hollow.md). -/
structure Hollow where
  /-- The tick counter, 48 bits; R441; reset 0 (R453) -/
  cnt : BitVec 48 := 0
  /-- PRE, 15 bits; R442; reset 0 (R453) -/
  pre : BitVec 15 := 0
  /-- SECOND to YEAR; R442, R455; reset 0 (R453) -/
  cal : Cal := {}
  /-- PRE has wrapped: CALENDAR_SECOND is due; R442; reset false (the model's own field) -/
  secDue : Bool := false
  /-- TRIM in force, signed; R444; reset 0 (R453) -/
  trim : Int := 0
  /-- TRIM written, in force from the next period; R444; reset 0 (R453) -/
  trimNext : Int := 0
  /-- Position in the trim period of 2^20 ticks; R444; reset DESIGN CHOICE 0 (log entry 12) -/
  trimPos : BitVec 20 := 0
  /-- Alarm 0; R447; reset disarmed (R453) -/
  alarm0 : Alarm := {}
  /-- Alarm 1; R447; reset disarmed (R453) -/
  alarm1 : Alarm := {}
  /-- Periodic wake enabled; R448; reset 0 (R453) -/
  wakeEn : Bool := false
  /-- EXP; R448; reset DESIGN CHOICE 0 (log entry 12) -/
  wakeExp : Nat := 0
  /-- Counting has carried the counter into a multiple of the period: PERIODIC_WAKE is due; R448; reset false (the model's own field) -/
  perDue : Bool := false
  /-- PWRON level; R449; reset on (R453) -/
  pwron : Bool := true
  /-- DELAY of a release that is pending; R449; reset none -/
  release : Option Word := none
  /-- Hollow's copy of the enables of WAKE0 to WAKE3; R449; reset DESIGN CHOICE 0 (log entry 12) -/
  pinEn : BitVec 4 := 0
  /-- Hollow's copy of the alarm enable; R449; reset DESIGN CHOICE 0 (log entry 12) -/
  alarmEn : Bool := false
  /-- Hollow's copy of the periodic-wake enable; R449; reset DESIGN CHOICE 0 (log entry 12) -/
  perEn : Bool := false
  /-- The wake source recorded while PWRON was off or its release pending; R449, R468; reset none -/
  wakeSrc : Option Byte := none
  /-- The 64 backup bytes; R450; reset 0 (R453) -/
  backup : Vector Byte 64
  /-- OSF; R451; reset 1 (R453) -/
  osf : Bool := true
  /-- OSF was last set by a Hollow reset, not by an oscillator failure; R451; reset true (R453) -/
  osfReset : Bool := true
  /-- OSC_RUN; R451, R455; reset 0 -/
  oscRun : Bool := false
  /-- Staged values; R446; reset none -/
  staged : Option Staged := none
  /-- HOLLOW_TIME_SETs that wait for the staged one; R446; reset none -/
  stageQ : List Desc := []
  /-- HOLLOW_TIME_SETs that a tick has committed and that have not completed, oldest first; R446; reset none -/
  committed : List Committed := []
  /-- The freeze in force; R445; reset none -/
  freeze : Option Freeze := none
  /-- The interface is locked out; R452, R453; reset true until step 6 of start-up -/
  lockout : Bool := true
  /-- LOCKOUT_SEEN; R452, R455; reset 0 -/
  lockSeen : Bool := false
  /-- VMAIN has failed and is not yet qualified; R452, R453; reset false -/
  vmainBad : Bool := false
  /-- Hollow is held in reset; R453; reset false -/
  inReset : Bool := false
  /-- A Hollow reset has ended this VMAIN failure, or none yet: the outcome that the next start-up logs; R453, R451; reset true (first power-up) -/
  wasReset : Bool := true
  /-- VMAIN has been qualified without a Hollow reset and LG_HOLLOW_LOCKOUT is due; R453; reset false -/
  lockLog : Bool := false
  /-- Part of a tick gone by, in 1/12 500 000 000 s per unit of 1: 32 768 per TCLK, a tick at 400 000 000; R441, R25 (the model's own field) -/
  frac : Nat := 0
  deriving DecidableEq, Repr

/-- How far a SLEEP or HIBERNATE request has come (16 R462, R468). -/
inductive SleepStep where
  | none
  | requested (d : Desc)
  | asleep (d : Desc)
  | hibernating
  | off
  deriving DecidableEq, Repr, Inhabited

/-- Power states, wakes, resets and clocks (16_power_reset.md, 01 R27). -/
structure Power where
  /-- PWR_STATUS.STATE; R457, R477; reset 0 RUN -/
  state : Nat := 0
  /-- POLICY; R474, R477; reset 0 -/
  policy : Bool := false
  /-- The policy was applied without host hold; R475; reset false -/
  polNoHold : Bool := false
  /-- WDT_EN; R473, R477; reset 0 -/
  wdtEn : Bool := false
  /-- TIMEOUT of PWR_WATCHDOG in ms; R473, R435; reset DESIGN CHOICE 0 (log entry 12) -/
  timeout : Word := 0
  /-- SLEEP_ABORT; R465, R477; reset 0 -/
  sleepAbort : Bool := false
  /-- ECO_REFUSED; R458, R477; reset 0 -/
  ecoRefused : Bool := false
  /-- WAKE_SRC; R464, R477; reset 0x40 -/
  wakeSrc : Byte := 0x40
  /-- The wake recorded last: its time in TCLK, its code, and the request it ended; R464; reset none (the model's own field) -/
  woke : Option (Nat × Nat × Option Desc) := none
  /-- Wake enables of WAKE0 to WAKE3; R464; reset 0 -/
  wakePins : BitVec 4 := 0
  /-- Wake enable of the keys; R464; reset 0 -/
  wakeKeys : Bool := false
  /-- Wake enable of the Hollow alarms; R464; reset 0 -/
  wakeAlarm : Bool := false
  /-- Wake enable of the periodic wake; R464; reset 0 -/
  wakePer : Bool := false
  /-- Wake enable of the host; R464; reset 0 -/
  wakeHost : Bool := false
  /-- Wake enables of VL0 to VL15; R464; reset 0 -/
  wakeVale : BitVec 16 := 0
  /-- IDLE_S; R458; reset 0 -/
  idleS : Nat := 0
  /-- When the idle timer last restarted, in TCLK; R458; reset 0 -/
  idleAt : Nat := 0
  /-- When the host-loss timer last restarted, in TCLK; R473; reset 0 -/
  wdtAt : Nat := 0
  /-- The SLEEP or HIBERNATE request that runs; R462, R468; reset none -/
  sleep : SleepStep := .none
  /-- Wake-table groups that SLEEP has stopped and that have not started again, as bits 0 to 7; R466, R467; reset 0 -/
  groups : BitVec 8 := 0
  /-- When the request came, in TCLK; R462; reset 0 -/
  sleepAt : Nat := 0
  /-- Step 3 of the SLEEP sequence is done: outputs inert, functions and engines stopped; R462; reset false -/
  sleepStopped : Bool := false
  /-- Groups whose delay is over and which wait for PLL-B, as bits 0 to 7; R466; reset 0 -/
  groupsDue : BitVec 8 := 0
  /-- ECO is over and FA0 and FA1 wait for their delay of the wake table; R461; reset false -/
  faBack : Bool := false
  /-- WAKE_TABLE0; R477; reset 0x0205_0500 -/
  wake0 : Word := 0x02050500
  /-- WAKE_TABLE1; R477; reset 0x0206_0604 -/
  wake1 : Word := 0x02060604
  /-- FRST0 to FRST2: bit n holds function n; R469, R477; reset 0 -/
  frst : BitVec 96 := 0
  /-- FEN0 to FEN2 of the functions whose bit may be written; 19 R523; reset 0 -/
  fen : BitVec 96 := 0
  /-- XCLK_OK; 19 R524; reset 0 -/
  xclkOk : Bool := false
  /-- PLLA_LOCK; 19 R524; reset 0 -/
  pllaLock : Bool := false
  /-- PLLB_LOCK; 19 R524; reset 0 -/
  pllbLock : Bool := false
  /-- PLLA_FAIL; 19 R524; reset 0 -/
  pllaFail : Bool := false
  /-- PLLB_FAIL; 19 R524; reset 0 -/
  pllbFail : Bool := false
  /-- XCLK_FAIL; 19 R524; reset 0 -/
  xclkFail : Bool := false
  /-- A clock failure of PLL-A is in force (FCLK and ECLK on OCLK); 01 R27; reset false -/
  pllaDown : Bool := false
  /-- A clock failure of PLL-B is in force: its functions are treated as held; 01 R27; reset false -/
  pllbDown : Bool := false
  /-- A clock failure of XCLK is in force; 01 R27; reset false -/
  xclkDown : Bool := false
  /-- Groups of the wake table whose functions are still treated as held because a clock failed; 01 R27; reset 0 -/
  clkHeld : BitVec 8 := 0
  /-- Host loss holds the valve channels in their fail positions; R475; reset false -/
  valveFail : Bool := false
  /-- Engines halted through JTAG; 19 R527; reset 0 -/
  halted : BitVec 12 := 0
  /-- VMAIN is not yet qualified, so the device is held in reset; 20 R537; reset false -/
  vmainHold : Bool := false
  /-- Corrected SRAM errors; 01 R19, 14 R423; per memory, in the order HE, SV, LE0 to LE5, LK0 to LK2, SC, Plain, log RAM, result buffers, event RAM; reset DESIGN CHOICE 0 (log entry 12) -/
  memCe : Vector Word 16
  /-- Uncorrected SRAM errors; 14 R423; reset DESIGN CHOICE 0 (log entry 12) -/
  memUe : Word := 0
  /-- Event drops of the message network; 01 R24, 14 R423; reset DESIGN CHOICE 0 (log entry 12) -/
  netDrop : Word := 0
  /-- Clock failures; 01 R27, 14 R423; reset DESIGN CHOICE 0 (log entry 12) -/
  clkFails : Word := 0
  deriving DecidableEq, Repr

/-- A firmware slot (18 R500, R502, R509): its header and the bytes past the header. -/
structure FwSlot where
  /-- MAGIC of its header, 0 as erased; R502; slot 1: DESIGN CHOICE 0 (log entry 12) -/
  magic : Word := 0
  /-- SEQ; R502; slot 0 as delivered 1 (R511) -/
  seq : Word := 0
  /-- LEN of its header; R502; slot 1: DESIGN CHOICE 0 (log entry 12) -/
  len : Word := 0
  /-- CRC of its header; R502; slot 1: DESIGN CHOICE 0 (log entry 12) -/
  crc : Word := 0
  /-- The bytes written to the slot, with their offsets, oldest first; R509, R510; slot 0: the image as delivered, which is a free value -/
  parts : List (Nat × List Byte) := []
  /-- The slot is as the device was delivered, with firmware that runs; R511; slot 0 true -/
  factory : Bool := false
  /-- The slot has run before -/
  ran : Bool := false
  deriving DecidableEq, Repr, Inhabited

/-- A configuration bank (18 R502): its header and image. -/
structure Bank where
  /-- MAGIC of its header, 0 as erased; R502; DESIGN CHOICE 0 (log entry 12) -/
  magic : Word := 0
  /-- SEQ -/
  seq : Word := 0
  /-- LEN of its header; R502; DESIGN CHOICE 0 (log entry 12) -/
  len : Word := 0
  /-- CRC of its header; R502; DESIGN CHOICE 0 (log entry 12) -/
  crc : Word := 0
  /-- COMMITS; it outlives a failed write (the model's reading of "Commits to this bank") -/
  commits : Word := 0
  /-- The image as written by NV_CONFIG_WRITE -/
  image : List Byte := []
  deriving DecidableEq, Repr, Inhabited

/-- An entry of the key area (18 R512), 32 bytes: UID, key, flags and CRC-32. -/
structure KeyEntry where
  uid   : DWord
  key   : BitVec 128
  /-- 1: the entry holds a key; 0: it has been deleted (log entry 249) -/
  flags : Word
  crc   : Word
  deriving DecidableEq, Repr, Inhabited

/-- An NV write that runs (18 R503, R510, R512). -/
inductive NvOp where
  | config (d : Desc) (bank : Fin 2) (image : List Byte)
  | fwPart (d : Desc) (slot : Fin 2) (off : Nat) (bytes : List Byte) (last : Bool)
  | key (d : Desc) (uid : DWord) (key : Option (BitVec 128))
  | invalidate (d : Desc)
  deriving DecidableEq, Repr, Inhabited

/-- The NV store, function 57, and the fuses (18_nvstore_boot.md). -/
structure Nv where
  /-- Firmware slots 0 and 1; R500, R511; slot 0 valid at SEQ 1 as delivered -/
  slots : Vector FwSlot 2
  /-- Configuration banks 0 and 1; R500, R511; none valid as delivered -/
  banks : Vector Bank 2
  /-- Copy A of the key area, 64 entries, none where erased; R500, R512; erased: DESIGN CHOICE (log entry 12) -/
  keyA : Vector (Option KeyEntry) 64
  /-- Copy B of the key area; R500, R512; erased: DESIGN CHOICE (log entry 12) -/
  keyB : Vector (Option KeyEntry) 64
  /-- The write that runs; R503; reset none -/
  busy : Option NvOp := none
  /-- VALE_KEY_SETs that wait for the write to finish; R512; reset none -/
  keyQ : List Desc := []
  /-- Slot that a FW_WRITE sequence has begun to write; R510; reset none -/
  fwOpen : Bool := false
  /-- NV_STATUS.BANK, 3 none; R515; reset 3 -/
  bank : Nat := 3
  /-- NV_STATUS.SLOT, 3 recovery; R515; reset 3 -/
  slot : Nat := 3
  /-- NV_EMPTY; R513, R515; reset 0 -/
  empty : Bool := false
  /-- The AUTORUN moment of this start-up is still to come; R508; reset false -/
  autoPend : Bool := false
  /-- An SQ producer col write has been accepted in this start-up; R508; reset false -/
  autoCancel : Bool := false
  /-- Fuse UID, 64 bits; R512; DESIGN CHOICE 0 (log entry 6) -/
  uid : DWord := 0
  /-- Fuse PKH, 256 bits; R512; DESIGN CHOICE 0 (log entry 6) -/
  pkh : BitVec 256 := 0
  /-- Fuse DBG_LOCK; R512; DESIGN CHOICE 0 (log entry 6) -/
  dbgLock : Bool := false
  /-- Fuses for the analog trims, whose width the manual does not give; R512; DESIGN CHOICE 32 bits, 0 (log entry 6) -/
  trims : Word := 0
  deriving DecidableEq, Repr

/-- Setup registers and balls that belong to no other block (19_setup_registers.md, 20_pins_electrical.md). -/
structure Regs where
  /-- SYS_STATUS.ATTACH: HOST_SEL as sampled, true is Quad-SPI; 02 R35, R521; reset HOST_SEL: DESIGN CHOICE PCI Express (log entry 5) -/
  attach : Bool := false
  /-- SYS_STATUS.READY; R521; reset 0 -/
  ready : Bool := false
  /-- SYS_STATUS.RECOVERY; R521; reset 0 -/
  recovery : Bool := false
  /-- SYS_STATUS.RST_CAUSE; R521; reset 0 -/
  rstCause : Nat := 0
  /-- SETUP_LOCK.LOCK; R522; reset 0 -/
  lock : Bool := false
  /-- SYS_STATUS.LOCK_WR; R521; reset 0 -/
  lockWr : Bool := false
  /-- DBG_STATUS.TAP_SEEN; R527; reset 0 -/
  tapSeen : Bool := false
  /-- SCRATCH0 to SCRATCH3; R527; reset 0 -/
  scratch : Vector Word 4
  /-- PINMUX0; R526; reset 0 -/
  pinmux0 : Word := 0
  /-- PINMUX1; R526; reset 0 -/
  pinmux1 : Word := 0
  /-- IO_CFG.SLOW; R526; reset 0 -/
  slow : Byte := 0
  /-- IO_CFG.V18: bit b, bank Bb runs at 1.8 V, as detected at start-up; R526, 20 R537; reset DESIGN CHOICE 0 until it has been detected (log entry 7) -/
  v18 : Byte := 0
  /-- Level at the PORST_N ball, which the row PORST raises; 20 R537; DESIGN CHOICE high (log entry 240) -/
  porstN : Bool := true
  /-- The I/O banks that are unpowered, bit b bank Bb; 20 R537; DESIGN CHOICE 0: all are powered (log entry 240) -/
  bankOff : BitVec 8 := 0
  /-- Level at the HOST_SEL ball; R521, 20 R536; DESIGN CHOICE low, PCI Express (log entry 5) -/
  hostSel : Bool := false
  deriving DecidableEq, Repr

end Sys2Proof.Machine
end

