-- ==== Sys2Proof/Machine/State/Timing.lean ====
section
/-! DEFINITION. State of the timebase, its calendar and the converters (03_line_angle_timebase.md, 04_measurement.md). -/

namespace Sys2Proof.Machine

/-- The states of 03 R79. -/
inductive TbState where
  | off | acquire | locked | holdover | unlocked | free
  deriving DecidableEq, Repr, Inhabited

/-- An entry of the angle-event calendar (03 R91). -/
structure CalEntry where
  /-- The entry is enabled; R93, R96; reset false (R96: free) -/
  en : Bool := false
  /-- ANGLE; R91 -/
  angle : Word := 0
  /-- FUNC; R91 -/
  func : Nat := 0
  /-- REPEAT; R91 -/
  rep : Nat := 0
  /-- ARG; R91 -/
  arg : Byte := 0
  /-- DIV; R91 -/
  div : Nat := 0
  /-- CYCLE; R91 -/
  cycle : BitVec 16 := 0
  /-- Cycles left before the next firing of REPEAT 3; R91 -/
  wait : Nat := 0
  /-- The angle was set, not moved, to where it stands, since the entry was written; R93, R95; reset false -/
  rest : Bool := false
  /-- An angle has been passed and the entry has not fired for it: the TCLK of the passage; R93; reset none -/
  due : Option Nat := none
  deriving DecidableEq, Repr, Inhabited

/-- The timebase, function 2 (03_line_angle_timebase.md). -/
structure Tb where
  /-- MODE: 0 OFF, 1 LINE, 2 FREE; R89; reset 0 -/
  mode : Nat := 0
  /-- NOMINAL: true is 60 Hz; R89; reset 0 -/
  nom60 : Bool := false
  /-- FALLBACK: 0 FREE_LAST, 1 FREE_NOM, 2 STOP; R89; reset 0 -/
  fallback : Nat := 0
  /-- LOCK_CNT; R89; reset 8 -/
  lockCnt : Nat := 8
  /-- HOLD_MAX; R89; reset 8 -/
  holdMax : Nat := 8
  /-- LOCK_WIN in lu; R89; reset 16 -/
  lockWin : Nat := 16
  /-- CAPTURE_WIN in lu; R89; reset 1311 -/
  captureWin : Nat := 1311
  /-- COMP in ns; R89; reset 0 -/
  comp : Int := 0
  /-- HYST; R89; reset 2 -/
  hyst : Nat := 2
  /-- FILT in µs; R89; reset 0 -/
  filt : Nat := 0
  /-- BW; R89; reset 3 -/
  bw : Nat := 3
  /-- State; R79, R98; reset OFF -/
  state : TbState := .off
  /-- The phase accumulator, 48 bits; R78; reset 0 (R79) -/
  acc : BitVec 48 := 0
  /-- INC without the correction of the running cycle, in 2^-48 cycle; R78; reset 0 (R98: TB_FREQ 0) -/
  inc : Nat := 0
  /-- The correction of INC in the running cycle; R83; reset 0 -/
  corr : Int := 0
  /-- When that cycle ends, in TCLK; R83; reset 0 -/
  corrEnd : Nat := 0
  /-- TB_CYCLE; R78; reset 0 -/
  cycle : BitVec 16 := 0
  /-- The latched TB_CYCLE; R98; reset 0 -/
  cycLatch : BitVec 16 := 0
  /-- The angle is valid; R79, R98; reset 0 -/
  valid : Bool := false
  /-- MISSES; R84, R98; reset 0 -/
  misses : Nat := 0
  /-- RANGE_ERR; R85, R98; reset 0 -/
  rangeErr : Bool := false
  /-- UNLOCK_SEEN; R98; reset 0 -/
  unlockSeen : Bool := false
  /-- UNLOCKS; R98; reset 0 -/
  unlocks : BitVec 16 := 0
  /-- SLEWING; R86, R98; reset 0 -/
  slewing : Bool := false
  /-- TB_PHERR; R98; reset 0 -/
  pherr : BitVec 16 := 0
  /-- The FALLBACK in force in UNLOCKED; R86, R87; reset 0 -/
  fbNow : Nat := 0
  /-- A TB_CONFIG whose fields other than MODE take effect from the next judgement point; R90; reset none -/
  next : Option Desc := none
  /-- Time of the previous crossing, in TCLK; R80; reset none -/
  prevX : Option Nat := none
  /-- The period that the previous crossing ended, in TCLK; R80; reset none -/
  prevPer : Option Nat := none
  /-- Good crossings of the acquisition or relock so far; R81, R86; reset 0 -/
  goods : Nat := 0
  /-- P1 of the acquisition; R81; reset none -/
  p1 : Option Nat := none
  /-- Consecutive crossings within LOCK_WIN; R81; reset 0 -/
  lockRun : Nat := 0
  /-- Crossings inside the window since the last judgement; R80; reset 0 -/
  xIn : Nat := 0
  /-- Crossings outside the window since the last judgement; R80; reset 0 -/
  xOut : Nat := 0
  /-- Phase error of the crossing inside the window, in flu; R80; reset 0 -/
  xErr : Int := 0
  /-- That crossing has been tracked already, on the relock or acquisition it ended; R81; reset false -/
  xDone : Bool := false
  /-- The TCLK on which the calendar last fired; R93; reset 0 -/
  fireAt : Nat := 0
  /-- Entries fired on that TCLK, at most 4; R93; reset 0 -/
  fireCnt : Nat := 0
  /-- The calendar of 256 entries; R91; reset all free -/
  cal : Vector CalEntry 256
  deriving DecidableEq, Repr

/-- A sequencer entry of 16 bytes, byte 0 in bits 7..0 (04 R109). -/
abbrev SeqEntry := BitVec 128

/-- PHASE of c_STATUS (04 R128). -/
inductive ConvPhase where
  | stopped | settle | convert | postDelay | wait
  deriving DecidableEq, Repr, Inhabited

/-- The settings of a conversion that decide settling (04 R107). -/
structure ConvSet where
  input : Nat
  diff  : Bool
  gain  : Nat
  order : Bool
  lock  : Bool
  timing : Nat
  deriving DecidableEq, Repr, Inhabited

/-- What is held per input of a converter (04 R113, R119, R129). -/
structure ConvInput where
  /-- OFFSET; R113; reset 0 -/
  offset : Int := 0
  /-- GAIN, Q2.30; R113; reset 0x4000_0000 -/
  gain : Nat := 0x40000000
  /-- The latest result word; R105, R119; reset 0 (R105: none written) -/
  word : Word := 0
  /-- COUNT; R119; reset DESIGN CHOICE 0 (log entry 12) -/
  count : Word := 0
  /-- An open sample has been logged since the last valid one; R129; reset false -/
  openLogged : Bool := false
  /-- An overrange sample has been logged since the last valid one; R129; reset false -/
  ovrLogged : Bool := false
  deriving DecidableEq, Repr, Inhabited

/-- A group of samples being formed (04 R111). -/
structure Group where
  /-- Samples counted so far -/
  n : Nat := 0
  /-- Their sum -/
  sum : Int := 0
  /-- CAUSE of the first invalid sample -/
  bad : Option Nat := none
  deriving DecidableEq, Repr, Inhabited

/-- An urgent conversion that runs (04 R116, R117). DESIGN CHOICE: R129 lets valve, fan and damper functions request one too and no rule
says when one does, so every urgent conversion here comes from a host descriptor (log entry 199). -/
structure Urgent where
  /-- The descriptor that asked for it -/
  d : Desc
  /-- Its entry -/
  entry : SeqEntry
  /-- Its settle delay runs -/
  settle : Bool := false
  /-- Its group -/
  group : Group := {}
  /-- Samples still marked for settling -/
  settling : Nat := 0
  /-- They are marked urgent-slot in place of settling -/
  settleUrgent : Bool := false
  /-- The interrupted post-delay has ended -/
  ended : Bool := false
  deriving DecidableEq, Repr, Inhabited

/-- A converter: FA0, FA1 or PA (04_measurement.md). -/
structure Conv where
  /-- REFSEL; R122; reset 0 -/
  refsel : Nat := 0
  /-- LAST; R122; reset 0 -/
  last : Nat := 0
  /-- The sequencer table; R109, R123; reset zero, PA with TIMING 8000 -/
  table : Vector SeqEntry 32
  /-- Per input 0 to 63; R113, R119 -/
  inputs : Vector ConvInput 64
  /-- RUN; R128; reset 0 -/
  run : Bool := false
  /-- REF_OK; R118, R128; reset 0 -/
  refOk : Bool := false
  /-- ENTRY; R128; reset 0 -/
  entry : Nat := 0
  /-- PHASE, but for 5 (urgent); R128; reset stopped -/
  phase : ConvPhase := .stopped
  /-- OVR_SEEN; R128; reset 0 -/
  ovrSeen : Bool := false
  /-- OPEN_SEEN; R128; reset 0 -/
  openSeen : Bool := false
  /-- REF_LOST; R118, R128; reset 0 -/
  refLost : Bool := false
  /-- URGENT_DROP; R128; reset 0 -/
  urgentDrop : Word := 0
  /-- TIMEOUT; R128; reset 0 -/
  timeouts : BitVec 16 := 0
  /-- RELEASED; R128; reset 0 -/
  released : BitVec 16 := 0
  /-- LATE_START; R128; reset 0 -/
  lateStart : BitVec 16 := 0
  /-- STROBE_IGN; R128; reset 0 -/
  strobeIgn : BitVec 16 := 0
  /-- The entry latched at the start of the visit; R108; reset 0 -/
  cur : SeqEntry := 0
  /-- Result words of the visit still to be written; R111; reset 0 -/
  wordsLeft : Nat := 0
  /-- The group being formed; R111 -/
  group : Group := {}
  /-- Samples still marked for settling in the visit; R107; reset 0 -/
  settling : Nat := 0
  /-- They are marked urgent-slot in place of settling; R107; reset false -/
  settleUrgent : Bool := false
  /-- Settings of the previous conversion made; R107; reset none (no conversion yet) -/
  prev : Option ConvSet := none
  /-- The previous conversion was urgent; R107; reset false -/
  prevUrgent : Bool := false
  /-- The post-delay before this visit was not 0; R107; reset false -/
  prevPost : Bool := false
  /-- The converter has just started: its first visit has not begun; R107; reset true -/
  just : Bool := true
  /-- Samples still to be marked for a rise of REF_OK: 2 when it rose during a conversion; R107; reset 1 -/
  refMark : Nat := 1
  /-- The output period of PA in modulator clocks; R115; reset DESIGN CHOICE 0 (log entry 12) -/
  period : Nat := 0
  /-- The urgent conversion; R116, R117; reset none -/
  urgent : Option Urgent := none
  /-- ECO stops it after the conversion in progress; R130; reset false -/
  parked : Bool := false
  /-- It starts at entry 0 once REF_OK is high; R130; reset false -/
  startOnRef : Bool := false
  deriving DecidableEq, Repr

end Sys2Proof.Machine
end

