-- ==== Sys2Proof/Machine/State/Dev.lean ====
section
/-! DEFINITION. The device's blocks together, apart from the host attachment and the memories. -/

namespace Sys2Proof.Machine

/-- All functions of the device but the host rings, with the descriptors, completions and events on their way between them. -/
structure Dev where
  /-- Time since reset in TCLK of 2.5 ns (the model's own field: one idle step is one TCLK); 01 R25 -/
  now : Nat := 0
  /-- Free values drawn so far (the model's own field); reset DESIGN CHOICE 0 (log entry 2) -/
  fresh : Nat := 0
  /-- Descriptors dispatched to their functions and not yet executed, in order of execution; R59, R60; reset none -/
  fq : List QDesc := []
  /-- Descriptors that execute and wait for a partner, a timer or a condition; R55, 14 R422; reset none -/
  waits : List QDesc := []
  /-- Bulk reads outstanding, oldest first; R53, R75; reset none -/
  bulk : List QDesc := []
  /-- Completions that have come about and are not yet written, oldest first; R55; reset none -/
  done : List Completion := []
  /-- Events raised and not yet taken by EQ or its cache, oldest first; R56, R64; reset none -/
  raised : List Event := []
  /-- A configuration section is being loaded, so check 5 of R32 is waived; 18 R507; reset false -/
  loading : Bool := false
  /-- The timebase; 03 -/
  tb : Tb
  /-- FA0, FA1, PA; 04 -/
  convs : Vector Conv 3
  /-- The 144 loops; 05 -/
  loops : Vector Loop 144
  /-- Triggers of loops that have arrived, so that a loop's place among them is known; 05 R135; reset 0 -/
  trigs : Nat := 0
  /-- PEAK of LE0 to LE5: none while nothing has been measured since the restart, otherwise the number of the free value that was the
  highest; 05 R168; reset none (reads 0) -/
  lePeak : Vector (Option Nat) 6
  /-- The 16 zones; 06 -/
  zones : Vector Zone 16
  /-- The 32 exception dates; 06 R193 -/
  dates : Vector ExDate 32
  /-- The 48 PWM channels; 07 -/
  pwms : Vector Pwm 48
  /-- TRIP0 to TRIP7; 07 R212 -/
  trips : Vector Trip 8
  /-- VC0 to VC15; 08 -/
  valves : Vector Valve 16
  /-- SP0 to SP7; 08 -/
  pairs : Vector Pair 8
  /-- VBOOST at VBOOST_SNS in 0.25 V, when it was last compared: an input; 08 R239; reset DESIGN CHOICE 0 (log entry 7), which nothing reads
  before the first comparison -/
  vboost : Nat := 0
  /-- The TCLK of that comparison; 08 R239; reset none -/
  vboostAt : Option Nat := none
  /-- FN0 to FN11; 09 -/
  fans : Vector Fan 12
  /-- DM0 to DM11; 09 -/
  dampers : Vector Damper 12
  /-- The panel; 10 -/
  panel : Panel
  /-- VL0 to VL15; 11, 12 -/
  vports : Vector VPort 16
  /-- BB0 to BB7; 13 -/
  bbs : Vector BbPort 8
  /-- SB0 to SB7; 13 -/
  sbs : Vector SbPort 8
  /-- Hollow; 15 -/
  hollow : Hollow
  /-- Power, wakes, resets, clocks; 16 -/
  power : Power
  /-- The log; 17 -/
  log : Log
  /-- The NV store and fuses; 18 -/
  nv : Nv
  /-- Other setup registers and balls; 19, 20 -/
  regs : Regs
  deriving DecidableEq, Repr

end Sys2Proof.Machine
end

