-- ==== Sys2Proof/Machine/Resets.lean ====
section
/-! DEFINITION. The blocks as they stand right after reset: the values of the spec's reset columns, and those that log entries name. -/

namespace Sys2Proof.Machine

/-- Rings, col page, interrupts after reset (02 R69, 19 R519, R525): CQ n on vector n, EQ on 16, LQ on 17, SQ n on CQ n. -/
def Rings.reset : Rings where
  sqs  := Vector.ofFn fun n => { cq := n }
  cqs  := Vector.ofFn fun n => { ring := { vec := ⟨n.val, by omega⟩ } }
  eq   := { vec := 16 }
  lq   := { vec := 17 }
  msix := Vector.replicate 32 {}

/-- The host attachment after a device reset: in Quad-SPI attachment the link never trains (02 R35). -/
def Rings.after (qspi : Bool) : Rings := { Rings.reset with linkUp := !qspi }

/-- The timebase after reset (03 R79, R89). -/
def Tb.reset : Tb where
  cal := Vector.replicate 256 {}

/-- A converter after reset (04 R123): PA's entries hold TIMING 8000 (offset 6 of R109). -/
def Conv.reset (pa : Bool) : Conv where
  table  := Vector.replicate 32 (if pa then (8000#128 <<< 48) else 0)
  inputs := Vector.replicate 64 {}

/-- A zone after reset (06 R186 to R192): every schedule point unused. -/
def Zone.reset : Zone where
  ins    := Vector.replicate 6 {}
  outs   := Vector.replicate 4 {}
  sched8 := Vector.replicate 56 0x07FF

/-- A fan after reset (09 R271, R272). -/
def Fan.reset : Fan where
  lo := Vector.replicate 4 0
  hi := Vector.replicate 4 0

/-- The panel after reset (10 R295 to R298). -/
def Panel.reset : Panel where
  keys    := Vector.replicate 192 {}
  ladders := Vector.replicate 16 {}
  encs    := Vector.replicate 8 {}

/-- A satellite slot without a record (12 R336, R348). -/
def VSlot.blank : VSlot where
  vals := Vector.replicate 32 {}

/-- A Vale port after reset (11 R329, 12 R362). -/
def VPort.reset : VPort where
  slots := Vector.replicate 32 VSlot.blank
  sess  := Vector.replicate 16 none

/-- A building-bus port after reset (13 R394, R395, R400). -/
def BbPort.reset : BbPort where
  entries := Vector.replicate 64 {}
  holding := Vector.replicate 1024 0
  input   := Vector.replicate 1024 0

/-- A sensor-bus port after reset (13 R410, R411). -/
def SbPort.reset : SbPort where
  entries := Vector.replicate 32 {}

/-- Hollow after a Hollow reset (15 R453, R455). -/
def Hollow.reset : Hollow where
  backup := Vector.replicate 64 0

/-- Power, resets and clocks after reset (16 R477). -/
def Power.reset : Power where
  memCe := Vector.replicate 16 0

/-- The log after reset (17 R493). -/
def Log.reset : Log where
  drops := Vector.replicate 5 0
  wrap  := Vector.replicate 5 false

/-- The NV store as delivered (18 R511): firmware in slot 0 at SEQ 1, no valid bank. The firmware's bytes are free values (log entry 247). -/
def Nv.reset : Nv where
  slots := #v[{ magic := 0x5746565A, seq := 1, len := Config.factoryLen, crc := Config.factoryCrc
                parts := [(0, Config.factoryImage)], factory := true, ran := true }, {}]
  banks := #v[{}, {}]
  keyA  := Vector.replicate 64 none
  keyB  := Vector.replicate 64 none

/-- The setup registers of 19 after reset. -/
def Regs.reset : Regs where
  scratch := Vector.replicate 4 0

/-- The device right after reset, before its start-up has run. -/
def Dev.reset : Dev where
  tb      := Tb.reset
  convs   := #v[Conv.reset false, Conv.reset false, Conv.reset true]
  loops   := Vector.replicate 144 {}
  lePeak  := Vector.replicate 6 none
  zones   := Vector.replicate 16 Zone.reset
  dates   := Vector.replicate 32 {}
  pwms    := Vector.replicate 48 {}
  trips   := Vector.replicate 8 {}
  valves  := Vector.replicate 16 {}
  pairs   := Vector.replicate 8 {}
  fans    := Vector.replicate 12 Fan.reset
  dampers := Vector.replicate 12 {}
  panel   := Panel.reset
  vports  := Vector.replicate 16 VPort.reset
  bbs     := Vector.replicate 8 BbPort.reset
  sbs     := Vector.replicate 8 SbPort.reset
  hollow  := Hollow.reset
  power   := Power.reset
  log     := Log.reset
  nv      := Nv.reset
  regs    := Regs.reset

end Sys2Proof.Machine
end

