-- ==== Sys2Proof/Machine/State.lean ====
section
/-! DEFINITION. The machine's state: the queue of commands, the device, the host attachment and the two memories that the
device reaches; the ways a step can stop; and the state after reset. -/

namespace Sys2Proof.Machine

/-- The byte memories that the device reaches for its rings and bulk data (02 R42, R46, R53). -/
structure Mem where
  /-- The host's memory over PCI Express, as the device's writes have left it; R46, R53; unwritten bytes read 0: DESIGN CHOICE (log entry 4) -/
  host : Memory := []
  /-- Plain 0x0006_0000 to 0x0007_FFFF, the ring window, 128 KB; 01 R17, R42; unwritten bytes read 0: DESIGN CHOICE (log entry 4) -/
  win  : Memory := []
  deriving DecidableEq, Repr

/-- The machine. -/
structure State where
  /-- The commands that are waiting, first in, first out (the model's own field) -/
  pending : List Instr
  /-- The device but for its host attachment -/
  dev : Dev
  /-- The host attachment; 02 -/
  ring : Rings
  /-- Host memory and ring window -/
  mem : Mem
  deriving DecidableEq, Repr

/-- The reasons for which a step can stop with a fault. No meaning raises one: the spec gives every command an effect in every
state. -/
inductive Fault where
  /-- Reserved for a command that the spec leaves without any effect; raised by no meaning. Safe. -/
  | noEffect
  deriving DecidableEq, Repr

/-- The reasons for which a command is refused. -/
inductive Refusal where
  /-- A command that has no meaning yet, by its mnemonic: raised by its arm of `exec`. Safe: nothing can be proved of it. -/
  | notModelled (mnemonic : String)
  deriving DecidableEq, Repr

/-- The machine right after reset: no command waits, every register at its reset value, memory with nothing listed. -/
def State.reset : State where
  pending := []
  dev     := Dev.reset
  ring    := Rings.reset
  mem     := {}

end Sys2Proof.Machine
end

