-- ==== Sys2Proof/Machine/Ops.lean ====
section
/-! DEFINITION. Operations that every family shares: vectors, bit fields, byte memories, holds and enables, completions, events, the
writing of log records (17 R484 to R492) and the handling of errors (17 R482, R483). -/

namespace Sys2Proof.Machine

/-! ## Vectors and numbers -/

/-- Entry `i` of `v` changed by `f`. -/
def vmod {α : Type} {n : Nat} (v : Vector α n) (i : Fin n) (f : α → α) : Vector α n :=
  v.set i.val (f v[i.val])

/-- A number read as the index of one of `n + 1` things. -/
def ix (n k : Nat) : Fin (n + 1) := Fin.ofNat (n + 1) k

/-- Bits `[lo + w - 1 : lo]` of a number. -/
def bitsOf (x lo w : Nat) : Nat := (x / 2 ^ lo) % 2 ^ w

/-- A number of `w` bits read as two's complement (00 R5). -/
def signed (w x : Nat) : Int := if x < 2 ^ (w - 1) then (x : Int) else (x : Int) - 2 ^ w

/-- An integer as `w` bits of two's complement. -/
def wrapTo (w : Nat) (x : Int) : Nat := (x % (2 ^ w : Int)).toNat

/-- `x` limited to `[lo, hi]`. -/
def clampI (lo hi x : Int) : Int := max lo (min hi x)

/-- `x` limited to the range of a signed 32-bit word. -/
def sat32 (x : Int) : Int := clampI (-2147483648) 2147483647 x

/-- `a / b` rounded to the nearest integer, half away from zero; `b > 0`. -/
def roundDiv (a : Int) (b : Nat) : Int :=
  if a ≥ 0 then (2 * a + b) / (2 * b : Int) else -((2 * (-a) + b) / (2 * b : Int))

/-- A word put together from fields (bit, width, value). -/
def fieldsOf (l : List (Nat × Nat × Nat)) : Nat :=
  l.foldl (fun acc e => acc + (e.2.2 % 2 ^ e.2.1) * 2 ^ e.1) 0

/-- A register word from fields (bit, width, value). -/
def mkWord (l : List (Nat × Nat × Nat)) : Word := BitVec.ofNat 32 (fieldsOf l)

/-- A RESULT from fields (byte offset 8 to 15, bit, width, value), as the chapters lay it out. -/
def mkRes (l : List (Nat × Nat × Nat × Nat)) : DWord :=
  BitVec.ofNat 64 (fieldsOf (l.map fun e => (8 * (e.1 - 8) + e.2.1, e.2.2.1, e.2.2.2)))

/-- `n` bytes of a number, the least significant first (00 R5). -/
def bytesLE : Nat → Nat → List Byte
  | 0, _ => []
  | n + 1, x => BitVec.ofNat 8 x :: bytesLE n (x / 256)

/-- The number that bytes spell, the least significant first. -/
def ofBytesLE : List Byte → Nat
  | [] => 0
  | b :: bs => b.toNat + 256 * ofBytesLE bs

end Sys2Proof.Machine

namespace Sys2Proof

open Machine

/-- A field of a descriptor's payload: byte offset 8 to 31, bit, width (02 R52). -/
def Desc.bits (d : Desc) (off bit w : Nat) : Nat := bitsOf d.pay.toNat (8 * (off - 8) + bit) w

/-- A one-bit field. -/
def Desc.flag (d : Desc) (off bit : Nat) : Bool := d.bits off bit 1 == 1

/-- A signed 32-bit field. -/
def Desc.s32 (d : Desc) (off : Nat) : Int := signed 32 (d.bits off 0 32)

/-- A signed 16-bit field. -/
def Desc.s16 (d : Desc) (off : Nat) : Int := signed 16 (d.bits off 0 16)

/-- A 32-bit field as a word. -/
def Desc.word (d : Desc) (off : Nat) : Word := BitVec.ofNat 32 (d.bits off 0 32)

/-- Payload bytes `off` to `off + n - 1`. -/
def Desc.bytes (d : Desc) (off n : Nat) : List Byte := bytesLE n (d.bits off 0 (8 * n))

end Sys2Proof

namespace Sys2Proof.Machine

/-! ## Byte memories -/

/-- The byte at an address: an unlisted address reads 0 (log entry 4, DESIGN CHOICE). -/
def memRead : Memory → Nat → Byte
  | [], _ => 0
  | c :: m, a => if c.1 = a then c.2 else memRead m a

/-- One byte written. The list stays in its canonical form: addresses rising, no byte 0 listed. -/
def memWrite : Memory → Nat → Byte → Memory
  | [], a, b => if b = 0 then [] else [(a, b)]
  | c :: m, a, b =>
    if a < c.1 then (if b = 0 then c :: m else (a, b) :: c :: m)
    else if a = c.1 then (if b = 0 then m else (a, b) :: m)
    else c :: memWrite m a b

/-- The canonical form of a memory. -/
abbrev Memory.wf (m : Memory) : Prop :=
  m.Pairwise (fun x y => x.1 < y.1) ∧ ∀ c ∈ m, c.2 ≠ 0

/-- A run of bytes written from `a` upward. -/
def memWriteBytes (m : Memory) (a : Nat) : List Byte → Memory
  | [] => m
  | b :: bs => memWriteBytes (memWrite m a b) (a + 1) bs

/-- `n` bytes read from `a` upward. -/
def memReadBytes (m : Memory) (a : Nat) : Nat → List Byte
  | 0 => []
  | n + 1 => memRead m a :: memReadBytes m (a + 1) n

/-! ## Functions, holds and enables -/

/-- The wake-table group of a function (16 R467), 8 for none. -/
def groupOf (f : Nat) : Nat :=
  if f = 5 then 1
  else if f = 3 ∨ f = 4 then 2
  else if f = 2 then 3
  else if (16 ≤ f ∧ f ≤ 21) ∨ f = 91 then 4
  else if 22 ≤ f ∧ f ≤ 29 then 5
  else if 30 ≤ f ∧ f ≤ 53 then 6
  else if f = 54 ∨ (58 ≤ f ∧ f ≤ 89) then 7
  else 8

/-- The engine whose hold is a hold of the function (01 R16, R14): SC for Saddle pairs and panel, LK0 to LK2 for the ports. -/
def engineOf (f : Nat) : Option Nat :=
  if (22 ≤ f ∧ f ≤ 29) ∨ f = 54 then some 15
  else if 58 ≤ f ∧ f ≤ 65 then some 12
  else if 66 ≤ f ∧ f ≤ 73 then some 13
  else if 74 ≤ f ∧ f ≤ 89 then some 14
  else none

/-- The hold bit of a function (16 R469). -/
def Dev.frstBit (s : Dev) (f : Nat) : Bool := s.power.frst.getLsbD f

/-- A function is held in reset: by its bit, with its engine (01 R16), or by a clock failure (01 R27). -/
def Dev.held (s : Dev) (f : Nat) : Bool :=
  s.frstBit f
    || (match engineOf f with
        | some e => s.frstBit e
        | none => false)
    || (groupOf f < 8 && s.power.clkHeld.getLsbD (groupOf f))

/-- The functions that are always enabled (19 R523). -/
def alwaysOn (f : Nat) : Bool := f ≤ 1 || (6 ≤ f && f ≤ 15) || (55 ≤ f && f ≤ 57)

/-- A function's enable (19 R523). -/
def Dev.enabled (s : Dev) (f : Nat) : Bool :=
  if alwaysOn f then true else if f = 90 then s.regs.attach else s.power.fen.getLsbD f

/-- The engines and every function that is not in a wake-table group stop from step 3 of the SLEEP sequence to the wake (16 R462). -/
def Dev.asleep (s : Dev) : Bool :=
  match s.power.sleep with
  | .none => false
  | .requested _ => s.power.sleepStopped
  | _ => true

/-- SLEEP or HIBERNATE is in effect, or VMAIN is not qualified: the host reaches nothing (19 R529, 20 R537). -/
def Dev.dark (s : Dev) : Bool :=
  s.power.vmainHold || (match s.power.sleep with
    | .asleep _ | .hibernating | .off => true
    | _ => false)

/-- A function is stopped by SLEEP, or waits for its delay of the wake table (16 R462, R466). -/
def Dev.stopped (s : Dev) (f : Nat) : Bool :=
  if groupOf f < 8 then s.power.groups.getLsbD (groupOf f) else (6 ≤ f && f ≤ 15 && s.asleep)

/-- FCLK and ECLK run on OCLK (19 R524): PLL-A has failed (01 R27), or has not locked again after a wake (16 R466). -/
def Dev.fallback (s : Dev) : Bool := s.power.pllaDown || s.power.xclkDown || (s.regs.ready && !s.power.pllaLock)

/-- A time in TCLK, measured to one ECLK (05 R145): ECLK is OCLK's 32 MHz in fallback (a period of 12.5 TCLK, of which a half is rounded
away), else 50 MHz in ECO and 400 MHz elsewhere (01 R25, R27). -/
def Dev.toEclk (s : Dev) (d : Nat) : Nat :=
  if s.fallback then d * 2 / 25 * 25 / 2 else if s.power.state = 1 then d / 8 * 8 else d

/-- A function works: enabled, not held, not stopped. -/
def Dev.active (s : Dev) (f : Nat) : Bool := s.enabled f && !s.held f && !s.stopped f

/-! ## Handles -/

/-- A handle from its LEVEL, KIND and INDEX (01 R30). -/
def mkHandle (level kind index : Nat) : Word := mkWord [(28, 4, level), (20, 8, kind), (0, 20, index)]

/-- The handle of a function (01 R31). -/
abbrev hFunc (f : Nat) : Word := mkHandle 5 2 f

/-- The controller's handle (01 R31). -/
abbrev hCtl : Word := 0x50100000

/-! ## Completions, events, free values -/

/-- The tick counter's low word (15 R441). -/
def Dev.tick (s : Dev) : Word := s.hollow.cnt.setWidth 32

/-- A completion comes about (02 R55). -/
def Dev.complete (s : Dev) (d : Desc) (st : Status) (res : DWord) (bulk : List (Nat × List Byte) := []) : Dev :=
  { s with done := s.done ++ [{ sq := d.sq, tag := d.tag, status := st, handle := d.handle, result := res,
                                notify := d.flags.getLsbD 1, member := d.member, bulk := bulk }] }

/-- A descriptor has executed. Of one whose completion has been given up only the bulk data go out (02 R74, R76). -/
def Dev.conclude (s : Dev) (ghost : Bool) (d : Desc) (st : Status) (res : DWord) (bulk : List (Nat × List Byte) := []) : Dev :=
  if !ghost then s.complete d st res bulk
  else if bulk.isEmpty then s
  else { s with done := s.done ++ [{ sq := d.sq, tag := d.tag, status := st, handle := d.handle, result := res, notify := false
                                     bulk, discard := true }] }

/-- An event is raised (02 R56). -/
def Dev.raise (s : Dev) (code : BitVec 16) (src : Nat) (handle arg : Word) (lost : Nat := 0) : Dev :=
  { s with raised := s.raised ++ [{ code, src, handle, arg, time := s.tick, lost }] }

/-- The next free value's number, and the device that has drawn it. -/
def Dev.draw (s : Dev) : Nat × Dev := (s.fresh, { s with fresh := s.fresh + 1 })

/-! ## Log records -/

/-- SEV in its numbering (02 R57). -/
def Sev.num : Sev → Nat
  | .alarm => 0 | .fault => 1 | .warn => 2 | .info => 3 | .trace => 4

/-- The severity's place among the five. -/
def Sev.fin : Sev → Fin 5
  | .alarm => 0 | .fault => 1 | .warn => 2 | .info => 3 | .trace => 4

/-- LINK in its numbering (02 R57). -/
def Link.num : Link → Nat
  | .none => 0 | .secondary => 1 | .supersedes => 2 | .summary => 3

/-- An occurrence to be recorded. -/
structure Occ where
  code : BitVec 11
  sev  : Sev
  link : Link := .none
  src  : Nat
  ref  : BitVec 16 := 0
  arg  : Word
  deriving DecidableEq, Repr, Inhabited

/-- An occurrence that coalescing never takes (17 R486): LOG_MARK, SUMMARY and records with SRC 56. -/
def Occ.single (o : Occ) : Bool := o.code == LG_HOST_MARK || o.link == .summary || o.src == 56

/-- An occurrence is identical to a stored record whose window is open (17 R486; in Floodplain mode WARN ignores ARG, R490). -/
def Occ.sameAs (flood : Bool) (o : Occ) (r : LogRec) : Bool :=
  r.open_ && r.src == o.src && r.code == o.code && r.sev == o.sev && r.link == o.link && r.ref == o.ref
    && (r.arg == o.arg || (flood && o.sev == .warn))

/-- The stored records of a severity. -/
def countSev (recs : List LogRec) (v : Sev) : Nat := recs.countP fun r => r.sev == v

/-- The oldest record of a severity taken out. -/
def dropOldest (recs : List LogRec) (v : Sev) : List LogRec := recs.eraseP fun r => r.sev == v

/-- The oldest ALARM that is not among the `n` oldest ALARMs taken out. -/
def dropAlarmAfter : Nat → List LogRec → List LogRec
  | _, [] => []
  | n, r :: rs =>
    if r.sev == .alarm then (match n with
      | 0 => rs
      | n + 1 => r :: dropAlarmAfter n rs)
    else r :: dropAlarmAfter n rs

/-- The stored records with room for a new one of severity `v`, by the table of 17 R485; none: the record is dropped. -/
def logRoom (recs : List LogRec) (v : Sev) : Option (List LogRec) :=
  if recs.length < 4096 then some recs
  else if countSev recs .trace > 0 then some (dropOldest recs .trace)
  else if v.num ≤ 3 && countSev recs .info > 0 then some (dropOldest recs .info)
  else if v.num ≤ 2 && countSev recs .warn > 0 then some (dropOldest recs .warn)
  else match v with
    | .alarm => some (if countSev recs .fault > 1024 then dropOldest recs .fault else dropOldest recs .alarm)
    | .fault =>
      some (if countSev recs .alarm > 512 && countSev recs .fault < 1024 then dropAlarmAfter 512 recs
            else dropOldest recs .fault)
    | _ => none

/-- The stored record with a number changed. -/
def Log.onRec (g : Log) (num : Nat) (f : LogRec → LogRec) : Log :=
  { g with recs := g.recs.map fun x => if x.num == num then f x else x }

/-- The window of a stored record closes (17 R486): a mirrored record with REPEAT > 0 is taken up for its closing copy, which
counts in IN (17 R487, R489). -/
def Log.close (g : Log) (r : LogRec) : Log :=
  let copy := r.mirrored && r.repeated > 0
  { g.onRec r.num fun x => { x with open_ := false } with
    mirrorQ := if copy then g.mirrorQ ++ [(r.num, true)] else g.mirrorQ
    inCnt := if copy then g.inCnt + 1 else g.inCnt }

/-- The window of the stored record with this SEQ whose window is open closes. -/
def Log.closeWindow (g : Log) (seq : BitVec 16) : Log :=
  match g.recs.find? (fun r => r.seq == seq && r.open_) with
  | none => g
  | some r => g.close r

/-- An occurrence joins a stored record: REPEAT increments, and the window closes when it reaches 255 (17 R486). -/
def Log.join (g : Log) (r : LogRec) : Log :=
  let f (x : LogRec) : LogRec := { x with repeated := x.repeated + 1 }
  let g := g.onRec r.num f
  if 255 ≤ (f r).repeated then g.close (f r) else g

/-- An occurrence is counted in its severity's drop counter; the flag says that the counter wrapped (17 R492). -/
def Log.dropOne (g : Log) (v : Sev) : Log × Bool :=
  let w := g.drops[v.fin.val] == 0xFFFFFFFF
  ({ g with drops := vmod g.drops v.fin (· + 1), wrap := if w then g.wrap.set v.fin.val true else g.wrap }, w)

/-- An occurrence is written to log RAM (17 R484 to R487, R490, R492), at tick `t`, with function 56 held or not. The answer is the
SEQ of the record that stands for it, if one does. `n` bounds the records of drop-counter wraps that one occurrence can entail. -/
def Log.put : Nat → Log → Bool → Word → Occ → Log × Option (BitVec 16)
  | n, g, held, t, o =>
    let lost : Log × Option (BitVec 16) :=
      let r := g.dropOne o.sev
      if r.2 then
        match n with
        | 0 => (r.1, none)
        | n + 1 => ((Log.put n r.1 held t { code := LG_LOG_DROP_WRAP, sev := .warn, src := 56,
                                             arg := BitVec.ofNat 32 o.sev.num }).1, none)
      else (r.1, none)
    if held then lost
    else if g.flood && o.sev.num ≥ 3 && !(o.src == 56 || o.code == LG_HOST_MARK) then
      let m := lost.1
      ((if o.sev == .trace then { m with supTrace := min 65535 (m.supTrace + 1) }
        else { m with supInfo := min 65535 (m.supInfo + 1) }), none)
    else
      match (if o.single then none else g.recs.find? (o.sameAs g.flood)) with
      | some r => (g.join r, some r.seq)
      | none =>
        match logRoom g.recs o.sev with
        | none => lost
        | some recs =>
          let mir := o.sev.num ≤ g.lqMin
          ({ g with
             recs := recs ++ [{ code := o.code, sev := o.sev, link := o.link, repeated := 0, src := o.src, num := g.count,
                                ref := o.ref, arg := o.arg, time := t, mirrored := mir }]
             count := g.count + 1
             inCnt := g.inCnt + 1
             mirrorQ := if mir then g.mirrorQ ++ [(g.count, false)] else g.mirrorQ }, some g.next)

/-- An occurrence is recorded. -/
def Dev.logPut (s : Dev) (o : Occ) : Dev × Option (BitVec 16) :=
  let r := s.log.put 2 (s.held 56) s.tick o
  ({ s with log := r.1 }, r.2)

/-- A record of INFO or TRACE, which is never an error (17 R480). -/
def Dev.note (s : Dev) (sev : Sev) (f : Nat) (code : BitVec 11) (arg : Word) : Dev :=
  (s.logPut { code, sev, src := f, arg }).1

/-- A record of INFO or TRACE whose ARG the manual does not give: a free value. -/
def Dev.noteOpen (s : Dev) (sev : Sev) (f : Nat) (code : BitVec 11) : Dev :=
  let a := s.draw
  a.2.note sev f code (Config.openArg a.1)

/-- An error of a source is recorded (17 R482): `src` is the source's handle, `f` its function. The flag says that the error is
raised, so that its event is raised and its policy runs. -/
def Dev.report (s : Dev) (src : Word) (f : Nat) (sev : Sev) (code : BitVec 11) (arg : Word) : Dev × Bool :=
  if s.held f then (s, false)
  else match s.log.errs.find? (fun e => e.source == src) with
    | none =>
      let r := s.logPut { code, sev, src := f, arg }
      ({ r.1 with log := { r.1.log with
          errs := r.1.log.errs ++ [{ source := src, func := f, cls := sev, curSeq := r.2, code }] } }, true)
    | some e =>
      let ref := e.curSeq.getD s.log.next
      if sev.num < e.cls.num then
        let r := s.logPut { code, sev, link := .supersedes, src := f, ref, arg }
        ({ r.1 with log := { r.1.log with
            errs := r.1.log.errs.map fun x =>
              if x.source == src then { x with cls := sev, curSeq := r.2, code := code } else x } }, true)
      else
        ((s.logPut { code, sev, link := .secondary, src := f, ref, arg }).1, false)

/-- An error with its event, which is raised only when the error is (17 R482). -/
def Dev.reportEv (s : Dev) (src : Word) (f : Nat) (sev : Sev) (code : BitVec 11) (arg : Word)
    (ev : BitVec 16) (handle evArg : Word) : Dev :=
  let r := s.report src f sev code arg
  if r.2 then r.1.raise ev f handle evArg else r.1

/-- An error whose ARG the manual does not give: a free value. -/
def Dev.reportOpen (s : Dev) (src : Word) (f : Nat) (sev : Sev) (code : BitVec 11) : Dev :=
  let a := s.draw
  (a.2.report src f sev code (Config.openArg a.1)).1

/-- A source is HANDLING an error (17 R481). -/
def Dev.handling (s : Dev) (src : Word) : Bool := s.log.errs.any fun e => e.source == src

/-- The handling of a source ends (17 R483). -/
def Dev.endErr (s : Dev) (src : Word) : Dev :=
  { s with log := { s.log with errs := s.log.errs.filter fun e => e.source != src } }

/-- The handling of a source ends if it is of one of these codes (17 R483). -/
def Dev.endErrOf (s : Dev) (src : Word) (codes : List (BitVec 11)) : Dev :=
  { s with log := { s.log with errs := s.log.errs.filter fun e => !(e.source == src && codes.contains e.code) } }

/-- Every source of a function returns to IDLE, as on a hold (16 R470). -/
def Dev.endFunc (s : Dev) (f : Nat) : Dev :=
  { s with log := { s.log with errs := s.log.errs.filter fun e => e.func != f } }

/-- The error of a source that is being handled. -/
def Dev.errOf (s : Dev) (src : Word) : Option ErrState := s.log.errs.find? fun e => e.source == src

/-! ## The end of a descriptor that waits -/

/-- The NV store's handle (18). -/
abbrev hNv : Word := 0x50200039

/-- A descriptor of an image that does not complete with ST_OK is logged (18 R507, R516), with its bank and its index. -/
def Dev.imageBad (s : Dev) (bank i : Nat) : Dev :=
  (s.report hNv 57 .warn LG_NV_BANK_BAD (mkWord [(0, 1, bank), (8, 8, 3), (16, 16, i)])).1

/-- A dispatched descriptor ends. The completion of one that stands in an image is given up from the start (18 R507), but not its failure. -/
def Dev.ends (s : Dev) (q : QDesc) (st : Status) (res : DWord) (bulk : List (Nat × List Byte) := []) : Dev :=
  match q.ghost, q.img with
  | true, some x => if st = .ok then s else s.imageBad x.1 x.2
  | ghost, _ => s.conclude ghost q.d st res bulk

/-- A descriptor that executes and waits ends. -/
def Dev.finish (s : Dev) (op : Nat) (d : Desc) (st : Status) (res : DWord)
    (bulk : List (Nat × List Byte) := []) : Dev :=
  let q := (s.waits.find? fun q => q.op == op && q.d == d).getD { op, d }
  let s := { s with waits := s.waits.eraseP fun q => q.op == op && q.d == d }
  s.ends q st res bulk

/-- Every descriptor of an opcode that waits at a handle completes. -/
def Dev.finishAll (s : Dev) (op : Nat) (h : Word) (st : Status) : Dev :=
  (s.waits.filter fun q => q.op == op && q.d.handle == h).foldl (fun s q => s.finish op q.d st 0) s

end Sys2Proof.Machine
end

