-- ==== Sys2Proof/Machine/Operands.lean ====
section
/-! DEFINITION. The operands of descriptors: object handles (01 R30, R31), the checks of 01 R32, bulk buffers (02 R53), and the
frame in which every opcode executes. -/

namespace Sys2Proof.Machine

/-- The object a valid handle names (01 R31). -/
inductive Obj where
  | convResult (c : Fin 3) (i : Fin 64)
  | loopTarget (n : Fin 144)
  | loopOutput (n : Fin 144)
  | duty (c : Fin 48)
  | sbValue (p : Fin 8) (e : Fin 32)
  | valeValue (p : Fin 16) (slot item : Fin 32)
  | tach (n : Fin 12)
  | encCount (n : Fin 8)
  | position (n : Fin 12)
  | bbValue (p : Fin 8) (e : Fin 64)
  | convInput (c : Fin 3) (i : Fin 64)
  | pwm (c : Fin 48)
  | valve (c : Fin 16)
  | pair (k : Fin 8)
  | fan (n : Fin 12)
  | damper (n : Fin 12)
  | valePort (p : Fin 16)
  | bbPort (p : Fin 8)
  | sbPort (p : Fin 8)
  | trip (t : Fin 8)
  | encoder (n : Fin 8)
  | key (k : Fin 192)
  | wakePin (w : Fin 4)
  | angleEvent (e : Fin 256)
  | bank (b : Fin 6)
  | loop (n : Fin 144)
  | zone (z : Fin 16)
  | exDate (e : Fin 32)
  | controller
  | function (f : Fin 92)
  | engine (e : Fin 12)
  | ring (r : Fin 34)
  | valeSegment (p : Fin 16)
  | bbSegment (p : Fin 8)
  | satellite (p : Fin 16) (slot : Fin 32)
  | bbPeer (p : Fin 8) (a : Fin 255)
  deriving DecidableEq, Repr

/-- A converter and one of its inputs: FA 0 to 15, PA 0 to 31, internal channels 48 to 55 (01 R31). -/
def convOf (i : Nat) : Option (Fin 3 × Fin 64) :=
  let c := i / 64
  let n := i % 64
  if c < 3 ∧ ((c < 2 ∧ n < 16) ∨ (c = 2 ∧ n < 32) ∨ (48 ≤ n ∧ n ≤ 55)) then some (ix 2 c, ix 63 n) else none

/-- The object of a handle: none if the handle is not valid under 01 R30 and R31. -/
def objOf (h : Word) : Option Obj :=
  let l := bitsOf h.toNat 28 4
  let k := bitsOf h.toNat 20 8
  let i := bitsOf h.toNat 0 20
  match l, k with
  | 1, 0x01 => (convOf i).map fun x => .convResult x.1 x.2
  | 1, 0x02 => if i < 144 then some (.loopTarget (ix 143 i)) else none
  | 1, 0x03 => if i < 144 then some (.loopOutput (ix 143 i)) else none
  | 1, 0x04 => if i < 48 then some (.duty (ix 47 i)) else none
  | 1, 0x05 => if i < 256 then some (.sbValue (ix 7 (i / 32)) (ix 31 i)) else none
  | 1, 0x06 => if i < 16384 then some (.valeValue (ix 15 (i / 1024)) (ix 31 (i / 32)) (ix 31 i)) else none
  | 1, 0x07 => if i < 12 then some (.tach (ix 11 i)) else none
  | 1, 0x08 => if i < 8 then some (.encCount (ix 7 i)) else none
  | 1, 0x09 => if i < 12 then some (.position (ix 11 i)) else none
  | 1, 0x0A => if i < 524288 ∧ i % 65536 < 64 then some (.bbValue (ix 7 (i / 65536)) (ix 63 i)) else none
  | 2, 0x01 => (convOf i).map fun x => .convInput x.1 x.2
  | 2, 0x02 => if i < 48 then some (.pwm (ix 47 i)) else none
  | 2, 0x03 => if i < 16 then some (.valve (ix 15 i)) else none
  | 2, 0x04 => if i < 8 then some (.pair (ix 7 i)) else none
  | 2, 0x05 => if i < 12 then some (.fan (ix 11 i)) else none
  | 2, 0x06 => if i < 12 then some (.damper (ix 11 i)) else none
  | 2, 0x07 => if i < 16 then some (.valePort (ix 15 i)) else none
  | 2, 0x08 => if i < 8 then some (.bbPort (ix 7 i)) else none
  | 2, 0x09 => if i < 8 then some (.sbPort (ix 7 i)) else none
  | 2, 0x0A => if i < 8 then some (.trip (ix 7 i)) else none
  | 2, 0x0B => if i < 8 then some (.encoder (ix 7 i)) else none
  | 2, 0x0C => if i < 192 then some (.key (ix 191 i)) else none
  | 2, 0x0D => if i < 4 then some (.wakePin (ix 3 i)) else none
  | 2, 0x0E => if i < 256 then some (.angleEvent (ix 255 i)) else none
  | 2, 0x0F => if i < 6 then some (.bank (ix 5 i)) else none
  | 3, 0x01 => if i < 144 then some (.loop (ix 143 i)) else none
  | 4, 0x01 => if i < 16 then some (.zone (ix 15 i)) else none
  | 4, 0x02 => if i < 32 then some (.exDate (ix 31 i)) else none
  | 5, 0x01 => if i = 0 then some .controller else none
  | 5, 0x02 => if i < 92 then some (.function (ix 91 i)) else none
  | 5, 0x03 => if i < 12 then some (.engine (ix 11 i)) else none
  | 5, 0x04 => if i < 34 then some (.ring (ix 33 i)) else none
  | 6, 0x01 => if i < 16 then some (.valeSegment (ix 15 i)) else none
  | 6, 0x02 => if i < 8 then some (.bbSegment (ix 7 i)) else none
  | 6, 0x03 => if i < 512 then some (.satellite (ix 15 (i / 32)) (ix 31 i)) else none
  | 6, 0x04 => if i < 2048 ∧ i % 256 < 255 then some (.bbPeer (ix 7 (i / 256)) (ix 254 i)) else none
  | _, _ => none

/-- The function ID of an engine by its number (01 R14). -/
def engineFunc (e : Nat) : Nat := if e = 0 then 1 else if e = 1 then 0 else e + 4

/-- The function that serves an object (01 R14 to R16, 16 R469). -/
def Obj.func : Obj → Nat
  | .convResult c _ | .convInput c _ => 3 + c.val
  | .loopTarget n | .loopOutput n | .loop n => 6 + n.val / 24
  | .duty c | .pwm c => 16 + c.val / 8
  | .bank b => 16 + b.val
  | .sbValue p _ | .sbPort p => 82 + p.val
  | .valeValue p _ _ | .valePort p | .valeSegment p | .satellite p _ => 66 + p.val
  | .bbValue p _ | .bbPort p | .bbSegment p | .bbPeer p _ => 58 + p.val
  | .tach n | .fan n => 30 + n.val
  | .position n | .damper n => 42 + n.val
  | .encCount _ | .encoder _ | .key _ => 54
  | .valve c => 22 + c.val / 2
  | .pair k => 22 + k.val
  | .trip _ => 91
  | .wakePin _ | .controller => 0
  | .angleEvent _ => 2
  | .zone _ | .exDate _ => 15
  | .function f => f.val
  | .engine e => engineFunc e.val
  | .ring _ => 1

/-- The kinds of handle that the opcodes accept (14 R423 to R438). -/
inductive Accept where
  | controller | timebase | angleEvent | convFunc | convInput | convResult | loop | zone | exDate | pwm | bank | trip | valve | pair
  | fan | damper | panel | encoder | valePort | valeValue | satellite | bbPort | bbValue | sbPort | sbValue | hollow | log
  | errorSource | engine | function | nv
  deriving DecidableEq, Repr

/-- An object is of the level and kind accepted. -/
def Accept.takes : Accept → Obj → Bool
  | .controller, .controller => true
  | .timebase, .function f => f.val == 2
  | .angleEvent, .angleEvent _ => true
  | .convFunc, .function f => 3 ≤ f.val && f.val ≤ 5
  | .convInput, .convInput _ _ => true
  | .convResult, .convResult _ _ => true
  | .loop, .loop _ => true
  | .zone, .zone _ => true
  | .exDate, .exDate _ => true
  | .pwm, .pwm _ => true
  | .bank, .bank _ => true
  | .trip, .trip _ => true
  | .valve, .valve _ => true
  | .pair, .pair _ => true
  | .fan, .fan _ => true
  | .damper, .damper _ => true
  | .panel, .function f => f.val == 54
  | .encoder, .encoder _ => true
  | .valePort, .valePort _ => true
  | .valeValue, .valeValue _ _ _ => true
  | .satellite, .satellite _ _ => true
  | .bbPort, .bbPort _ => true
  | .bbValue, .bbValue _ _ => true
  | .sbPort, .sbPort _ => true
  | .sbValue, .sbValue _ _ => true
  | .hollow, .function f => f.val == 55
  | .log, .function f => f.val == 56
  | .nv, .function f => f.val == 57
  | .engine, .engine _ => true
  | .function, .function _ => true
  | .errorSource, .function _ => true
  | .errorSource, .loop _ => true
  | .errorSource, .zone _ => true
  | .errorSource, .pwm _ => true
  | .errorSource, .bank _ => true
  | .errorSource, .valve _ => true
  | .errorSource, .pair _ => true
  | .errorSource, .fan _ => true
  | .errorSource, .damper _ => true
  | .errorSource, .valePort _ => true
  | .errorSource, .bbPort _ => true
  | .errorSource, .sbPort _ => true
  | _, _ => false

/-- What the checks of 01 R32 need to know of an opcode: its number, the handles it accepts, the payload fields (byte offset, bit,
width) that are not reserved, the function that serves it where that is not its object's (14 R436, R437), and whether it needs the
function's enable. -/
structure OpInfo where
  op      : Nat
  accepts : Accept
  fields  : List (Nat × Nat × Nat) := []
  func    : Option Nat := none
  needsEn : Bool := false
  deriving DecidableEq, Repr

/-- The function of an opcode and the object it names. -/
def OpInfo.funcOf (i : OpInfo) (o : Obj) : Nat := i.func.getD o.func

/-- The payload bits of a list of fields. -/
def fieldMask (fs : List (Nat × Nat × Nat)) : BitVec 192 :=
  fs.foldl (fun m f => m ||| BitVec.ofNat 192 ((2 ^ f.2.2 - 1) * 2 ^ (8 * (f.1 - 8) + f.2.1))) 0

/-- The payload bits that an opcode uses. -/
def OpInfo.mask (i : OpInfo) : BitVec 192 := fieldMask i.fields

/-- The payload bits that are not reserved in a descriptor (00 R7): ZONE_OUTPUT's gain and offset belong to SEL 3 alone (06 R189). -/
def OpInfo.maskFor (i : OpInfo) (d : Desc) : BitVec 192 :=
  if i.op = 0x43 ∧ d.bits 8 0 2 ≠ 3 then i.mask &&& ~~~ fieldMask [(16, 0, 64)] else i.mask

/-- The bulk form of 02 R53: ADDR, LEN; the opcode adds its ARGS. -/
abbrev bulkFields : List (Nat × Nat × Nat) := [(8, 0, 96)]

/-- The opcodes that act in recovery (18 R511); SYS_RING_RESYNC in an SQ gets its ST_CONFLICT there too (14 R423). -/
def recoveryOps : List Nat := [0x01, 0x0F, 0xF2, 0xF3]

/-- Checks 2 to 5 of 01 R32 in their order, check 1 being that the opcode is one of the catalogue's; `waive` waives check 5
(18 R507). Check 5 is the function's enable; what else an object must be is the opcode's own. In recovery every other opcode is
disabled (18 R511). -/
def Dev.opCheck (s : Dev) (i : OpInfo) (d : Desc) : Except Status Obj :=
  if s.regs.recovery ∧ !recoveryOps.contains i.op then .error .disabled
  else if d.pay &&& ~~~ i.maskFor d ≠ 0 ∨ d.flags.extractLsb' 4 4 ≠ 0 then .error .range
  else match objOf d.handle with
    | none => .error .badHandle
    | some o =>
      if !i.accepts.takes o then .error .badHandle
      else if s.held (i.funcOf o) then .error .inReset
      else if i.needsEn && !s.loading && !s.enabled (i.funcOf o) then .error .disabled
      else .ok o

/-- How an opcode's execution ends: with a status, RESULT and bulk data to be written before the completion; waiting; or waiting
for the bulk data it must read first (02 R53, R55). -/
inductive Res where
  | done (st : Status) (res : DWord := 0) (bulk : List (Nat × List Byte) := [])
  | wait
  | read
  deriving DecidableEq, Repr

/-- Executed with ST_OK and RESULT 0. -/
abbrev Res.ok : Res := .done .ok

/-- The function for which a descriptor queues (02 R60; 14 R436 for PWR_FRESET, R437 for LOG_ACK). -/
def queueFunc (op : Nat) (h : Word) : Nat :=
  if op = 0xD3 then 0 else if op = 0xE2 then 56 else
  match objOf h with
  | some o => o.func
  | none => 92

/-- A descriptor does not execute now: the device is off or held in reset (16 R462, 20 R537), or it stands behind another of its function: in
the queue, or behind one of its own SQ that waits for the bulk data it reads (02 R60). -/
def Dev.behind (s : Dev) (op : Nat) (d : Desc) : Bool :=
  s.dark
  || (match s.fq.find? (fun q => queueFunc q.op q.d.handle == queueFunc op d.handle) with
    | none => false
    | some q => !(q.op == op && q.d == d) && s.fq.any fun x => x.op == op && x.d == d)
  || s.bulk.any fun q => q.d.sq == d.sq && queueFunc q.op q.d.handle == queueFunc op d.handle

/-- A descriptor executes at its function. One that is queued there behind another waits for its turn (02 R60); otherwise it leaves
the queue, is checked (01 R32) and acts. -/
def Dev.runDesc (s : Dev) (i : OpInfo) (d : Desc) (body : Obj → Dev → Dev × Res) : Dev :=
  if s.behind i.op d then s
  else
    let ghost := s.fq.any fun q => q.op == i.op && q.d == d && q.ghost
    let s := { s with fq := s.fq.eraseP fun q => q.op == i.op && q.d == d }
    match s.opCheck i d with
    | .error st => if ghost then s else s.complete d st 0
    | .ok o =>
      let r := body o s
      match r.2 with
      | .done st res bulk => r.1.conclude ghost d st res bulk
      | .wait => { r.1 with waits := r.1.waits ++ [{ op := i.op, d, ghost }] }
      | .read => { r.1 with bulk := r.1.bulk ++ [{ op := i.op, d, ghost }] }

/-- ADDR of the bulk form (02 R53). -/
def bulkAddr (d : Desc) : Nat := d.bits 8 0 64

/-- LEN of the bulk form. -/
def bulkLen (d : Desc) : Nat := d.bits 16 0 32

/-- A bulk buffer is acceptable (02 R53): ADDR aligned, LEN 1 to 65 536, in Quad-SPI attachment inside the ring window. -/
def Dev.bulkOk (s : Dev) (d : Desc) : Bool :=
  bulkAddr d % 4 == 0 && 1 ≤ bulkLen d && bulkLen d ≤ 65536
    && (!s.regs.attach || (0x020000 ≤ bulkAddr d && bulkAddr d + bulkLen d ≤ 0x040000))

/-- An opcode that cannot execute completes with a status and changes nothing (01 R32). -/
def refuse (s : Dev) (st : Status) : Dev × Res := (s, .done st)

/-- The state after a change of the device alone. -/
def State.onDev (s : State) (f : Dev → Dev) : State := { s with dev := f s.dev }

/-- A descriptor's row: its opcode runs on the device. -/
def State.desc (s : State) (i : OpInfo) (d : Desc) (body : Obj → Dev → Dev × Res) : State :=
  s.onDev fun v => v.runDesc i d body

end Sys2Proof.Machine
end

