-- ==== Sys2Proof/Machine/BbMstp.lean ====
section
/-! DEFINITION. The building-bus ports as BACnet MS/TP masters: delivery to BB_RECV, the node's state machine, data frames, segmented
sends and reassembly (13_building_bus.md). What the manual leaves to the standard's master state machine follows ANSI/ASHRAE 135
(PRESUMED, log entry 40). -/

namespace Sys2Proof.Machine

/-! ## Handles and access -/

/-- The function of a building-bus port (13 R374). -/
abbrev bbFunc (p : Fin 8) : Nat := 58 + p.val

/-- The handle of a building-bus port (13 R374), the source of its errors (13 R416). -/
abbrev hBb (p : Fin 8) : Word := mkHandle 2 0x08 p.val

/-- The handle of a station (13 R374). -/
abbrev hPeer (p : Fin 8) (a : Nat) : Word := mkHandle 6 0x04 (256 * p.val + a)

/-- The handle of a polled value (13 R374). -/
abbrev hBbVal (p : Fin 8) (e : Fin 64) : Word := mkHandle 1 0x0A (65536 * p.val + e.val)

/-- A change of a port. -/
def Dev.onBb (s : Dev) (p : Fin 8) (f : BbPort → BbPort) : Dev := { s with bbs := vmod s.bbs p f }

/-- A port. -/
abbrev Dev.bb (s : Dev) (p : Fin 8) : BbPort := s.bbs[p.val]

/-- A port of a working function runs its protocol, RUNNING or DUP_HOLD (13 R377). -/
def Dev.bbUp (s : Dev) (p : Fin 8) : Bool := s.active (bbFunc p) && (s.bb p).state != 0

/-- A port changes its state (13 R377, R416). -/
def Dev.bbGo (s : Dev) (p : Fin 8) (st : Nat) : Dev :=
  let b := s.bb p
  if b.state = st then s
  else (s.onBb p fun b => { b with state := st }).raise EV_BB_PORT (bbFunc p) (hBb p) (mkWord [(0, 2, st), (4, 2, b.state)])

/-! ## Delivery (13 R384, R398) -/

/-- RESULT of a BB_RECV that a frame fills (13 R398). -/
def bbInResult (d : Desc) (x : BbIn) : DWord :=
  mkRes [(8, 0, 16, min x.data.length (bulkLen d)), (10, 0, 8, x.src.toNat), (11, 0, 8, x.ftype.toNat), (12, 0, 8, x.req.toNat),
    (13, 0, 1, x.seg.toNat), (13, 1, 1, x.reply.isSome.toNat), (13, 2, 1, decide (bulkLen d < x.data.length) |>.toNat),
    (14, 0, 16, (x.reply.getD 0).toNat)]

/-- A received frame in a posted buffer: cut to the buffer, with its RESULT (13 R384, R398). -/
def Dev.bbFillBuf (s : Dev) (d : Desc) (x : BbIn) : Dev :=
  s.finish 0xA4 d .ok (bbInResult d x) [(bulkAddr d, x.data.take (bulkLen d))]

/-- A frame is delivered: to the first posted buffer, or held, or dropped (13 R384). -/
def Dev.bbDeliver (s : Dev) (p : Fin 8) (x : BbIn) : Dev :=
  let b := s.bb p
  match b.posted with
  | d :: rest => (s.onBb p fun b => { b with posted := rest, dropLogged := false }).bbFillBuf d x
  | [] =>
    if b.held.length < 8 then s.onBb p fun b => { b with held := b.held ++ [x], dropLogged := false }
    else
      let s := s.onBb p fun b => { b with rxdrop := b.rxdrop + 1, rxSeen := true, dropLogged := true }
      if b.dropLogged then s else (s.report (hBb p) (bbFunc p) .warn LG_BB_RXDROP (b.rxdrop + 1)).1

/-! ## Frames on the wire (13 R378) -/

/-- One bit of the header CRC-8 of MS/TP: x⁸ + x⁷ + 1, least significant bit first (ANSI/ASHRAE 135, PRESUMED, log entry 40). -/
def hdrCrcBit (c : Byte) : Byte := if c.getLsbD 0 then (c >>> 1) ^^^ 0x81 else c >>> 1

/-- One octet. -/
def hdrCrcByte (c b : Byte) : Byte :=
  hdrCrcBit (hdrCrcBit (hdrCrcBit (hdrCrcBit (hdrCrcBit (hdrCrcBit (hdrCrcBit (hdrCrcBit (c ^^^ b))))))))

/-- The header CRC-8 as it is sent: from 0xFF, inverted. -/
def hdrCrc (bs : List Byte) : Byte := ~~~ bs.foldl hdrCrcByte 0xFF

/-- One bit of the data CRC-16 of MS/TP: x¹⁶ + x¹² + x⁵ + 1, least significant bit first (ANSI/ASHRAE 135, PRESUMED, log entry 40). -/
def datCrcBit (c : BitVec 16) : BitVec 16 := if c.getLsbD 0 then (c >>> 1) ^^^ 0x8408 else c >>> 1

/-- One octet. -/
def datCrcByte (c : BitVec 16) (b : Byte) : BitVec 16 :=
  datCrcBit (datCrcBit (datCrcBit (datCrcBit (datCrcBit (datCrcBit (datCrcBit (datCrcBit (c ^^^ b.setWidth 16))))))))

/-- The data CRC-16 as it is sent: from 0xFFFF, inverted. -/
def datCrc (bs : List Byte) : BitVec 16 := ~~~ bs.foldl datCrcByte 0xFFFF

/-- A frame's octets (13 R378): preamble, type, destination, source, length high byte first, header CRC; then the data, if there are any,
with their CRC low byte first. -/
def mstpFrame (type dst src : Byte) (data : List Byte) : List Byte :=
  let h := [type, dst, src, BitVec.ofNat 8 (data.length / 256), BitVec.ofNat 8 data.length]
  [0x55, 0xFF] ++ h ++ [hdrCrc h] ++ (if data.isEmpty then [] else data ++ bytesLE 2 (datCrc data).toNat)

/-- The octets that a port puts on the line for a transmission (13 R378, R388, R392): in MS/TP as a frame from TS. -/
def BbTx.octets (ts : Byte) : BbTx → List Byte
  | .token dst => mstpFrame 0 dst ts []
  | .pfm dst => mstpFrame 1 dst ts []
  | .rpfm dst => mstpFrame 2 dst ts []
  | .testRsp dst data => mstpFrame 4 dst ts data
  | .postponed dst => mstpFrame 7 dst ts []
  | .frame f => mstpFrame (if f.expect then 5 else 6) f.dst ts f.data
  | .answer f => mstpFrame 6 f.dst ts f.data
  | .raw _ data => data

/-- What a port has on its line (13 R376). -/
def BbPort.line (b : BbPort) : List Byte :=
  match b.tx with
  | none => []
  | some t => t.octets (BitVec.ofNat 8 b.ts)

/-! ## The node -/

/-- The next station after `a`, up to NMAX_MASTER. -/
def BbPort.after (b : BbPort) (a : Nat) : Nat := (a + 1) % (b.nmaxMaster + 1)

/-- NS changes (13 R381, R416). -/
def Dev.bbSetNs (s : Dev) (p : Fin 8) (ns : Nat) : Dev :=
  let old := (s.bb p).ns
  if ns = old then s
  else (s.onBb p fun b => { b with ns }).raise EV_BB_PEER (bbFunc p) (hPeer p ns) (mkWord [(0, 7, ns), (8, 7, old)])

/-- A transmission starts: DE goes high (13 R376). -/
def Dev.bbSendTx (s : Dev) (p : Fin 8) (t : BbTx) : Dev := s.onBb p fun b => { b with tx := some t }

/-- Poll For Master to a station (13 R380, R381). -/
def Dev.bbPoll (s : Dev) (p : Fin 8) (a : Nat) : Dev :=
  (s.onBb p fun b => { b with ps := a, node := .poll, passTries := 0 }).bbSendTx p (.pfm (BitVec.ofNat 8 a))

/-- The token goes to NS (13 R380). -/
def Dev.bbPass (s : Dev) (p : Fin 8) (tries : Nat) : Dev :=
  (s.onBb p fun b => { b with node := .passToken, passTries := tries }).bbSendTx p (.token (BitVec.ofNat 8 (s.bb p).ns))

/-- DONE_WITH_TOKEN (13 R380, R381): a node that has no successor yet and is not sole seeks one from TS + 1 on (NextStationUnknown of the
standard, PRESUMED, log entry 40); at every Npoll-th use one station between PS and NS is polled, otherwise the token is passed. A sole
master keeps it; with nothing to send its uses pass at once, until it polls. The end of the poll starts the count over. -/
def Dev.bbDone (s : Dev) (p : Fin 8) : Dev :=
  let b := s.bb p
  let due : Bool := decide (49 ≤ b.tokens) || b.sole
  if !b.sole ∧ b.ns = b.ts then s.bbPoll p (b.after b.ts)
  else if !due then (s.onBb p fun b => { b with tokens := b.tokens + 1 }).bbPass p 0
  else
    let next := b.after b.ps
    if next ≠ b.ns then s.bbPoll p next
    else if b.sole then s.bbPoll p (b.after b.ns)
    else (s.onBb p fun b => { b with ps := b.ts, tokens := 0 }).bbPass p 0

/-- USE_TOKEN (13 R380): the next queued frame, up to NMAX_INFO of them; then DONE_WITH_TOKEN. -/
def Dev.bbUse (s : Dev) (p : Fin 8) : Dev :=
  let b := s.bb p
  let more (s : Dev) (f : BbOut) (rest : List BbOut) (sent : Nat) : Dev :=
    (s.onBb p fun b => { b with queue := rest, sent, node := .useToken, expect := none }).bbSendTx p (.frame f)
  match b.queue with
  | [] => (s.onBb p fun b => { b with node := .doneWithToken, expect := none }).bbDone p
  | f :: rest =>
    if b.sent < b.nmaxInfo then more s f rest (b.sent + 1)
    else if b.sole ∧ b.tokens < 49 then more (s.onBb p fun b => { b with tokens := b.tokens + 1 }) f rest 1
    else (s.onBb p fun b => { b with node := .doneWithToken, expect := none }).bbDone p

/-- INITIALIZE, then IDLE (13 R380). -/
def Dev.bbInit (s : Dev) (p : Fin 8) : Dev :=
  (s.onBb p fun b => { b with node := .idle, ps := b.ts, tokens := 0, sent := 0, passTries := 0, sole := false, expect := none
                              ans := none, tx := none }).bbSetNs p (s.bb p).ts

/-- Tno_token + Tslot × TS of silence in IDLE (13 R380, R381): through NO_TOKEN, which generates the token, to POLL_FOR_MASTER within one
instant, as in the example of 13 R387 (log entry 40). -/
def Dev.bbNoToken (s : Dev) (p : Fin 8) : Dev :=
  let b := s.bb p
  if !s.bbUp p ∨ b.mode ≠ 0 ∨ b.state ≠ 1 ∨ b.node ≠ .idle ∨ b.tx.isSome then s
  else
    let s := s.onBb p fun b => { b with node := .noToken, tokenLost := b.tokenLost + 1, tokSeen := true, tokens := 0
                                        sole := false }
    let s := (s.report (hBb p) (bbFunc p) .warn LG_BB_TOKEN_LOST (mkWord [(0, 16, (s.bb p).tokenLost.toNat)])).1
    (s.bbSetNs p b.ts).bbPoll p (b.after b.ts)

/-- T_USAGE has passed (13 R380, R381): the token is repeated once, then a new successor is sought; a station that does not answer a poll
is passed over, and the token is passed until the next Npoll-th use. -/
def Dev.bbUsage (s : Dev) (p : Fin 8) : Dev :=
  let b := s.bb p
  if !s.bbUp p ∨ b.state ≠ 1 ∨ b.tx.isSome then s
  else match b.node with
    | .passToken =>
      if b.passTries < 1 then s.bbPass p (b.passTries + 1)
      else
        let s := (s.report (hBb p) (bbFunc p) .warn LG_BB_NS_LOST (mkWord [(0, 7, b.ns)])).1
        let next := if b.after b.ns = b.ts then b.after b.ts else b.after b.ns
        ((s.onBb p fun b => { b with tokens := 0 }).bbSetNs p b.ts).bbPoll p next
    | .poll =>
      if b.sole then (s.onBb p fun b => { b with sent := 0, tokens := 0 }).bbUse p
      else if b.ns ≠ b.ts then (s.onBb p fun b => { b with tokens := 0 }).bbPass p 0
      else if b.after b.ps ≠ b.ts then s.bbPoll p (b.after b.ps)
      else
        ((s.onBb p fun b => { b with sole := true, sent := 0, tokens := 0 }).note .info (bbFunc p) LG_BB_SOLE 0).bbUse p
    | _ => s

/-- A frame of the node's own address has been received (13 R382). -/
def Dev.bbDup (s : Dev) (p : Fin 8) : Dev :=
  let b := s.bb p
  let recent := b.dups.filter fun t => s.now < t + 4000000000
  let hold : Bool := decide (b.state = 1) && decide (2 ≤ recent.length)
  let s := s.onBb p fun b => { b with dupSeen := true, dups := (recent ++ [s.now]).drop (recent.length - 2) }
  let arg := mkWord [(0, 1, hold.toNat)]
  let s := s.reportEv (hBb p) (bbFunc p) .fault LG_BB_DUP_ADDR arg EV_BB_FAULT (hBb p) arg
  if !hold then s
  else
    let q := (s.bb p).queue
    let segs := (s.bb p).segs
    let s := (s.onBb p fun b => { b with queue := [], segs := [], expect := none, ans := none, node := .idle, tx := none, sole := false }).bbGo p 2
    let s := q.foldl (fun s f => match f.d with
      | some d => if f.seg then s else s.finish 0xA3 d .conflict 0
      | none => s) s
    let s := match b.expect with
      | some (f, _) => (match f.d with
        | some d => if f.seg then s else s.finish 0xA3 d .conflict 0
        | none => s)
      | none => s
    segs.foldl (fun s g => s.finish 0xA5 g.d .conflict 0) s

/-- A valid frame is seen (13 R380, R382): not while DE is high; it shows that a successor uses its token, or that a poll or a wait has
been overtaken. The flag says that the frame is for the device. -/
def Dev.bbSee (s : Dev) (p : Fin 8) (src dst : Byte) : Dev × Bool :=
  let b := s.bb p
  if !s.bbUp p ∨ b.mode ≠ 0 ∨ b.tx.isSome then (s, false)
  else
    let s := if src.toNat = b.ts then s.bbDup p else s
    let s := if (s.bb p).node = .passToken then s.onBb p fun b => { b with node := .idle } else s
    (s, dst.toNat == b.ts || dst == 255)

/-- A frame that a poll or a wait did not expect: the token is dropped (13 R380). -/
def Dev.bbOvertaken (s : Dev) (p : Fin 8) : Dev :=
  let b := s.bb p
  match b.node with
  | .poll => s.onBb p fun b => { b with node := .idle }
  | .waitReply =>
    let s := s.onBb p fun b => { b with node := .idle, expect := none }
    (match b.expect with
     | some (f, _) => (match f.d with
       | some d => if f.seg then s else s.finish 0xA3 d .timeout 0
       | none => s)
     | none => s)
  | _ => s

/-- Token (13 R380). -/
def Dev.bbToken (s : Dev) (p : Fin 8) (src dst : Byte) : Dev :=
  let r := s.bbSee p src dst
  let s := r.1
  if !s.bbUp p ∨ (s.bb p).mode ≠ 0 ∨ (s.bb p).tx.isSome then s
  else
    let s := s.bbOvertaken p
    if r.2 ∧ dst ≠ 255 ∧ (s.bb p).state = 1 ∧ (s.bb p).node = .idle then
      (s.onBb p fun b => { b with sent := 0, sole := false }).bbUse p
    else s

/-- Poll For Master or Test_Request: answered in IDLE (13 R378, R380). -/
def Dev.bbAsk (s : Dev) (p : Fin 8) (src dst : Byte) (t : BbTx) : Dev :=
  let r := s.bbSee p src dst
  let s := r.1
  if !s.bbUp p ∨ (s.bb p).mode ≠ 0 ∨ (s.bb p).tx.isSome then s
  else
    let s := s.bbOvertaken p
    if r.2 ∧ dst ≠ 255 ∧ (s.bb p).state = 1 ∧ (s.bb p).node = .idle then s.bbSendTx p t else s

/-- Reply To Poll For Master (13 R378, R381). -/
def Dev.bbReplyPfm (s : Dev) (p : Fin 8) (src dst : Byte) : Dev :=
  let r := s.bbSee p src dst
  let s := r.1
  let b := s.bb p
  if !s.bbUp p ∨ b.mode ≠ 0 ∨ b.tx.isSome then s
  else if r.2 ∧ dst ≠ 255 ∧ b.state = 1 ∧ b.node = .poll then
    ((s.onBb p fun b => { b with sole := false, ps := b.ts, tokens := 0 }).bbSetNs p (src.toNat % 128)).bbPass p 0
  else s.bbOvertaken p

/-! ## APDUs (13 R386, R387) -/

/-- The octets of an NPDU before its APDU; none for a network-layer message or a header cut short. -/
def npduLen (b : List Byte) : Option Nat :=
  let ctl := b.getD 1 0
  let n0 := 2
  let n1 := if ctl.getLsbD 5 then n0 + 3 + (b.getD (n0 + 2) 0).toNat else n0
  let n2 := if ctl.getLsbD 3 then n1 + 3 + (b.getD (n1 + 2) 0).toNat else n1
  let n3 := if ctl.getLsbD 5 then n2 + 1 else n2
  if ctl.getLsbD 7 ∨ b.length ≤ n3 then none else some n3

/-- The NPDU header of an answer to a frame: to the network and address that its header gives as its source. -/
def npduBack (b : List Byte) : List Byte :=
  let ctl := b.getD 1 0
  let n1 := if ctl.getLsbD 5 then 2 + 3 + (b.getD 4 0).toNat else 2
  if ctl.getLsbD 3 then [0x01, 0x20] ++ (b.drop n1).take (3 + (b.getD (n1 + 2) 0).toNat) ++ [0xFF] else [0x01, 0x00]

/-- A Segment-ACK. -/
def segAck (back : List Byte) (nak srv : Bool) (invoke : Byte) (seq window : Nat) : List Byte :=
  back ++ [BitVec.ofNat 8 (fieldsOf [(4, 4, 4), (1, 1, nak.toNat), (0, 1, srv.toNat)]), invoke, BitVec.ofNat 8 seq, BitVec.ofNat 8 window]

/-- The segments of one window of a segmented send as frames: the last as type 5, the others as type 6 (13 R386). -/
def BbSeg.frames (g : BbSeg) (lo hi : Nat) : List BbOut :=
  let n := g.body.length
  (List.range (hi - lo)).map fun i =>
    let k := lo + i
    let more := k + 1 < n
    let t := (g.head.getD 0 0) ||| 0x08 ||| (if more then 0x04 else 0)
    let pre := if g.complex then [t, g.head.getD 1 0] else [t, g.head.getD 1 0, g.head.getD 2 0]
    let sc := if g.complex then g.head.getD 2 0 else g.head.getD 3 0
    { d := some g.d, dst := g.dst, expect := k + 1 == hi
      data := g.npdu ++ pre ++ [BitVec.ofNat 8 k, BitVec.ofNat 8 (g.d.bits 22 0 8), sc] ++ g.body.getD k []
      seg := true }

/-- A segmented send's window goes into the queue; what stands there of it is replaced. -/
def Dev.bbWindow (s : Dev) (p : Fin 8) (g : BbSeg) : Dev :=
  let hi := min (g.base + g.window) g.body.length
  let g := { g with top := hi, waits := none }
  s.onBb p fun b =>
    { b with segs := b.segs.map (fun x => if x.d == g.d then g else x)
             queue := b.queue.filter (fun f => !(f.seg && f.d == some g.d)) ++ g.frames g.base hi }

/-- A segmented send ends (13 R386). -/
def Dev.bbSegEnd (s : Dev) (p : Fin 8) (g : BbSeg) (st : Status) (res : DWord) : Dev :=
  (s.onBb p fun b => { b with segs := b.segs.filter (fun x => x.d != g.d)
                              queue := b.queue.filter fun f => !(f.seg && f.d == some g.d) }).finish 0xA5 g.d st res

/-- A Segment-ACK for a segmented send (13 R386), matched by source, invoke ID and SRV, or a Reject or Abort, which ends each send of its
invoke ID to its source; none: the frame is not for one. -/
def Dev.bbSegAnswer (s : Dev) (p : Fin 8) (src : Byte) (data : List Byte) : Option Dev :=
  match npduLen data with
  | none => none
  | some n =>
    let a := data.drop n
    let t := (a.getD 0 0).toNat / 16
    let srv := (a.getD 0 0).getLsbD 0
    let of (g : BbSeg) : Bool := g.dst == src && g.invoke == a.getD 1 0
    if t = 6 ∨ t = 7 then
      let gs := (s.bb p).segs.filter of
      if a.length < 3 ∨ gs.isEmpty then none
      else some (gs.foldl (fun s g => s.bbSegEnd p g .peerError (mkRes [(8, 0, 8, (a.getD 2 0).toNat)])) s)
    else if t ≠ 4 ∨ a.length < 4 then none
    else match (s.bb p).segs.find? (fun g => of g && srv != g.complex) with
      | none => none
      | some g =>
          let seq := (a.getD 2 0).toNat
          let w := max 1 (a.getD 3 0).toNat
          if (a.getD 0 0).getLsbD 1 then
            some (if g.base ≤ seq + 1 ∧ seq + 1 < g.body.length then s.bbWindow p { g with base := seq + 1, window := w }
                  else if seq = 255 ∧ g.base = 0 then s.bbWindow p { g with window := w } else s)
          else if seq + 1 = g.body.length then
            some (s.bbSegEnd p g .ok (mkRes [(8, 0, 16, g.sent), (10, 0, 8, g.used)]))
          else if g.base ≤ seq ∧ seq < g.top then some (s.bbWindow p { g with base := seq + 1, window := w, tries := 0 })
          else some s

/-- The time at which the TSEG of a send ends, while it runs (13 R386). -/
def BbSeg.deadline (g : BbSeg) : Option Nat := g.waits.map fun t => t + 400000 * g.d.bits 24 0 16

/-- TSEG after the last segment of a window (13 R386): of the sends whose TSEG runs, the one whose TSEG ends first. -/
def Dev.bbTseg (s : Dev) (p : Fin 8) : Dev :=
  let b := s.bb p
  match b.segs.find? (fun g => match g.deadline with
      | none => false
      | some t => b.segs.all fun x => match x.deadline with
        | none => true
        | some u => t ≤ u) with
  | none => s
  | some g =>
    if g.tries < g.d.bits 23 0 8 then s.bbWindow p { g with tries := g.tries + 1, used := g.used + 1 }
    else s.bbSegEnd p g .timeout 0

/-! ### Reassembly (13 R387) -/

/-- Octets of the APDU that a session has stored. -/
def BbRx.size (r : BbRx) : Nat := r.head.length + r.data.length

/-- Octets of the reassembly pool in use, over all ports. -/
def Dev.bbPool (s : Dev) : Nat := (List.finRange 8).foldl (fun n p => n + ((s.bb p).rxs.map BbRx.size).sum) 0

/-- An answer of the device's own: at once to a type 5 frame, otherwise queued for the next token (13 R387). -/
def Dev.bbOwn (s : Dev) (p : Fin 8) (dst : Byte) (now : Bool) (data : List Byte) : Dev :=
  let f : BbOut := { d := none, dst, expect := false, data }
  if (s.bb p).state ≠ 1 then s
  else if now ∧ (s.bb p).tx.isNone then s.bbSendTx p (.answer f)
  else s.onBb p fun b => { b with queue := b.queue ++ [f] }

/-- A segment of a Confirmed-Request or Complex-ACK (13 R387): `ty5` when it came in a type 5 frame, `reply` the TAG of a BB_SEND that it
answers. -/
def Dev.bbSegment (s : Dev) (p : Fin 8) (src : Byte) (ty5 : Bool) (reply : Option (BitVec 16)) (data npdu a : List Byte) : Dev :=
  let b := s.bb p
  let t := (a.getD 0 0).toNat / 16
  let more := (a.getD 0 0).getLsbD 2
  let pre := if t = 0 then 3 else 2
  let invoke := a.getD (pre - 1) 0
  let seq := (a.getD pre 0).toNat
  let prop := (a.getD (pre + 1) 0).toNat
  let w := max 1 (min prop b.rxwin)
  let body := a.drop (pre + 3)
  let srv := t == 0
  let back := npduBack data
  let keep (x : BbRx) : Bool := !(x.src == src && x.invoke == invoke && x.ptype == t)
  let abort (s : Dev) : Dev :=
    (s.onBb p fun b => { b with rxs := b.rxs.filter keep }).bbOwn p src ty5
      (back ++ [BitVec.ofNat 8 (fieldsOf [(4, 4, 7), (0, 1, srv.toNat)]), invoke, 0x01])
  let ack (s : Dev) (nak : Bool) (n : Nat) : Dev := s.bbOwn p src ty5 (segAck back nak srv invoke (n % 256) w)
  let room (had new : Nat) : Bool := had + new ≤ 16384 && s.bbPool + new ≤ 32768
  let deliver (s : Dev) (r : BbRx) : Dev :=
    (s.onBb p fun b => { b with rxs := b.rxs.filter keep }).bbDeliver p
      { data := r.npdu ++ r.head ++ r.data, src, ftype := if ty5 then 5 else 6, seg := true, reply := r.reply }
  match b.rxs.find? (fun x => !keep x) with
  | none =>
    let h := (a.getD 0 0) &&& 0xF3
    let head := if t = 0 then [h, a.getD 1 0, invoke, a.getD 5 0] else [h, invoke, a.getD 4 0]
    if seq ≠ 0 then s
    else if 4 ≤ b.rxs.length ∨ !room 0 (head.length + body.length) then abort s
    else
      let r : BbRx := { src, invoke, ptype := t, npdu, head, data := body, next := 1, winEnd := w - 1, window := w,
                        last := s.now, reply }
      if !more then deliver (ack s false 0) r
      else if w = 1 ∨ ty5 then
        ack (s.onBb p fun b => { b with rxs := b.rxs ++ [{ r with winEnd := w }] }) false 0
      else s.onBb p fun b => { b with rxs := b.rxs ++ [r] }
  | some r =>
    if seq = r.next % 256 then
      if !room r.size body.length then abort s
      else
        let r' : BbRx := { r with data := r.data ++ body, next := r.next + 1, window := w, last := s.now,
                                  reply := r.reply.orElse fun _ => reply }
        let ends : Bool := ty5 || decide (r.winEnd ≤ r.next)
        let r' := if ends then { r' with winEnd := r.next + w } else r'
        if !more then deliver (ack s false r.next) r'
        else
          let s := s.onBb p fun b => { b with rxs := b.rxs.map fun x => if keep x then x else r' }
          if ends then ack s false r.next else s
    else
      let s := s.onBb p fun b => { b with rxs := b.rxs.map fun x => if keep x then x else { x with last := s.now } }
      if (r.next + 255 - seq) % 256 < r.window then ack s false (r.next + 255) else ack s true (r.next + 255)

/-- TSEG_RX without a segment (13 R387): of the sessions of this source and invoke ID the one whose last segment is the oldest. -/
def Dev.bbTsegRx (s : Dev) (p : Fin 8) (src invoke : Byte) : Dev :=
  let b := s.bb p
  let mine (x : BbRx) : Bool := x.src == src && x.invoke == invoke
  let hit (x : BbRx) : Bool := mine x && b.rxs.all fun y => !mine y || x.last ≤ y.last
  if b.rxs.any hit then
    ((s.onBb p fun b => { b with rxs := b.rxs.eraseP hit }).report (hBb p) (bbFunc p) .warn LG_BB_SEG_TO
      (mkWord [(0, 8, invoke.toNat), (8, 8, src.toNat)])).1
  else s

/-- A frame that holds a segment for the device to reassemble (13 R387): its NPDU header and its APDU. -/
def BbPort.segmentOf (b : BbPort) (dst : Byte) (data : List Byte) : Option (List Byte × List Byte) :=
  match npduLen data with
  | none => none
  | some n =>
    let a := data.drop n
    let t := (a.getD 0 0).toNat / 16
    if b.segrx ∧ (t = 0 ∨ t = 3) ∧ (a.getD 0 0).getLsbD 3 ∧ dst ≠ 255 then some (data.take n, a) else none

/-! ## Data frames -/

/-- The transmission of a queued frame has ended, or its answer has come: its BB_SEND completes (13 R383). -/
def Dev.bbSendDone (s : Dev) (f : BbOut) (st : Status) (flags : Nat) : Dev :=
  match f.d with
  | some d => if f.seg then s else s.finish 0xA3 d st (mkRes [(8, 0, 2, flags)])
  | none => s

/-- A type 5 or 6 frame (13 R378, R383 to R387). -/
def Dev.bbDataIn (s : Dev) (p : Fin 8) (ty5 : Bool) (src dst : Byte) (data : List Byte) : Dev :=
  let r := s.bbSee p src dst
  let s := r.1
  let b := s.bb p
  if !s.bbUp p ∨ b.mode ≠ 0 ∨ b.tx.isSome then s
  else
    let waited := match b.expect with
      | some (f, a) => if b.node = BbNode.waitReply ∧ a = src ∧ !ty5 ∧ r.2 ∧ dst ≠ 255 then some f else none
      | none => none
    match waited with
    | some f =>
      let s := s.onBb p fun b => { b with expect := none }
      let s := match s.bbSegAnswer p src data with
        | some s => s
        | none =>
          let tag := match f.d with
            | some d => if f.seg then none else some d.tag
            | none => none
          match b.segmentOf dst data with
          | some (npdu, a) => s.bbSegment p src false tag data npdu a
          | none => s.bbDeliver p { data, src, ftype := 6, reply := tag }
      (s.bbSendDone f .ok 1).bbUse p
    | none =>
      let s := s.bbOvertaken p
      if !r.2 then s
      else match s.bbSegAnswer p src data with
        | some s => s
        | none =>
          match b.segmentOf dst data with
          | some (npdu, a) => s.bbSegment p src ty5 none data npdu a
          | none =>
            if ty5 ∧ dst ≠ 255 then
              let q := (s.bb p).req
              let s := s.onBb p fun b =>
                { b with req := q + 1, ans := if b.state = 1 then some (q, src) else none
                         postponed := if b.state = 1 then
                             (match b.ans with
                              | some x => (x :: b.postponed).take 8
                              | none => b.postponed)
                           else ((q, src) :: b.postponed).take 8
                         node := if b.state = 1 then .answer else b.node }
              s.bbDeliver p { data, src, ftype := 5, req := q }
            else s.bbDeliver p { data, src, ftype := if ty5 then 5 else 6 }

/-- Reply Postponed (13 R383). -/
def Dev.bbPostponedIn (s : Dev) (p : Fin 8) (src dst : Byte) : Dev :=
  let r := s.bbSee p src dst
  let s := r.1
  let b := s.bb p
  if !s.bbUp p ∨ b.mode ≠ 0 ∨ b.tx.isSome then s
  else match b.expect with
    | some (f, a) =>
      if b.node = BbNode.waitReply ∧ a = src ∧ r.2 ∧ dst ≠ 255 then
        ((s.onBb p fun b => { b with expect := none }).bbSendDone f .ok 2).bbUse p
      else s.bbOvertaken p
    | none => s.bbOvertaken p

/-- Treply_timeout (13 R383). -/
def Dev.bbReplyTimeout (s : Dev) (p : Fin 8) : Dev :=
  let b := s.bb p
  match b.node, b.expect with
  | .waitReply, some (f, _) =>
    if b.tx.isSome ∨ !s.bbUp p then s
    else ((s.onBb p fun b => { b with expect := none }).bbSendDone f .timeout 0).bbUse p
  | _, _ => s

/-- REPLY_WAIT has passed without the host's reply (13 R385). -/
def Dev.bbReplyWait (s : Dev) (p : Fin 8) : Dev :=
  let b := s.bb p
  match b.node, b.ans with
  | .answer, some (q, src) =>
    if !s.bbUp p ∨ b.state ≠ 1 then s
    else (s.onBb p fun b => { b with node := .idle, ans := none, postponed := ((q, src) :: b.postponed).take 8 }).bbSendTx p (.postponed src)
  | _, _ => s

/-- The end of an MS/TP transmission (13 R376, R380, R383). -/
def Dev.bbTxEnd (s : Dev) (p : Fin 8) (t : BbTx) : Dev :=
  match t with
  | .frame f =>
    let count (g : BbSeg) : BbSeg :=
      if f.d == some g.d then { g with sent := g.sent + 1, waits := if f.expect then some s.now else g.waits } else g
    let s := if f.seg then (s.onBb p fun b => { b with segs := b.segs.map count }) else s
    if f.expect ∧ f.dst ≠ 255 then s.onBb p fun b => { b with node := .waitReply, expect := some (f, f.dst) }
    else (s.bbSendDone f .ok (if f.late then 2 else 0)).bbUse p
  | .answer f => (s.onBb p fun b => { b with node := .idle }).bbSendDone f .ok 0
  | _ => s

end Sys2Proof.Machine
end

