-- ==== Sys2Proof/Machine/Bb.lean ====
section
/-! DEFINITION. The building-bus ports: Modbus RTU, raw UART, control, the opcodes of class 0xA and the commands of the line
(13_building_bus.md). -/

namespace Sys2Proof.Machine

/-! ## Modbus RTU (13 R388 to R391) -/

/-- One bit of the CRC-16 of Modbus. -/
def mbCrcBit (c : BitVec 16) : BitVec 16 := if c.getLsbD 0 then (c >>> 1) ^^^ 0xA001 else c >>> 1

/-- One octet. -/
def mbCrcByte (c : BitVec 16) (b : Byte) : BitVec 16 :=
  mbCrcBit (mbCrcBit (mbCrcBit (mbCrcBit (mbCrcBit (mbCrcBit (mbCrcBit (mbCrcBit (c ^^^ b.setWidth 16))))))))

/-- The CRC-16 of Modbus RTU. -/
def mbCrc (bs : List Byte) : BitVec 16 := bs.foldl mbCrcByte 0xFFFF

/-- Address and PDU with their CRC, low byte first (13 R388). -/
def mbFrame (addr : Byte) (pdu : List Byte) : List Byte := addr :: pdu ++ bytesLE 2 (mbCrc (addr :: pdu)).toNat

/-- A register value at an offset, high byte first (13 R388). -/
def be16 (b : List Byte) (i : Nat) : Nat := (b.getD i 0).toNat * 256 + (b.getD (i + 1) 0).toNat

/-- Two octets, high byte first. -/
def toBe16 (x : Nat) : List Byte := [BitVec.ofNat 8 (x / 256), BitVec.ofNat 8 x]

/-- An error of a frame is counted and logged (13 R378, R388, R416); a frame of an unsupported type is logged only. -/
def Dev.bbFrameErr (s : Dev) (p : Fin 8) (kind : Nat) : Dev :=
  (if kind = 4 then s else s.onBb p fun b => { b with frameErr := b.frameErr + 1 }).note .trace (bbFunc p) LG_BB_FRAME_ERR
    (mkWord [(0, 3, kind)])

/-- An entry. -/
abbrev Dev.mbEntry (s : Dev) (p : Fin 8) (e : Fin 64) : MbEntry := (s.bb p).entries[e.val]

/-- An entry changed. -/
def Dev.onMb (s : Dev) (p : Fin 8) (e : Fin 64) (f : MbEntry → MbEntry) : Dev :=
  s.onBb p fun b => { b with entries := vmod b.entries e f }

/-- The slave and PDU of an entry's request (13 R390). -/
def MbEntry.request (x : MbEntry) : Byte × List Byte :=
  let n := if 2 ≤ x.format ∧ x.format ≤ 5 then 2 else 1
  (BitVec.ofNat 8 x.slave, BitVec.ofNat 8 x.func :: toBe16 x.reg ++ toBe16 n)

/-- The slave and PDU of the transaction that runs (13 R389, R390); an entry's under the contents with which it began (13 R418). -/
def BbPort.mbPdu (b : BbPort) : MbWork → Byte × List Byte
  | .entry _ _ => b.curX.request
  | .req _ slave pdu => (slave, pdu)
  | .hold _ => (0, [])

/-- The transaction that runs is transmitted. -/
def Dev.mbTransmit (s : Dev) (p : Fin 8) : Dev :=
  match (s.bb p).cur with
  | none => s
  | some (w, _) =>
    let x := (s.bb p).mbPdu w
    s.bbSendTx p (.raw none (mbFrame x.1 x.2))

/-- The contents with which a piece of work begins. -/
def BbPort.workX (b : BbPort) : MbWork → MbEntry
  | .entry e _ => b.entries[e.val]
  | _ => {}

/-- The next piece of work starts, one transaction at a time (13 R389); a BB_MB_REQ goes ahead of entries that fell due after its
dispatch, so they wait for its data too. -/
def Dev.mbNext (s : Dev) (p : Fin 8) : Dev :=
  let b := s.bb p
  if !s.bbUp p ∨ b.mode ≠ 1 ∨ b.cur.isSome ∨ b.turn ∨ b.tx.isSome then s
  else match b.work with
    | [] | .hold _ :: _ => s
    | w :: rest => (s.onBb p fun b => { b with cur := some (w, 0), curX := b.workX w, curVoid := false, work := rest }).mbTransmit p

/-- A value that has not succeeded for too long reads as a read timeout, which is logged once (13 R390). -/
def Dev.mbStale (s : Dev) (p : Fin 8) (e : Fin 64) (late : Bool) : Dev :=
  let x := s.mbEntry p e
  if !late then s
  else
    let s := s.onMb p e fun x => { x with timeout := true, logged := true }
    if x.logged then s else (s.report (hBb p) (bbFunc p) .warn LG_BB_VALUE_TO (mkWord [(0, 6, e.val)])).1

/-- A polled transaction fails (13 R390): `exc` is the exception code, 0xFF for no answer. -/
def Dev.mbFail (s : Dev) (p : Fin 8) (e : Fin 64) (exc : Byte) : Dev :=
  let s := s.onMb p e fun x => { x with fails := x.fails + 1, exc }
  let x := s.mbEntry p e
  s.mbStale p e (x.failN ≤ x.fails || x.time + 4 * x.period * 400000 < s.now)

/-- The value of an answer before LSHIFT (13 R390). -/
def mbValue (format : Nat) (d : List Byte) : Int :=
  let a := be16 d 0
  let b := be16 d 2
  match format with
  | 0 => a
  | 1 => signed 16 a
  | 2 => (a * 65536 + b : Nat)
  | 3 => signed 32 (a * 65536 + b)
  | 4 => (b * 65536 + a : Nat)
  | 5 => signed 32 (b * 65536 + a)
  | _ => ((d.getD 0 0).toNat % 2 : Nat)

/-- A polled transaction succeeds (13 R390). -/
def Dev.mbSuccess (s : Dev) (p : Fin 8) (e : Fin 64) (d : List Byte) : Dev :=
  let x := s.mbEntry p e
  let v := sat32 (mbValue x.format d * 2 ^ x.lshift)
  let s := s.onMb p e fun x => { x with x := v, valid := true, timeout := false, logged := false, fails := 0, time := s.now }
  if x.event ∧ x.x ≠ v then
    s.raise EV_BB_VALUE (bbFunc p) (hBbVal p e) (BitVec.ofInt 32 v)
  else s

/-- The transaction that runs has ended; the next starts. -/
def Dev.mbEnd (s : Dev) (p : Fin 8) : Dev := (s.onBb p fun b => { b with cur := none, curVoid := false }).mbNext p

/-- No valid answer (13 R389): another attempt, or failure. -/
def Dev.mbRepeat (s : Dev) (p : Fin 8) : Dev :=
  let b := s.bb p
  match b.cur with
  | none => s
  | some (w, n) =>
    if n < b.retries then (s.onBb p fun b => { b with cur := some (w, n + 1) }).mbTransmit p
    else
      let s := match w with
        | .entry e _ => if b.curVoid then s else s.mbFail p e 0xFF
        | .req d _ _ => s.finish 0xA7 d .timeout 0
        | .hold _ => s
      s.mbEnd p

/-- An answer PDU in master mode (13 R389, R390, R401). -/
def Dev.mbAnswer (s : Dev) (p : Fin 8) (slave : Byte) (pdu : List Byte) : Dev :=
  let b := s.bb p
  match b.cur with
  | none => s
  | some (w, _) =>
    let q := b.mbPdu w
    let f := q.2.getD 0 0
    let g := pdu.getD 0 0
    if slave ≠ q.1 ∨ q.1 = 0 ∨ (g ≠ f ∧ g ≠ f ||| 0x80) then s
    else
      let exc : Bool := g != f
      match w with
      | .entry e _ =>
        let n := if f.toNat ≤ 2 then 1 else if (q.2.getD 4 0).toNat = 2 then 4 else 2
        if exc then (if b.curVoid then s else s.mbFail p e (pdu.getD 1 0)).mbEnd p
        else if (pdu.getD 1 0).toNat ≠ n ∨ pdu.length ≠ n + 2 then s
        else (if b.curVoid then s else s.mbSuccess p e (pdu.drop 2)).mbEnd p
      | .req d _ _ =>
        (s.finish 0xA7 d (if exc then .peerError else .ok)
          (mkRes [(8, 0, 16, pdu.length), (10, 0, 8, if exc then (pdu.getD 1 0).toNat else 0)]) [(bulkAddr d, pdu)]).mbEnd p
      | .hold _ => s

/-- Registers of an image written from `a` on. -/
def imgWrite (img : Vector (BitVec 16) 1024) (a : Nat) : List (BitVec 16) → Vector (BitVec 16) 1024
  | [] => img
  | v :: vs => imgWrite (img.set (ix 1023 a).val v) (a + 1) vs

/-- A request in slave mode (13 R391): the answer PDU if there is one, and the registers written. -/
def BbPort.slaveAnswer (b : BbPort) (pdu : List Byte) : List Byte × Option (Nat × List (BitVec 16)) :=
  let f := pdu.getD 0 0
  let a := be16 pdu 1
  let exc (n : Nat) : List Byte × Option (Nat × List (BitVec 16)) := ([f ||| 0x80, BitVec.ofNat 8 n], none)
  match f.toNat with
  | 3 | 4 =>
    let n := be16 pdu 3
    if pdu.length ≠ 5 ∨ n = 0 ∨ 125 < n then exc 3
    else if 1024 < a + n then exc 2
    else
      let img := if f = 3 then b.holding else b.input
      (f :: BitVec.ofNat 8 (2 * n) :: (List.range n).flatMap (fun i => toBe16 (img[(ix 1023 (a + i)).val]).toNat), none)
  | 6 =>
    if pdu.length ≠ 5 then exc 3
    else if a < b.wrLo ∨ b.wrHi < a then exc 2
    else (pdu, some (a, [BitVec.ofNat 16 (be16 pdu 3)]))
  | 16 =>
    let n := be16 pdu 3
    if n = 0 ∨ 123 < n ∨ (pdu.getD 5 0).toNat ≠ 2 * n ∨ pdu.length ≠ 6 + 2 * n then exc 3
    else if a < b.wrLo ∨ b.wrHi < a + n - 1 then exc 2
    else (pdu.take 5, some (a, (List.range n).map fun i => BitVec.ofNat 16 (be16 pdu (6 + 2 * i))))
  | _ => exc 1

/-- A request in slave mode (13 R391). -/
def Dev.mbSlave (s : Dev) (p : Fin 8) (addr : Byte) (pdu : List Byte) : Dev :=
  let b := s.bb p
  if addr ≠ 0 ∧ addr.toNat ≠ b.slaveAddr then s
  else
    let r := b.slaveAnswer pdu
    let s := match r.2 with
      | none => s
      | some (a, vs) =>
        (s.onBb p fun b => { b with holding := imgWrite b.holding a vs }).raise EV_BB_MB_WRITE (bbFunc p) (hBb p)
          (mkWord [(0, 10, a), (16, 7, vs.length)])
    if addr = 0 then s else s.bbSendTx p (.raw none (mbFrame addr r.1))

/-- A Modbus frame ends (13 R388). -/
def Dev.mbFrameIn (s : Dev) (p : Fin 8) (bytes : List Byte) : Dev :=
  let b := s.bb p
  if !s.bbUp p ∨ (b.mode ≠ 1 ∧ b.mode ≠ 2) ∨ b.tx.isSome then s
  else
    let n := bytes.length - 2
    let ok : Bool := 4 ≤ bytes.length && ofBytesLE (bytes.drop n) == (mbCrc (bytes.take n)).toNat
    if !ok then
      let s := s.bbFrameErr p 1
      if b.mode = 1 ∧ b.cur.isSome then s.mbRepeat p else s
    else
      let pdu := (bytes.take n).drop 1
      if b.mode = 1 then s.mbAnswer p (bytes.getD 0 0) pdu else s.mbSlave p (bytes.getD 0 0) pdu

/-- A polling entry falls due (13 R389, R390): not while it waits or runs; ties go to the lower entry. -/
def Dev.mbDue (s : Dev) (p : Fin 8) (e : Fin 64) : Dev :=
  let b := s.bb p
  let x := s.mbEntry p e
  let mine (w : MbWork) : Bool := match w with
    | .entry f _ => f == e
    | _ => false
  let busy : Bool := b.work.any mine || (match b.cur with
    | some (w, _) => mine w && !b.curVoid
    | none => false)
  let tie (w : MbWork) : Bool := match w with
    | .entry f t => t == s.now && e.val < f.val
    | _ => false
  if !s.active (bbFunc p) ∨ b.mode ≠ 1 ∨ !x.en then s
  else
    let s := s.mbStale p e (x.time + 4 * x.period * 400000 < s.now)
    if busy ∨ !s.bbUp p then s
    else
      let tail := (b.work.reverse.takeWhile tie).reverse
      let work := b.work.take (b.work.length - tail.length) ++ MbWork.entry e s.now :: tail
      (s.onBb p fun b => { b with work }).mbNext p

/-! ## Raw UART (13 R392) -/

/-- The next characters of the transmit queue go out. -/
def Dev.uartNext (s : Dev) (p : Fin 8) : Dev :=
  let b := s.bb p
  if !s.bbUp p ∨ b.mode ≠ 3 ∨ b.tx.isSome then s
  else match b.queue with
    | [] => s
    | f :: rest => (s.onBb p fun b => { b with queue := rest }).bbSendTx p (.raw f.d f.data)

/-- RESULT of a BB_RECV that characters fill (13 R392, R398). -/
def uartResult (got : List (Byte × Bool)) : DWord := mkRes [(8, 0, 16, got.length), (13, 3, 1, (got.any (·.2)).toNat)]

/-- The first posted buffer completes with what has arrived. -/
def Dev.uartDeliver (s : Dev) (p : Fin 8) : Dev :=
  let b := s.bb p
  match b.posted with
  | [] => s
  | d :: rest =>
    let got := b.chars.take (bulkLen d)
    let s := s.onBb p fun b => { b with posted := rest, chars := b.chars.drop (bulkLen d) }
    s.finish 0xA4 d .ok (uartResult got) [(bulkAddr d, got.map (·.1))]

/-- The first posted buffer completes if it is full. -/
def Dev.uartFull (s : Dev) (p : Fin 8) : Dev :=
  match (s.bb p).posted with
  | [] => s
  | d :: _ => if bulkLen d ≤ (s.bb p).chars.length then s.uartDeliver p else s

/-- A character arrives (13 R392). -/
def Dev.uartChar (s : Dev) (p : Fin 8) (c : Byte) (err : Bool) : Dev :=
  let b := s.bb p
  if !s.bbUp p ∨ b.mode ≠ 3 ∨ b.tx.isSome then s
  else if b.posted.isEmpty ∧ 4096 ≤ b.chars.length then s.onBb p fun b => { b with rxdrop := b.rxdrop + 1, rxSeen := true }
  else (s.onBb p fun b => { b with chars := b.chars ++ [(c, err)] }).uartFull p

/-! ## Start and stop -/

/-- The place of a BB_MB_REQ in the order of service. -/
def MbWork.holds (d : Desc) : MbWork → Bool
  | .hold x => x == d
  | _ => false

/-- A descriptor is the BB_MB_REQ. -/
def QDesc.isMbReq (d : Desc) (q : QDesc) : Bool := q.op == 0xA7 && q.d == d

/-- A BB_MB_REQ that reads its data is given up with a status. -/
def Dev.mbFlushHold (s : Dev) (d : Desc) (st : Status) : Dev :=
  match s.bulk.find? (QDesc.isMbReq d) with
  | none => s
  | some q =>
    let s : Dev := { s with bulk := s.bulk.eraseP (QDesc.isMbReq d) }
    s.ends q st 0

/-- Everything that a port has queued ends with a status (13 R396). A BB_MB_REQ that has not executed yet keeps its place. -/
def Dev.bbFlush (s : Dev) (p : Fin 8) (st : Status) : Dev :=
  let b := s.bb p
  let ahead (w : MbWork) : Bool := match w with
    | .hold d => s.fq.any (QDesc.isMbReq d)
    | _ => false
  let clear (b : BbPort) : BbPort :=
    { b with queue := [], segs := [], rxs := [], posted := [], held := [], chars := [], work := b.work.filter ahead, cur := none, curVoid := false
             turn := false, tx := none, expect := none, ans := none, postponed := [], node := .init, sent := 0, dropLogged := false
             sole := false }
  let s := s.onBb p clear
  let send (s : Dev) (f : BbOut) : Dev := s.bbSendDone f st 0
  let s := b.queue.foldl send s
  let s := match b.tx with
    | some (.frame f) | some (.answer f) => send s f
    | some (.raw (some d) _) => s.finish 0xA3 d st 0
    | _ => s
  let s := match b.expect with
    | some (f, _) => send s f
    | none => s
  let s := b.segs.foldl (fun s g => s.finish 0xA5 g.d st 0) s
  let s := b.posted.foldl (fun s d => s.finish 0xA4 d st 0) s
  (b.work ++ (match b.cur with
    | some (w, _) => [w]
    | none => [])).foldl (fun s w => match w with
    | .req d _ _ => s.finish 0xA7 d st 0
    | .hold d => s.mbFlushHold d st
    | _ => s) s

/-- STOP (13 R396). -/
def Dev.bbStop (s : Dev) (p : Fin 8) : Dev := (s.bbFlush p .flushed).bbGo p 0

/-- START (13 R396): the first state of the mode, with what is queued going out where the mode needs no token. -/
def Dev.bbStart (s : Dev) (p : Fin 8) : Dev :=
  if (s.bb p).state = 1 then s
  else
    let s := (s.onBb p fun b => { b with dups := [] }).bbGo p 1
    match (s.bb p).mode with
    | 0 => s.bbInit p
    | 1 => s.mbNext p
    | 3 => s.uartNext p
    | _ => s

/-- Function or LK0 held (13 R417): descriptors are flushed with the function's others (16 R470), values read as timeouts. -/
def Dev.bbHold (s : Dev) (p : Fin 8) : Dev :=
  (s.bbGo p 0).onBb p fun b =>
    { b with wasRun := false, node := .init, sole := false, queue := [], segs := [], rxs := [], posted := [], held := [], chars := []
             work := [], cur := none, curVoid := false, turn := false, tx := none, expect := none, ans := none, postponed := []
             sent := 0, dropLogged := false, dups := [], ps := 0, tokens := 0
             entries := b.entries.map fun x => { x with timeout := true, fails := 0 } }

/-- SLEEP (13 R417): a port stops; one that is RUNNING restarts at the wake. -/
def Dev.bbSleep (s : Dev) (p : Fin 8) : Dev :=
  let run := (s.bb p).state == 1
  (s.bbStop p).onBb p fun b => { b with wasRun := run, work := [] }

/-- The wake (13 R417). -/
def Dev.bbWake (s : Dev) (p : Fin 8) : Dev :=
  if (s.bb p).wasRun then (s.onBb p fun b => { b with wasRun := false }).bbStart p else s

/-- The last stop bit of a transmission (13 R376). -/
def Dev.bbSentEnd (s : Dev) (p : Fin 8) : Dev :=
  let b := s.bb p
  match b.tx with
  | none => s
  | some t =>
    let s := s.onBb p fun b => { b with tx := none }
    match b.mode with
    | 0 => s.bbTxEnd p t
    | 1 =>
      (match b.cur with
       | some (.req d 0 _, _) => ((s.finish 0xA7 d .ok 0).onBb p fun b => { b with cur := none, turn := true })
       | _ => s)
    | 3 =>
      (match t with
       | .raw (some d) _ => s.finish 0xA3 d .ok 0
       | _ => s).uartNext p
    | _ => s

/-! ## Registers (13 R415) -/

/-- The code of a node state (13 R380). -/
def BbNode.num : BbNode → Nat
  | .init => 0 | .idle => 1 | .useToken => 2 | .waitReply => 3 | .doneWithToken => 4 | .passToken => 5 | .noToken => 6 | .poll => 7
  | .answer => 8

/-- SOLE (13 R415): NS = TS, while the port runs MS/TP. DEDUCED: its reset value 0, with NS and TS 0, is that of a STOPPED port (log entry
218). -/
def BbPort.soleBit (b : BbPort) : Bool := b.mode == 0 && b.state != 0 && b.ns == b.ts

/-- BBn_STATUS. -/
def BbPort.status (b : BbPort) : Word :=
  mkWord [(0, 2, b.state), (2, 4, b.node.num), (6, 1, b.soleBit.toNat), (7, 1, b.dupSeen.toNat), (8, 1, b.tokSeen.toNat),
          (9, 1, b.rxSeen.toNat), (16, 7, b.ns)]

/-- BBn_COUNTS. -/
def BbPort.counts (b : BbPort) : Word := mkWord [(0, 16, b.frameErr.toNat), (16, 16, b.tokenLost.toNat)]

/-! ## Descriptors -/

/-- The port that an opcode names acts. -/
def onBbObj (f : Fin 8 → Dev → Dev × Res) (o : Obj) (s : Dev) : Dev × Res :=
  match o with
  | .bbPort p => f p s
  | _ => refuse s .badHandle

/-- The polled value that an opcode names acts. -/
def onBbValObj (f : Fin 8 → Fin 64 → Dev → Dev × Res) (o : Obj) (s : Dev) : Dev × Res :=
  match o with
  | .bbValue p e => f p e s
  | _ => refuse s .badHandle

/-- BB_CONFIG's row (13 R394). -/
def opBbConfig : OpInfo where
  op := 0xA0
  accepts := .bbPort
  needsEn := true
  fields := [(8, 0, 2), (9, 0, 6), (10, 0, 8), (11, 0, 4), (12, 0, 8), (13, 0, 8), (14, 0, 16), (16, 0, 2), (17, 0, 8), (18, 0, 32)]

/-- The fields of a BB_CONFIG lie in their ranges, and those of other modes are 0 (13 R394). -/
def bbConfigOk (d : Desc) : Bool :=
  let mode := d.bits 8 0 2
  let parity := d.bits 9 3 2
  let stop := d.bits 9 5 1
  let slave := d.bits 12 0 8
  let idle := d.bits 13 0 8
  let rsp := d.bits 14 0 16
  let retries := d.bits 16 0 2
  let turn := d.bits 17 0 8
  let lo := d.bits 18 0 16
  let hi := d.bits 20 0 16
  d.bits 9 0 3 ≤ 5 && parity ≤ 2
    && (mode != 0 || (parity == 0 && stop == 0))
    && (!(mode == 1 || mode == 2) || parity != 0 || stop == 1)
    && (if mode = 2 then 1 ≤ slave && slave ≤ 247 && lo ≤ hi && hi ≤ 1023 else slave == 0 && lo == 0 && hi == 0)
    && (if mode = 3 then 1 ≤ idle else idle == 0)
    && (if mode = 1 then 10 ≤ rsp && rsp ≤ 2000 && 1 ≤ turn && turn ≤ 100 else rsp == 0 && turn == 0 && retries == 0)

/-- BB_CONFIG (13 R394). -/
def doBbConfig (d : Desc) (p : Fin 8) (s : Dev) : Dev × Res :=
  if !bbConfigOk d then refuse s .range
  else if (s.bb p).state ≠ 0 then refuse s .busy
  else (s.onBb p fun b =>
    { b with mode := d.bits 8 0 2, rate := d.bits 9 0 3, parity := d.bits 9 3 2, stop := d.bits 9 5 1, deLead := d.bits 10 0 8
             deLag := d.bits 11 0 4, slaveAddr := d.bits 12 0 8, idle := d.bits 13 0 8, rspTo := d.bits 14 0 16
             retries := d.bits 16 0 2, mbTurn := d.bits 17 0 8, wrLo := d.bits 18 0 16, wrHi := d.bits 20 0 16 }, .ok)

/-- BB_MSTP_CONFIG's row (13 R395). -/
def opBbMstpConfig : OpInfo where
  op := 0xA1
  accepts := .bbPort
  needsEn := true
  fields := [(8, 0, 7), (9, 0, 7), (10, 0, 8), (11, 0, 8), (12, 0, 8), (13, 0, 1), (14, 0, 7), (16, 0, 16)]

/-- BB_MSTP_CONFIG (13 R395). -/
def doBbMstpConfig (d : Desc) (p : Fin 8) (s : Dev) : Dev × Res :=
  let ts := d.bits 8 0 7
  let nm := d.bits 9 0 7
  let ni := d.bits 10 0 8
  let tu := d.bits 11 0 8
  let rw := d.bits 12 0 8
  let rx := d.bits 14 0 7
  let tr := d.bits 16 0 16
  if nm < ts ∨ ni = 0 ∨ 100 < ni ∨ tu < 20 ∨ 100 < tu ∨ rw < 10 ∨ 200 < rw ∨ rx = 0 ∨ tr < 100 ∨ 60000 < tr then refuse s .range
  else if (s.bb p).mode ≠ 0 then refuse s .conflict
  else if (s.bb p).state ≠ 0 then refuse s .busy
  else (s.onBb p fun b => { b with ts, nmaxMaster := nm, nmaxInfo := ni, tUsage := tu, replyWait := rw, segrx := d.flag 13 0, rxwin := rx
                                   tsegRx := tr }, .ok)

/-- BB_CTRL's row (13 R396). -/
def opBbCtrl : OpInfo where
  op := 0xA2
  accepts := .bbPort
  needsEn := true
  fields := [(8, 0, 2)]

/-- BB_CTRL (13 R396). -/
def doBbCtrl (d : Desc) (p : Fin 8) (s : Dev) : Dev × Res :=
  match d.bits 8 0 2 with
  | 0 => (s.bbStop p, .ok)
  | 1 => (s.bbStart p, .ok)
  | 2 => (s.onBb p fun b => { b with frameErr := 0, tokenLost := 0, rxdrop := 0 }, .ok)
  | _ => refuse s .range

/-- BB_SEND's row (13 R397). -/
def opBbSend : OpInfo where
  op := 0xA3
  accepts := .bbPort
  needsEn := true
  fields := bulkFields ++ [(20, 0, 8), (21, 0, 2), (22, 0, 8)]

/-- BB_SEND before its data are read (13 R383, R385, R397). -/
def doBbSend (d : Desc) (p : Fin 8) (s : Dev) : Dev × Res :=
  let b := s.bb p
  let uart : Bool := b.mode == 3
  if !s.bulkOk d ∨ (!uart ∧ 501 < bulkLen d) ∨ (uart ∧ d.bits 20 0 8 ≠ 0) then refuse s .range
  else if (b.mode ≠ 0 ∧ !uart) ∨ b.state = 2 then refuse s .conflict
  else (s, .read)

/-- BB_SEND with its data (13 R383, R385, R392). -/
def bbSendData (d : Desc) (data : List Byte) (p : Fin 8) (s : Dev) : Dev × Res :=
  let b := s.bb p
  let q := BitVec.ofNat 8 (d.bits 22 0 8)
  let f : BbOut := { d := some d, dst := BitVec.ofNat 8 (d.bits 20 0 8), expect := d.flag 21 0, data }
  if b.mode = 3 then ((s.onBb p fun b => { b with queue := b.queue ++ [f] }).uartNext p, .wait)
  else if b.mode ≠ 0 ∨ b.state = 2 then refuse s .conflict
  else if !d.flag 21 1 then (s.onBb p fun b => { b with queue := b.queue ++ [f] }, .wait)
  else
    let now : Bool := match b.ans with
      | some (r, _) => r == q && b.node == .answer && b.tx.isNone
      | none => false
    if now then ((s.onBb p fun b => { b with ans := none }).bbSendTx p (.answer { f with expect := false }), .wait)
    else if b.postponed.any (fun x => x.1 == q) then
      (s.onBb p fun b => { b with postponed := b.postponed.eraseP (fun x => x.1 == q)
                                  queue := b.queue ++ [{ f with late := true }] }, .wait)
    else refuse s .conflict

/-- BB_RECV's row (13 R398). -/
def opBbRecv : OpInfo where
  op := 0xA4
  accepts := .bbPort
  needsEn := true
  fields := bulkFields

/-- BB_RECV (13 R384, R392, R398): with no buffer posted before it, it takes at once a frame that is held, or characters that fill it;
otherwise it is posted. -/
def doBbRecv (d : Desc) (p : Fin 8) (s : Dev) : Dev × Res :=
  let b := s.bb p
  let post : Dev × Res := (s.onBb p fun b => { b with posted := b.posted ++ [d] }, .wait)
  if !s.bulkOk d then refuse s .range
  else if b.mode ≠ 0 ∧ b.mode ≠ 3 then refuse s .conflict
  else if !b.posted.isEmpty then post
  else if b.mode = 3 then
    if bulkLen d ≤ b.chars.length then
      let got := b.chars.take (bulkLen d)
      (s.onBb p fun b => { b with chars := b.chars.drop (bulkLen d) }, .done .ok (uartResult got) [(bulkAddr d, got.map (·.1))])
    else post
  else match b.held with
    | [] => post
    | x :: held => (s.onBb p fun b => { b with held }, .done .ok (bbInResult d x) [(bulkAddr d, x.data.take (bulkLen d))])

/-- BB_SEG_SEND's row (13 R399). -/
def opBbSegSend : OpInfo where
  op := 0xA5
  accepts := .bbPort
  needsEn := true
  fields := bulkFields ++ [(20, 0, 64)]

/-- BB_SEG_SEND before its data are read (13 R399). -/
def doBbSegSend (d : Desc) (p : Fin 8) (s : Dev) : Dev × Res :=
  let b := s.bb p
  let npci := d.bits 21 0 8
  let w := d.bits 22 0 8
  let tseg := d.bits 24 0 16
  let smax := d.bits 26 0 16
  if !s.bulkOk d ∨ d.bits 20 0 8 = 255 ∨ npci < 2 ∨ 24 < npci ∨ w = 0 ∨ 127 < w ∨ 7 < d.bits 23 0 8 ∨ tseg < 100 ∨ 60000 < tseg
      ∨ smax < 50 ∨ 480 < smax then refuse s .range
  else if b.mode ≠ 0 ∨ b.state = 2 then refuse s .conflict
  else (s, .read)

/-- An APDU cut into segments of `n` octets; `k` bounds their number. -/
def cutUp (n : Nat) : Nat → List Byte → List (List Byte)
  | 0, _ => []
  | k + 1, b => if b.length ≤ n then [b] else b.take n :: cutUp n k (b.drop n)

/-- BB_SEG_SEND with its data (13 R386). -/
def bbSegData (d : Desc) (data : List Byte) (p : Fin 8) (s : Dev) : Dev × Res :=
  let b := s.bb p
  let npci := d.bits 21 0 8
  let a := data.drop npci
  let t := (a.getD 0 0).toNat / 16
  let hl := if t = 3 then 3 else 4
  let n := min (d.bits 26 0 16) (501 - npci) - (hl + 2)
  let body := cutUp n 257 (a.drop hl)
  if (t ≠ 0 ∧ t ≠ 3) ∨ (a.getD 0 0).toNat / 4 % 4 ≠ 0 ∨ a.length < hl ∨ 256 < body.length then refuse s .range
  else if b.mode ≠ 0 ∨ b.state = 2 then refuse s .conflict
  else
    let g : BbSeg := { d, dst := BitVec.ofNat 8 (d.bits 20 0 8), npdu := data.take npci, head := a.take hl, body
                       invoke := a.getD (hl - 2) 0, complex := t == 3, window := d.bits 22 0 8 }
    ((s.onBb p fun b => { b with segs := b.segs ++ [g] }).bbWindow p g, .wait)

/-- BB_POLL_WRITE's row (13 R400). -/
def opBbPollWrite : OpInfo where
  op := 0xA6
  accepts := .bbValue
  needsEn := true
  fields := [(8, 0, 2), (9, 0, 8), (10, 0, 8), (11, 0, 3), (12, 0, 16), (14, 0, 16), (16, 0, 5), (17, 0, 4)]

/-- BB_POLL_WRITE (13 R400, R418). An entry that is not enabled may have any other fields in their widths. -/
def doBbPollWrite (d : Desc) (p : Fin 8) (e : Fin 64) (s : Dev) : Dev × Res :=
  let b := s.bb p
  let func := d.bits 10 0 8
  let fmt := d.bits 11 0 3
  let reg := d.bits 12 0 16
  let bad : Bool := d.bits 9 0 8 == 0 || 247 < d.bits 9 0 8 || func == 0 || 4 < func || fmt == 7
    || (if fmt = 6 then 2 < func else func < 3) || (2 ≤ fmt && fmt ≤ 5 && reg == 65535) || d.bits 14 0 16 < 100
    || 16 < d.bits 16 0 5 || d.bits 17 0 4 == 0
  if bad ∧ (d.flag 8 0 ∨ d.pay ≠ 0) then refuse s .range
  else if b.mode ≠ 1 then refuse s .conflict
  else
    let mine (w : MbWork) : Bool := match w with
      | .entry f _ => f == e
      | _ => false
    let x : MbEntry := { en := d.flag 8 0, event := d.flag 8 1, slave := d.bits 9 0 8, func, format := fmt, reg, period := d.bits 14 0 16
                         lshift := d.bits 16 0 5, failN := d.bits 17 0 4, x := (s.mbEntry p e).x, exc := (s.mbEntry p e).exc
                         time := s.now }
    let runs : Bool := match b.cur with
      | some (w, _) => mine w
      | none => false
    (s.onBb p fun b => { b with entries := b.entries.set e.val x, work := b.work.filter fun w => !mine w
                                curVoid := b.curVoid || runs }, .ok)

/-- BB_MB_REQ's row (13 R401). -/
def opBbMbReq : OpInfo where
  op := 0xA7
  accepts := .bbPort
  needsEn := true
  fields := bulkFields ++ [(20, 0, 8)]

/-- A dispatched BB_MB_REQ takes its place in the order of service (13 R389): behind all that is due, an URGENT one ahead of those that it
has passed in the queue of its function (02 R60). -/
def Dev.mbHold (s : Dev) (op : Nat) (d : Desc) : Dev :=
  match op, objOf d.handle with
  | 0xA7, some (.bbPort p) =>
    let passed := (s.fq.dropWhile fun q => !q.isMbReq d).tail
    s.onBb p fun b =>
      let i := b.work.findIdx fun w => passed.any fun q => w.holds q.d
      { b with work := b.work.take i ++ .hold d :: b.work.drop i }
  | _, _ => s

/-- BB_MB_REQ before its data are read (13 R401): it has its place in the order of service from its dispatch on. -/
def doBbMbReq (d : Desc) (p : Fin 8) (s : Dev) : Dev × Res :=
  if !s.bulkOk d ∨ 253 < bulkLen d ∨ 247 < d.bits 20 0 8 then refuse s .range
  else if (s.bb p).mode ≠ 1 then refuse s .conflict
  else (s.onBb p fun b => { b with work := if b.work.any (·.holds d) then b.work else b.work ++ [.hold d] }, .read)

/-- The place of a BB_MB_REQ filled; behind all the work where it has none. -/
def mbFill (d : Desc) (w : MbWork) : List MbWork → List MbWork
  | [] => [w]
  | x :: xs => if x.holds d then w :: xs else x :: mbFill d w xs

/-- BB_MB_REQ with its PDU (13 R389, R401), at its place. -/
def bbMbReqData (d : Desc) (data : List Byte) (p : Fin 8) (s : Dev) : Dev × Res :=
  if (s.bb p).mode ≠ 1 then refuse (s.onBb p fun b => { b with work := b.work.eraseP (·.holds d) }) .conflict
  else ((s.onBb p fun b => { b with work := mbFill d (.req d (BitVec.ofNat 8 (d.bits 20 0 8)) data) b.work }).mbNext p, .wait)

/-- A BB_MB_REQ that is refused, or whose data do not come (02 R75), gives up its place. -/
def Dev.mbDropHold (s : Dev) (op : Nat) (d : Desc) : Dev :=
  match op, objOf d.handle with
  | 0xA7, some (.bbPort p) =>
    if (s.bb p).work.any (·.holds d) then (s.onBb p fun b => { b with work := b.work.eraseP (·.holds d) }).mbNext p else s
  | _, _ => s

/-- A BB_MB_REQ keeps its place while it waits to execute or reads its data. -/
def Dev.mbSettle (s : Dev) (d : Desc) : Dev :=
  if (s.fq ++ s.bulk).any (QDesc.isMbReq d) then s else s.mbDropHold 0xA7 d

/-- BB_SLAVE_IMAGE's row (13 R402). -/
def opBbSlaveImage : OpInfo where
  op := 0xA8
  accepts := .bbPort
  needsEn := true
  fields := bulkFields ++ [(20, 0, 8), (21, 0, 1), (22, 0, 16)]

/-- BB_SLAVE_IMAGE (13 R402): a read answers from the image, a write reads its data first. -/
def doBbSlaveImage (d : Desc) (p : Fin 8) (s : Dev) : Dev × Res :=
  let b := s.bb p
  let n := bulkLen d / 2
  let a := d.bits 22 0 16
  if !s.bulkOk d ∨ bulkLen d % 2 = 1 ∨ 1 < d.bits 20 0 8 ∨ 1023 < a ∨ 1024 < a + n then refuse s .range
  else if b.mode ≠ 2 then refuse s .conflict
  else if d.flag 21 0 then
    let img := if d.bits 20 0 8 = 0 then b.holding else b.input
    (s, .done .ok 0 [(bulkAddr d, (List.range n).flatMap fun i => bytesLE 2 (img[(ix 1023 (a + i)).val]).toNat)])
  else (s, .read)

/-- Registers from a buffer, 16-bit little-endian (13 R388). -/
def regsOf : Nat → List Byte → List (BitVec 16)
  | 0, _ => []
  | n + 1, b => BitVec.ofNat 16 (ofBytesLE (b.take 2)) :: regsOf n (b.drop 2)

/-- BB_SLAVE_IMAGE's write with its data (13 R402). -/
def bbImageData (d : Desc) (data : List Byte) (p : Fin 8) (s : Dev) : Dev × Res :=
  let a := d.bits 22 0 16
  let vs := regsOf (bulkLen d / 2) data
  if (s.bb p).mode ≠ 2 then refuse s .conflict
  else if d.bits 20 0 8 = 0 then (s.onBb p fun b => { b with holding := imgWrite b.holding a vs }, .ok)
  else (s.onBb p fun b => { b with input := imgWrite b.input a vs }, .ok)

/-- BB_READ's row (13 R403). -/
def opBbRead : OpInfo where
  op := 0xA9
  accepts := .bbValue
  needsEn := true

/-- Age in 10 ms units, saturating (13 R403). -/
def age10ms (now t : Nat) : Nat := min 65535 ((now - t) / 4000000)

/-- BB_READ (13 R403). -/
def doBbRead (p : Fin 8) (e : Fin 64) (s : Dev) : Dev × Res :=
  let x := s.mbEntry p e
  let to_ : Bool := x.timeout || (x.en && x.time + 4 * x.period * 400000 < s.now)
  (s, .done .ok (mkRes [(8, 0, 32, wrapTo 32 x.x), (12, 0, 1, x.valid.toNat), (12, 1, 1, to_.toNat), (13, 0, 8, x.exc.toNat),
                        (14, 0, 16, age10ms s.now x.time)]))

/-- BB_STATUS_GET's row (13 R403). -/
def opBbStatusGet : OpInfo where
  op := 0xAA
  accepts := .bbPort
  needsEn := true

/-- BB_STATUS_GET (13 R403). -/
def doBbStatusGet (p : Fin 8) (s : Dev) : Dev × Res :=
  (s, .done .ok (mkRes [(8, 0, 32, (s.bb p).status.toNat), (12, 0, 32, (s.bb p).counts.toNat)]))

/-! ## The commands -/

/-- BB_CONFIG (opcode 0xA0, 13 R394). -/
def execBbConfig (d : Desc) (s : State) : Host.Outcome State Fault Refusal := .next (s.desc opBbConfig d (onBbObj (doBbConfig d)))

/-- BB_MSTP_CONFIG (opcode 0xA1, 13 R395). -/
def execBbMstpConfig (d : Desc) (s : State) : Host.Outcome State Fault Refusal :=
  .next (s.desc opBbMstpConfig d (onBbObj (doBbMstpConfig d)))

/-- BB_CTRL (opcode 0xA2, 13 R396). -/
def execBbCtrl (d : Desc) (s : State) : Host.Outcome State Fault Refusal := .next (s.desc opBbCtrl d (onBbObj (doBbCtrl d)))

/-- BB_SEND (opcode 0xA3, 13 R383, R397). -/
def execBbSend (d : Desc) (s : State) : Host.Outcome State Fault Refusal := .next (s.desc opBbSend d (onBbObj (doBbSend d)))

/-- BB_RECV (opcode 0xA4, 13 R384, R398). -/
def execBbRecv (d : Desc) (s : State) : Host.Outcome State Fault Refusal := .next (s.desc opBbRecv d (onBbObj (doBbRecv d)))

/-- BB_SEG_SEND (opcode 0xA5, 13 R386, R399). -/
def execBbSegSend (d : Desc) (s : State) : Host.Outcome State Fault Refusal := .next (s.desc opBbSegSend d (onBbObj (doBbSegSend d)))

/-- BB_POLL_WRITE (opcode 0xA6, 13 R400). -/
def execBbPollWrite (d : Desc) (s : State) : Host.Outcome State Fault Refusal :=
  .next (s.desc opBbPollWrite d (onBbValObj (doBbPollWrite d)))

/-- BB_MB_REQ (opcode 0xA7, 13 R401). -/
def execBbMbReq (d : Desc) (s : State) : Host.Outcome State Fault Refusal :=
  .next ((s.desc opBbMbReq d (onBbObj (doBbMbReq d))).onDev fun v => v.mbSettle d)

/-- BB_SLAVE_IMAGE (opcode 0xA8, 13 R402). -/
def execBbSlaveImage (d : Desc) (s : State) : Host.Outcome State Fault Refusal :=
  .next (s.desc opBbSlaveImage d (onBbObj (doBbSlaveImage d)))

/-- BB_READ (opcode 0xA9, 13 R403). -/
def execBbRead (d : Desc) (s : State) : Host.Outcome State Fault Refusal := .next (s.desc opBbRead d (onBbValObj doBbRead))

/-- BB_STATUS_GET (opcode 0xAA, 13 R403). -/
def execBbStatusGet (d : Desc) (s : State) : Host.Outcome State Fault Refusal := .next (s.desc opBbStatusGet d (onBbObj doBbStatusGet))

/-- TOKEN (13 R380). -/
def execToken (p : Fin 8) (src dst : Byte) (s : State) : Host.Outcome State Fault Refusal := .next (s.onDev fun v => v.bbToken p src dst)

/-- POLL_FOR_MASTER (13 R378). -/
def execPollForMaster (p : Fin 8) (src dst : Byte) (s : State) : Host.Outcome State Fault Refusal :=
  .next (s.onDev fun v => v.bbAsk p src dst (.rpfm src))

/-- REPLY_TO_POLL_FOR_MASTER (13 R381). -/
def execReplyToPollForMaster (p : Fin 8) (src dst : Byte) (s : State) : Host.Outcome State Fault Refusal :=
  .next (s.onDev fun v => v.bbReplyPfm p src dst)

/-- TEST_REQUEST (13 R378). -/
def execTestRequest (p : Fin 8) (src dst : Byte) (bytes : List Byte) (s : State) : Host.Outcome State Fault Refusal :=
  .next (s.onDev fun v => v.bbAsk p src dst (.testRsp src bytes))

/-- TEST_RESPONSE (13 R378): discarded; it is a frame on the wire like any other. -/
def execTestResponse (p : Fin 8) (src dst : Byte) (_bytes : List Byte) (s : State) : Host.Outcome State Fault Refusal :=
  .next (s.onDev fun v =>
    let r := v.bbSee p src dst
    if !r.1.bbUp p ∨ (r.1.bb p).mode ≠ 0 ∨ (r.1.bb p).tx.isSome then r.1 else r.1.bbOvertaken p)

/-- BACNET_DATA_EXPECTING_REPLY (13 R385). -/
def execBacnetDataExpectingReply (p : Fin 8) (src dst : Byte) (bytes : List Byte) (s : State) : Host.Outcome State Fault Refusal :=
  .next (s.onDev fun v => v.bbDataIn p true src dst bytes)

/-- BACNET_DATA_NOT_EXPECTING_REPLY (13 R384). -/
def execBacnetDataNotExpectingReply (p : Fin 8) (src dst : Byte) (bytes : List Byte) (s : State) : Host.Outcome State Fault Refusal :=
  .next (s.onDev fun v => v.bbDataIn p false src dst bytes)

/-- REPLY_POSTPONED (13 R383). -/
def execReplyPostponed (p : Fin 8) (src dst : Byte) (s : State) : Host.Outcome State Fault Refusal :=
  .next (s.onDev fun v => v.bbPostponedIn p src dst)

/-- The kind of an error in LG_BB_FRAME_ERR (13 R416). -/
def busKind : BusErr → Nat
  | .headerCrc => 0 | .dataCrc => 1 | .framing => 2 | .abortGap => 3 | .frameType => 4 | .length => 5

/-- MSTP_FRAME_ERROR (13 R378, R388): a frame is discarded; in MS/TP it shows that a successor uses its token. -/
def execMstpFrameError (p : Fin 8) (e : BusErr) (s : State) : Host.Outcome State Fault Refusal :=
  .next (s.onDev fun v =>
    let b := v.bb p
    if !v.bbUp p ∨ b.mode = 3 ∨ b.tx.isSome then v
    else (v.bbFrameErr p (busKind e)).onBb p fun b => if b.mode = 0 ∧ b.node = .passToken then { b with node := .idle } else b)

/-- TNO_TOKEN_EXPIRY (13 R381). -/
def execTnoTokenExpiry (p : Fin 8) (s : State) : Host.Outcome State Fault Refusal := .next (s.onDev fun v => v.bbNoToken p)

/-- T_USAGE_EXPIRY (13 R380). -/
def execTUsageExpiry (p : Fin 8) (s : State) : Host.Outcome State Fault Refusal := .next (s.onDev fun v => v.bbUsage p)

/-- TREPLY_TIMEOUT (13 R383). -/
def execTreplyTimeout (p : Fin 8) (s : State) : Host.Outcome State Fault Refusal := .next (s.onDev fun v => v.bbReplyTimeout p)

/-- REPLY_WAIT_EXPIRY (13 R385). -/
def execReplyWaitExpiry (p : Fin 8) (s : State) : Host.Outcome State Fault Refusal := .next (s.onDev fun v => v.bbReplyWait p)

/-- TSEG_EXPIRY (13 R386). -/
def execTsegExpiry (p : Fin 8) (s : State) : Host.Outcome State Fault Refusal :=
  .next (s.onDev fun v => if v.bbUp p then v.bbTseg p else v)

/-- TSEG_RX_EXPIRY (13 R387). -/
def execTsegRxExpiry (p : Fin 8) (src invoke : Byte) (s : State) : Host.Outcome State Fault Refusal :=
  .next (s.onDev fun v => v.bbTsegRx p src invoke)

/-- MODBUS_FRAME (13 R388). -/
def execModbusFrame (p : Fin 8) (bytes : List Byte) (s : State) : Host.Outcome State Fault Refusal :=
  .next (s.onDev fun v => v.mbFrameIn p bytes)

/-- POLL_ENTRY_DUE (13 R390). -/
def execPollEntryDue (p : Fin 8) (e : Fin 64) (s : State) : Host.Outcome State Fault Refusal := .next (s.onDev fun v => v.mbDue p e)

/-- RSP_TO_EXPIRY (13 R389). -/
def execRspToExpiry (p : Fin 8) (s : State) : Host.Outcome State Fault Refusal :=
  .next (s.onDev fun v => if v.bbUp p ∧ (v.bb p).mode = 1 ∧ (v.bb p).tx.isNone then v.mbRepeat p else v)

/-- MB_TURN_EXPIRY (13 R389). -/
def execMbTurnExpiry (p : Fin 8) (s : State) : Host.Outcome State Fault Refusal :=
  .next (s.onDev fun v => (v.onBb p fun b => { b with turn := false }).mbNext p)

/-- UART_IDLE (13 R392). -/
def execUartIdle (p : Fin 8) (s : State) : Host.Outcome State Fault Refusal :=
  .next (s.onDev fun v =>
    if v.bbUp p ∧ (v.bb p).mode = 3 ∧ !(v.bb p).chars.isEmpty then v.uartDeliver p else v)

/-- UART_CHARACTER (13 R392). -/
def execUartCharacter (p : Fin 8) (b : Byte) (err : Bool) (s : State) : Host.Outcome State Fault Refusal :=
  .next (s.onDev fun v => v.uartChar p b err)

/-- BB_TRANSMISSION_END (13 R376). -/
def execBbTransmissionEnd (p : Fin 8) (s : State) : Host.Outcome State Fault Refusal := .next (s.onDev fun v => v.bbSentEnd p)

end Sys2Proof.Machine
end

