-- ==== Sys2Proof/Machine/Hollow.lean ====
section
/-! DEFINITION. Hollow, function 55: counter, calendar, trim, staged writes, freezes, backup bytes, PWRON and the opcodes of class 0xC
(15_hollow.md, 14 R434). What wakes the device stands in Boot.lean. -/

namespace Sys2Proof.Machine

/-! ## Counting -/

/-- L(month, year) of 15 R442. -/
def monthLength (month year : Nat) : Nat :=
  if month = 2 then (if year % 4 = 0 then 29 else 28)
  else if month = 4 ∨ month = 6 ∨ month = 9 ∨ month = 11 then 30 else 31

/-- The calendar at a midnight (15 R442): WEEKDAY, DAY, MONTH and YEAR roll. -/
def Cal.midnight (c : Cal) : Cal :=
  let c := { c with weekday := if 6 ≤ c.weekday.toNat then 0 else c.weekday + 1 }
  if monthLength c.month.toNat c.year.toNat ≤ c.day.toNat then
    if 12 ≤ c.month.toNat then
      { c with day := 1, month := 1, year := if 99 ≤ c.year.toNat then 0 else c.year + 1 }
    else { c with day := 1, month := c.month + 1 }
  else { c with day := c.day + 1 }

/-- The calendar one second later (15 R442). -/
def Cal.second_ (c : Cal) : Cal :=
  if c.second.toNat < 59 then { c with second := c.second + 1 }
  else if c.minute.toNat < 59 then { c with second := 0, minute := c.minute + 1 }
  else if c.hour.toNat < 23 then { c with second := 0, minute := 0, hour := c.hour + 1 }
  else { c with second := 0, minute := 0, hour := 0 }.midnight

/-- What the counter and PRE advance by on the next tick (15 R444). -/
def Hollow.stepSize (h : Hollow) : Nat :=
  if h.trimPos.toNat % 4096 = 4095 ∧ h.trimPos.toNat / 4096 < h.trim.natAbs then (if h.trim > 0 then 2 else 0) else 1

/-- The trim's place after a tick: a new TRIM applies from the next period (15 R444). -/
def Hollow.trimStep (h : Hollow) : Hollow :=
  { h with trimPos := h.trimPos + 1, trim := if h.trimPos + 1 = 0 then h.trimNext else h.trim }

/-- The oscillator's edges count (15 R451, R453). -/
def Hollow.counts (h : Hollow) : Bool := h.oscRun && !h.inReset

/-- The counter moves past an armed alarm's value: from below it to it or above it; its wrap is no passage (15 R447). -/
def Alarm.passed (a : Alarm) (old new : BitVec 48) : Bool := a.armed && old.toNat < a.value.toNat && a.value.toNat ≤ new.toNat

/-- A passage makes the alarm's moment due (15 R447). -/
def Alarm.note (a : Alarm) (old new : BitVec 48) : Alarm := { a with due := a.due || a.passed old new }

/-- Counting carries the counter into a multiple of 2^(EXP + 7), or over one (15 R444, R448). -/
def carries (exp : Nat) (old new : BitVec 48) : Bool := old.toNat / 2 ^ (exp + 7) != new.toNat / 2 ^ (exp + 7)

/-- The counter counts `n` ticks: alarms and the periodic wake that it passes are due (15 R441, R444, R447, R448). -/
def Hollow.count (h : Hollow) (n : Nat) : Hollow :=
  let c := h.cnt + BitVec.ofNat 48 n
  { h with cnt := c, alarm0 := h.alarm0.note h.cnt c, alarm1 := h.alarm1.note h.cnt c
           perDue := h.perDue || (h.wakeEn && carries h.wakeExp h.cnt c) }

/-- PRE counts `n` ticks: its wrap makes the calendar's second due (15 R442). -/
def Hollow.prescale (h : Hollow) (n : Nat) : Hollow :=
  { h with pre := h.pre + BitVec.ofNat 15 n, secDue := h.secDue || decide (32768 ≤ h.pre.toNat + n) }

/-- Hollow at a commit (15 R446): the staged parts take their values, the others count as on any tick, which there is none of with the
oscillator stopped. The descriptor's completion is due. -/
def Hollow.commit (h : Hollow) : Hollow :=
  match h.staged with
  | none => h
  | some g =>
    let step := if h.counts then h.stepSize else 0
    let t := if h.counts then h.trimStep else h
    let t := match g.cnt with
      | some c => { t with cnt := c, alarm0 := t.alarm0.note h.cnt c, alarm1 := t.alarm1.note h.cnt c }
      | none => t.count step
    let t := match g.cal with
      | some c => { t with pre := 0, cal := c, secDue := false }
      | none => t.prescale step
    { t with staged := none, committed := t.committed ++ [{ d := g.d, cnt := h.cnt }] }

/-- One HCLK tick of the counter and PRE (15 R441, R442, R444), which commits what is staged (R446). -/
def Hollow.tick (h : Hollow) : Hollow :=
  if h.staged.isSome then h.commit else ((h.count h.stepSize).prescale h.stepSize).trimStep

/-- One TCLK goes by for Hollow: 32 768 ticks are 400 000 000 TCLK (01 R25). -/
def Hollow.pass (h : Hollow) : Hollow :=
  if !h.counts then h
  else if h.frac + 32768 < 400000000 then { h with frac := h.frac + 32768 }
  else { h with frac := h.frac + 32768 - 400000000 }.tick

/-- The rest of the device reaches Hollow (15 R452, R455). -/
def Dev.hollowUp (s : Dev) : Bool := !s.hollow.lockout && !s.held 55

/-- Zones and others have the time (06 R184, 15 R451, R455). -/
def Dev.timeOk (s : Dev) : Bool := !s.hollow.osf && !s.held 55

/-- A change of Hollow. -/
def Dev.onHollow (s : Dev) (f : Hollow → Hollow) : Dev := { s with hollow := f s.hollow }

/-! ## Class 0xC -/

/-- An SQ has a HOLLOW_TIME_SET that is staged, waits to be, or has not completed (15 R446). -/
def Hollow.awaits (h : Hollow) (sq : Fin 16) : Bool :=
  h.staged.any (·.d.sq == sq) || h.stageQ.any (·.sq == sq) || h.committed.any (·.d.sq == sq)

/-- An opcode of class 0xC (14 R434): one of an SQ whose HOLLOW_TIME_SET has not been committed waits for the commit (15 R446). -/
def Dev.runHollow (s : Dev) (i : OpInfo) (d : Desc) (body : Dev → Dev × Res) : Dev :=
  if s.hollow.awaits d.sq && i.op != 0xC2 then s else s.runDesc i d fun _ => body

/-- A write to Hollow: in lockout it is discarded (15 R452). -/
def hollowWrite (s : Dev) (f : Dev → Dev × Res) : Dev × Res :=
  if s.hollow.lockout then refuse s .flushed else f s

/-- Flags OSF and STAGED of HOLLOW_TIME_GET and HOLLOW_CAL_GET. -/
def Hollow.flags (h : Hollow) : Nat := fieldsOf [(0, 1, h.osf.toNat), (1, 1, h.staged.isSome.toNat)]

def opHollowTimeGet : OpInfo := { op := 0xC0, accepts := .hollow }
def opHollowCalGet : OpInfo := { op := 0xC1, accepts := .hollow }
def opHollowTimeSet : OpInfo :=
  { op := 0xC2, accepts := .hollow,
    fields := [(8, 0, 2), (12, 0, 48), (20, 0, 56)] }
def opHollowAlarmSet : OpInfo := { op := 0xC3, accepts := .hollow, fields := [(8, 0, 1), (8, 7, 1), (12, 0, 48)] }
def opHollowWakeSet : OpInfo := { op := 0xC4, accepts := .hollow, fields := [(8, 0, 5), (8, 7, 1)] }
def opHollowTrim : OpInfo := { op := 0xC5, accepts := .hollow, fields := [(8, 0, 16)] }
def opHollowBackupRead : OpInfo := { op := 0xC6, accepts := .hollow, fields := [(8, 0, 6)] }
def opHollowBackupWrite : OpInfo := { op := 0xC7, accepts := .hollow, fields := [(8, 0, 6), (16, 0, 64)] }
def opHollowPwron : OpInfo := { op := 0xC8, accepts := .hollow, fields := [(8, 0, 1), (12, 0, 32)] }
def opHollowOsfClear : OpInfo := { op := 0xC9, accepts := .hollow }

/-- HOLLOW_TIME_GET: the counter and flags; in lockout core reads return 0 (14 R434, 15 R452). -/
def doHollowTimeGet (s : Dev) : Dev × Res :=
  (s, .done .ok (if s.hollow.lockout then 0 else mkRes [(8, 0, 48, s.hollow.cnt.toNat), (14, 0, 8, s.hollow.flags)]))

/-- HOLLOW_CAL_GET: the calendar and flags (14 R434). -/
def doHollowCalGet (s : Dev) : Dev × Res :=
  let c := s.hollow.cal
  (s, .done .ok (if s.hollow.lockout then 0 else
    mkRes [(8, 0, 8, c.second.toNat), (9, 0, 8, c.minute.toNat), (10, 0, 8, c.hour.toNat), (11, 0, 8, c.weekday.toNat),
           (12, 0, 8, c.day.toNat), (13, 0, 8, c.month.toNat), (14, 0, 8, c.year.toNat), (15, 0, 8, s.hollow.flags)]))

/-- The values of a HOLLOW_TIME_SET. -/
def timeSetValues (d : Desc) : Staged where
  cnt := if d.flag 8 0 then some (BitVec.ofNat 48 (d.bits 12 0 48)) else none
  cal := if d.flag 8 1 then some
      { second := BitVec.ofNat 6 (d.bits 20 0 6), minute := BitVec.ofNat 6 (d.bits 21 0 6),
        hour := BitVec.ofNat 5 (d.bits 22 0 5), weekday := BitVec.ofNat 3 (d.bits 23 0 3),
        day := BitVec.ofNat 5 (d.bits 24 0 5), month := BitVec.ofNat 4 (d.bits 25 0 4),
        year := BitVec.ofNat 7 (d.bits 26 0 7) }
    else none
  d := d

/-- The range rule of HOLLOW_TIME_SET (14 R434). -/
def timeSetBad (d : Desc) : Bool :=
  59 < d.bits 20 0 8 || 59 < d.bits 21 0 8 || 23 < d.bits 22 0 8 || 7 < d.bits 23 0 8 || 31 < d.bits 24 0 8
    || 15 < d.bits 25 0 8 || 99 < d.bits 26 0 8 || d.bits 8 0 2 == 0

/-- HOLLOW_TIME_SET: stages its values, or waits until the staged ones have been committed (15 R446). -/
def doHollowTimeSet (d : Desc) (s : Dev) : Dev × Res :=
  hollowWrite s fun s =>
    if s.hollow.staged.isSome ∨ s.hollow.stageQ ≠ [] then (s.onHollow fun h => { h with stageQ := h.stageQ ++ [d] }, .wait)
    else if timeSetBad d then refuse s .range
    else (s.onHollow fun h => { h with staged := some (timeSetValues d) }, .wait)

/-- An alarm of two changed. -/
def Hollow.setAlarm (h : Hollow) (second : Bool) (a : Alarm) : Hollow :=
  if second then { h with alarm1 := a } else { h with alarm0 := a }

/-- An alarm of two. -/
def Hollow.alarm (h : Hollow) (second : Bool) : Alarm := if second then h.alarm1 else h.alarm0

/-- HOLLOW_ALARM_SET: arms or disarms. With a value at or below the counter it completes with ST_LATE, and the alarm keeps its previous
state (14 R420, R434). DEDUCED: 15 R447's "leaves the alarm disarmed" says that this descriptor does not arm it, and EN 0 is no exception (log
entry 112). -/
def doHollowAlarmSet (d : Desc) (s : Dev) : Dev × Res :=
  hollowWrite s fun s =>
    let n := d.flag 8 0
    let v := BitVec.ofNat 48 (d.bits 12 0 48)
    if v.toNat ≤ s.hollow.cnt.toNat then refuse s .late
    else (s.onHollow fun h => h.setAlarm n { h.alarm n with value := v, armed := d.flag 8 7, due := false }, .ok)

/-- HOLLOW_WAKE_SET (14 R434, 15 R448). -/
def doHollowWakeSet (d : Desc) (s : Dev) : Dev × Res :=
  hollowWrite s fun s =>
    if 24 < d.bits 8 0 5 then refuse s .range
    else (s.onHollow fun h => { h with wakeEn := d.flag 8 7, wakeExp := d.bits 8 0 5, perDue := false }, .ok)

/-- HOLLOW_TRIM: the new TRIM applies from the next period; RESULT is the previous one (14 R434, 15 R444). -/
def doHollowTrim (d : Desc) (s : Dev) : Dev × Res :=
  hollowWrite s fun s =>
    if d.s16 8 < -256 ∨ 255 < d.s16 8 then refuse s .range
    else (s.onHollow fun h => { h with trimNext := d.s16 8 },
          .done .ok (mkRes [(8, 0, 16, wrapTo 16 s.hollow.trimNext)]))

/-- HOLLOW_BACKUP_READ: 8 backup bytes (14 R434). -/
def doHollowBackupRead (d : Desc) (s : Dev) : Dev × Res :=
  let o := d.bits 8 0 6
  if o % 8 ≠ 0 then refuse s .range
  else (s, .done .ok (if s.hollow.lockout then 0 else
    BitVec.ofNat 64 (ofBytesLE ((s.hollow.backup.toList.drop o).take 8))))

/-- 8 backup bytes written at an offset. -/
def setBackup (v : Vector Byte 64) (o : Nat) (bs : List Byte) : Vector Byte 64 :=
  Vector.ofFn fun i => if o ≤ i.val ∧ i.val < o + 8 then bs.getD (i.val - o) 0 else v[i.val]

/-- HOLLOW_BACKUP_WRITE: all 8 bytes at once (15 R450). -/
def doHollowBackupWrite (d : Desc) (s : Dev) : Dev × Res :=
  hollowWrite s fun s =>
    let o := d.bits 8 0 6
    if o % 8 ≠ 0 then refuse s .range
    else (s.onHollow fun h => { h with backup := setBackup h.backup o (d.bytes 16 8) }, .ok)

/-- HOLLOW_PWRON: ACTION 0 holds PWRON on and cancels a release, ACTION 1 releases it after DELAY ticks (15 R449). -/
def doHollowPwron (d : Desc) (s : Dev) : Dev × Res :=
  hollowWrite s fun s =>
    if d.flag 8 0 then (s.onHollow fun h => { h with release := some (d.word 12) }, .ok)
    else (s.onHollow fun h => { h with release := none, pwron := true }, .ok)

/-- HOLLOW_OSF_CLEAR: clears OSF only while the oscillator runs; RESULT is OSF before (15 R451). -/
def doHollowOsfClear (s : Dev) : Dev × Res :=
  hollowWrite s fun s =>
    (s.onHollow fun h => { h with osf := h.osf && !h.counts }, .done .ok (mkRes [(8, 0, 8, s.hollow.osf.toNat)]))

/-- HOLLOW_TIME_GET (opcode 0xC0, 14 R434). -/
def execHollowTimeGet (d : Desc) (s : State) : Host.Outcome State Fault Refusal :=
  .next (s.onDev fun v => v.runHollow opHollowTimeGet d doHollowTimeGet)

/-- HOLLOW_CAL_GET (opcode 0xC1, 14 R434). -/
def execHollowCalGet (d : Desc) (s : State) : Host.Outcome State Fault Refusal :=
  .next (s.onDev fun v => v.runHollow opHollowCalGet d doHollowCalGet)

/-- HOLLOW_TIME_SET (opcode 0xC2, 14 R434, 15 R446). -/
def execHollowTimeSet (d : Desc) (s : State) : Host.Outcome State Fault Refusal :=
  .next (s.onDev fun v => v.runHollow opHollowTimeSet d (doHollowTimeSet d))

/-- HOLLOW_ALARM_SET (opcode 0xC3, 14 R434, 15 R447). -/
def execHollowAlarmSet (d : Desc) (s : State) : Host.Outcome State Fault Refusal :=
  .next (s.onDev fun v => v.runHollow opHollowAlarmSet d (doHollowAlarmSet d))

/-- HOLLOW_WAKE_SET (opcode 0xC4, 14 R434, 15 R448). -/
def execHollowWakeSet (d : Desc) (s : State) : Host.Outcome State Fault Refusal :=
  .next (s.onDev fun v => v.runHollow opHollowWakeSet d (doHollowWakeSet d))

/-- HOLLOW_TRIM (opcode 0xC5, 14 R434, 15 R444). -/
def execHollowTrim (d : Desc) (s : State) : Host.Outcome State Fault Refusal :=
  .next (s.onDev fun v => v.runHollow opHollowTrim d (doHollowTrim d))

/-- HOLLOW_BACKUP_READ (opcode 0xC6, 14 R434). -/
def execHollowBackupRead (d : Desc) (s : State) : Host.Outcome State Fault Refusal :=
  .next (s.onDev fun v => v.runHollow opHollowBackupRead d (doHollowBackupRead d))

/-- HOLLOW_BACKUP_WRITE (opcode 0xC7, 14 R434, 15 R450). -/
def execHollowBackupWrite (d : Desc) (s : State) : Host.Outcome State Fault Refusal :=
  .next (s.onDev fun v => v.runHollow opHollowBackupWrite d (doHollowBackupWrite d))

/-- HOLLOW_PWRON (opcode 0xC8, 14 R434, 15 R449). -/
def execHollowPwron (d : Desc) (s : State) : Host.Outcome State Fault Refusal :=
  .next (s.onDev fun v => v.runHollow opHollowPwron d (doHollowPwron d))

/-- HOLLOW_OSF_CLEAR (opcode 0xC9, 14 R434, 15 R451). -/
def execHollowOsfClear (d : Desc) (s : State) : Host.Outcome State Fault Refusal :=
  .next (s.onDev fun v => v.runHollow opHollowOsfClear d doHollowOsfClear)

/-! ## What comes about in Hollow -/

/-- The calendar advances one second, once for each wrap of PRE (15 R442, R443). -/
def Hollow.roll (h : Hollow) : Hollow :=
  if h.secDue then { h with secDue := false, cal := h.cal.second_ } else h

/-- CALENDAR_SECOND (15 R442, R443): PRE has wrapped. -/
def execCalendarSecond (s : State) : Host.Outcome State Fault Refusal :=
  .next (s.onDev fun v => v.onHollow Hollow.roll)

/-- A wake source of Hollow's own that is enabled has come due (15 R449). -/
def Hollow.waking (h : Hollow) : Bool := (h.alarmEn && (h.alarm0.due || h.alarm1.due)) || (h.perEn && h.perDue)

/-- PWRON_RELEASE: a pending release drives PWRON off (15 R449, 16 R468); a wake on the same tick wins (15 R456). -/
def Dev.pwronRelease (s : Dev) : Dev :=
  if s.hollow.release.isNone ∨ s.hollow.waking then s
  else
    { s with
      hollow := { s.hollow with release := none, pwron := false }
      power := match s.power.sleep with
        | .hibernating => { s.power with sleep := .off }
        | _ => s.power }

/-- PWRON_RELEASE (15 R449, R456). -/
def execPwronRelease (s : State) : Host.Outcome State Fault Refusal :=
  .next (s.onDev Dev.pwronRelease)

/-- OSF is reported: EV_HOLLOW_OSF and LG_HOLLOW_OSF at WARN, ARG [0] its cause (15 R451). -/
def Dev.reportOsf (s : Dev) : Dev :=
  if s.hollowUp then
    s.reportEv (hFunc 55) 55 .warn LG_HOLLOW_OSF (mkWord [(0, 1, s.hollow.osfReset.toNat)])
      EV_HOLLOW_OSF (hFunc 55) (mkWord [(0, 1, s.hollow.osfReset.toNat)])
  else s

/-- OSCILLATOR_STOP: the monitor finds no HCLK edge and sets OSF (15 R451). -/
def execOscillatorStop (s : State) : Host.Outcome State Fault Refusal :=
  .next (s.onDev fun v => (v.onHollow fun h => { h with oscRun := false, osf := true, osfReset := false }).reportOsf)

/-- OSCILLATOR_RESTART: HCLK edges are present again; counter and calendar go on from their values (15 R451). -/
def execOscillatorRestart (s : State) : Host.Outcome State Fault Refusal :=
  .next (s.onDev fun v => v.onHollow fun h => { h with oscRun := true })

/-- HOLLOW_TIME_SETs whose values have been committed complete with the counter before (15 R446, 14 R434). -/
def Dev.completeSets (s : Dev) : Dev :=
  s.hollow.committed.foldl (fun s c =>
    if s.waits.any fun q => q.op == 0xC2 && q.d == c.d then s.finish 0xC2 c.d .ok (mkRes [(8, 0, 48, c.cnt.toNat)]) else s)
    (s.onHollow fun h => { h with committed := [] })

/-- Staged values and those that wait are discarded, their descriptors complete with ST_FLUSHED; values committed before stand (15 R446,
R452). -/
def Dev.flushStaged (s : Dev) : Dev :=
  let s := s.completeSets
  let ds := (s.hollow.staged.map Staged.d).toList ++ s.hollow.stageQ
  ds.foldl (fun s d => s.finish 0xC2 d .flushed 0) (s.onHollow fun h => { h with staged := none, stageQ := [] })

/-- VHOLLOW_BOR: VHOLLOW falls below its brown-out level before VMAIN has qualified: Hollow is held in reset (15 R453). -/
def Hollow.brownOut (h : Hollow) : Hollow :=
  if h.vmainBad then
    { Hollow.reset with vmainBad := true, inReset := true, wasReset := true, lockout := true }
  else h

/-- VHOLLOW_BOR (15 R453). -/
def execVhollowBor (s : State) : Host.Outcome State Fault Refusal :=
  .next (s.onDev fun v => v.onHollow Hollow.brownOut)

/-- VBAT_RETURN: a VBAT that recovers ends the Hollow reset, which has already set the reset values (15 R453). -/
def execVbatReturn (s : State) : Host.Outcome State Fault Refusal :=
  .next (s.onDev fun v => v.onHollow fun h => { h with inReset := false })

/-- FREEZE_EXPIRY: a freeze ends 2 ms after it opened (15 R445). -/
def execFreezeExpiry (s : State) : Host.Outcome State Fault Refusal :=
  .next (s.onDev fun v => v.onHollow fun h => { h with freeze := none })

/-! ## The time registers -/

/-- HOLLOW_CAL0's fields of a calendar (15 R455). -/
def cal0Word (c : Cal) : Word :=
  mkWord [(0, 6, c.second.toNat), (8, 6, c.minute.toNat), (16, 5, c.hour.toNat), (24, 3, c.weekday.toNat)]

/-- HOLLOW_CAL1's fields, with FRZ (15 R455). -/
def cal1Word (c : Cal) (frz : Bool) : Word :=
  mkWord [(0, 5, c.day.toNat), (8, 4, c.month.toNat), (16, 7, c.year.toNat), (31, 1, frz.toNat)]

/-- HOLLOW_CNT_HI's fields, with FRZ. -/
def cntHiWord (cnt : BitVec 48) (frz : Bool) : Word :=
  mkWord [(0, 16, cnt.toNat / 4294967296), (31, 1, frz.toNat)]

/-- A read of one of the four time registers, 0 to 3 in the order of their addresses: its value, and the freeze afterwards
(15 R445). They read 0 in lockout and while function 55 is held (R452, R455). -/
def Dev.readTime (s : Dev) (i : Fin 4) : Word × Dev :=
  if !s.hollowUp then (0, s)
  else
    let h := s.hollow
    let isFirst := i.val % 2 == 0
    let fz := match h.freeze with
      | some z => some z
      | none => if isFirst then some { byCal := i.val == 2, cnt := h.cnt, cal := h.cal } else none
    let cnt := (fz.map Freeze.cnt).getD h.cnt
    let cal := (fz.map Freeze.cal).getD h.cal
    let v := match i.val with
      | 0 => cnt.setWidth 32
      | 1 => cntHiWord cnt fz.isSome
      | 2 => cal0Word cal
      | _ => cal1Word cal fz.isSome
    let ends := match fz with
      | some z => i.val == (if z.byCal then 3 else 1)
      | none => false
    (v, s.onHollow fun h => { h with freeze := if ends then none else fz })

/-- A read of a time register by the host: the bytes it returns are the read's data, 0 while the host reaches nothing (02 R40, 19 R529). -/
def State.readTime (s : State) (i : Fin 4) : State :=
  let r := if s.dev.dark ∨ (!s.dev.regs.attach ∧ s.ring.d3hot) then (0, s.dev) else s.dev.readTime i
  { s with dev := r.2, ring := { s.ring with rdata := bytesLE 4 r.1.toNat } }

/-- HOLLOW_CNT_LO_READ (15 R445). -/
def execHollowCntLoRead (s : State) : Host.Outcome State Fault Refusal := .next (s.readTime 0)

/-- HOLLOW_CNT_HI_READ (15 R445). -/
def execHollowCntHiRead (s : State) : Host.Outcome State Fault Refusal := .next (s.readTime 1)

/-- HOLLOW_CAL0_READ (15 R445). -/
def execHollowCal0Read (s : State) : Host.Outcome State Fault Refusal := .next (s.readTime 2)

/-- HOLLOW_CAL1_READ (15 R445). -/
def execHollowCal1Read (s : State) : Host.Outcome State Fault Refusal := .next (s.readTime 3)

end Sys2Proof.Machine
end

