-- ==== Sys2Proof/Machine/Crypto.lean ====
section
/-! DEFINITION. The algorithms that the manual names: CRC-32 (18 R501), AES-128 and CMAC (12 R351), SHA-256 and ECDSA P-256 (18 R509). -/

namespace Sys2Proof.Machine

/-! ## CRC-32 -/

/-- One bit of the reflected CRC-32 of polynomial 0x04C1_1DB7. -/
def crcBit (c : Word) : Word := if c.getLsbD 0 then (c >>> 1) ^^^ 0xEDB88320 else c >>> 1

/-- One byte. -/
def crcByte (c : Word) (b : Byte) : Word :=
  crcBit (crcBit (crcBit (crcBit (crcBit (crcBit (crcBit (crcBit (c ^^^ b.setWidth 32))))))))

/-- CRC-32 of bytes (18 R501). -/
def crc32 (bs : List Byte) : Word := ~~~ (bs.foldl crcByte 0xFFFFFFFF)

/-! ## AES-128 and CMAC -/

/-- Multiplication by x in the field of AES. -/
def xtime (a : Byte) : Byte := if a.getLsbD 7 then (a <<< 1) ^^^ 0x1B else a <<< 1

/-- Multiplication in the field of AES, over the low `n` bits of `b`. -/
def gmulN : Nat → Byte → Byte → Byte
  | 0, _, _ => 0
  | n + 1, a, b => (if b.getLsbD 0 then a else 0) ^^^ gmulN n (xtime a) (b >>> 1)

/-- Multiplication in the field of AES. -/
def gmul (a b : Byte) : Byte := gmulN 8 a b

/-- The product of the squarings of `a`, `n` of them: a^254 for 7. -/
def ginvN : Nat → Byte → Byte
  | 0, _ => 1
  | n + 1, a => gmul (gmul a a) (ginvN n (gmul a a))

/-- The S-box of AES. -/
def sbox (a : Byte) : Byte :=
  let y := ginvN 7 a
  y ^^^ y.rotateLeft 1 ^^^ y.rotateLeft 2 ^^^ y.rotateLeft 3 ^^^ y.rotateLeft 4 ^^^ 0x63

/-- Bytes added. -/
def xorBytes (a b : List Byte) : List Byte := List.zipWith (· ^^^ ·) a b

/-- ShiftRows over the 16 bytes of a block, column after column. -/
def shiftRows (s : List Byte) : List Byte :=
  (List.range 16).map fun i => s.getD ((i % 4 + 4 * ((i / 4 + i % 4) % 4))) 0

/-- MixColumns. -/
def mixColumns (s : List Byte) : List Byte :=
  (List.range 16).map fun i =>
    let at_ (r : Nat) : Byte := s.getD (4 * (i / 4) + (i + r) % 4) 0
    xtime (at_ 0) ^^^ (xtime (at_ 1) ^^^ at_ 1) ^^^ at_ 2 ^^^ at_ 3

/-- The round key that follows. -/
def nextKey (k : List Byte) (rcon : Byte) : List Byte :=
  let g := [sbox (k.getD 13 0) ^^^ rcon, sbox (k.getD 14 0), sbox (k.getD 15 0), sbox (k.getD 12 0)]
  let a := xorBytes (k.take 4) g
  let b := xorBytes ((k.drop 4).take 4) a
  let c := xorBytes ((k.drop 8).take 4) b
  let d := xorBytes (k.drop 12) c
  a ++ b ++ c ++ d

/-- The rounds of AES-128 that remain, the last without MixColumns. -/
def aesRounds : Nat → Byte → List Byte → List Byte → List Byte
  | 0, _, _, s => s
  | n + 1, rcon, k, s =>
    let k := nextKey k rcon
    let s := shiftRows (s.map sbox)
    aesRounds n (xtime rcon) k (xorBytes (if n = 0 then s else mixColumns s) k)

/-- AES-128 encryption of one block. -/
def aes128 (k s : List Byte) : List Byte := aesRounds 10 1 k (xorBytes s k)

/-- A block doubled, as CMAC's subkeys are made. -/
def dbl (b : List Byte) : List Byte :=
  let n := b.foldl (fun a x => a * 256 + x.toNat) 0
  let m := (2 * n) % 2 ^ 128 ^^^ (if 2 ^ 127 ≤ n then 0x87 else 0)
  (bytesLE 16 m).reverse

/-- CMAC over the blocks that remain (`n` bounds their number). -/
def cmacN (k k1 k2 : List Byte) : Nat → List Byte → List Byte → List Byte
  | 0, c, _ => c
  | n + 1, c, m =>
    if m.length ≤ 16 then
      let last := if m.length = 16 then xorBytes m k1 else xorBytes (m ++ 0x80 :: List.replicate (15 - m.length) 0) k2
      aes128 k (xorBytes c last)
    else cmacN k k1 k2 n (aes128 k (xorBytes c (m.take 16))) (m.drop 16)

/-- CMAC with AES-128 (NIST SP 800-38B). -/
def cmac (k m : List Byte) : List Byte :=
  let k1 := dbl (aes128 k (List.replicate 16 0))
  cmacN k k1 (dbl k1) (m.length / 16 + 1) (List.replicate 16 0) m

/-- The first 4 bytes of a tag (12 R351), as a word on the link. -/
def trunc4 (t : List Byte) : Word := BitVec.ofNat 32 (ofBytesLE (t.take 4))

/-! ## SHA-256 -/

/-- The constants of SHA-256. -/
def shaK : List Word :=
  [0x428a2f98, 0x71374491, 0xb5c0fbcf, 0xe9b5dba5, 0x3956c25b, 0x59f111f1, 0x923f82a4, 0xab1c5ed5]
  ++ [0xd807aa98, 0x12835b01, 0x243185be, 0x550c7dc3, 0x72be5d74, 0x80deb1fe, 0x9bdc06a7, 0xc19bf174]
  ++ [0xe49b69c1, 0xefbe4786, 0x0fc19dc6, 0x240ca1cc, 0x2de92c6f, 0x4a7484aa, 0x5cb0a9dc, 0x76f988da]
  ++ [0x983e5152, 0xa831c66d, 0xb00327c8, 0xbf597fc7, 0xc6e00bf3, 0xd5a79147, 0x06ca6351, 0x14292967]
  ++ [0x27b70a85, 0x2e1b2138, 0x4d2c6dfc, 0x53380d13, 0x650a7354, 0x766a0abb, 0x81c2c92e, 0x92722c85]
  ++ [0xa2bfe8a1, 0xa81a664b, 0xc24b8b70, 0xc76c51a3, 0xd192e819, 0xd6990624, 0xf40e3585, 0x106aa070]
  ++ [0x19a4c116, 0x1e376c08, 0x2748774c, 0x34b0bcb5, 0x391c0cb3, 0x4ed8aa4a, 0x5b9cca4f, 0x682e6ff3]
  ++ [0x748f82ee, 0x78a5636f, 0x84c87814, 0x8cc70208, 0x90befffa, 0xa4506ceb, 0xbef9a3f7, 0xc67178f2]

/-- The initial hash value. -/
def shaInit : List Word :=
  [0x6a09e667, 0xbb67ae85, 0x3c6ef372, 0xa54ff53a, 0x510e527f, 0x9b05688c, 0x1f83d9ab, 0x5be0cd19]

/-- The rounds of one block: the constants that remain, the schedule's next 16 words, the working variables. -/
def shaRounds : List Word → List Word → List Word → List Word
  | [], _, h => h
  | k :: ks, w, h =>
    let g (i : Nat) : Word := h.getD i 0
    let x (i : Nat) : Word := w.getD i 0
    let t1 := g 7 + ((g 4).rotateRight 6 ^^^ (g 4).rotateRight 11 ^^^ (g 4).rotateRight 25)
      + ((g 4 &&& g 5) ^^^ (~~~ (g 4) &&& g 6)) + k + x 0
    let t2 := ((g 0).rotateRight 2 ^^^ (g 0).rotateRight 13 ^^^ (g 0).rotateRight 22)
      + ((g 0 &&& g 1) ^^^ (g 0 &&& g 2) ^^^ (g 1 &&& g 2))
    let nw := ((x 14).rotateRight 17 ^^^ (x 14).rotateRight 19 ^^^ (x 14 >>> 10)) + x 9
      + ((x 1).rotateRight 7 ^^^ (x 1).rotateRight 18 ^^^ (x 1 >>> 3)) + x 0
    shaRounds ks (w.drop 1 ++ [nw]) [t1 + t2, g 0, g 1, g 2, g 3 + t1, g 4, g 5, g 6]

/-- A number of bytes, the most significant first. -/
def ofBytesBE (bs : List Byte) : Nat := bs.foldl (fun a x => a * 256 + x.toNat) 0

/-- The 16 words of a block. -/
def shaWords (b : List Byte) : List Word :=
  (List.range 16).map fun i => BitVec.ofNat 32 (ofBytesBE ((b.drop (4 * i)).take 4))

/-- The blocks that remain. -/
def shaBlocks : Nat → List Word → List Byte → List Word
  | 0, h, _ => h
  | n + 1, h, m => shaBlocks n (List.zipWith (· + ·) h (shaRounds shaK (shaWords (m.take 64)) h)) (m.drop 64)

/-- SHA-256, as a number whose first byte is the most significant. -/
def sha256 (m : List Byte) : Nat :=
  let p := m ++ 0x80 :: List.replicate ((119 - m.length % 64) % 64) 0 ++ (bytesLE 8 (8 * m.length)).reverse
  (shaBlocks (p.length / 64) shaInit p).foldl (fun a x => a * 2 ^ 32 + x.toNat) 0

/-! ## ECDSA P-256 -/

/-- The prime of P-256. -/
abbrev p256p : Nat := 0xffffffff00000001000000000000000000000000ffffffffffffffffffffffff

/-- The order of P-256. -/
abbrev p256n : Nat := 0xffffffff00000000ffffffffffffffffbce6faada7179e84f3b9cac2fc632551

/-- The coefficient b of P-256. -/
abbrev p256b : Nat := 0x5ac635d8aa3a93e7b3ebbd55769886bc651d06b0cc53b0f63bce3c3e27d2604b

/-- The base point. -/
abbrev p256g : Nat × Nat :=
  (0x6b17d1f2e12c4247f8bce6e563a440f277037d812deb33a0f4a13945d898c296,
   0x4fe342e2fe1a7f9b8ee7eb4a7c0f9e162bce33576b315ececbb6406837bf51f5)

/-- a to the power of the `n` low bits of e, modulo m. -/
def powN (m : Nat) : Nat → Nat → Nat → Nat
  | 0, _, _ => 1
  | n + 1, a, e =>
    let r := powN m n (a * a % m) (e / 2)
    if e % 2 = 1 then r * a % m else r

/-- The inverse modulo a prime of 256 bits. -/
def invMod (m a : Nat) : Nat := powN m 256 a (m - 2)

/-- Subtraction modulo p. -/
def psub (a b : Nat) : Nat := (a + p256p - b % p256p) % p256p

/-- A point of P-256, none for the point at infinity. -/
abbrev EcPoint := Option (Nat × Nat)

/-- Two points added. -/
def ecAdd : EcPoint → EcPoint → EcPoint
  | none, q => q
  | p, none => p
  | some (x, y), some (u, v) =>
    if x = u ∧ (y + v) % p256p = 0 then none
    else
      let l := if x = u then psub (3 * x * x) 3 * invMod p256p (2 * y % p256p) % p256p
               else psub v y * invMod p256p (psub u x) % p256p
      let r := psub (psub (l * l) x) u
      some (r, psub (l * psub x r) y)

/-- A multiple of a point, over the `n` low bits of `k`. -/
def ecMul : Nat → Nat → EcPoint → EcPoint
  | 0, _, _ => none
  | n + 1, k, p => (fun h => if k % 2 = 1 then ecAdd h p else h) (ecMul n (k / 2) (ecAdd p p))

/-- A signature (r, s) verifies over a hash with a public key (18 R509). -/
def ecdsaOk (x y r s hash : Nat) : Bool :=
  if p256p ≤ x ∨ p256p ≤ y ∨ y * y % p256p ≠ (x * x * x + (p256p - 3) * x + p256b) % p256p then false
  else if r = 0 ∨ p256n ≤ r ∨ s = 0 ∨ p256n ≤ s then false
  else
    let w := invMod p256n s
    match ecAdd (ecMul 256 (hash * w % p256n) (some p256g)) (ecMul 256 (r * w % p256n) (some (x, y))) with
    | none => false
    | some q => q.1 % p256n == r

end Sys2Proof.Machine
end

