-- ==== Sys2Proof/Machine/Keys.lean ====
section
/-! DEFINITION. The key area of the NV store: two copies of 64 entries, what the device reads of them, a write and how far it has come,
and the check at start-up (18 R500, R512). -/

namespace Sys2Proof.Machine

/-- UID, key and flags: bytes 0 to 27 of an entry (18 R512). -/
def KeyEntry.head (e : KeyEntry) : List Byte := bytesLE 8 e.uid.toNat ++ bytesLE 16 e.key.toNat ++ bytesLE 4 e.flags.toNat

/-- An entry as the key area holds it, 32 bytes (18 R512). -/
def KeyEntry.bytes (e : KeyEntry) : List Byte := e.head ++ bytesLE 4 e.crc.toNat

/-- The CRC-32 of an entry matches (18 R501, R512). -/
def KeyEntry.good (e : KeyEntry) : Bool := e.crc == crc32 e.head

/-- The entry that a VALE_KEY_SET writes: a key, or the mark that it is deleted. -/
def keyEntry (uid : DWord) (key : Option (BitVec 128)) : KeyEntry :=
  let e : KeyEntry := { uid, key := key.getD 0, flags := if key.isSome then 1 else 0, crc := 0 }
  { e with crc := crc32 e.head }

/-- An entry that reads right. -/
def goodEntry (x : Option KeyEntry) : Option KeyEntry := x.filter KeyEntry.good

/-- Entry `i` as the device reads it: copy A's, or copy B's where A's CRC fails (log entry 249). -/
def Nv.keyAt (n : Nv) (i : Fin 64) : Option KeyEntry := (goodEntry n.keyA[i.val]).or (goodEntry n.keyB[i.val])

/-- UID and key of an entry that holds a key. -/
def Nv.keyHeld (n : Nv) (i : Fin 64) : Option (DWord × BitVec 128) :=
  match n.keyAt i with
  | some e => if e.flags.getLsbD 0 then some (e.uid, e.key) else none
  | none => none

/-- The pairing keys by UID, at most 64 (18 R500). -/
def Nv.keys (n : Nv) : List (DWord × BitVec 128) := (List.finRange 64).filterMap n.keyHeld

/-- Where a VALE_KEY_SET writes, and what: over the UID's entry, else over one that holds no key (12 R364). -/
def Nv.keyWrite (n : Nv) (uid : DWord) (key : Option (BitVec 128)) : Option (Fin 64 × KeyEntry) :=
  match (List.finRange 64).find? fun i => (n.keyHeld i).any fun e => e.1 == uid with
  | some i => some (i, keyEntry uid key)
  | none => if key.isNone then none else ((List.finRange 64).find? fun i => (n.keyHeld i).isNone).map fun i => (i, keyEntry uid key)

/-- A write of the key area as far as it has come (18 R512): not begun (0), within copy A (1), copy A written (2), within copy B (3), done
(else). An entry within its write fails its CRC. -/
def Nv.keyStage (n : Nv) (uid : DWord) (key : Option (BitVec 128)) (k : Nat) : Nv :=
  match n.keyWrite uid key with
  | none => n
  | some (i, e) =>
    let torn : KeyEntry := { e with crc := ~~~ e.crc }
    let a (x : KeyEntry) (n : Nv) : Nv := { n with keyA := n.keyA.set i.val (some x) }
    let b (x : KeyEntry) (n : Nv) : Nv := { n with keyB := n.keyB.set i.val (some x) }
    match k with
    | 0 => n
    | 1 => a torn n
    | 2 => a e n
    | 3 => b torn (a e n)
    | _ => b e (a e n)

/-- An entry whose CRC fails is rebuilt from the other copy's, if that reads right (18 R512). -/
def rebuilt (x other : Option KeyEntry) : Option KeyEntry := if (goodEntry x).isSome then x else (goodEntry other).or x

/-- The check of the key area at start-up (18 R512, R513 step 5). -/
def Nv.checkKeys (n : Nv) : Nv :=
  { n with
    keyA := Vector.ofFn fun i => rebuilt n.keyA[i.val] n.keyB[i.val]
    keyB := Vector.ofFn fun i => rebuilt n.keyB[i.val] n.keyA[i.val] }

end Sys2Proof.Machine
end

