-- ==== Sys2Proof/Machine/Panel.lean ====
section
/-! DEFINITION. The scene panel, function 54: key scan, debounce and ghost rules, ladders, encoders, the panel queue and the opcodes of
class 0x8 (10_panel.md). -/

namespace Sys2Proof.Machine

/-! ## Handles and time -/

/-- The panel's handle (10 R295). -/
abbrev hPanel : Word := hFunc 54

/-- A key's handle. -/
abbrev hKey (k : Nat) : Word := mkHandle 2 0x0C k

/-- An encoder's handle. -/
abbrev hEnc (n : Fin 8) : Word := mkHandle 2 0x0B n.val

/-- A timestamp: the tick counter's low word, and SUBTICK, the fraction of the tick in 1/65 536, measured on PCLK (10 R292), which is
every fourth TCLK. DESIGN CHOICE: at the PCLK edge on or before now, 0 where the tick began after it (log entry 209). -/
def Dev.stamp (s : Dev) : Word × BitVec 16 :=
  (s.tick, BitVec.ofNat 16 ((s.hollow.frac - 32768 * (s.now % 4)) * 65536 / 400000000))

/-- A change of the panel. -/
def Dev.onPanel (s : Dev) (f : Panel → Panel) : Dev := { s with panel := f s.panel }

/-- A change of one key. -/
def Dev.onKey (s : Dev) (k : Fin 192) (f : Key → Key) : Dev := s.onPanel fun p => { p with keys := vmod p.keys k f }

/-- A record of the panel whose ARG the manual does not give. -/
def Dev.panelNote (s : Dev) (sev : Sev) (code : BitVec 11) : Dev := s.noteOpen sev 54 code

/-! ## The panel queue -/

/-- The queue holds its 64 entries. -/
def Panel.full (p : Panel) : Bool := 64 ≤ p.queue.length

/-- An entry joins the queue; it carries the drops since the last one in LOST (10 R293). -/
def Panel.push (p : Panel) (e : PanelEv) : Panel := { p with queue := p.queue ++ [{ e with lost := p.lost }], lost := 0 }

/-- A press or a notice is dropped (10 R293); LG_PANEL_DROP comes once for each period of fullness. -/
def Dev.panelDrop (s : Dev) (press : Bool) : Dev :=
  let fresh := !s.panel.fullLogged
  let s := s.onPanel fun p => { p with drops := p.drops + 1, lost := p.lost + 1, dropped := p.dropped || press, fullLogged := true }
  if fresh then
    s.reportOpen hPanel 54 .warn LG_PANEL_DROP
  else s

/-- EV_GHOST or EV_LADDER_MULTI joins the queue with its timestamp, or is dropped (10 R292, R293). -/
def Dev.panelNotice (s : Dev) (code : BitVec 16) (arg time : Word) : Dev :=
  if s.panel.full then s.panelDrop false
  else s.onPanel fun p => p.push { code, handle := hPanel, arg, time }

/-- ARG of EV_KEY (10 R292). -/
def keyArg (press late forced : Bool) (sub : BitVec 16) : Word :=
  mkWord [(0, 1, press.toNat), (1, 1, late.toNat), (2, 1, forced.toNat), (16, 16, sub.toNat)]

/-- A press is reported; with the queue full it is dropped and the key is unreported (10 R293). -/
def Dev.reportPress (s : Dev) (k : Fin 192) (t : Word × BitVec 16) : Dev :=
  if s.panel.full then s.panelDrop true
  else (s.onKey k fun x => { x with reported := true }).onPanel fun p =>
    p.push { code := EV_KEY, handle := hKey k.val, arg := keyArg true false false t.2, time := t.1 }

/-- The release of a reported key is reported; with the queue full it is held in the key's state (10 R293). -/
def Dev.reportRelease (s : Dev) (k : Fin 192) (t : Word × BitVec 16) (forced : Bool) : Dev :=
  if !s.panel.keys[k.val].reported then s
  else if s.panel.full then s.onKey k fun x => { x with reported := false, late := some (t.1, t.2, forced) }
  else (s.onKey k fun x => { x with reported := false }).onPanel fun p =>
    p.push { code := EV_KEY, handle := hKey k.val, arg := keyArg false false forced t.2, time := t.1 }

/-- A release that waits for space joins the queue with LATE = 1 (10 R293). -/
def Panel.takeLate (p : Panel) (k : Fin 192) : Panel :=
  match p.keys[k.val].late with
  | some (t, sub, forced) =>
    if p.full then p
    else { p with keys := vmod p.keys k fun x => { x with late := none } }.push
      { code := EV_KEY, handle := hKey k.val, arg := keyArg false true forced sub, time := t }
  | none => p

/-! ## Encoders -/

/-- Movement of an encoder that is not yet reported, in counts (10 R291). -/
def Enc.unreported (e : Enc) : Int := signed 32 (e.count - e.rep).toNat

/-- The whole detents of that movement, as far as an event holds them. -/
def Enc.detents (e : Enc) : Int := clampI (-32767) 32767 (e.unreported.tdiv e.detent)

/-- The reported position advanced by `n` detents. -/
def Enc.advance (e : Enc) (n : Int) : Enc := { e with rep := e.rep + BitVec.ofInt 32 (n * e.detent) }

/-- ARG of EV_ENC (10 R292). -/
def encArg (delta : Int) (sub : BitVec 16) : Word := mkWord [(0, 16, wrapTo 16 delta), (16, 16, sub.toNat)]

/-- The place of the encoder's newest event in the queue. -/
def Panel.encAt (p : Panel) (n : Fin 8) : Option Nat :=
  (List.range p.queue.length).reverse.find? fun i =>
    match p.queue[i]? with
    | some q => q.code == EV_ENC && q.handle == hEnc n
    | none => false

/-- An encoder's movement is queued once it reaches DETENT; with the queue full it joins an event of the same encoder that is queued,
or stays unreported (10 R291, R293). DESIGN CHOICE: of several queued ones the newest (log entry 210). -/
def Panel.takeEnc (p : Panel) (t : Word × BitVec 16) (n : Fin 8) : Panel :=
  let e := p.encs[n.val]
  let d := e.detents
  if !e.en || d = 0 then p
  else if !p.full then
    { p with encs := vmod p.encs n fun x => x.advance d }.push
      { code := EV_ENC, handle := hEnc n, arg := encArg d t.2, time := t.1 }
  else match p.encAt n with
    | none => p
    | some i =>
      let q := p.queue.getD i default
      let old := signed 16 (bitsOf q.arg.toNat 0 16)
      let new := clampI (-32767) 32767 (old + d)
      { p with
        encs := vmod p.encs n fun x => x.advance (new - old)
        queue := p.queue.set i { q with arg := encArg new (BitVec.ofNat 16 (bitsOf q.arg.toNat 16 16)) } }

/-- The count of one sample in which one ball changed (10 R290): the sign of ENCnA leading ENCnB is `Config.encPositive`. -/
def Enc.delta (e : Enc) (a b : Bool) : Int :=
  let up := if e.a != a then a != b else a == b
  let unit : Int := if (up == Config.encPositive) != e.inv then 1 else -1
  match e.mode with
  | 2 => unit
  | 1 => if e.a != a then unit else 0
  | _ => if !e.a && a then unit else 0

/-- ENCODER_TRANSITION: a sample of both balls after the glitch filter (10 R290, R291). -/
def Dev.encSample (s : Dev) (n : Fin 8) (a b : Bool) : Dev :=
  let e := s.panel.encs[n.val]
  let s1 := s.onPanel fun p => { p with encs := vmod p.encs n fun x => { x with a, b } }
  if !e.en || !s.active 54 || (e.a == a && e.b == b) then s1
  else if e.a != a && e.b != b then
    (s1.onPanel fun p => { p with encs := vmod p.encs n fun x => { x with errors := x.errors + 1 } }).panelNote
      .trace LG_PANEL_ENC_ERR
  else
    s1.onPanel fun p =>
      { p with encs := vmod p.encs n fun x => { x with count := x.count + BitVec.ofInt 32 (e.delta a b) } }.takeEnc
        s.stamp n

/-- ENCODER_TRANSITION (10 R290, R291). -/
def execEncoderTransition (n : Fin 8) (a b : Bool) (s : State) : Host.Outcome State Fault Refusal :=
  .next (s.onDev fun v => v.encSample n a b)

/-- Movement that reaches DETENT without a transition, by a smaller DETENT or by room in the queue, is queued (10 R291). -/
def Dev.takeEncs (s : Dev) : Dev :=
  if !s.active 54 then s
  else
    let t := s.stamp
    s.onPanel fun p => (List.finRange 8).foldl (fun p n => p.takeEnc t n) p

/-- What waited for space in the queue: releases in ascending key number, then encoders (10 R293). -/
def Dev.panelRefill (s : Dev) : Dev := (s.onPanel fun p => (List.finRange 192).foldl Panel.takeLate p).takeEncs

/-- The front of the queue goes to EQ (10 R292). -/
def Dev.panelForward (s : Dev) : Dev :=
  match s.panel.queue with
  | [] => s
  | e :: rest =>
    if !s.active 54 then s
    else
      let s := s.onPanel fun p => { p with queue := rest, fullLogged := false }
      let ev : Event := { code := e.code, src := 54, handle := e.handle, arg := e.arg, time := e.time, lost := e.lost }
      Dev.panelRefill { s with raised := s.raised ++ [ev] }

/-- PANEL_QUEUE_FORWARD: while EQ accepts it, that is while its cache has room (10 R292, 02 R64). -/
def execPanelQueueForward (s : State) : Host.Outcome State Fault Refusal :=
  .next (if s.ring.eqCache.length < 256 then s.onDev Dev.panelForward else s)

/-! ## The matrix -/

/-- SEL of a panel ball (19 R526) by its bit in PIN_IN: KR 0 to 7, KC 8 to 19, LCOM 20 to 27. -/
def ballSel (mux : Word × Word) (b : Nat) : Nat :=
  if b < 16 then bitsOf mux.1.toNat (2 * b) 2 else bitsOf mux.2.toNat (2 * (b - 16)) 2

/-- A key slot runs (10 R285). -/
def Dev.inKeySlot (s : Dev) : Bool := s.panel.mode == 1 && s.active 54 && s.panel.slot < 8

/-- The SEL in effect: a write during a key slot applies from the next slot (19 R526 and its coincidences). -/
def Dev.selNow (s : Dev) (b : Nat) : Nat := ballSel (if s.inKeySlot then s.panel.mux else (s.regs.pinmux0, s.regs.pinmux1)) b

/-- The ball of a row is the panel's (19 R526). -/
def Dev.krOurs (s : Dev) (r : Nat) : Bool := s.selNow r == 0

/-- The ball of a column is the panel's. -/
def Dev.kcOurs (s : Dev) (c : Nat) : Bool := s.selNow (8 + c) == 0

/-- A slot begins (10 R285). -/
def Dev.slotGo (s : Dev) (r : Nat) : Dev :=
  s.onPanel fun p => { p with slot := r, slotAt := s.now, mux := (s.regs.pinmux0, s.regs.pinmux1) }

/-! ## What the panel drives (10 R284, R285, R297, R301; 20 R533) -/

/-- What a ball of the panel is driven to: low, high, not driven with the scan pull-up on, or high-impedance. -/
inductive LineDrive where
  | low | high | pullUp | off
  deriving DecidableEq, Repr

/-- Indicator (d, c) is lit (10 R297): blinking at 1 Hz or 4 Hz in the first half of each period, in step with Hollow's seconds. -/
def Dev.lit (s : Dev) (d c : Nat) : Bool :=
  match bitsOf s.panel.leds.toNat (2 * (12 * d + c)) 2 with
  | 0 => false
  | 1 => true
  | 2 => s.hollow.pre.toNat < 16384
  | _ => s.hollow.pre.toNat % 8192 < 4096

/-- The first (BRIGHT + 1) / 256 of a display slot (10 R285). -/
def Dev.brightPart (s : Dev) : Bool := (s.now - s.panel.slotAt) * 256 < (s.panel.bright + 1) * (s.panel.ledSlot * 400)

/-- The lines of a slot in mode SHARED (10 R285), by their bit in PIN_IN. -/
def Dev.slotLine (s : Dev) (b : Nat) : LineDrive :=
  let p := s.panel
  if p.slot < 8 then
    if b < 8 then (if b = p.slot then .low else .off) else if b < 20 then .pullUp else .low
  else
    if b < 8 then .off
    else if b < 20 then (if s.lit (p.slot - 8) (b - 8) then .high else .off)
    else if b - 20 = p.slot - 8 && s.brightPart then .high
    else .low

/-- The lines as in reset: KR and KC high-impedance, LCOM low (10 R301, 20 R533). -/
def restLine (b : Nat) : LineDrive := if b < 20 then .off else .low

/-- What a ball is driven to (10 R285, R301; 19 R526; 20 R533). In SLEEP, with key wake, the primary KR lines are low and the KC lines
pulled up; with its bank B5 unpowered no ball is driven (R537). -/
def Dev.ballLine (s : Dev) (b : Nat) : LineDrive :=
  if s.regs.bankOff.getLsbD 5 then .off
  else if s.power.vmainHold then restLine b
  else if s.stopped 54 then
    if s.dark && s.power.wakeKeys && b < 20 && ballSel (s.regs.pinmux0, s.regs.pinmux1) b == 0 then (if b < 8 then .low else .pullUp)
    else restLine b
  else match s.selNow b with
    | 0 => if s.panel.mode == 1 && s.active 54 then s.slotLine b else restLine b
    | 1 => .low
    | 2 => .high
    | _ => .off

/-- PIN_IN (19 R526): a driven ball has its level, the others those of the outside. -/
def Dev.pinIn (s : Dev) (levels : BitVec 28) : Word :=
  (List.range 28).foldl (fun w b =>
    let high : Bool := match s.ballLine b with
      | .low => false
      | .high => true
      | _ => levels.getLsbD b
    if high then w ||| (1#32 <<< b) else w) 0

/-- A key's sample of one frame (10 R285, R286). -/
def Key.sample (x : Key) (pressed : Bool) (t : Word × BitVec 16) : Key :=
  if pressed == x.down then { x with reads := pressed, cnt := 0 }
  else { x with reads := pressed, cnt := x.cnt + 1, since := if x.cnt = 0 then t else x.since }

/-- The number of a matrix key (10 R284). -/
def keyNo (r c : Nat) : Fin 192 := ix 191 (r * 12 + c)

/-- The slots of a frame (10 R285). -/
def Panel.slots (p : Panel) : Nat := 8 + p.ledSlots

/-- The completions that wait for a new frame (10 R295). -/
def Dev.newFrame (s : Dev) : Dev :=
  s.panel.cfgD.foldl (fun s d => s.finish 0x80 d .ok 0) (s.onPanel fun p => { p with cfgD := [] })

/-- SCAN_SLOT: a slot ends; at the end of a key slot the KC lines that are low read pressed, and the next slot begins (10 R285). -/
def Dev.scanSlot (s : Dev) (kc : BitVec 12) : Dev :=
  if s.panel.mode ≠ 1 || !s.active 54 then s
  else
    let r := s.panel.slot
    let t := s.stamp
    let s := if 8 ≤ r then s else
      s.onPanel fun p =>
        { p with
          rowAt := p.rowAt.set (ix 7 r).val t
          keys := (List.finRange 12).foldl (fun ks c =>
            vmod ks (keyNo r c.val) fun x => x.sample (kc.getLsbD c.val && s.krOurs r && s.kcOurs c.val) t) p.keys }
    if r + 1 < s.panel.slots then s.slotGo (r + 1) else (s.slotGo 0).newFrame

/-- SCAN_SLOT (10 R285). -/
def execScanSlot (kc : BitVec 12) (s : State) : Host.Outcome State Fault Refusal :=
  .next (s.onDev fun v => v.scanSlot kc)

/-! ## Debounced changes and ghost rules -/

/-- A press on row r and column c falls on a blocked line (10 R287). -/
def Panel.onBlock (p : Panel) (r c : Nat) : Bool := p.blocks.any fun b => b.1 == r || b.2.1 == r || b.2.2.1 == c || b.2.2.2 == c

/-- A key reads pressed, and is not one whose press a block has ignored, which is treated as released (10 R287). -/
def Panel.pressedNow (p : Panel) (k : Fin 192) : Bool :=
  let x := p.keys[k.val]
  x.reads && (x.down || !p.onBlock (k.val / 12) (k.val % 12))

/-- The corners of a rectangle, in ascending key number. -/
def corners (b : Nat × Nat × Nat × Nat) : List (Fin 192) :=
  [keyNo b.1 b.2.2.1, keyNo b.1 b.2.2.2, keyNo b.2.1 b.2.2.1, keyNo b.2.1 b.2.2.2]

/-- The first rectangle of pressed keys with a corner at (r, c), which reads pressed (10 R287). -/
def Panel.rectangle (p : Panel) (r c : Nat) : Option (Nat × Nat × Nat × Nat) :=
  (((List.range 8).filter (· != r)).flatMap fun r' => ((List.range 12).filter (· != c)).map fun c' =>
      (min r r', max r r', min c c', max c c')).find? fun b =>
    (corners b).all fun k => k == keyNo r c || p.pressedNow k

/-- A key is debounced afresh from the frame of the release, which was sampled on `row` (10 R287): that frame counts where the key's row
was sampled in it already, as every row was when the scan has come round to the release's row or one before it. -/
def Panel.afresh (p : Panel) (row : Nat) (k : Fin 192) : Panel :=
  let r := k.val / 12
  { p with keys := vmod p.keys k fun x =>
      if x.reads && (r < p.slot || p.slot ≤ row) then { x with down := false, withheld := false, cnt := 1, since := p.rowAt[(ix 7 r).val] }
      else { x with down := false, withheld := false, cnt := 0 } }

/-- Blocks end: the unreported keys on their lines, but for those on a line of a block that remains, are debounced afresh (10 R287). -/
def Panel.endBlocks (p : Panel) (row : Nat) (gone : Nat × Nat × Nat × Nat → Bool) : Panel :=
  let out := p.blocks.filter gone
  let q := { p with blocks := p.blocks.filter fun b => !gone b }
  ((List.finRange 192).filter fun k =>
      k.val < 96 && !p.keys[k.val].reported && (out.any fun b =>
        b.1 == k.val / 12 || b.2.1 == k.val / 12 || b.2.2.1 == k.val % 12 || b.2.2.2 == k.val % 12)
        && !q.onBlock (k.val / 12) (k.val % 12)).foldl (fun p k => p.afresh row k) q

/-- A rectangle is found (10 R287). With two corners already reported the lower of the others is the third key and is reported, the
higher is suppressed, and LG_PANEL_GHOST is logged; with fewer, every unreported corner is withheld. The lines become blocked. DESIGN
CHOICE: the timestamp of EV_GHOST is the acceptance (log entry 211). -/
def Dev.ghost (s : Dev) (b : Nat × Nat × Nat × Nat) (t : Fin 192 → Word × BitVec 16) : Dev :=
  let new := (corners b).filter fun k => !s.panel.keys[k.val].reported
  let known := new.length ≤ 2
  let third := if new.length = 2 then new.take 1 else []
  let s := s.onPanel fun p => { p with
    ghosts := p.ghosts + 1
    blocks := p.blocks ++ [b]
    keys := new.foldl (fun ks k => vmod ks k fun x =>
      { x with down := true, reads := true, cnt := 0, withheld := !third.contains k }) p.keys }
  let s := third.foldl (fun s k => s.reportPress k (t k)) s
  let s := s.panelNotice EV_GHOST
    (mkWord [(0, 3, b.1), (3, 3, b.2.1), (8, 4, b.2.2.1), (12, 4, b.2.2.2), (16, 1, (!known).toNat)]) s.tick
  if known then s.panelNote .info LG_PANEL_GHOST else s

/-- A debounced press is accepted (10 R286, R287). -/
def Dev.keyPressed (s : Dev) (k : Fin 192) : Dev :=
  let r := k.val / 12
  let c := k.val % 12
  let now := s.stamp
  let t := fun (i : Fin 192) => if s.panel.keys[i.val].cnt = 0 then now else s.panel.keys[i.val].since
  if !s.panel.diodes && s.panel.onBlock r c then s.onKey k fun x => { x with cnt := 0, reads := true }
  else match (if s.panel.diodes then none else s.panel.rectangle r c) with
    | some b => s.ghost b t
    | none => (s.onKey k fun x => { x with down := true, reads := true, cnt := 0, withheld := false }).reportPress k (t k)

/-- A debounced release is accepted (10 R286, R287): that of a reported corner ends its block, and a block none of whose corners is
down any more ends too. -/
def Dev.keyReleased (s : Dev) (k : Fin 192) : Dev :=
  let x := s.panel.keys[k.val]
  let t := if x.cnt = 0 then s.stamp else x.since
  let s := (s.onKey k fun x => { x with down := false, reads := false, cnt := 0, withheld := false }).reportRelease k t false
  s.onPanel fun p => p.endBlocks (k.val / 12) fun b =>
    ((corners b).contains k && x.reported) || (corners b).all fun i => !p.keys[i.val].down

/-- The last DEB samples of a key all read a state other than its debounced one (10 R286). -/
def Panel.changed (p : Panel) (k : Fin 192) (pressed : Bool) : Bool :=
  let x := p.keys[k.val]
  x.down != pressed && x.reads == pressed && p.deb ≤ x.cnt

/-- KEY_DEBOUNCED: a key has read its new state for DEB frames (10 R286). -/
def Dev.keyDebounced (s : Dev) (k : Fin 96) (pressed : Bool) : Dev :=
  let i : Fin 192 := ix 191 k.val
  if s.panel.mode ≠ 1 || !s.active 54 || !s.panel.changed i pressed then s
  else if pressed then s.keyPressed i else s.keyReleased i

/-- KEY_DEBOUNCED (10 R286, R287, R293). -/
def execKeyDebounced (k : Fin 96) (pressed : Bool) (s : State) : Host.Outcome State Fault Refusal :=
  .next (s.onDev fun v => v.keyDebounced k pressed)

/-! ## Ladders -/

/-- NOM of a position (10 R296). -/
def Ladder.nomOf (l : Ladder) (k : Nat) : Nat := bitsOf l.nom.toNat (8 * k) 8

/-- The value that a 14-bit code decodes to (10 R288). -/
def Ladder.decode (l : Ladder) (v : Nat) : LadVal :=
  if l.idle * 64 ≤ v then .idle
  else match (List.finRange 12).find? fun k =>
      l.nomOf k.val != 0xFF && v ≤ l.nomOf k.val * 64 + 32 + l.tol && l.nomOf k.val * 64 + 32 ≤ v + l.tol with
    | some k => .key k
    | none => .multi

/-- The key of a ladder that is reported, or was before LADDER_MULTI (10 R289). -/
def Ladder.key (l : Ladder) : Option (Fin 12) :=
  match l.value with
  | .idle => none
  | .key k => some k
  | .multi => l.held

/-- A change of a ladder. -/
def Dev.onLadder (s : Dev) (n : Fin 16) (f : Ladder → Ladder) : Dev := s.onPanel fun p => { p with ladders := vmod p.ladders n f }

/-- The number of a ladder key (10 R284). -/
def ladderKey (n : Fin 16) (k : Fin 12) : Fin 192 := ix 191 (n.val * 12 + k.val)

/-- A ladder accepts a value (10 R289). -/
def Dev.ladderAccept (s : Dev) (n : Fin 16) (v : LadVal) (t : Word × BitVec 16) : Dev :=
  let old := s.panel.ladders[n.val].key
  let s := s.onLadder n fun l => { l with value := v, held := if v = .multi then old else none, cnt := 0 }
  let drop (s : Dev) : Dev := match old with
    | some k => (s.reportRelease (ladderKey n k) t false).onKey (ladderKey n k) fun x => { x with down := false }
    | none => s
  match v with
  | .idle => drop s
  | .key j =>
    if old = some j then s
    else ((drop s).onKey (ladderKey n j) fun x => { x with down := true }).reportPress (ladderKey n j) t
  | .multi => (s.panelNotice EV_LADDER_MULTI (mkWord [(0, 4, n.val)]) t.1).panelNote .info LG_PANEL_MULTI

/-- A valid result word of a ladder's input (10 R288, R289). -/
def Dev.ladderWord (s : Dev) (n : Fin 16) (w : Word) : Dev :=
  let v := s.panel.ladders[n.val].decode (bitsOf w.toNat 10 14)
  let s := if v = .multi then s.onPanel fun p => { p with multiSeen := true } else s
  let t := s.stamp
  let s := s.onLadder n fun l =>
    if v = l.value then { l with cand := v, cnt := 0 }
    else if v = l.cand ∧ l.cnt ≠ 0 then { l with cnt := l.cnt + 1 }
    else { l with cand := v, cnt := 1, since := t }
  let l := s.panel.ladders[n.val]
  if v ≠ l.value ∧ s.panel.deb ≤ l.cnt then s.ladderAccept n v l.since else s

/-- The end-of-conversion event of a result reaches the panel: the ladder bound to it takes words with VALID = 1 and its TAG
(04 R119, 10 R288). -/
def Dev.ladderSample (s : Dev) (h w : Word) : Dev :=
  if s.panel.mode ≠ 2 || !s.active 54 || !w.getLsbD 31 then s
  else (List.finRange 16).foldl (fun s n =>
    let l := s.panel.ladders[n.val]
    if l.source == h && (!l.tagm || bitsOf w.toNat 24 4 == l.tag) then s.ladderWord n w else s) s

/-- The key of a ladder is released at once with FORCED = 1 (10 R289, R296). -/
def Dev.ladderForced (s : Dev) (n : Fin 16) : Dev :=
  let old := s.panel.ladders[n.val].key
  let s := s.onLadder n fun l => { l with value := .idle, held := none, cand := .idle, cnt := 0 }
  match old with
  | some k => (s.reportRelease (ladderKey n k) s.stamp true).onKey (ladderKey n k) fun x => { x with down := false }
  | none => s

/-- A converter function is held in reset: its ladders release their keys (10 R289). -/
def Dev.ladderConvHeld (s : Dev) (c : Fin 3) : Dev :=
  (List.finRange 16).foldl (fun s n =>
    match objOf s.panel.ladders[n.val].source with
    | some (.convResult c' _) => if c' = c then s.ladderForced n else s
    | _ => s) s

/-! ## Class 0x8 -/

def opPanelConfig : OpInfo :=
  { op := 0x80, accepts := .panel, needsEn := true,
    fields := [(8, 0, 2), (9, 0, 1), (10, 0, 8), (11, 0, 8), (12, 0, 16), (14, 0, 8)] }
def opPanelLadder : OpInfo :=
  { op := 0x81, accepts := .panel, needsEn := true, fields := [(8, 0, 4), (9, 0, 8), (10, 0, 5), (11, 0, 8), (12, 0, 128)] }
def opPanelLed : OpInfo := { op := 0x82, accepts := .panel, needsEn := true, fields := [(8, 0, 192)] }
def opEncConfig : OpInfo := { op := 0x83, accepts := .encoder, needsEn := true, fields := [(8, 0, 4), (9, 0, 16)] }
def opEncRead : OpInfo := { op := 0x84, accepts := .encoder, needsEn := true }
def opPanelStatusGet : OpInfo := { op := 0x85, accepts := .panel, needsEn := true, fields := [(8, 0, 2)] }

/-- Every reported key is released with FORCED = 1, ghost blocks end, the scan is at row 0 (10 R295). -/
def Dev.panelRestart (s : Dev) : Dev :=
  let s := ((List.finRange 192).foldl (fun s k => s.reportRelease k s.stamp true) s).slotGo 0
  s.onPanel fun p => { p with
    blocks := []
    keys := p.keys.map fun x => { late := x.late }
    ladders := p.ladders.map fun l => { l with value := .idle, held := none, cand := .idle, cnt := 0 } }

/-- PANEL_CONFIG (10 R295): complete once the new frame has started, which a restart does at once. -/
def doPanelConfig (d : Desc) (s : Dev) : Dev × Res :=
  let mode := d.bits 8 0 2
  let ks := d.bits 10 0 8
  let ls := d.bits 11 0 4
  let deb := d.bits 11 4 4
  let led := d.bits 12 0 16
  if mode = 3 ∨ ks < 5 ∨ 100 < ks ∨ 8 < ls ∨ deb = 0 ∨ led < 100 ∨ 2000 < led then refuse s .range
  else
    let p := s.panel
    let change := p.mode != mode || p.keySlot != ks || p.ledSlots != ls || p.ledSlot != led
    let s := if change then s.panelRestart.newFrame else s
    let s := s.onPanel fun p =>
      { p with mode, diodes := d.flag 9 0, keySlot := ks, ledSlots := ls, deb, ledSlot := led, bright := d.bits 14 0 8 }
    if change || mode != 1 then (s, .ok) else (s.onPanel fun p => { p with cfgD := p.cfgD ++ [d] }, .wait)

/-- Windows of used positions overlap, or reach IDLE × 64 (10 R296). -/
def ladderBad (l : Ladder) : Bool :=
  let used := (List.range 12).filter fun k => l.nomOf k != 0xFF
  l.tol == 0 || l.idle == 0
    || used.any (fun i => used.any fun j => i < j && (max (l.nomOf i) (l.nomOf j) - min (l.nomOf i) (l.nomOf j)) * 64 ≤ 2 * l.tol)
    || used.any fun k => l.idle * 64 ≤ l.nomOf k * 64 + 32 + l.tol

/-- SOURCE is null, or a result of FA0 or FA1, input 0 to 15 (10 R288). -/
def ladderSourceOk (h : Word) : Bool :=
  h == 0 || (match objOf h with
    | some (.convResult c i) => c.val < 2 && i.val < 16
    | _ => false)

/-- PANEL_LADDER (10 R296). -/
def doPanelLadder (d : Desc) (s : Dev) : Dev × Res :=
  let n : Fin 16 := ix 15 (d.bits 8 0 4)
  let l : Ladder := { source := d.word 12, tol := d.bits 9 0 8, tag := d.bits 10 0 4, tagm := d.flag 10 4,
                      idle := d.bits 11 0 8, nom := BitVec.ofNat 96 (d.bits 16 0 96) }
  if ladderBad l || d.bits 28 0 32 != 0 || !ladderSourceOk l.source then refuse s .range
  else if l.source != 0 && (List.finRange 16).any fun m => m != n && s.panel.ladders[m.val].source == l.source then
    refuse s .conflict
  else ((s.ladderForced n).onLadder n fun _ => l, .ok)

/-- PANEL_LED (10 R297). -/
def doPanelLed (d : Desc) (s : Dev) : Dev × Res := (s.onPanel fun p => { p with leds := d.pay }, .ok)

/-- ENC_CONFIG: enabling the encoder sets the count to 0 (10 R290, R298). -/
def doEncConfig (d : Desc) (n : Fin 8) (s : Dev) : Dev × Res :=
  let en := d.flag 8 0
  if d.bits 8 1 2 = 3 ∨ d.bits 10 0 8 = 0 then refuse s .range
  else
    ((s.onPanel fun p => { p with encs := vmod p.encs n fun x =>
      { x with en, mode := d.bits 8 1 2, inv := d.flag 8 3, filt := d.bits 9 0 8, detent := d.bits 10 0 8,
               count := if en && !x.en then 0 else x.count, rep := if en && !x.en then 0 else x.rep } }).takeEncs, .ok)

/-- ENC_READ: the count and ERRORS (10 R298). -/
def doEncRead (n : Fin 8) (s : Dev) : Dev × Res :=
  let e := s.panel.encs[n.val]
  (s, .done .ok (mkRes [(8, 0, 32, e.count.toNat), (12, 0, 32, e.errors.toNat)]))

/-- The reported-pressed keys as bits from key `lo` (10 R299); a key whose release waits for space is still reported pressed. -/
def Panel.keyMap (p : Panel) (lo : Nat) : DWord :=
  BitVec.ofFnLE fun b : Fin 64 => (p.keys[(ix 191 (lo + b.val)).val]).reported || (p.keys[(ix 191 (lo + b.val)).val]).late.isSome

/-- PANEL_STATUS_GET (10 R299). -/
def doPanelStatusGet (d : Desc) (s : Dev) : Dev × Res :=
  (s, .done .ok (match d.bits 8 0 2 with
    | 3 => mkRes [(8, 0, 32, s.panel.drops.toNat), (12, 0, 32, s.panel.ghosts.toNat)]
    | k => s.panel.keyMap (64 * k)))

/-- An opcode on an encoder. -/
def onEncObj (f : Fin 8 → Dev → Dev × Res) : Obj → Dev → Dev × Res
  | .encoder n, s => f n s
  | _, s => refuse s .badHandle

/-- PANEL_CONFIG (opcode 0x80, 10 R295). -/
def execPanelConfig (d : Desc) (s : State) : Host.Outcome State Fault Refusal :=
  .next (s.desc opPanelConfig d fun _ => doPanelConfig d)

/-- PANEL_LADDER (opcode 0x81, 10 R296). -/
def execPanelLadder (d : Desc) (s : State) : Host.Outcome State Fault Refusal :=
  .next (s.desc opPanelLadder d fun _ => doPanelLadder d)

/-- PANEL_LED (opcode 0x82, 10 R297). -/
def execPanelLed (d : Desc) (s : State) : Host.Outcome State Fault Refusal :=
  .next (s.desc opPanelLed d fun _ => doPanelLed d)

/-- ENC_CONFIG (opcode 0x83, 10 R298). -/
def execEncConfig (d : Desc) (s : State) : Host.Outcome State Fault Refusal :=
  .next (s.desc opEncConfig d (onEncObj (doEncConfig d)))

/-- ENC_READ (opcode 0x84, 10 R298). -/
def execEncRead (d : Desc) (s : State) : Host.Outcome State Fault Refusal :=
  .next (s.desc opEncRead d (onEncObj doEncRead))

/-- PANEL_STATUS_GET (opcode 0x85, 10 R299). -/
def execPanelStatusGet (d : Desc) (s : State) : Host.Outcome State Fault Refusal :=
  .next (s.desc opPanelStatusGet d fun _ => doPanelStatusGet d)

/-! ## Holds and releases -/

/-- Function 54 is held: the queue and the key states are discarded (10 R301). -/
def Dev.panelHold (s : Dev) : Dev :=
  s.onPanel fun p => { p with
    slot := 0, cfgD := [], blocks := [], queue := [], lost := 0, fullLogged := false
    keys := Vector.replicate 192 {}
    ladders := p.ladders.map fun l => { l with value := .idle, held := none, cand := .idle, cnt := 0 } }

/-- Function 54 is released, enabled, or wakes: scanning restarts at row 0 with every key released (10 R301); movement of an encoder
that the queue no longer holds is queued (R291). -/
def Dev.panelRelease (s : Dev) : Dev := (s.panelHold.slotGo 0).takeEncs

end Sys2Proof.Machine
end

