-- ==== Sys2Proof/Machine/Conv.lean ====
section
/-! DEFINITION. The converters FA0, FA1 and PA, functions 3 to 5: visits, samples, results, waits and strobes, urgent conversions, the
reference and the opcodes of class 0x2 (04_measurement.md); and how an end-of-conversion event triggers a loop (05 R133, R137). -/

namespace Sys2Proof.Machine

/-! ## What other blocks give -/

/-- The rate of the phase accumulator in 2^-48 cycle per TCLK (03 R78, R83). -/
def Tb.rate (t : Tb) : Nat := (t.inc + t.corr).toNat

/-- TB_FREQ, the angle's frequency in Hz, Q16.16 (03 R78, R98). -/
def Tb.freq (t : Tb) : Word := BitVec.ofNat 32 ((t.rate * 400000000 + 2 ^ 31) / 2 ^ 32)

/-- TB_PERIOD: a line cycle in 1/256 TCLK (03 R98); 0 while the angle stands. DEDUCED from the example of 03 R101, where INC 0x0218_DEF4 gives
0x7A12_0000: it is the period of the frequency that TB_FREQ shows (log entry 126). -/
def Tb.period (t : Tb) : Nat :=
  let f := t.freq.toNat
  if f = 0 then 0 else (400000000 * 2 ^ 24 + f / 2) / f

/-- The function of a PWM channel's bank. -/
abbrev pwmFunc (c : Fin 48) : Nat := 16 + c.val / 8

/-- A PWM channel has boundaries: it runs (07 R213). -/
def Dev.pwmRuns (s : Dev) (c : Fin 48) : Bool :=
  s.pwms[c.val].en && s.pwms[c.val].run && !s.held (pwmFunc c) && !s.stopped (pwmFunc c)

/-- The drive channels of a fan or damper whose function is held go to their INERT level (09 R282). -/
def Dev.driveInert (s : Dev) (c : Fin 48) : Bool :=
  (List.finRange 12).any fun n =>
    let f := s.fans[n.val]
    let x := s.dampers[n.val]
    (f.wasEn && s.held (30 + n.val) && f.ch == c.val)
      || (x.wasEn && s.held (42 + n.val) && (x.chA == c.val || x.chB == c.val))

/-! ## Loops' triggers -/

/-- A loop's handle (05 R158). -/
abbrev hLoop (n : Fin 144) : Word := mkHandle 3 0x01 n.val

/-- The function of the engine that runs a loop (05 R132). -/
abbrev loopFunc (n : Fin 144) : Nat := 6 + n.val / 24

/-- A change of a loop. -/
def Dev.onLoop (s : Dev) (n : Fin 144) (f : Loop → Loop) : Dev := { s with loops := vmod s.loops n f }

/-- A loop is enabled and its engine works. -/
def Dev.loopLive (s : Dev) (n : Fin 144) : Bool := s.loops[n.val].state != .disabled && s.active (loopFunc n)

/-- A loop's trigger fires: it is due from now, behind what has arrived before it (05 R135, R136); while the run of the previous one has
not started this is an overrun (R137). -/
def Dev.loopTrigger (s : Dev) (n : Fin 144) : Dev :=
  if !s.loopLive n then s
  else if s.loops[n.val].due then
    ((s.onLoop n fun l => { l with overruns := l.overruns + 1 }).report (hLoop n) (loopFunc n) .warn LG_LOOP_OVERRUN
      (mkWord [(0, 8, n.val)])).1
  else { s.onLoop n fun l => { l with due := true, trigAt := s.now, trigNo := s.trigs } with trigs := s.trigs + 1 }

/-- An end-of-conversion event reaches a loop bound to its input: every (EOC_DIV + 1)-th that its TAG admits triggers it, with the
word the event carries (05 R133, R138). -/
def Dev.loopEoc (s : Dev) (h w : Word) (n : Fin 144) : Dev :=
  let l := s.loops[n.val]
  if l.trig ≠ 1 || l.input != h || !s.loopLive n || (l.tagm && bitsOf w.toNat 24 4 != l.tag) then s
  else if l.eocCnt < l.eocDiv then s.onLoop n fun l => { l with eocCnt := l.eocCnt + 1 }
  else (s.onLoop n fun l => { l with eocCnt := 0, eocWord := w }).loopTrigger n

/-! ## Sequencer entries -/

/-- A field of an entry: byte offset, bit, width (04 R109). -/
def SeqEntry.get (e : SeqEntry) (off bit w : Nat) : Nat := bitsOf e.toNat (8 * off + bit) w

abbrev SeqEntry.input (e : SeqEntry) : Nat := SeqEntry.get e 0 0 6
abbrev SeqEntry.diff (e : SeqEntry) : Bool := SeqEntry.get e 0 6 1 == 1
abbrev SeqEntry.skip (e : SeqEntry) : Bool := SeqEntry.get e 0 7 1 == 1
abbrev SeqEntry.gain (e : SeqEntry) : Nat := SeqEntry.get e 1 0 3
abbrev SeqEntry.order (e : SeqEntry) : Bool := SeqEntry.get e 1 3 1 == 1
abbrev SeqEntry.lock (e : SeqEntry) : Bool := SeqEntry.get e 1 4 1 == 1
abbrev SeqEntry.openChk (e : SeqEntry) : Nat := SeqEntry.get e 1 5 2
abbrev SeqEntry.tag (e : SeqEntry) : Nat := SeqEntry.get e 2 0 4
abbrev SeqEntry.rep (e : SeqEntry) : Nat := SeqEntry.get e 3 0 8
abbrev SeqEntry.avg (e : SeqEntry) : Nat := SeqEntry.get e 4 0 8
abbrev SeqEntry.shift (e : SeqEntry) : Nat := SeqEntry.get e 5 0 4
abbrev SeqEntry.timing (e : SeqEntry) : Nat := SeqEntry.get e 6 0 16
abbrev SeqEntry.dtype (e : SeqEntry) : Nat := SeqEntry.get e 8 0 2
abbrev SeqEntry.dsel (e : SeqEntry) : Nat := SeqEntry.get e 9 0 8
abbrev SeqEntry.dly (e : SeqEntry) : Nat := SeqEntry.get e 12 0 32

/-- An entry is acceptable (04 R109, R110). -/
def entryOk (pa : Bool) (e : SeqEntry) : Bool :=
  let inner := 48 ≤ e.input && e.input ≤ 55
  (e.input < (if pa then 32 else 16) || inner)
    && (!e.diff || (pa && e.input < 32 && e.input % 2 == 0))
    && (if inner then e.gain == 0 else pa || e.gain ≤ 3)
    && (pa || (!e.order && !e.lock))
    && e.openChk ≤ (if pa then 1 else 2)
    && e.shift ≤ 8 && e.avg + 1 ≤ 2 ^ e.shift
    && (if !pa then e.timing ≤ 8000 else if e.lock then e.timing == 0 else 50 ≤ e.timing && e.timing ≤ 40000)
    && (match e.dtype with
        | 0 => e.dsel == 0 && e.dly ≤ 80000000
        | 1 => e.dsel < 16 && 1 ≤ e.dly && e.dly ≤ 80000000
        | 2 => e.dsel % 64 < 48 && e.dsel < 192 && 1 ≤ e.dly && e.dly ≤ 80000000
        | _ => false)

/-- The settings whose change asks for settling (04 R107). -/
def convSet (pa : Bool) (e : SeqEntry) : ConvSet :=
  if pa then { input := e.input, diff := e.diff, gain := e.gain, order := e.order, lock := e.lock, timing := e.timing }
  else { input := e.input, diff := e.diff, gain := e.gain, order := false, lock := false, timing := 0 }

/-! ## Samples -/

/-- The raw code of a sample within its converter's range (04 R104). -/
def rawOf (pa : Bool) (raw : Int) : Int := if pa then clampI (-8388608) 8388607 raw else clampI 0 16383 raw

/-- Open (3), overrange (2) or neither (0), judged on the raw code (04 R112). -/
def judgeRaw (pa : Bool) (openChk : Nat) (raw : Int) (overload : Bool) : Nat :=
  if pa then
    if openChk = 1 ∧ raw = 8388607 then 3
    else if raw = -8388608 ∨ raw = 8388607 ∨ overload then 2 else 0
  else if openChk = 1 ∧ 16368 ≤ raw then 3
  else if openChk = 2 ∧ raw ≤ 15 then 3
  else if raw = 16383 then 2 else 0

/-- Data of a sample after its input's correction, and whether it saturated (04 R104, R113). -/
def calibrate (pa : Bool) (i : ConvInput) (raw : Int) : Int × Bool :=
  let x := roundDiv (((if pa then raw else raw * 1024) - i.offset) * i.gain) (2 ^ 30)
  let y := if pa then clampI (-8388608) 8388607 x else clampI 0 0xFFFFFF x
  (y, y != x)

/-- A sample's data and its cause without the converter's own: 3 open, 2 overrange, 0 none (04 R112, R113). -/
def convSample (pa : Bool) (e : SeqEntry) (i : ConvInput) (raw : Int) (overload : Bool) : Int × Nat :=
  let r := rawOf pa raw
  let c := calibrate pa i r
  let j := judgeRaw pa e.openChk r overload
  (c.1, if j ≠ 0 then j else if c.2 then 2 else 0)

/-- CAUSE of a sample by the order of 04 R106. -/
def causeOf (notReady : Bool) (judged : Nat) (settling urgentSlot : Bool) : Nat :=
  if notReady then 4 else if judged = 3 then 3 else if judged = 2 then 2
  else if settling then (if urgentSlot then 5 else 1) else 0

/-- A sample joins its group, unless SKIPSET discards it (04 R111). -/
def Group.add (g : Group) (skip : Bool) (data : Int) (cause : Nat) : Group :=
  if skip && (cause == 1 || cause == 5) then g
  else { n := g.n + 1, sum := g.sum + data, bad := if g.bad.isSome || cause == 0 then g.bad else some cause }

/-- The result word of a complete group (04 R105, R111). -/
def Group.word (g : Group) (e : SeqEntry) : Word :=
  mkWord [(31, 1, g.bad.isNone.toNat), (28, 3, g.bad.getD 0), (24, 4, e.tag), (0, 24, wrapTo 24 (g.sum / 2 ^ e.shift))]

/-! ## Converters -/

/-- The function of a converter (04 R102). -/
abbrev convFunc (c : Fin 3) : Nat := 3 + c.val

/-- A change of a converter. -/
def Dev.onConv (s : Dev) (c : Fin 3) (f : Conv → Conv) : Dev := { s with convs := vmod s.convs c f }

/-- A converter's result handle (01 R31). -/
abbrev hResult (c : Fin 3) (i : Nat) : Word := mkHandle 1 0x01 (64 * c.val + i)

/-- ARG of EV_ADC_REF (04 R118). -/
def refArg (level lost : Bool) (refsel : Nat) : Word := mkWord [(0, 1, level.toNat), (1, 1, lost.toNat), (2, 2, refsel)]

/-- EV_ADC_REF with the level as it stands (04 R118, R130). -/
def Dev.refEvent (s : Dev) (c : Fin 3) : Dev :=
  s.raise EV_ADC_REF (convFunc c) (hFunc (convFunc c)) (refArg s.convs[c.val].refOk false s.convs[c.val].refsel)

/-- The post-delay of a visit runs: timed or waiting, and not ended behind an urgent conversion (04 R116, R117). -/
def Conv.inPost (v : Conv) : Bool :=
  (v.phase == .postDelay || v.phase == .wait) && !(v.urgent.any fun u => u.ended)

/-- The converter is in a wait. -/
def Conv.inWait (v : Conv) : Bool := v.phase == .wait && v.inPost

/-- The output period of PA in modulator clocks (04 R115). -/
def Dev.paPeriod (s : Dev) (e : SeqEntry) : Nat :=
  if !e.lock then e.timing * 4
  else if s.tb.valid then s.tb.period / 256 / 250
  else if s.tb.nom60 then 26666 else 32000

/-- Samples of a visit that settling marks, and whether urgent-slot stands in its place (04 R107): PA without a restart goes on with
the outputs that its filter still has to settle (16, the example of a Vale wake). DESIGN CHOICE: the first visit after reset, which has
no previous conversion, differs from it (log entry 198). -/
def Conv.marks (v : Conv) (pa urg : Bool) (e : SeqEntry) : Nat × Bool :=
  let differs := v.prev != some (convSet pa e)
  if pa then
    if differs || v.prevPost || v.just || urg then (if e.order then 4 else 3, v.prevUrgent) else (v.settling, v.settleUrgent)
  else (if differs && e.timing < 20 then 1 else 0, v.prevUrgent)

/-- The visit of entry `v.entry` starts: its contents are latched (04 R108). -/
def Dev.beginVisit (s : Dev) (c : Fin 3) : Dev :=
  let pa := c.val == 2
  let v := s.convs[c.val]
  let e := v.table[(ix 31 v.entry).val]
  let m := v.marks pa false e
  s.onConv c fun v =>
    { v with cur := e, wordsLeft := e.rep + 1, group := {}, settling := m.1, settleUrgent := m.2,
             phase := if !pa && e.timing != 0 then .settle else .convert,
             just := false, prevPost := false,
             period := if pa then s.paPeriod e else v.period }

/-- The next visit: past LAST the table starts again at entry 0 (04 R108, R120). -/
def Dev.nextVisit (s : Dev) (c : Fin 3) : Dev :=
  (s.onConv c fun v => { v with entry := if v.last ≤ v.entry then 0 else v.entry + 1 }).beginVisit c

/-- The post-delay of a visit ends; behind an urgent conversion the next visit waits for that one's end (04 R117). -/
def Dev.endPost (s : Dev) (c : Fin 3) : Dev :=
  match s.convs[c.val].urgent with
  | some u => s.onConv c fun v => { v with urgent := some { u with ended := true } }
  | none => s.nextVisit c

/-- A wait ends by release (04 R114). -/
def Dev.releaseWait (s : Dev) (c : Fin 3) : Dev := (s.onConv c fun v => { v with released := v.released + 1 }).endPost c

/-- What a wait waits for is not there (04 R114). -/
def Dev.waitGone (s : Dev) (e : SeqEntry) : Bool :=
  let c := ix 47 (e.dsel % 64)
  if e.dtype = 1 then !s.tb.valid else !s.pwmRuns c || s.driveInert c

/-- The conversions of a visit are done: its post-delay begins (04 R108, R114). DESIGN CHOICE: a wait that is released the moment it begins is
a post-delay that was not 0 for the restart of PA's filter (log entry 230). -/
def Dev.visitDone (s : Dev) (c : Fin 3) : Dev :=
  let e := s.convs[c.val].cur
  if e.dtype = 0 then
    if e.dly = 0 then s.nextVisit c
    else s.onConv c fun v => { v with phase := .postDelay, prevPost := true }
  else
    let s := s.onConv c fun v => { v with phase := .wait, prevPost := true }
    if s.waitGone e then s.releaseWait c else s

/-- A result word is written to its input's slot and its end-of-conversion event sent (04 R119). -/
def Dev.deliver (s : Dev) (c : Fin 3) (i : Fin 64) (w : Word) : Dev :=
  let h := hResult c i.val
  let s := s.onConv c fun v => { v with inputs := vmod v.inputs i fun x => { x with word := w, count := x.count + 1 } }
  let s := (List.finRange 144).foldl (fun s n => s.loopEoc h w n) s
  s.ladderSample h w

/-- An open or overrange sample sets its flag and is logged when it is the first after a valid one; a valid sample makes the next one
the first again (04 R128, R129). -/
def Dev.seen (s : Dev) (c : Fin 3) (i : Fin 64) (judged cause : Nat) : Dev :=
  let x := s.convs[c.val].inputs[i.val]
  let arg := hResult c i.val
  if judged = 3 then
    let s := s.onConv c fun v => { v with openSeen := true, inputs := vmod v.inputs i fun x => { x with openLogged := true } }
    if x.openLogged then s else (s.report (hFunc (convFunc c)) (convFunc c) .warn LG_ADC_OPEN arg).1
  else if judged = 2 then
    let s := s.onConv c fun v => { v with ovrSeen := true, inputs := vmod v.inputs i fun x => { x with ovrLogged := true } }
    if x.ovrLogged then s else s.note .info (convFunc c) LG_ADC_OVR arg
  else if cause = 0 then
    s.onConv c fun v => { v with inputs := vmod v.inputs i fun x => { x with openLogged := false, ovrLogged := false } }
  else s

/-- A conversion ends: the sample's data and CAUSE (04 R106, R107, R112, R113). DESIGN CHOICE: the correction pair is the one that stands
when the conversion ends (log entry 195). -/
def Dev.endSample (s : Dev) (c : Fin 3) (e : SeqEntry) (raw : Int) (overload settling urgentSlot : Bool) : Dev × Int × Nat :=
  let v := s.convs[c.val]
  let i : Fin 64 := ix 63 e.input
  let x := convSample (c.val == 2) e v.inputs[i.val] raw overload
  let cause := causeOf (!v.refOk || v.refMark != 0) x.2 settling urgentSlot
  let s := (s.onConv c fun v => { v with refMark := v.refMark - 1 }).seen c i x.2 cause
  (s, x.1, cause)

/-- A conversion has been made (04 R107): it is the previous one of the next. DEDUCED: one that is abandoned has not been made (log entry 236). -/
def Conv.made (v : Conv) (pa urg : Bool) (e : SeqEntry) : Conv := { v with prev := some (convSet pa e), prevUrgent := urg }

/-- A converter stops where it is, RUN as it stands (04 R124, R130). DESIGN CHOICE: ENTRY goes on naming the last visit's entry (log entry 233). -/
def Dev.convPark (s : Dev) (c : Fin 3) : Dev :=
  s.onConv c fun v => { v with phase := .stopped, group := {}, parked := false }

/-- END_OF_CONVERSION (04 R111, R119): the sample joins its group; a complete group is written; the last word of the visit ends it. -/
def Dev.endConversion (s : Dev) (c : Fin 3) (raw : Int) (overload : Bool) : Dev :=
  let v := s.convs[c.val]
  if v.phase ≠ .convert then s
  else
    let e := v.cur
    let r := s.endSample c e raw overload (v.settling != 0) v.settleUrgent
    let g := v.group.add e.skip r.2.1 r.2.2
    let s := r.1.onConv c fun v =>
      { v.made (c.val == 2) false e with
        settling := v.settling - 1, group := if e.avg < g.n then {} else g
        wordsLeft := if e.avg < g.n then v.wordsLeft - 1 else v.wordsLeft
        period := if c.val == 2 then s.paPeriod e else v.period }
    let s := if e.avg < g.n then s.deliver c (ix 63 e.input) (g.word e) else s
    if v.parked then s.convPark c
    else if s.convs[c.val].wordsLeft = 0 then s.visitDone c
    else s

/-- END_OF_CONVERSION (04 R119). -/
def execEndOfConversion (c : Fin 3) (raw : Int) (overload : Bool) (s : State) : Host.Outcome State Fault Refusal :=
  .next (s.onDev fun v => v.endConversion c raw overload)

/-- SETTLE_EXPIRY: the settle delay ends and the conversions begin (04 R108); one of an urgent conversion likewise (R117). -/
def Dev.settleEnd (s : Dev) (c : Fin 3) : Dev :=
  s.onConv c fun v =>
    if v.phase = .settle then { v with phase := .convert }
    else { v with urgent := v.urgent.map fun u => { u with settle := false } }

/-- SETTLE_EXPIRY (04 R108). -/
def execSettleExpiry (c : Fin 3) (s : State) : Host.Outcome State Fault Refusal := .next (s.onDev fun v => v.settleEnd c)

/-- POST_DELAY_EXPIRY: a timed post-delay ends (04 R108, R117). -/
def execPostDelayExpiry (c : Fin 3) (s : State) : Host.Outcome State Fault Refusal :=
  .next (s.onDev fun v => if v.convs[c.val].inPost && v.convs[c.val].phase == .postDelay then v.endPost c else v)

/-- WAIT_LIMIT_EXPIRY: a wait ends by its limit (04 R114, R129). -/
def Dev.waitLimit (s : Dev) (c : Fin 3) : Dev :=
  let v := s.convs[c.val]
  if v.inWait then
    ((s.onConv c fun v => { v with timeouts := v.timeouts + 1 }).report (hFunc (convFunc c)) (convFunc c) .warn
      LG_ADC_WAIT_TO (mkWord [(0, 5, v.entry)])).1.endPost c
  else s

/-- WAIT_LIMIT_EXPIRY (04 R114). -/
def execWaitLimitExpiry (c : Fin 3) (s : State) : Host.Outcome State Fault Refusal := .next (s.onDev fun v => v.waitLimit c)

/-! ## Strobes -/

/-- A strobe that a converter may see (04 R114): a calendar strobe to it with its ARG, or an edge of a PWM channel, 0 period start,
1 set, 2 clear. -/
inductive Strobe where
  | calendar (c : Fin 3) (arg : Byte)
  | pwm (c : Fin 48) (edge : Nat)
  deriving DecidableEq, Repr

/-- A converter sees a strobe (04 R114): a PWM strobe, when an entry 0 to LAST with DTYPE 2 names it. -/
def Conv.sees (v : Conv) (c : Fin 3) : Strobe → Bool
  | .calendar c' _ => c' == c
  | .pwm ch edge => (List.range (v.last + 1)).any fun i =>
      let e := v.table[(ix 31 i).val]
      e.dtype == 2 && e.dsel == edge * 64 + ch.val

/-- A strobe ends the wait of an entry (04 R114). -/
def strobeMatches (e : SeqEntry) (c : Fin 3) : Strobe → Bool
  | .calendar c' arg => c' == c && e.dtype == 1 && arg.toNat % 16 == e.dsel % 16
  | .pwm ch edge => e.dtype == 2 && e.dsel == edge * 64 + ch.val

/-- A strobe reaches one converter: it ends a wait, or is ignored and counted if the converter sees it (04 R114, R131). DESIGN CHOICE: a
converter held in reset sees no strobe and counts none (log entry 231). -/
def Dev.strobeAt (s : Dev) (g : Strobe) (c : Fin 3) : Dev :=
  let v := s.convs[c.val]
  if s.held (convFunc c) then s
  else if v.inWait && strobeMatches v.cur c g then s.endPost c
  else if v.sees c g then s.onConv c fun v => { v with strobeIgn := v.strobeIgn + 1 }
  else s

/-- A strobe is given (04 R114, 07 R215). -/
def Dev.strobe (s : Dev) (g : Strobe) : Dev := (List.finRange 3).foldl (fun s c => s.strobeAt g c) s

/-- A PWM channel stops: waits for its strobes are released (04 R114). -/
def Dev.strobeGone (s : Dev) (ch : Fin 48) : Dev :=
  (List.finRange 3).foldl (fun s c =>
    let v := s.convs[c.val]
    if v.inWait && v.cur.dtype == 2 && v.cur.dsel % 64 == ch.val then s.releaseWait c else s) s

/-- The angle becomes invalid: waits for angle events are released (03 R88, 04 R114). -/
def Dev.convAngleLost (s : Dev) : Dev :=
  (List.finRange 3).foldl (fun s c =>
    let v := s.convs[c.val]
    if v.inWait && v.cur.dtype == 1 then s.releaseWait c else s) s

/-! ## Start, stop, reference -/

/-- FA in ECO (04 R124, R125). -/
def Dev.inEco (s : Dev) (c : Fin 3) : Bool := c.val < 2 && s.power.state == 1

/-- FA in ECO, or waiting for its delay after ECO: it does not start (04 R130, 16 R461). -/
def Dev.faEco (s : Dev) (c : Fin 3) : Bool := c.val < 2 && (s.power.state == 1 || s.power.faBack)

/-- A converter cannot start now: it is held, waits for its delay of the wake table, or is FA in ECO (04 R130, 16 R461, R466). -/
def Dev.convWaits (s : Dev) (c : Fin 3) : Bool := s.held (convFunc c) || s.stopped (convFunc c) || s.faEco c

/-- A converter starts at entry 0: its latest words become 0 (04 R107, R119, R129), and an ADC_RUN RESTART that waits for it completes
(R124). In ECO FA stays stopped (R130). -/
def Dev.convStart (s : Dev) (c : Fin 3) : Dev :=
  if s.convWaits c then s
  else
    ((s.onConv c fun v => { v with
      entry := 0, just := true, startOnRef := false, parked := false, prevPost := false
      inputs := v.inputs.map fun x => { x with word := 0, openLogged := false, ovrLogged := false } }).beginVisit c).finishAll
        0x22 (hFunc (convFunc c)) .ok

/-- An urgent conversion in progress is abandoned (04 R124, R130). -/
def Dev.abandonUrgent (s : Dev) (c : Fin 3) : Dev :=
  match s.convs[c.val].urgent with
  | some u => (s.onConv c fun v => { v with urgent := none }).finish 0x23 u.d .flushed 0
  | none => s

/-- A converter stops at once: what is in progress is abandoned (04 R124, R130), with the mark that it was to take (R107). -/
def Dev.convStop (s : Dev) (c : Fin 3) : Dev :=
  ((s.abandonUrgent c).convPark c).onConv c fun v => { v with startOnRef := false, refMark := min v.refMark 1 }

/-- ANA is off (04 R118): once the switches of SLEEP are open, and until the REF group returns (16 R462, R466, R467). -/
def Dev.anaOff (s : Dev) : Bool := s.dark || s.power.groups.getLsbD 0

/-- REF_OK_RISE (04 R107, R118, R130). -/
def Dev.refRise (s : Dev) (c : Fin 3) : Dev :=
  let v := s.convs[c.val]
  if v.refOk || s.anaOff then s
  else
    let busy := v.phase == .convert || v.urgent.any fun u => !u.settle
    let s := (s.onConv c fun v => { v with refOk := true, refMark := if busy then 2 else 1 }).refEvent c
    if v.startOnRef then s.convStart c else s

/-- REF_OK_RISE (04 R118). -/
def execRefOkRise (c : Fin 3) (s : State) : Host.Outcome State Fault Refusal := .next (s.onDev fun v => v.refRise c)

/-- REF_LOST (04 R118, R129). -/
def Dev.refFall (s : Dev) (c : Fin 3) : Dev :=
  let v := s.convs[c.val]
  if v.refOk then
    (s.onConv c fun v => { v with refOk := false, refLost := true }).reportEv (hFunc (convFunc c)) (convFunc c) .fault
      LG_ADC_REF_LOST (mkWord [(0, 2, v.refsel)]) EV_ADC_REF (hFunc (convFunc c)) (refArg false true v.refsel)
  else s

/-- REF_LOST (04 R118). -/
def execRefLost (c : Fin 3) (s : State) : Host.Outcome State Fault Refusal := .next (s.onDev fun v => v.refFall c)

/-! ## Urgent conversions -/

/-- URGENT_CONVERSION_END: a conversion of an urgent visit ends; its result word goes to its requester (04 R117, R125). -/
def Dev.urgentEnd (s : Dev) (c : Fin 3) (raw : Int) (overload : Bool) : Dev :=
  match s.convs[c.val].urgent with
  | none => s
  | some u =>
    if u.settle then s
    else
      let r := s.endSample c u.entry raw overload (u.settling != 0) u.settleUrgent
      let g := u.group.add (u.entry.skip || c.val == 2) r.2.1 r.2.2
      if u.entry.avg < g.n then
        let s := (r.1.onConv c fun v => { v.made (c.val == 2) true u.entry with urgent := none }).finish 0x23 u.d .ok
          (mkRes [(8, 0, 32, (g.word u.entry).toNat), (12, 0, 32, s.tick.toNat)])
        if u.ended && s.convs[c.val].phase != .stopped then
          (s.onConv c fun v => { v with lateStart := v.lateStart + 1 }).nextVisit c
        else s
      else r.1.onConv c fun v =>
        { v.made (c.val == 2) true u.entry with
          urgent := some { u with group := g, settling := u.settling - 1 }
          period := if c.val == 2 then s.paPeriod u.entry else v.period }

/-- URGENT_CONVERSION_END (04 R117). -/
def execUrgentConversionEnd (c : Fin 3) (raw : Int) (overload : Bool) (s : State) : Host.Outcome State Fault Refusal :=
  .next (s.onDev fun v => v.urgentEnd c raw overload)

/-! ## Class 0x2 -/

/-- The fields of an entry at an offset that are not reserved (04 R109). -/
def entryFields (o : Nat) : List (Nat × Nat × Nat) := [(o, 0, 15), (o + 2, 0, 4), (o + 3, 0, 16), (o + 5, 0, 4), (o + 6, 0, 18), (o + 9, 0, 8), (o + 12, 0, 32)]

def opAdcConfig : OpInfo := { op := 0x20, accepts := .convFunc, fields := [(8, 0, 2), (9, 0, 5)] }
def opAdcSeqWrite : OpInfo := { op := 0x21, accepts := .convFunc, fields := (8, 0, 5) :: entryFields 16 }
def opAdcRun : OpInfo := { op := 0x22, accepts := .convFunc, fields := [(8, 0, 2)] }
def opAdcUrgent : OpInfo := { op := 0x23, accepts := .convInput, fields := entryFields 8 }
def opAdcRead : OpInfo := { op := 0x24, accepts := .convResult }
def opAdcCal : OpInfo := { op := 0x25, accepts := .convInput, fields := [(8, 0, 64)] }

/-- An opcode on a converter function. -/
def onConvFunc (f : Fin 3 → Dev → Dev × Res) : Obj → Dev → Dev × Res
  | .function k, s => f (ix 2 (k.val - 3)) s
  | _, s => refuse s .badHandle

/-- An opcode on a converter input or result. -/
def onConvObj (f : Fin 3 → Fin 64 → Dev → Dev × Res) : Obj → Dev → Dev × Res
  | .convInput c i, s => f c i s
  | .convResult c i, s => f c i s
  | _, s => refuse s .badHandle

/-- ADC_CONFIG (04 R118, R120, R122): a change of REFSEL lets REF_OK fall without REF_LOST. -/
def doAdcConfig (d : Desc) (c : Fin 3) (s : Dev) : Dev × Res :=
  let r := d.bits 8 0 2
  if r = 3 then refuse s .range
  else (s.onConv c fun v => { v with refOk := v.refOk && v.refsel == r, refsel := r, last := d.bits 9 0 5 }, .ok)

/-- ADC_SEQ_WRITE (04 R110, R120, R123). -/
def doAdcSeqWrite (d : Desc) (c : Fin 3) (s : Dev) : Dev × Res :=
  let e : SeqEntry := BitVec.ofNat 128 (d.bits 16 0 128)
  if entryOk (c.val == 2) e then (s.onConv c fun v => { v with table := v.table.set (ix 31 (d.bits 8 0 5)).val e }, .ok)
  else refuse s .range

/-- ADC_RUN (04 R124). A RESTART completes when the converter has started, which in its delay of the wake table is later. DESIGN CHOICE: a
STOP that comes before completes it with ST_FLUSHED (log entry 235). -/
def doAdcRun (d : Desc) (c : Fin 3) (s : Dev) : Dev × Res :=
  let a := d.bits 8 0 2
  if a = 3 then refuse s .range
  else if a ≠ 0 && ((!s.loading && !s.enabled (convFunc c)) || s.inEco c) then refuse s .disabled
  else
    let s := if a = 1 then s else (s.convStop c).onConv c fun v => { v with run := false }
    if a = 0 then (s.finishAll 0x22 (hFunc (convFunc c)) .flushed, .ok)
    else if s.convs[c.val].run then (s, .ok)
    else ((s.onConv c fun v => { v with run := true }).convStart c, if a = 2 && s.convWaits c then .wait else .ok)

/-- ADC_URGENT (04 R116, R117, R125). DESIGN CHOICE: a converter whose RUN is 1 but which waits to start is running, so that the request
is dropped (log entry 197). -/
def doAdcUrgent (d : Desc) (c : Fin 3) (i : Fin 64) (s : Dev) : Dev × Res :=
  let pa := c.val == 2
  let e : SeqEntry := BitVec.ofNat 128 (d.bits 8 0 128)
  let v := s.convs[c.val]
  if !entryOk pa e || e.input != i.val || e.rep != 0 || e.dtype != 0 || e.dly != 0 then refuse s .range
  else if !v.run || s.inEco c then refuse s .disabled
  else if v.inPost && v.urgent.isNone then
    let m := v.marks pa true e
    (s.onConv c fun v =>
      { v with urgent := some { d, entry := e, settle := !pa && e.timing != 0, settling := m.1, settleUrgent := m.2 },
               period := if pa then s.paPeriod e else v.period }, .wait)
  else
    ((s.onConv c fun v => { v with urgentDrop := v.urgentDrop + 1 }).note .trace (convFunc c) LG_ADC_URG_DROP 1,
     .done .dropped)

/-- ADC_READ (04 R126). -/
def doAdcRead (c : Fin 3) (i : Fin 64) (s : Dev) : Dev × Res :=
  let x := s.convs[c.val].inputs[i.val]
  (s, .done .ok (mkRes [(8, 0, 32, x.word.toNat), (12, 0, 32, x.count.toNat)]))

/-- ADC_CAL (04 R113, R127). -/
def doAdcCal (d : Desc) (c : Fin 3) (i : Fin 64) (s : Dev) : Dev × Res :=
  let o := d.s32 8
  let g := d.bits 12 0 32
  let x := s.convs[c.val].inputs[i.val]
  if o < -8388608 ∨ 8388607 < o ∨ g < 0x20000000 ∨ 0x7FFFFFFF < g then refuse s .range
  else
    (s.onConv c fun v => { v with inputs := vmod v.inputs i fun x => { x with offset := o, gain := g } },
     .done .ok (mkRes [(8, 0, 32, wrapTo 32 x.offset), (12, 0, 32, x.gain)]))

/-- ADC_CONFIG (opcode 0x20, 04 R122). -/
def execAdcConfig (d : Desc) (s : State) : Host.Outcome State Fault Refusal :=
  .next (s.desc opAdcConfig d (onConvFunc (doAdcConfig d)))

/-- ADC_SEQ_WRITE (opcode 0x21, 04 R123). -/
def execAdcSeqWrite (d : Desc) (s : State) : Host.Outcome State Fault Refusal :=
  .next (s.desc opAdcSeqWrite d (onConvFunc (doAdcSeqWrite d)))

/-- ADC_RUN (opcode 0x22, 04 R124). -/
def execAdcRun (d : Desc) (s : State) : Host.Outcome State Fault Refusal :=
  .next (s.desc opAdcRun d (onConvFunc (doAdcRun d)))

/-- ADC_URGENT (opcode 0x23, 04 R125). -/
def execAdcUrgent (d : Desc) (s : State) : Host.Outcome State Fault Refusal :=
  .next (s.desc opAdcUrgent d (onConvObj (doAdcUrgent d)))

/-- ADC_READ (opcode 0x24, 04 R126). -/
def execAdcRead (d : Desc) (s : State) : Host.Outcome State Fault Refusal :=
  .next (s.desc opAdcRead d (onConvObj doAdcRead))

/-- ADC_CAL (opcode 0x25, 04 R127). -/
def execAdcCal (d : Desc) (s : State) : Host.Outcome State Fault Refusal :=
  .next (s.desc opAdcCal d (onConvObj (doAdcCal d)))

/-! ## Reset and power -/

/-- Function 3, 4 or 5 is held (04 R130): RUN, table, calibration and latest words are kept; ladders release their keys (10 R289). DESIGN
CHOICE: the counters of c_URGENT_DROP, c_WAITS and c_TIMING and the seen flags are kept too (log entry 232). -/
def Dev.convHold (s : Dev) (c : Fin 3) : Dev := (s.convStop c).ladderConvHeld c

/-- It is released: with RUN = 1 it starts at entry 0 once REF_OK is high (04 R130). DESIGN CHOICE: EV_ADC_REF is raised at the release with
the level as it stands, and at the rise again (log entry 196). -/
def Dev.convRelease (s : Dev) (c : Fin 3) : Dev :=
  let s := s.refEvent c
  let v := s.convs[c.val]
  if !v.run then s
  else if v.refOk then s.convStart c
  else s.onConv c fun v => { v with startOnRef := true }

/-- ECO is entered (04 R130): FA stops after the conversion in progress, waits end without counting. -/
def Dev.convEco (s : Dev) (c : Fin 3) : Dev :=
  if s.convs[c.val].phase = .convert then s.onConv c fun v => { v with parked := true } else s.convPark c

/-- ANA is switched off by SLEEP or HIBERNATE: every REF_OK falls without REF_LOST, with no event (04 R118). -/
def Dev.anaSwitchOff (s : Dev) : Dev := { s with convs := s.convs.map fun v => { v with refOk := false } }

/-- The wake-table delay of a converter is over: with RUN = 1 it starts at entry 0 (04 R130). -/
def Dev.convWake (s : Dev) (c : Fin 3) : Dev := if s.convs[c.val].run then s.convStart c else s

end Sys2Proof.Machine
end

