-- ==== Sys2Proof/Machine/Pwm.lean ====
section
/-! DEFINITION. The PWM banks and the trip logic, functions 16 to 21 and 91: sets, boundaries, update window, staging, refresh, trips
and the opcodes of class 0x5 (07_pwm.md). -/

namespace Sys2Proof.Machine

/-! ## Sets -/

/-- The handle of a PWM channel (07 R198). -/
abbrev hPwm (c : Fin 48) : Word := mkHandle 2 0x02 c.val

/-- The handle of a bank (07 R198), the source of its errors (17 R481). -/
abbrev hBank (c : Fin 48) : Word := mkHandle 2 0x0F (c.val / 8)

/-- A set laid out as 07 R199. -/
def PSet.bits (s : PSet) : DWord :=
  BitVec.ofNat 64 (fieldsOf [(0, 16, s.period), (16, 16, s.set), (32, 16, s.clear), (48, 5, s.fineSet), (53, 5, s.fineClr)])

/-- The set in bytes 8 to 15 of a descriptor (07 R199, R218). -/
def descSet (d : Desc) : PSet where
  period  := d.bits 8 0 16
  set     := d.bits 10 0 16
  clear   := d.bits 12 0 16
  fineSet := d.bits 14 0 5
  fineClr := d.bits 14 5 5

/-- One field of a set replaced: 0 PERIOD, 1 SET, 2 CLEAR, 3 FINE_SET, 4 FINE_CLR (07 R219). -/
def PSet.with_ (s : PSet) (f v : Nat) : PSet :=
  match f with
  | 0 => { s with period := v }
  | 1 => { s with set := v }
  | 2 => { s with clear := v }
  | 3 => { s with fineSet := v }
  | _ => { s with fineClr := v }

/-- One field staged (07 R207). -/
def Staging.with_ (s : Staging) (f v : Nat) : Staging :=
  match f with
  | 0 => { s with period := some v }
  | 1 => { s with set := some v }
  | 2 => { s with clear := some v }
  | 3 => { s with fineSet := some v }
  | _ => { s with fineClr := some v }

/-- The staged fields as a mask, bit = FIELD (07 R225). -/
def Staging.mask (s : Staging) : Nat :=
  fieldsOf [(0, 1, s.period.isSome.toNat), (1, 1, s.set.isSome.toNat), (2, 1, s.clear.isSome.toNat),
            (3, 1, s.fineSet.isSome.toNat), (4, 1, s.fineClr.isSome.toNat)]

/-- Staging holds an uncommitted field. -/
def Staging.any (s : Staging) : Bool := s.mask != 0

/-- The staged fields over a set (07 R207). -/
def Staging.over (g : Staging) (s : PSet) : PSet where
  period  := g.period.getD s.period
  set     := g.set.getD s.set
  clear   := g.clear.getD s.clear
  fineSet := g.fineSet.getD s.fineSet
  fineClr := g.fineClr.getD s.fineClr

/-- P, the period in compare units (07 R200, R203, R204). -/
def Pwm.units (p : Pwm) (s : PSet) : Nat := if p.amode then (if p.half then 32768 else 65536) else s.period

/-- A set clamped at its transfer, with the first compare that was above P (07 R201). -/
def Pwm.clampSet (p : Pwm) (s : PSet) : PSet × Option Nat :=
  let u := p.units s
  let a := if u < s.set then { s with set := u, fineSet := 0 } else s
  let b := if u < s.clear then { a with clear := u, fineClr := 0 } else a
  (b, if u < s.set then some s.set else if u < s.clear then some s.clear else none)

/-- Rising edge position s of 07 R200, in 1/32 compare unit. -/
def PSet.s (x : PSet) : Nat := x.set * 32 + x.fineSet

/-- Falling edge position k of 07 R200. -/
def PSet.k (x : PSet) : Nat := x.clear * 32 + x.fineClr

/-- The interval is shorter than 1 TCLK and is suppressed (07 R202). -/
def PSet.narrow (x : PSet) : Bool := (x.s != x.k) && (x.s < x.k + 32 && x.k < x.s + 32)

/-- The waveform's level at a position (07 R200, R202). -/
def PSet.level (x : PSet) (at_ : Nat) : Bool :=
  if x.narrow then x.k < x.s
  else if x.s < x.k then x.s ≤ at_ && at_ < x.k
  else if x.k < x.s then x.s ≤ at_ || at_ < x.k
  else false

/-! ## Time -/

/-- TCLK until the accumulator next passes `a` (in 2^-48 cycle), at least 1; none while it stands. -/
def Tb.until_ (t : Tb) (a : Nat) : Option Nat :=
  if t.rate = 0 then none
  else
    let d := (a + 2 ^ 48 - t.acc.toNat) % 2 ^ 48
    let d := if d = 0 then 2 ^ 48 else d
    some ((d + t.rate - 1) / t.rate)

/-- The TCLK of a channel's next boundary, as far as it is known now (07 R203 to R205). -/
def Dev.nextBoundary (s : Dev) (c : Fin 48) : Option Nat :=
  let p := s.pwms[c.val]
  if !p.en then none
  else if p.amode then
    if !s.tb.valid then none
    else match s.tb.until_ 0, s.tb.until_ (2 ^ 47) with
      | some a, some b => some (s.now + (if p.half then min a b else a))
      | _, _ => none
  else if p.run then some (p.t0 + p.active.period * (p.presc + 1))
  else none

/-- The update window of a channel is open: 4 TCLK before a boundary to the boundary (07 R205). -/
def Dev.inWindow (s : Dev) (c : Fin 48) : Bool :=
  s.pwms[c.val].atB == some s.now ||
    (match s.nextBoundary c with
     | some b => b ≤ s.now + 4
     | none => false)

/-- A change of a channel. -/
def Dev.onPwm (s : Dev) (c : Fin 48) (f : Pwm → Pwm) : Dev := { s with pwms := vmod s.pwms c f }

/-! ## Output -/

/-- The level of a PWM ball (07 R214). -/
inductive PwmOut where
  | pullDown | low | high | hiZ
  deriving DecidableEq, Repr, Inhabited

/-- The output of a channel by the table of 07 R214. -/
def Dev.pwmOut (s : Dev) (c : Fin 48) : PwmOut :=
  let p := s.pwms[c.val]
  if s.held (pwmFunc c) || s.stopped (pwmFunc c) || s.power.vmainHold then .pullDown
  else if p.force then (match p.tripAct with
    | 0 => .low
    | 1 => .high
    | _ => .hiZ)
  else if !p.en || !p.run || s.driveInert c then (match p.inert with
    | 0 => .pullDown
    | 1 => .low
    | _ => .high)
  else if p.pulse then .low
  else if p.level then .high else .low

/-! ## Trips -/

/-- The trips that act on a channel now: qualified, named in TRIPMASK and not blanked (07 R212, R213). -/
def Dev.tripsOn (s : Dev) (c : Fin 48) : BitVec 8 :=
  let p := s.pwms[c.val]
  BitVec.ofFnLE fun t : Fin 8 =>
    let x := s.trips[t.val]
    p.tripMask.getLsbD t.val && x.en && x.active && !s.held 91
      && !(x.qual && (match p.edge with
        | some e => s.now < e + x.blank
        | none => false))

/-- Forces of a channel begin and, where it has no boundaries, end (07 R213). -/
def Dev.pwmEval (s : Dev) (c : Fin 48) : Dev :=
  let p := s.pwms[c.val]
  let m := s.tripsOn c
  let arg := mkWord [(0, 8, m.toNat)]
  if m ≠ 0 && !s.held (pwmFunc c) && !s.stopped (pwmFunc c) then
    if p.tripLatch && !p.latched then
      (s.onPwm c fun p => { p with force := true, latched := true, trips := p.trips + 1 }).reportEv
        (hBank c) (pwmFunc c) .fault LG_PWM_TRIP arg EV_PWM_TRIP (hPwm c) arg
    else if !p.force then
      (s.onPwm c fun p => { p with force := true, trips := p.trips + 1 }).note .trace (pwmFunc c) LG_PWM_TRIP_CBC arg
    else s
  else if m = 0 && p.force && !p.latched && !s.pwmRuns c then s.onPwm c fun p => { p with force := false }
  else s

/-- Every channel evaluates its trips. -/
def Dev.pwmEvalAll (s : Dev) : Dev := (List.finRange 48).foldl Dev.pwmEval s

/-- The bank's trip handling ends when no latched force remains on it (07 R213). -/
def Dev.tripHandled (s : Dev) (c : Fin 48) : Dev :=
  if (List.finRange 48).any fun x => x.val / 8 == c.val / 8 && s.pwms[x.val].latched then s
  else s.endErrOf (hBank c) [LG_PWM_TRIP]

/-! ## Transfers and boundaries -/

/-- A set becomes the active set: clamped, with CLAMP and its record (07 R201). -/
def Dev.pwmTransfer (s : Dev) (c : Fin 48) (x : PSet) : Dev :=
  let r := s.pwms[c.val].clampSet x
  let fresh := !s.pwms[c.val].clamp
  let s := s.onPwm c fun p => { p with active := r.1, clamp := p.clamp || r.2.isSome }
  match r.2 with
  | some v => if fresh then s.note .info (pwmFunc c) LG_PWM_CLAMP (mkWord [(0, 16, v)]) else s
  | none => s

/-- REFRESH_W as applied in a period of `len` TCLK: cut to half of it (07 R211). -/
def refreshWidth (w len : Nat) : Nat := if len ≤ 2 * w then len / 2 else w

/-- The length in TCLK of the period that begins. -/
def Dev.periodLen (s : Dev) (c : Fin 48) : Nat :=
  let p := s.pwms[c.val]
  if p.amode then (if s.tb.rate = 0 then 0 else (if p.half then 2 ^ 47 else 2 ^ 48) / s.tb.rate)
  else p.active.period * (p.presc + 1)

/-- A period is full-on: SET 0 and CLEAR equal to P (07 R211). -/
def Pwm.isFull (p : Pwm) : Bool := p.active.set == 0 && p.active.clear == p.units p.active

/-- The refresh at a boundary (07 R211): `fullOn` counts the full-on periods up to the one that begins. -/
def Dev.pwmRefresh (s : Dev) (c : Fin 48) : Dev :=
  let p := s.pwms[c.val]
  if p.refN ≠ 0 && p.refN ≤ p.fullOn then
    let w := refreshWidth p.refW (s.periodLen c)
    let cut := s.periodLen c ≤ 2 * p.refW
    let s := s.onPwm c fun p => { p with pulse := true, fullOn := if p.isFull then 1 else 0,
                                         refCut := p.refCut || cut, edge := if p.force then p.edge else some s.now }
    if cut && !p.refCut then
      (s.report (hBank c) (pwmFunc c) .warn LG_PWM_REFRESH_CUT (mkWord [(0, 16, w)])).1
    else s
  else s.onPwm c fun p => { p with pulse := false, fullOn := if p.isFull then p.fullOn + 1 else 0 }

/-- Staging that has waited for 255 boundaries is stale at the 256th (07 R209), unless it is emptied on that TCLK (R227). -/
def Dev.pwmStale (s : Dev) (c : Fin 48) : Dev :=
  let p := s.pwms[c.val]
  if p.staging.any && 256 ≤ p.staleCnt && !p.staleRaised then
    let arg := mkWord [(0, 8, p.staging.mask)]
    (s.onPwm c fun p => { p with stale := true, staleRaised := true }).reportEv
      (hBank c) (pwmFunc c) .warn LG_PWM_STALE arg EV_PWM_STALE (hPwm c) arg
  else s

/-- A period of a channel has begun on this TCLK. -/
def Pwm.begun (p : Pwm) (now : Nat) : Bool := p.run && p.t0 == now

/-- The TCLK of a channel's boundary ends (07 R205, R227): stale staging is reported, and the set in the window register moves into the
shadow. -/
def Dev.pwmAfter (s : Dev) (c : Fin 48) : Dev :=
  if s.pwms[c.val].begun s.now then
    (s.pwmStale c).onPwm c fun p => { p with shadow := p.window.or p.shadow, window := none }
  else s

/-- A TCLK ends for the banks. -/
def Dev.pwmTick (s : Dev) : Dev :=
  if s.pwms.toList.any fun p => p.begun s.now then (List.finRange 48).foldl Dev.pwmAfter s else s

/-- The waveform's level changes; where nothing forces the output, this is an edge of the channel's own (07 R212). -/
def Dev.pwmLevel (s : Dev) (c : Fin 48) (l : Bool) : Dev :=
  s.onPwm c fun p => { p with level := l, edge := if p.level != l && !p.force && !p.pulse then some s.now else p.edge }

/-- The start of a channel has taken place, or is given up: PWM_CTRL completes once no start that it asked for is to come (07 R221). -/
def Dev.pwmStarted (s : Dev) (c : Fin 48) : Dev :=
  if !s.pwms[c.val].starting then s
  else
    let s := s.onPwm c fun p => { p with starting := false }
    let ended (q : QDesc) : Bool := q.op == 0x54 && !(List.finRange 48).any fun k =>
      16 + k.val / 8 == queueFunc q.op q.d.handle && (q.d.bits 8 0 8).testBit (k.val % 8) && s.pwms[k.val].starting
    (s.waits.filter ended).foldl (fun s q => s.finish 0x54 q.d .ok 0) s

/-- A channel gives a strobe to the converters, unless it is driven INERT (07 R215, 09 R282). -/
def Dev.pwmStrobe (s : Dev) (c : Fin 48) (edge : Nat) : Dev := if s.driveInert c then s else s.strobe (.pwm c edge)

/-- A period of a channel begins now (07 R201, R202, R205, R209, R211, R213, R215): the pending set transfers, staging has waited for one
more boundary, PERIODS advances, a cycle-by-cycle force ends when no masked trip is active, and the strobe is given. -/
def Dev.pwmBoundary (s : Dev) (c : Fin 48) : Dev :=
  let p := s.pwms[c.val]
  let fresh := !p.run
  let s := s.onPwm c fun p => { p with run := true, t0 := s.now, periods := p.periods + 1,
                                       shadow := none, staleCnt := if p.staging.any then p.staleCnt + 1 else p.staleCnt,
                                       fullOn := if fresh then 0 else p.fullOn,
                                       atB := if fresh then none else some s.now }
  let s := match p.shadow with
    | some x => s.pwmTransfer c x
    | none => s
  let s := if p.force && !p.latched && s.tripsOn c = 0 then s.onPwm c fun p => { p with force := false } else s
  let a := s.pwms[c.val].active
  let s := s.pwmRefresh c
  let s := s.pwmLevel c (a.level 0)
  let s := s.onPwm c fun p => { p with narrow := p.narrow || a.narrow }
  ((s.pwmEval c).pwmStrobe c 0).pwmStarted c

/-- An enabled channel that is INERT starts at its next period start: in time mode when its active set holds a period, in angle mode
while the angle is valid (07 R204, R221). -/
def Dev.pwmCanStart (s : Dev) (c : Fin 48) : Bool :=
  let p := s.pwms[c.val]
  p.en && s.active (pwmFunc c) && (if p.amode then s.tb.valid else p.active.period != 0)

/-- PWM_PERIOD_BOUNDARY: a channel that runs or can start begins a period (07 R205). -/
def execPwmPeriodBoundary (c : Fin 48) (s : State) : Host.Outcome State Fault Refusal :=
  .next (s.onDev fun v => if v.pwmCanStart c then v.pwmBoundary c else v)

/-- A compare is reached (07 R200, R201, R215): the level follows and the strobe is given; a compare equal to P is never reached. -/
def Dev.pwmCompare (s : Dev) (c : Fin 48) (e : Edge) : Dev :=
  let p := s.pwms[c.val]
  let cmp := match e with
    | .set => p.active.set
    | .clear => p.active.clear
  let pos := match e with
    | .set => p.active.s
    | .clear => p.active.k
  if s.pwmRuns c && cmp < p.units p.active then
    let s := s.pwmLevel c (p.active.level pos)
    (s.pwmEval c).pwmStrobe c (match e with
      | .set => 1
      | .clear => 2)
  else s

/-- PWM_COMPARE_MATCH (07 R200, R203, R204, R215). -/
def execPwmCompareMatch (c : Fin 48) (e : Edge) (s : State) : Host.Outcome State Fault Refusal :=
  .next (s.onDev fun v => v.pwmCompare c e)

/-- REFRESH_PULSE_END: the output resumes the waveform (07 R211). -/
def Dev.refreshEnd (s : Dev) (c : Fin 48) : Dev :=
  if s.pwms[c.val].pulse then
    (s.onPwm c fun p => { p with pulse := false, edge := if p.force || !p.level then p.edge else some s.now }).pwmEval c
  else s

/-- REFRESH_PULSE_END (07 R211). -/
def execRefreshPulseEnd (c : Fin 48) (s : State) : Host.Outcome State Fault Refusal :=
  .next (s.onDev fun v => v.refreshEnd c)

/-! ## Trip inputs -/

/-- A trip input becomes active or inactive, as qualified (07 R212, R224). -/
def Dev.tripLevel (s : Dev) (t : Fin 8) (on : Bool) : Dev :=
  if s.trips[t.val].en && s.active 91 then
    { s with trips := vmod s.trips t fun x => { x with active := on, seen := x.seen || on } }.pwmEvalAll
  else s

/-- TRIP_ACTIVE (07 R212, R213). -/
def execTripActive (t : Fin 8) (s : State) : Host.Outcome State Fault Refusal :=
  .next (s.onDev fun v => v.tripLevel t true)

/-- TRIP_INACTIVE (07 R213). -/
def execTripInactive (t : Fin 8) (s : State) : Host.Outcome State Fault Refusal :=
  .next (s.onDev fun v => v.tripLevel t false)

/-- The blanking windows of a channel that have not ended by the clock. -/
def Dev.blankingOn (s : Dev) (c : Fin 48) : Bool :=
  (List.finRange 8).any fun t =>
    let x := s.trips[t.val]
    x.qual && (match s.pwms[c.val].edge with
      | some e => e + x.blank ≤ s.now
      | none => false)

/-- BLANK_WINDOW_END: a trip that is still active when its window ends acts (07 R212, R227). The windows that have run out by the
clock are over; if none has, the command itself says so. -/
def execBlankWindowEnd (c : Fin 48) (s : State) : Host.Outcome State Fault Refusal :=
  .next (s.onDev fun v =>
    (if v.blankingOn c then v else v.onPwm c fun p => { p with edge := none }).pwmEval c)

/-! ## Writing sets -/

/-- The value that PERIODS holds in the period in which a set latched now is first active (07 R218). -/
def Dev.firstPeriod (s : Dev) (c : Fin 48) : Word :=
  let p := s.pwms[c.val]
  if !p.en then p.periods
  else if s.inWindow c && p.atB != some s.now then p.periods + 2 else p.periods + 1

/-- A set goes straight to the active set: the channel is disabled, or waits with PERIOD 0 (07 R210). -/
def Pwm.direct (p : Pwm) : Bool := !p.en || (!p.amode && p.active.period == 0)

/-- A set arrives at the update port (07 R205, R210). The flag says it arrived inside the update window: there it is latched into the
window register. -/
def Dev.pwmLatch (s : Dev) (c : Fin 48) (x : PSet) : Dev × Bool :=
  let p := s.pwms[c.val]
  if p.direct then (s.pwmTransfer c x, false)
  else if !s.inWindow c then (s.onPwm c fun p => { p with shadow := some x }, false)
  else (s.onPwm c fun p => { p with window := some x, late := p.late + 1 }, true)

/-- The shadow's values, from which PWM_COMMIT takes the fields that are not staged (07 R207): those of the pending set, the active set
when none is pending. -/
def Dev.shadowSet (s : Dev) (c : Fin 48) : PSet :=
  let p := s.pwms[c.val]
  if p.direct then p.active else p.shadow.getD p.active

/-- The set that a field written alone joins (07 R208, R210): fields written before one boundary transfer together at it. -/
def Dev.fieldSet (s : Dev) (c : Fin 48) : PSet :=
  let p := s.pwms[c.val]
  if p.direct then p.active
  else if s.inWindow c then p.window.getD (p.shadow.getD p.active)
  else p.shadow.getD p.active

/-- Staging emptied. -/
def Pwm.unstage (p : Pwm) : Pwm := { p with staging := {}, staleCnt := 0, staleRaised := false }

/-- A complete set from a loop or an owning function (07 R206): staging is discarded; a held bank drops the write. -/
def Dev.pwmWrite (s : Dev) (c : Fin 48) (x : PSet) : Dev :=
  if s.active (pwmFunc c) then ((s.onPwm c Pwm.unstage).pwmLatch c x).1 else s

/-- A loop that is enabled owns the output with this handle (05 R141). -/
def Dev.ownerOf (s : Dev) (h : Word) : Option (Fin 144) :=
  (List.finRange 144).find? fun n => s.loops[n.val].state != .disabled && s.loops[n.val].output == h

/-- A channel is owned by an enabled loop, or by an enabled damper whose drive uses it (05 R141, 07 R206, 09 R257). -/
def Dev.pwmOwned (s : Dev) (c : Fin 48) : Bool :=
  (s.ownerOf (hPwm c)).isSome
    || (List.finRange 12).any fun n =>
      let x := s.dampers[n.val]
      x.attached && (x.chA == c.val || x.chB == c.val)

/-! ## Class 0x5 -/

def opPwmChConfig : OpInfo :=
  { op := 0x50, accepts := .pwm, needsEn := true,
    fields := [(8, 0, 5), (9, 0, 8), (10, 0, 8), (11, 0, 3), (12, 0, 8), (14, 0, 16)] }
def opPwmSet : OpInfo := { op := 0x51, accepts := .pwm, needsEn := true, fields := [(8, 0, 58)] }
def opPwmField : OpInfo := { op := 0x52, accepts := .pwm, needsEn := true, fields := [(8, 0, 3), (10, 0, 16)] }
def opPwmCommit : OpInfo := { op := 0x53, accepts := .bank, needsEn := true, fields := [(8, 0, 8)] }
def opPwmCtrl : OpInfo := { op := 0x54, accepts := .bank, needsEn := true, fields := [(8, 0, 8), (9, 0, 8), (10, 0, 1)] }
def opPwmTripConfig : OpInfo :=
  { op := 0x55, accepts := .trip, needsEn := true, fields := [(8, 0, 3), (10, 0, 8), (12, 0, 10)] }
def opPwmTripClear : OpInfo := { op := 0x56, accepts := .pwm, needsEn := true }
def opPwmStatusGet : OpInfo := { op := 0x57, accepts := .pwm, needsEn := true, fields := [(8, 0, 2)] }

/-- The ranges of PWM_CH_CONFIG (07 R217). -/
def chConfigBad (d : Desc) : Bool :=
  d.bits 8 3 2 == 3 || d.bits 11 0 2 == 3 || (!d.flag 8 0 && d.flag 8 1) || (d.flag 8 0 && d.bits 9 0 8 != 0)
    || (if d.bits 12 0 8 = 0 then d.bits 14 0 16 != 0 else d.bits 14 0 16 < 20 || 1000 < d.bits 14 0 16)

/-- PWM_CH_CONFIG (07 R217): a change of AMODE, HALF or PRESC clears the sets and discards staging. -/
def doPwmChConfig (d : Desc) (c : Fin 48) (s : Dev) : Dev × Res :=
  let p := s.pwms[c.val]
  if chConfigBad d then refuse s .range
  else if p.en then refuse s .busy
  else
    let change := p.amode != d.flag 8 0 || p.half != d.flag 8 1 || p.presc != d.bits 9 0 8
    let s := s.onPwm c fun p =>
      let p := { p with amode := d.flag 8 0, half := d.flag 8 1, upd := d.flag 8 2, inert := d.bits 8 3 2,
                        presc := d.bits 9 0 8, tripMask := BitVec.ofNat 8 (d.bits 10 0 8), tripAct := d.bits 11 0 2,
                        tripLatch := d.flag 11 2, refN := d.bits 12 0 8, refW := d.bits 14 0 16 }
      if change then { p with active := {}, shadow := none, window := none }.unstage else p
    (s.pwmEval c, .ok)

/-- The value of a field is acceptable (07 R199, R218, R219). -/
def Pwm.fieldOk (p : Pwm) (f v : Nat) : Bool :=
  match f with
  | 0 => if p.amode then v == 0 else 40 ≤ v
  | 1 | 2 => true
  | 3 | 4 => v ≤ 31 && (v == 0 || (!p.amode && p.presc == 0))
  | _ => false

/-- PWM_SET (07 R218): the set goes to the shadow and discards staging. -/
def doPwmSet (d : Desc) (c : Fin 48) (s : Dev) : Dev × Res :=
  let x := descSet d
  let p := s.pwms[c.val]
  if !(p.fieldOk 0 x.period && p.fieldOk 3 x.fineSet && p.fieldOk 4 x.fineClr) then refuse s .range
  else if s.pwmOwned c then refuse s .conflict
  else
    let n := s.firstPeriod c
    let r := (s.onPwm c Pwm.unstage).pwmLatch c x
    (r.1, .done (if r.2 then .late else .ok) (n.setWidth 64))

/-- PWM_FIELD (07 R219): commit-gated it is staged (R207), in field mode it goes to the shadow (R208). -/
def doPwmField (d : Desc) (c : Fin 48) (s : Dev) : Dev × Res :=
  let f := d.bits 8 0 3
  let v := d.bits 10 0 16
  let p := s.pwms[c.val]
  if !p.fieldOk f v then refuse s .range
  else if s.pwmOwned c then refuse s .conflict
  else if p.upd then
    let n := s.firstPeriod c
    let r := s.pwmLatch c ((s.fieldSet c).with_ f v)
    (r.1, .done (if r.2 then .late else .ok) (n.setWidth 64))
  else (s.onPwm c fun p => { p with staging := p.staging.with_ f v }, .ok)

/-- The channels of a bank that a mask names. -/
def maskChannels (b : Fin 6) (m : Nat) : List (Fin 48) :=
  (List.finRange 48).filter fun c => c.val / 8 == b.val && m.testBit (c.val % 8)

/-- PWM_COMMIT (07 R220): the staged sets of the mask's channels are latched together. -/
def doPwmCommit (d : Desc) (b : Fin 6) (s : Dev) : Dev × Res :=
  let cs := maskChannels b (d.bits 8 0 8)
  if cs.any fun c => s.pwms[c.val].upd || s.pwmOwned c then refuse s .conflict
  else
    let r := (cs.filter fun c => s.pwms[c.val].staging.any).foldl (fun (a : Dev × Nat) c =>
      let g := a.1.pwms[c.val].staging
      let x := (a.1.onPwm c Pwm.unstage).pwmLatch c (g.over (a.1.shadowSet c))
      (x.1, if x.2 then a.2 + 2 ^ (c.val % 8) else a.2)) (s, 0)
    (r.1, .done (if r.2 = 0 then .ok else .late) (mkRes [(8, 0, 8, r.2)]))

/-- A channel goes to its INERT level: a pending shadow becomes the active set, and the window register's set after it
(07 R210, R221, R227). Waits on its strobes end (04 R114). -/
def Dev.pwmDisable (s : Dev) (c : Fin 48) : Dev :=
  let p := s.pwms[c.val]
  if !p.en then s
  else
    let s := s.onPwm c fun p => { p with en := false, run := false, pulse := false, level := false, shadow := none,
                                         window := none, edge := none, atB := none, fullOn := 0 }
    let s := match p.shadow with
      | some x => s.pwmTransfer c x
      | none => s
    let s := match p.window with
      | some x => s.pwmTransfer c x
      | none => s
    ((s.pwmEval c).strobeGone c).pwmStarted c

/-- A channel is enabled, or restarted with SYNC (07 R221): in angle mode its start comes with its next period. -/
def Dev.pwmEnable (s : Dev) (c : Fin 48) (sync : Bool) : Dev :=
  let p := s.pwms[c.val]
  if p.en && !(sync && !p.amode) then s
  else
    let s := s.onPwm c fun p => { p with en := true, starting := p.amode }
    if !p.amode && p.active.period ≠ 0 then s.pwmBoundary c else s

/-- PWM_CTRL (07 R221): it waits while a start is to come. DEDUCED: a time-mode channel with PERIOD 0 has started once it is INERT, since it
has no period to run (log entry 202). -/
def doPwmCtrl (d : Desc) (b : Fin 6) (s : Dev) : Dev × Res :=
  let en := d.bits 8 0 8
  let dis := d.bits 9 0 8
  if Nat.land en dis ≠ 0 then refuse s .range
  else
    let s := (maskChannels b dis).foldl Dev.pwmDisable s
    let s := (maskChannels b en).foldl (fun s c => s.pwmEnable c (d.flag 10 0)) s
    (s, if (maskChannels b en).any fun c => s.pwms[c.val].starting then .wait else .ok)

/-- PWM_TRIP_CONFIG (07 R222). -/
def doPwmTripConfig (d : Desc) (t : Fin 8) (s : Dev) : Dev × Res :=
  let en := d.flag 8 0
  let qual := d.flag 8 2
  let filt := d.bits 10 0 8
  let blank := d.bits 12 0 10
  if en && (if qual then filt != 0 else filt == 0 || blank != 0) then refuse s .range
  else
    let s := { s with trips := vmod s.trips t fun x =>
      { x with en, pol := d.flag 8 1, qual, filt, blank, active := x.active && x.en && en && x.pol == d.flag 8 1 } }
    (s.pwmEvalAll, .ok)

/-- PWM_TRIP_CLEAR (07 R213, R222): a latched force goes on as a cycle-by-cycle force until the next boundary. -/
def doPwmTripClear (c : Fin 48) (s : Dev) : Dev × Res :=
  if s.tripsOn c ≠ 0 && s.pwms[c.val].latched then refuse s .busy
  else if !s.pwms[c.val].latched then refuse s .conflict
  else
    let runs := s.pwmRuns c
    ((s.onPwm c fun p => { p with latched := false, force := runs }).tripHandled c, .ok)

/-- PWM_STATUS_GET (07 R223). -/
def doPwmStatusGet (d : Desc) (c : Fin 48) (s : Dev) : Dev × Res :=
  let p := s.pwms[c.val]
  match d.bits 8 0 2 with
  | 0 => (s, .done .ok p.active.bits)
  | 1 => (s, .done .ok (p.shadow.getD p.active).bits)
  | 2 => (s, .done .ok (mkRes [(8, 0, 32, p.periods.toNat), (12, 0, 16, p.late.toNat), (14, 0, 16, p.trips.toNat)]))
  | _ => refuse s .range

/-- An opcode on a PWM channel. -/
def onPwmObj (f : Fin 48 → Dev → Dev × Res) : Obj → Dev → Dev × Res
  | .pwm c, s => f c s
  | _, s => refuse s .badHandle

/-- An opcode on a bank. -/
def onBankObj (f : Fin 6 → Dev → Dev × Res) : Obj → Dev → Dev × Res
  | .bank b, s => f b s
  | _, s => refuse s .badHandle

/-- An opcode on a trip input. -/
def onTripObj (f : Fin 8 → Dev → Dev × Res) : Obj → Dev → Dev × Res
  | .trip t, s => f t s
  | _, s => refuse s .badHandle

/-- PWM_CH_CONFIG (opcode 0x50, 07 R217). -/
def execPwmChConfig (d : Desc) (s : State) : Host.Outcome State Fault Refusal :=
  .next (s.desc opPwmChConfig d (onPwmObj (doPwmChConfig d)))

/-- PWM_SET (opcode 0x51, 07 R218). -/
def execPwmSet (d : Desc) (s : State) : Host.Outcome State Fault Refusal :=
  .next (s.desc opPwmSet d (onPwmObj (doPwmSet d)))

/-- PWM_FIELD (opcode 0x52, 07 R219). -/
def execPwmField (d : Desc) (s : State) : Host.Outcome State Fault Refusal :=
  .next (s.desc opPwmField d (onPwmObj (doPwmField d)))

/-- PWM_COMMIT (opcode 0x53, 07 R220). -/
def execPwmCommit (d : Desc) (s : State) : Host.Outcome State Fault Refusal :=
  .next (s.desc opPwmCommit d (onBankObj (doPwmCommit d)))

/-- PWM_CTRL (opcode 0x54, 07 R221). -/
def execPwmCtrl (d : Desc) (s : State) : Host.Outcome State Fault Refusal :=
  .next (s.desc opPwmCtrl d (onBankObj (doPwmCtrl d)))

/-- PWM_TRIP_CONFIG (opcode 0x55, 07 R222). -/
def execPwmTripConfig (d : Desc) (s : State) : Host.Outcome State Fault Refusal :=
  .next (s.desc opPwmTripConfig d (onTripObj (doPwmTripConfig d)))

/-- PWM_TRIP_CLEAR (opcode 0x56, 07 R222). -/
def execPwmTripClear (d : Desc) (s : State) : Host.Outcome State Fault Refusal :=
  .next (s.desc opPwmTripClear d (onPwmObj doPwmTripClear))

/-- PWM_STATUS_GET (opcode 0x57, 07 R223). -/
def execPwmStatusGet (d : Desc) (s : State) : Host.Outcome State Fault Refusal :=
  .next (s.desc opPwmStatusGet d (onPwmObj (doPwmStatusGet d)))

/-! ## The angle, holds and releases -/

/-- A channel's boundaries stop. DESIGN CHOICE: a set in the window register, whose boundary does not come, is pending in the shadow
(log entry 242). -/
def Pwm.rest (p : Pwm) : Pwm :=
  { p with run := false, pulse := false, level := false, edge := none, atB := none, fullOn := 0, shadow := p.window.or p.shadow
           window := none }

/-- The angle becomes invalid (03 R88, 07 R204): a channel that ran in angle mode is INERT and sets ANGLE_LOST; waits on its strobes end
(04 R114). -/
def Dev.pwmAngleLost (s : Dev) (c : Fin 48) : Dev :=
  let p := s.pwms[c.val]
  if p.en && p.amode && p.run then
    let s := s.onPwm c fun p => { p.rest with angleLost := true }
    let s := if p.angleLost then s
      else (s.report (hBank c) (pwmFunc c) .warn LG_PWM_ANGLE_LOST (mkWord [(0, 16, s.tb.cycle.toNat)])).1
    (s.pwmEval c).strobeGone c
  else s

/-- SLEEP stops a channel (07 R226): the event RAM keeps its configuration, active set, shadow and staging (01 R29, 07 R198). -/
def Dev.pwmSleep (s : Dev) (c : Fin 48) : Dev :=
  let s := s.onPwm c Pwm.rest
  if s.pwms[c.val].en then s.strobeGone c else s

/-- What a hold of a bank does to one of its channels (07 R226): configuration, active set and counters are kept, shadow and staging
discarded. -/
def Dev.pwmHold (s : Dev) (c : Fin 48) : Dev :=
  s.pwmSleep c |>.onPwm c fun p => { p with shadow := none, window := none, starting := false }.unstage

/-- A channel that was enabled starts as for PWM_CTRL ENABLE with SYNC = 1 (07 R226). -/
def Dev.pwmRestart (s : Dev) (c : Fin 48) : Dev :=
  let s := if s.pwms[c.val].en && s.pwmCanStart c && !s.pwms[c.val].amode then s.pwmBoundary c else s
  s.pwmEval c

/-- Function 91 is held: trips are not qualified; cycle-by-cycle forces end at the next boundary (07 R226). -/
def Dev.tripHold (s : Dev) : Dev :=
  Dev.pwmEvalAll { s with trips := s.trips.map fun x => { x with active := false } }

end Sys2Proof.Machine
end

