-- ==== Sys2Proof/Machine/Valve.lean ====
section
/-! DEFINITION. Valve and solenoid drive, functions 22 to 29: regulation, profiles, the boost rail, load faults, closing detection,
deferred commands and the opcodes of class 0x6 (08_valve_drive.md). -/

namespace Sys2Proof.Machine

/-! ## Channels and pairs -/

/-- The handle of a channel (08 R228). -/
abbrev hValve (c : Fin 16) : Word := mkHandle 2 0x03 c.val

/-- The handle of a pair (08 R228), the source of its errors (R252). -/
abbrev hPair (k : Fin 8) : Word := mkHandle 2 0x04 k.val

/-- The pair of a channel (08 R228). -/
abbrev pairOf (c : Fin 16) : Fin 8 := ⟨c.val / 2, by omega⟩

/-- The even channel of a pair. -/
abbrev evenOf (k : Fin 8) : Fin 16 := ⟨2 * k.val, by omega⟩

/-- The odd channel of a pair. -/
abbrev oddOf (k : Fin 8) : Fin 16 := ⟨2 * k.val + 1, by omega⟩

/-- A channel is the odd one of its pair. -/
abbrev isOdd (c : Fin 16) : Bool := c.val % 2 == 1

/-- The other channel of a pair. -/
def partnerOf (c : Fin 16) : Fin 16 := if isOdd c then evenOf (pairOf c) else oddOf (pairOf c)

/-- The function of a pair (08 R228). -/
abbrev pairFunc (k : Fin 8) : Nat := 22 + k.val

/-- A change of a channel. -/
def Dev.onValve (s : Dev) (c : Fin 16) (f : Valve → Valve) : Dev := { s with valves := vmod s.valves c f }

/-- A change of a pair. -/
def Dev.onPair (s : Dev) (k : Fin 8) (f : Pair → Pair) : Dev := { s with pairs := vmod s.pairs k f }

/-- The pair of a channel is one channel (08 R240). -/
def Dev.par (s : Dev) (c : Fin 16) : Bool := s.pairs[(pairOf c).val].par

/-- The channel whose profile a half runs: the even one of a paralleled pair (08 R240). -/
def Dev.lead (s : Dev) (c : Fin 16) : Fin 16 := if s.par c then evenOf (pairOf c) else c

/-- The odd handle of a paralleled pair (08 R240). -/
def Dev.oddPar (s : Dev) (c : Fin 16) : Bool := s.par c && isOdd c

/-- A change of both halves of a paralleled pair, or of the channel alone. -/
def Dev.onHalves (s : Dev) (c : Fin 16) (f : Valve → Valve) : Dev :=
  if s.par c then (s.onValve (evenOf (pairOf c)) f).onValve (oddOf (pairOf c)) f else s.onValve c f

/-! ## Currents -/

/-- A current in mA as a DAC code; each half of a paralleled pair regulates half of it (08 R230, R240). -/
def codeOf (ma rshunt : Nat) (par : Bool) : Nat := (roundDiv ((ma * rshunt : Nat) : Int) (if par then 800 else 400)).toNat

/-- A set-point in Q16.16 mA as a DAC code (08 R230). -/
def codeOfSp (sp rshunt : Nat) (par : Bool) : Nat :=
  (roundDiv ((sp * rshunt : Nat) : Int) ((if par then 800 else 400) * 65536)).toNat

/-- The step of the dither as a part of its amplitude in 1/32, from -32 to 32 (08 R234). -/
def Valve.dithStep (v : Valve) : Int :=
  if v.cur.dithF = 0 then 0
  else if v.cur.tri then (if v.dith < 32 then -32 + 2 * (v.dith : Int) else 32 - 2 * ((v.dith : Int) - 32))
  else if v.dith = 0 then 32 else -32

/-- The set-point in effect: FAIL_I in fail position PROP, otherwise the one written, clamped at PROP_MAX (08 R246, R253). -/
def Valve.effSp (v : Valve) : Nat := if v.failpos && v.fail == 2 then v.failI * 65536 else min v.sp (v.cur.propMax * 65536)

/-- The threshold of PROP: the set-point with its dither, corrected by half the ripple of the previous chop (08 R234). -/
def Valve.propCode (v : Valve) (par : Bool) : Nat :=
  let x := roundDiv ((v.effSp * v.rshunt : Nat) * (3200 + (v.cur.dithA : Int) * v.dithStep))
    ((if par then 800 else 400) * 65536 * 3200)
  (clampI 0 1023 (x + (match v.ripple with
    | some n => Config.halfRipple n
    | none => 0))).toNat

/-- The threshold of the phase that runs. -/
def Valve.phaseCode (v : Valve) (par : Bool) : Nat :=
  match v.phase with
  | .boost => codeOf v.cur.iBoost v.rshunt par
  | .peak => codeOf v.cur.iPeak v.rshunt par
  | .hold => codeOf v.cur.iHold v.rshunt par
  | .prop => v.propCode par
  | _ => 0

/-- The decay of a phase is the fast one (08 R232, R246). -/
def Valve.fastIn (v : Valve) : VPhase → Bool
  | .boost => v.cur.dec.getLsbD 0
  | .peak => v.cur.dec.getLsbD 1
  | .hold | .prop => v.cur.dec.getLsbD 2
  | _ => v.cur.dec.getLsbD 3

/-- The code of a phase (08 R237). -/
def VPhase.code : VPhase → Nat
  | .idle => 0 | .boost => 2 | .peak => 3 | .hold => 4 | .prop => 5 | .off => 6 | .fault => 7

/-- A channel regulates or boosts. -/
def Valve.runs (v : Valve) : Bool := v.phase == .boost || v.phase == .peak || v.phase == .hold || v.phase == .prop

/-- A channel is on (08 R229). -/
def Valve.isOn (v : Valve) : Bool := v.runs || v.chop == .slow

/-- A channel needs its node powered (08 R229, R232). -/
def Valve.demands (v : Valve) : Bool := v.chop == .on || v.chop == .slow

/-! ## The shared node -/

/-- A fast decay is replaced by a slow one while the partner is on (08 R233), and while it holds the rail, since the node is then at VBOOST
(R229, R238). An OFF decay that has started on this TCLK is judged at its end, when all that it brings has come about (R254, `valveTick`). -/
def Dev.substDecay (s : Dev) (c : Fin 16) : Dev :=
  let v := s.valves[c.val]
  let q := partnerOf c
  if v.chop == .fast && !(v.phase == .off && v.offAt == some s.now) && !s.par c && ((s.valves[q.val]).isOn || s.pairs[(pairOf c).val].rail == some (isOdd q)) then
    let s := s.onValve c fun v => { v with chop := .slow, subst := true, substLogged := true }
    if v.substLogged then s
    else (s.report (hPair (pairOf c)) (pairFunc (pairOf c)) .warn LG_VALVE_DECAY_SUBST (mkWord [(0, 3, v.phase.code)])).1
  else s

/-- The gates that the pair's demands ask for: some true BGk, some false HSGk (08 R229). -/
def Dev.wantGate (s : Dev) (k : Fin 8) : Option Bool :=
  if s.pairs[k.val].rail.isSome then some true
  else if (s.valves[(evenOf k).val]).demands || (s.valves[(oddOf k).val]).demands then some false
  else none

/-- The gates follow, a change between them passing through 100 ns with both off (08 R229). -/
def Pair.gates (p : Pair) (want : Option Bool) : Pair :=
  let was : Option Bool := if p.bg then some true else if p.hsg then some false else none
  if want = was then p
  else
    let dead := if was.isSome then was else p.dead
    match want with
    | none => { p with bg := false, hsg := false, dead }
    | some g =>
      if dead.isSome && dead != some g then { p with bg := false, hsg := false, dead }
      else { p with bg := g, hsg := !g, dead := none }

/-- After a change on a pair: fast decays that must be slow become so, then the gates follow. -/
def Dev.pairSync (s : Dev) (k : Fin 8) : Dev :=
  let s := (((s.substDecay (evenOf k)).substDecay (oddOf k)).substDecay (evenOf k))
  s.onPair k fun p => p.gates (s.wantGate k)

/-- DEAD_TIME_END (08 R229). -/
def execDeadTimeEnd (k : Fin 8) (s : State) : Host.Outcome State Fault Refusal :=
  .next (s.onDev fun v => (v.onPair k fun p => { p with dead := none }).pairSync k)

/-! ## Switching and phases -/

/-- A channel is switched on: the comparator is blanked (08 R231). -/
def Valve.turnOn (v : Valve) (now : Nat) : Valve :=
  { v with chop := .on, blank := true, onAt := now, blankEnd := none, crossed := false }

/-- A channel starts to decay. -/
def Valve.decay (v : Valve) (fast : Bool) : Valve := { v with chop := if fast then .fast else .slow, blank := false, blankEnd := none }

/-- The threshold follows the phase. -/
def Dev.newCode (s : Dev) (c : Fin 16) : Dev := s.onValve c fun v => { v with code := v.phaseCode (s.par c) }

/-- The phase after BOOST, or the first one without it (08 R235). -/
def VProfile.afterBoost (p : VProfile) : VPhase := if p.tPeak ≠ 0 then .peak else if p.third then .prop else .hold

/-- The last phase (08 R235). -/
def VProfile.last (p : VProfile) : VPhase := if p.third then .prop else .hold

/-- A running channel moves to its next phase (08 R232, R235): to a lower threshold its current falls by the method of the phase it leaves, at
once where it is known to be above. -/
def Dev.toPhase (s : Dev) (c : Fin 16) (nxt : VPhase) (above : Bool) : Dev :=
  let old := s.valves[c.val]
  let s := (s.onValve c fun v => { v with phase := nxt, ripple := none }).newCode c
  if (s.valves[c.val]).code < old.code then
    s.onHalves c fun v =>
      let v := { v with fall := some (old.fastIn old.phase, s.now) }
      if above then v.decay (old.fastIn old.phase) else v
  else s.onHalves c fun v => { v with fall := none }

/-- The method of a chop (08 R232). DEDUCED: the current still falls to the phase's lower threshold while a crossing comes at once, when the
phase begins or when the comparator is heard again after a turn-on (log entry 204). The flag says that it does. -/
def Valve.chopBy (v : Valve) (now : Nat) (dflt : Bool) : Bool × Bool :=
  match v.fall with
  | some f => if now ≤ f.2 + 1 || v.blankEnd.any fun b => now ≤ b + 1 then (f.1, true) else (dflt, false)
  | none => (dflt, false)

/-- RESULT of VALVE_CMD (08 R247). -/
def Dev.valveRes (s : Dev) (waited delayed skipped : Bool) : DWord :=
  mkRes [(8, 0, 32, s.tick.toNat), (12, 0, 16, if s.tb.valid then s.tb.cycle.toNat else 0),
         (14, 0, 1, waited.toNat), (14, 1, 1, delayed.toNat), (14, 2, 1, skipped.toNat)]

/-- A profile starts or restarts with the stored values (08 R235, R236, R241). In fail position HOLD its last phase is HOLD (R253). -/
def Dev.startProfile (s : Dev) (c : Fin 16) (skip : Bool) : Dev :=
  let s := s.onValve c fun v =>
    let cur := { v.prof with third := v.prof.third && !(v.failpos && v.fail == 1) }
    { v with cur, phase := if cur.tBoostMax ≠ 0 && !skip then .boost else cur.afterBoost,
             starts := v.starts + 1, substLogged := false, tStart := s.now, kink := v.kinkEn, closed := false, closeT := none,
             dith := 0, ripple := none }
  (s.onHalves c fun v => { v.turnOn s.now with fall := none }).newCode c

/-- VBOOST is compared: its level on this TCLK is a free value, one for every comparison on it (08 R239). -/
def Dev.senseVboost (s : Dev) : Dev :=
  if s.vboostAt = some s.now then s
  else
    let r := s.draw
    { r.2 with vboost := Config.vboost r.1, vboostAt := some s.now }

/-- A command's status when it starts. -/
def okOrLate (late : Bool) : Status := if late then .late else .ok

/-- What a channel's grant leads to (08 R239): BOOST; PEAK at once with BPOL SKIP, the rail free again; or the ready wait. The answer is
the completion of a command that starts. -/
def Dev.granted (s : Dev) (c : Fin 16) (w : VWait) : Dev × Option (Status × DWord) :=
  let k := pairOf c
  let p := s.pairs[k.val]
  let s := s.senseVboost
  if p.boostReady ≤ s.vboost then
    let s := (s.onPair k fun p => { p with rail := some (isOdd c) }).onValve c fun v => { v with wait := none }
    (s.startProfile c false, some (okOrLate w.late, s.valveRes w.waited false false))
  else
    let s := ((s.onValve c fun v => { v with notReady := true }).report (hPair k) (pairFunc k) .warn LG_VALVE_BOOST_NOT_READY
      (mkWord [(0, 16, s.vboost), (16, 1, p.bpol.toNat)])).1
    if p.bpol then
      let s := (s.onPair k fun p => { p with rail := none }).onValve c fun v => { v with wait := none }
      (s.startProfile c true, some (okOrLate w.late, s.valveRes w.waited false true))
    else
      ((s.onPair k fun p => { p with rail := some (isOdd c) }).onValve c fun v => { v with wait := some { w with rail := false } },
       none)

/-- A waiting command completes, unless a fail position waits. -/
def Dev.finishCmd (s : Dev) (d : Option Desc) (st : Status) (res : DWord) : Dev :=
  match d with
  | some d => s.finish 0x62 d st res
  | none => s

/-- The rail is free: a partner that waits for it is granted it on this TCLK (08 R238). With BPOL SKIP the partner gives it back at
once. -/
def Dev.railFree (s : Dev) (k : Fin 8) (left : Fin 16) : Dev :=
  let s := s.onPair k fun p => { p with rail := none }
  let q := partnerOf left
  match (s.valves[q.val]).wait with
  | some w =>
    if w.rail then
      let r := s.granted q { w with waited := true }
      match r.2 with
      | some x => r.1.finishCmd w.d x.1 x.2
      | none => r.1
    else s
  | none => s

/-- A channel gives up the rail if it holds it, but not the rail of its own ready wait (08 R238, R239); `boost` says that its BOOST ends. -/
def Dev.leaveRail (s : Dev) (c : Fin 16) (boost : Bool := false) : Dev :=
  if s.pairs[(pairOf c).val].rail = some (isOdd c) ∧ !(s.valves[c.val].wait.any fun w => !w.rail) then
    (s.onPair (pairOf c) fun p => { p with freed := if boost then some (isOdd c, s.now) else p.freed }).railFree (pairOf c) c
  else s

/-- A waiting command of a channel is cancelled with a status (08 R242, R247). -/
def Dev.cancelWait (s : Dev) (c : Fin 16) (st : Status) : Dev :=
  match (s.valves[c.val]).wait with
  | none => s
  | some w =>
    let s := (s.onValve c fun v => { v with wait := none }).finishCmd w.d st 0
    if w.rail then s else s.leaveRail c

/-- A channel goes to OFF: it decays by its OFF method (08 R232, R235). -/
def Dev.startOff (s : Dev) (c : Fin 16) : Dev :=
  let v := s.valves[c.val]
  if v.runs then
    let s := (s.onValve c fun v => { v with phase := .off, code := 0, offAt := some s.now }).onHalves c fun x => x.decay (v.fastIn .off)
    s.leaveRail c (v.phase == .boost)
  else s

/-- An ON: without BOOST it starts at once; otherwise the rail is granted or waited for (08 R236, R238). One that comes on the TCLK at which
the partner's BOOST ends has waited (R254). -/
def Dev.valveOn (s : Dev) (c : Fin 16) (d : Option Desc) (late : Bool) : Dev × Option (Status × DWord) :=
  let s := s.cancelWait c .flushed
  let w : VWait := { d, rail := true, late, waited := s.pairs[(pairOf c).val].freed == some (!isOdd c, s.now) }
  if (s.valves[c.val]).prof.tBoostMax = 0 then
    let s := s.startProfile c false
    (s.leaveRail c, some (okOrLate late, s.valveRes false false false))
  else if s.pairs[(pairOf c).val].rail = some (!isOdd c) then (s.onValve c fun v => { v with wait := some w }, none)
  else
    let r := s.granted c w
    (if r.1.pairs[(pairOf c).val].rail.isNone then r.1.railFree (pairOf c) c else r.1, r.2)

/-- SETPOINT of a command that loads it. -/
def setpOf (d : Desc) : Option Nat := if d.flag 8 2 then some (d.bits 12 0 32) else none

/-- A set-point is stored; in PROP it applies at once (08 R234, R236). In a fail position but KEEP it is ignored (R253). -/
def Dev.valveSp (s : Dev) (c : Fin 16) (sp : Nat) : Dev :=
  let v := s.valves[c.val]
  if v.failpos && v.fail != 3 then s
  else
    let s := s.onValve c fun v => { v with sp }
    if v.phase = .prop then s.newCode c else s

/-- A loop writes a channel's set-point (05 R141): PROP set-points are unsigned and their codes at most 1023. -/
def Dev.valveLoopWrite (s : Dev) (c : Fin 16) (y : Int) : Dev :=
  if s.active (pairFunc (pairOf c)) then s.valveSp c y.toNat else s

/-- Fail position ends with a VALVE_CMD after host hold (08 R253). -/
def Dev.endFail (s : Dev) (c : Fin 16) : Dev := s.onValve c fun v => { v with failpos := v.failpos && s.power.valveFail }

/-- A command acts (08 R235, R236, R242), but for its pair's decays and gates. The answer is its completion, none while it waits. -/
def Dev.valveDo (s : Dev) (c : Fin 16) (d : Desc) (late : Bool) : Dev × Option (Status × DWord) :=
  let s := s.endFail c
  let on := d.flag 8 0
  if (s.valves[c.val]).phase = .fault then (s, some (if on then (.busy, 0) else (okOrLate late, s.valveRes false false false)))
  else
    let s := match setpOf d with
      | some x => s.valveSp c x
      | none => s
    if on then s.valveOn c (some d) late
    else
      let s := (s.cancelWait c .flushed).startOff c
      (s, some (okOrLate late, s.valveRes false false false))

/-- A command acts, and its pair follows. -/
def Dev.valveAct (s : Dev) (c : Fin 16) (d : Desc) (late : Bool) : Dev × Option (Status × DWord) :=
  let r := s.valveDo c d late
  (r.1.pairSync (pairOf c), r.2)

/-- An armed command executes (08 R243). What it and its partner's command start on one TCLK meets in the pair after both (R254). -/
def Dev.fireArmed (s : Dev) (c : Fin 16) (late : Bool) : Dev :=
  match (s.valves[c.val]).armed with
  | none => s
  | some d =>
    let r := (s.onValve c fun v => { v with armed := none }).valveDo c d late
    match r.2 with
    | some x => r.1.finish 0x62 d x.1 x.2
    | none => r.1

/-- The channels that a strobe's ARG selects: bit 0 the even one, bit 1 the odd one (08 R243). -/
def strobeMask (arg : Byte) : Nat :=
  match arg.toNat with
  | 0 => 1
  | 1 => 2
  | 2 => 3
  | _ => 0

/-- A calendar strobe to a pair (08 R243). What it starts, it starts at the end of its TCLK, so that an immediate command replaces the armed
one (R254) and the even channel comes first (R238). -/
def Dev.valveStrobe (s : Dev) (k : Fin 8) (arg : Byte) : Dev :=
  if s.active (pairFunc k) then s.onPair k fun p => { p with strobed := Nat.lor p.strobed (strobeMask arg) } else s

/-- The end of a TCLK for a pair on which a strobe has come or an OFF decay has started: armed commands execute, the even one first, and fast
decays are judged (08 R233, R238, R243, R254). -/
def Dev.pairTick (s : Dev) (k : Fin 8) : Dev :=
  let m := s.pairs[k.val].strobed
  let off (c : Fin 16) : Bool := (s.valves[c.val]).offAt.isSome
  if m = 0 ∧ !off (evenOf k) ∧ !off (oddOf k) then s
  else
    let s := s.onPair k fun p => { p with strobed := 0 }
    let s := if m.testBit 0 then s.fireArmed (evenOf k) false else s
    let s := if m.testBit 1 then s.fireArmed (oddOf k) false else s
    let done (v : Valve) : Valve := { v with offAt := none }
    ((s.onValve (evenOf k) done).onValve (oddOf k) done).pairSync k

/-- A TCLK ends for the pairs. -/
def Dev.valveTick (s : Dev) : Dev := (List.finRange 8).foldl Dev.pairTick s

/-- The angle becomes invalid: armed commands execute at once, late (03 R88, 08 R243). -/
def Dev.valveAngleLost (s : Dev) : Dev :=
  (List.finRange 8).foldl (fun s k => ((s.fireArmed (evenOf k) true).fireArmed (oddOf k) true).pairSync k) s

/-! ## What comes about on a channel -/

/-- A load fault (08 R242): LSGn off at once, decay by the OFF method, FAULT. -/
def Dev.valveFault (s : Dev) (c : Fin 16) (cause : Nat) (code : BitVec 11) (arg : Word) : Dev :=
  let k := pairOf c
  let l := s.lead c
  let v := s.valves[l.val]
  let s := (s.onValve l fun v => { v with phase := .fault, cause, code := 0 }).onHalves l fun x => x.decay (v.fastIn .off)
  let s := (s.cancelWait l .busy).leaveRail l (v.phase == .boost)
  (s.reportEv (hPair k) (pairFunc k) .fault code arg EV_VALVE_FAULT (hValve l) arg).pairSync k

/-- THRESHOLD_CROSSING (08 R231, R235, R242): a SHORT, the end of BOOST, or a chop. In BOOST of a paralleled pair the even half
decides. -/
def Dev.crossing (s : Dev) (c : Fin 16) : Dev :=
  let l := s.lead c
  let v := s.valves[c.val]
  let p := s.valves[l.val]
  if v.chop ≠ .on || v.blank || !p.runs then s
  else
    let s := s.onValve c fun v => { v with crossed := true }
    if p.shortT ≠ 0 && (v.blankEnd.any fun b => s.now ≤ b + 1) && s.now - v.onAt < p.shortT * 10 then
      s.valveFault c 2 LG_VALVE_SHORT (mkWord [(0, 16, s.now - v.onAt)])
    else if p.phase = .boost then
      if c ≠ l then s
      else ((s.toPhase l p.cur.afterBoost true).leaveRail l true).pairSync (pairOf c)
    else
      let r := s.draw
      let s := if p.phase = .prop && c = l then r.2.onValve l fun v => { v with ripple := some r.1 } else s
      let by_ := v.chopBy s.now (p.fastIn p.phase)
      (s.onValve c fun v => { v.decay by_.1 with fall := if by_.2 then v.fall else none }).pairSync (pairOf c)

/-- THRESHOLD_CROSSING (08 R231). -/
def execThresholdCrossing (c : Fin 16) (s : State) : Host.Outcome State Fault Refusal := .next (s.onDev fun v => v.crossing c)

/-- TOFF_EXPIRY: the off-time of a chop ends and the channel is on again (08 R231). -/
def Dev.toffEnd (s : Dev) (c : Fin 16) : Dev :=
  let l := s.lead c
  if (s.valves[l.val]).runs && (s.valves[c.val].chop == .slow || s.valves[c.val].chop == .fast) then
    ((s.onValve c fun v => v.turnOn s.now).newCode l).pairSync (pairOf c)
  else s

/-- TOFF_EXPIRY (08 R231). -/
def execToffExpiry (c : Fin 16) (s : State) : Host.Outcome State Fault Refusal := .next (s.onDev fun v => v.toffEnd c)

/-- TBLANK_EXPIRY: the comparator is heard again (08 R231). -/
def execTblankExpiry (c : Fin 16) (s : State) : Host.Outcome State Fault Refusal :=
  .next (s.onDev fun d => d.onValve c fun v => if v.blank then { v with blank := false, blankEnd := some d.now } else v)

/-- T_BOOST_MAX_EXPIRY: BOOST ends without its current (08 R235). -/
def Dev.boostMax (s : Dev) (c : Fin 16) : Dev :=
  let v := s.valves[c.val]
  if v.phase ≠ .boost then s
  else
    let r := s.draw
    let s := (r.2.report (hPair (pairOf c)) (pairFunc (pairOf c)) .warn LG_VALVE_BOOST_TO
      (mkWord [(0, 10, (Config.boostCode r.1).toNat)])).1
    ((s.toPhase c v.cur.afterBoost false).leaveRail c true).pairSync (pairOf c)

/-- T_BOOST_MAX_EXPIRY (08 R235). -/
def execTBoostMaxExpiry (c : Fin 16) (s : State) : Host.Outcome State Fault Refusal := .next (s.onDev fun v => v.boostMax c)

/-- T_PEAK_EXPIRY (08 R235): a current above the lower threshold decays when the comparator says so (R231). -/
def Dev.peakEnd (s : Dev) (c : Fin 16) : Dev :=
  let v := s.valves[c.val]
  if v.phase = .peak then (s.toPhase c v.cur.last false).pairSync (pairOf c) else s

/-- T_PEAK_EXPIRY (08 R235). -/
def execTPeakExpiry (c : Fin 16) (s : State) : Host.Outcome State Fault Refusal := .next (s.onDev fun v => v.peakEnd c)

/-- T_HOLD_EXPIRY: HOLD ends, but in fail position HOLD (08 R235, R253). -/
def Dev.holdEnd (s : Dev) (c : Fin 16) : Dev :=
  let v := s.valves[c.val]
  if v.phase = .hold && v.cur.tHold ≠ 0 && !(v.failpos && v.fail == 1) then (s.startOff c).pairSync (pairOf c) else s

/-- T_HOLD_EXPIRY (08 R235). -/
def execTHoldExpiry (c : Fin 16) (s : State) : Host.Outcome State Fault Refusal := .next (s.onDev fun v => v.holdEnd c)

/-- OFF_PHASE_END: the coil has no current, or 10 ms are over (08 R235). -/
def Dev.offEnd (s : Dev) (c : Fin 16) : Dev :=
  match (s.valves[c.val]).phase with
  | .off => ((s.onHalves c fun v => { v with chop := .none }).onValve c fun v => { v with phase := .idle }).pairSync (pairOf c)
  | .fault => (s.onHalves c fun v => { v with chop := .none }).pairSync (pairOf c)
  | _ => s

/-- OFF_PHASE_END (08 R235). -/
def execOffPhaseEnd (c : Fin 16) (s : State) : Host.Outcome State Fault Refusal := .next (s.onDev fun v => v.offEnd c)

/-- OPEN_T_EXPIRY: no crossing within OPEN_T of a turn-on (08 R242). -/
def Dev.openEnd (s : Dev) (c : Fin 16) : Dev :=
  let p := s.valves[(s.lead c).val]
  let v := s.valves[c.val]
  if (p.phase == .peak || p.phase == .hold || p.phase == .prop) && p.openT != 0 && v.chop == .on && !v.crossed then
    s.valveFault c 1 LG_VALVE_OPEN (mkWord [(0, 16, p.openT)])
  else s

/-- OPEN_T_EXPIRY (08 R242). -/
def execOpenTExpiry (c : Fin 16) (s : State) : Host.Outcome State Fault Refusal := .next (s.onDev fun v => v.openEnd c)

/-- BOOST_WAIT_EXPIRY: a command that waits for the rail is abandoned (08 R238). -/
def Dev.boostWaitEnd (s : Dev) (c : Fin 16) : Dev :=
  match (s.valves[c.val]).wait with
  | some w =>
    if w.rail then
      let k := pairOf c
      (((s.onValve c fun v => { v with wait := none, overlap := true }).report (hPair k) (pairFunc k) .warn
        LG_VALVE_SADDLE_OVERLAP (mkWord [(0, 16, s.pairs[k.val].boostWait)])).1).finishCmd w.d .conflict 0
    else s
  | none => s

/-- BOOST_WAIT_EXPIRY (08 R238). -/
def execBoostWaitExpiry (c : Fin 16) (s : State) : Host.Outcome State Fault Refusal := .next (s.onDev fun v => v.boostWaitEnd c)

/-- The channel of a pair that is in a ready wait (08 R239). -/
def Dev.readyWaiter (s : Dev) (k : Fin 8) : Option (Fin 16 × VWait) :=
  match (s.valves[(evenOf k).val]).wait with
  | some w => if !w.rail then some (evenOf k, w) else
    (match (s.valves[(oddOf k).val]).wait with
     | some w => if !w.rail then some (oddOf k, w) else none
     | none => none)
  | none => match (s.valves[(oddOf k).val]).wait with
    | some w => if !w.rail then some (oddOf k, w) else none
    | none => none

/-- VBOOST_READY: VBOOST is at or above a pair's BOOST_READY; a ready wait ends in BOOST (08 R239). -/
def Dev.vboostReady (s : Dev) (k : Fin 8) : Dev :=
  let s := s.senseVboost
  let s := { s with vboost := max s.vboost s.pairs[k.val].boostReady }
  match s.readyWaiter k with
  | some (c, w) =>
    let s := (s.onValve c fun v => { v with wait := none }).startProfile c false
    (s.finishCmd w.d (okOrLate w.late) (s.valveRes w.waited true false)).pairSync k
  | none => s

/-- VBOOST_READY (08 R239). -/
def execVboostReady (k : Fin 8) (s : State) : Host.Outcome State Fault Refusal := .next (s.onDev fun v => v.vboostReady k)

/-- READY_WAIT_EXPIRY: BOOST is skipped and the profile starts at PEAK (08 R239). -/
def Dev.readyWaitEnd (s : Dev) (k : Fin 8) : Dev :=
  match s.readyWaiter k with
  | some (c, w) =>
    let s := (s.onValve c fun v => { v with wait := none }).startProfile c true
    ((s.finishCmd w.d (okOrLate w.late) (s.valveRes w.waited true true)).leaveRail c).pairSync k
  | none => s

/-- READY_WAIT_EXPIRY (08 R239). -/
def execReadyWaitExpiry (k : Fin 8) (s : State) : Host.Outcome State Fault Refusal := .next (s.onDev fun v => v.readyWaitEnd k)

/-- DITHER_STEP: the next step of the dither period: two of a square, 64 of a triangle (08 R234). -/
def Dev.dither (s : Dev) (c : Fin 16) : Dev :=
  let v := s.valves[c.val]
  if v.phase = .prop && v.cur.dithF ≠ 0 then
    (s.onValve c fun v => { v with dith := (v.dith + 1) % (if v.cur.tri then 64 else 2) }).newCode c
  else s

/-- DITHER_STEP (08 R234). -/
def execDitherStep (c : Fin 16) (s : State) : Host.Outcome State Fault Refusal := .next (s.onDev fun v => v.dither c)

/-- CLOSING_DETECTED: the first kink in the window from KINK_START to KINK_END (08 R241). The command stands for a sample of VSEN whose slope
has changed by KINK_TH; one outside the window is none. -/
def Dev.closing (s : Dev) (c : Fin 16) : Dev :=
  let v := s.valves[c.val]
  let us := (s.now - v.tStart) / 400
  if v.kink && v.kinkStart ≤ us && us ≤ v.kinkEnd then
    (s.onValve c fun v => { v with kink := false, closed := true, closeT := some us }).raise EV_VALVE_CLOSED
      (pairFunc (pairOf c)) (hValve c) (mkWord [(0, 16, us)])
  else s

/-- CLOSING_DETECTED (08 R241). -/
def execClosingDetected (c : Fin 16) (s : State) : Host.Outcome State Fault Refusal := .next (s.onDev fun v => v.closing c)

/-- KINK_WINDOW_END: the window passes with no kink (08 R241). -/
def Dev.kinkEnd_ (s : Dev) (c : Fin 16) : Dev :=
  let v := s.valves[c.val]
  if v.kink then
    let k := pairOf c
    let s := (s.onValve c fun v => { v with kink := false }).raise EV_VALVE_CLOSED (pairFunc k) (hValve c) 0x80000000
    (s.report (hPair k) (pairFunc k) .warn LG_VALVE_NO_CLOSE (mkWord [(0, 16, v.kinkEnd)])).1
  else s

/-- KINK_WINDOW_END (08 R241). -/
def execKinkWindowEnd (c : Fin 16) (s : State) : Host.Outcome State Fault Refusal := .next (s.onDev fun v => v.kinkEnd_ c)

/-! ## Class 0x6 -/

def opValveConfig : OpInfo :=
  { op := 0x60, accepts := .valve, needsEn := true,
    fields := [(8, 0, 16), (10, 0, 8), (11, 0, 8), (12, 0, 3), (13, 0, 8), (14, 0, 80)] }
def opValveProfile : OpInfo :=
  { op := 0x61, accepts := .valve, needsEn := true,
    fields := [(8, 0, 96), (20, 0, 2), (21, 0, 4), (22, 0, 16), (24, 0, 8), (26, 0, 16)] }
def opValveCmd : OpInfo := { op := 0x62, accepts := .valve, needsEn := true, fields := [(8, 0, 3), (12, 0, 32)] }
def opValvePropSet : OpInfo := { op := 0x63, accepts := .valve, needsEn := true, fields := [(8, 0, 32)] }
def opSaddleConfig : OpInfo :=
  { op := 0x64, accepts := .pair, needsEn := true, fields := [(8, 0, 2), (10, 0, 48)] }
def opValveAck : OpInfo := { op := 0x65, accepts := .valve, needsEn := true }
def opValveStatusGet : OpInfo := { op := 0x66, accepts := .valve, needsEn := true }

/-- A channel is IDLE and not ARMED (08 R245). -/
def Valve.quiet (v : Valve) : Bool := v.phase == .idle && v.wait.isNone && v.armed.isNone

/-- VALVE_CONFIG (08 R245). -/
def doValveConfig (d : Desc) (c : Fin 16) (s : Dev) : Dev × Res :=
  let rs := d.bits 8 0 16
  let toff := d.bits 10 0 8
  let tb := d.bits 11 0 8
  if rs < 50 ∨ 1000 < rs ∨ toff = 0 ∨ tb = 0 ∨ 40 < tb ∨ d.bits 13 0 8 = 0 ∨ 1023 < codeOf (d.bits 14 0 16) rs (s.par c)
      ∨ d.bits 18 0 16 ≤ d.bits 16 0 16 ∨ 400 < d.bits 20 0 16 then refuse s .range
  else if s.oddPar c then refuse s .conflict
  else if !(s.valves[c.val]).quiet then refuse s .busy
  else
    (s.onValve c fun v => { v with
      rshunt := rs, toff, tblank := tb, fail := d.bits 12 0 2, kinkEn := d.flag 12 2, kinkTh := d.bits 13 0 8
      failI := d.bits 14 0 16, kinkStart := d.bits 16 0 16, kinkEnd := d.bits 18 0 16, shortT := d.bits 20 0 16
      openT := d.bits 22 0 16 }, .ok)

/-- The profile in a descriptor (08 R246). -/
def profileOf (d : Desc) : VProfile where
  iBoost    := d.bits 8 0 16
  tBoostMax := d.bits 10 0 16
  iPeak     := d.bits 12 0 16
  tPeak     := d.bits 14 0 16
  iHold     := d.bits 16 0 16
  tHold     := d.bits 18 0 16
  third     := d.flag 20 0
  tri       := d.flag 20 1
  dec       := BitVec.ofNat 4 (d.bits 21 0 4)
  dithF     := d.bits 22 0 16
  dithA     := d.bits 24 0 8
  propMax   := d.bits 26 0 16

/-- VALVE_PROFILE (08 R246). -/
def doValveProfile (d : Desc) (c : Fin 16) (s : Dev) : Dev × Res :=
  let p := profileOf d
  let rs := (s.valves[c.val]).rshunt
  if ([p.iBoost, p.iPeak, p.iHold, p.propMax].any fun i => 1023 < codeOf i rs (s.par c))
      || 10000 < p.tBoostMax || (p.tBoostMax != 0 && p.tPeak != 0 && p.iBoost < p.iPeak)
      || (p.dithF != 0 && (p.dithF < 50 || 400 < p.dithF)) || 25 < p.dithA then refuse s .range
  else if s.oddPar c then refuse s .conflict
  else (s.onValve c fun v => { v with prof := p }, .ok)

/-- VALVE_CMD (08 R242, R243, R247). -/
def doValveCmd (d : Desc) (c : Fin 16) (s : Dev) : Dev × Res :=
  let v := s.valves[c.val]
  if (setpOf d).any fun x => 1023 < codeOfSp x v.rshunt (s.par c) then refuse s .range
  else if s.oddPar c || ((setpOf d).isSome && (s.ownerOf (hValve c)).isSome) then refuse s .conflict
  else if v.phase = .fault then (s.endFail c, if d.flag 8 0 then .done .busy else .done .ok (s.valveRes false false false))
  else
    let s := match v.armed with
      | some a => (s.onValve c fun v => { v with armed := none }).finish 0x62 a .flushed 0
      | none => s
    let s := s.endFail c
    if d.flag 8 1 && s.tb.valid then (s.onValve c fun v => { v with armed := some d }, .wait)
    else
      let r := s.valveAct c d (d.flag 8 1)
      (r.1, match r.2 with
        | some x => .done x.1 x.2
        | none => .wait)

/-- VALVE_PROP_SET (08 R248). -/
def doValvePropSet (d : Desc) (c : Fin 16) (s : Dev) : Dev × Res :=
  let v := s.valves[c.val]
  let sp := d.bits 8 0 32
  if 1023 < codeOfSp sp v.rshunt (s.par c) then refuse s .range
  else if s.oddPar c || (s.ownerOf (hValve c)).isSome then refuse s .conflict
  else (s.valveSp c sp, .done .ok (mkRes [(8, 0, 32, v.sp)]))

/-- SADDLE_CONFIG (08 R249). -/
def doSaddleConfig (d : Desc) (k : Fin 8) (s : Dev) : Dev × Res :=
  let bw := d.bits 10 0 16
  let rw_ := d.bits 12 0 16
  let br := d.bits 14 0 16
  if bw < 10 ∨ 2000 < bw ∨ 2000 < rw_ ∨ br < 96 ∨ 260 < br then refuse s .range
  else if !((s.valves[(evenOf k).val]).quiet && (s.valves[(oddOf k).val]).quiet) then refuse s .busy
  else
    (s.onPair k fun p => { p with par := d.flag 8 0, bpol := d.flag 8 1, boostWait := bw, readyWait := rw_, boostReady := br },
     .ok)

/-- VALVE_ACK (08 R250). -/
def doValveAck (c : Fin 16) (s : Dev) : Dev × Res :=
  if s.oddPar c then refuse s .conflict
  else if (s.valves[c.val]).phase ≠ .fault then refuse s .conflict
  else
    let s := (s.onHalves c fun v => { v with chop := .none }).onValve c fun v => { v with phase := .idle, cause := 0 }
    ((s.endErrOf (hPair (pairOf c)) [LG_VALVE_OPEN, LG_VALVE_SHORT]).pairSync (pairOf c), .ok)

/-- STATE of a channel (08 R237). -/
def Valve.stateCode (v : Valve) : Nat :=
  if v.phase = .idle then (if v.wait.isSome || v.armed.isSome then 1 else 0) else v.phase.code

/-- VCn_STATUS (08 R251). -/
def Valve.status (v : Valve) : Word :=
  mkWord [(0, 3, v.stateCode), (3, 1, (v.phase != .idle && v.wait.isSome).toNat), (4, 1, v.armed.isSome.toNat),
          (5, 1, v.closed.toNat), (6, 1, v.failpos.toNat), (7, 2, v.cause), (9, 1, v.notReady.toNat),
          (10, 1, v.overlap.toNat), (11, 1, v.subst.toNat), (16, 10, v.code)]

/-- VALVE_STATUS_GET (08 R250). -/
def doValveStatusGet (c : Fin 16) (s : Dev) : Dev × Res :=
  let v := s.valves[c.val]
  if s.oddPar c then refuse s .conflict
  else (s, .done .ok (mkRes [(8, 0, 32, v.status.toNat), (12, 0, 16, v.closeT.getD 0xFFFF), (14, 0, 16, v.starts.toNat)]))

/-- An opcode on a valve channel. -/
def onValveObj (f : Fin 16 → Dev → Dev × Res) : Obj → Dev → Dev × Res
  | .valve c, s => f c s
  | _, s => refuse s .badHandle

/-- An opcode on a Saddle pair. -/
def onPairObj (f : Fin 8 → Dev → Dev × Res) : Obj → Dev → Dev × Res
  | .pair k, s => f k s
  | _, s => refuse s .badHandle

/-- VALVE_CONFIG (opcode 0x60, 08 R245). -/
def execValveConfig (d : Desc) (s : State) : Host.Outcome State Fault Refusal :=
  .next (s.desc opValveConfig d (onValveObj (doValveConfig d)))

/-- VALVE_PROFILE (opcode 0x61, 08 R246). -/
def execValveProfile (d : Desc) (s : State) : Host.Outcome State Fault Refusal :=
  .next (s.desc opValveProfile d (onValveObj (doValveProfile d)))

/-- VALVE_CMD (opcode 0x62, 08 R247). -/
def execValveCmd (d : Desc) (s : State) : Host.Outcome State Fault Refusal :=
  .next (s.desc opValveCmd d (onValveObj (doValveCmd d)))

/-- VALVE_PROP_SET (opcode 0x63, 08 R248). -/
def execValvePropSet (d : Desc) (s : State) : Host.Outcome State Fault Refusal :=
  .next (s.desc opValvePropSet d (onValveObj (doValvePropSet d)))

/-- SADDLE_CONFIG (opcode 0x64, 08 R249). -/
def execSaddleConfig (d : Desc) (s : State) : Host.Outcome State Fault Refusal :=
  .next (s.desc opSaddleConfig d (onPairObj (doSaddleConfig d)))

/-- VALVE_ACK (opcode 0x65, 08 R250). -/
def execValveAck (d : Desc) (s : State) : Host.Outcome State Fault Refusal :=
  .next (s.desc opValveAck d (onValveObj doValveAck))

/-- VALVE_STATUS_GET (opcode 0x66, 08 R250). -/
def execValveStatusGet (d : Desc) (s : State) : Host.Outcome State Fault Refusal :=
  .next (s.desc opValveStatusGet d (onValveObj doValveStatusGet))

/-! ## Host loss, holds -/

/-- The host-loss policy sends a channel to its fail position (08 R253). -/
def Dev.valveFailPos (s : Dev) (c : Fin 16) : Dev :=
  let v := s.valves[c.val]
  let f := pairFunc (pairOf c)
  if s.oddPar c || !s.active f then s
  else
    let s := (s.onValve c fun v => { v with failpos := true }).note .info f LG_VALVE_FAILPOS (mkWord [(0, 2, v.fail)])
    if v.phase = .fault then s
    else
      let s := match v.fail with
        | 0 => (s.cancelWait c .flushed).startOff c
        | 1 =>
          if v.phase = VPhase.prop then (s.onValve c fun v => { v with cur := { v.cur with third := false } }).toPhase c .hold false
          else if v.runs then s.onValve c fun v => { v with cur := { v.cur with third := false } }
          else (s.valveOn c none false).1
        | 2 =>
          let s := s.cancelWait c .flushed
          if v.runs then (s.toPhase c .prop false).leaveRail c (v.phase == VPhase.boost)
          else
            let s := (s.onValve c fun v => { v with cur := v.prof, phase := .prop, ripple := none }).leaveRail c
            (s.onHalves c fun x => { x.turnOn s.now with fall := none }).newCode c
        | _ => s
      s.pairSync (pairOf c)

/-- A pair goes inert (08 R253): profiles, waits and armed commands are abandoned; configuration, profiles and set-points are kept. -/
def Dev.pairHold (s : Dev) (k : Fin 8) : Dev :=
  let idle := fun (v : Valve) => { v with phase := .idle, wait := none, armed := none, chop := .none, blank := false
                                          blankEnd := none, crossed := false, kink := false, failpos := false, cause := 0
                                          code := 0, ripple := none, fall := none, offAt := none }
  ((s.onValve (evenOf k) idle).onValve (oddOf k) idle).onPair k fun p =>
    { p with rail := none, bg := false, hsg := false, dead := none, freed := none, strobed := 0 }

end Sys2Proof.Machine
end

