-- ==== Sys2Proof/Machine/Inputs.lean ====
section
/-! DEFINITION. What a level-1 input handle reads as for loops, zones and dampers (05 R138, R140), and the fan and damper operations
that the loops call: applied targets, positions and drives (09_fans_dampers.md). -/

namespace Sys2Proof.Machine

/-! ## Functions that give no value -/

/-- A function gives no value and takes no write: held in reset, or not enabled (05 R140, R170; 19 R523). -/
def Dev.off (s : Dev) (f : Nat) : Bool := s.held f || !s.enabled f

/-- What an input reads as: its class under 05 R140, X (R138), and COUNT for a converter result. -/
structure Reading where
  cls   : InClass
  x     : Int := 0
  count : Option Word := none
  deriving DecidableEq, Repr

/-- The class of a result word (05 R140): CAUSE 3 open, 2 overrange, 4 reference not ready; settling, urgent-slot and 0 are transient. -/
def wordClass (w : Word) : InClass :=
  if w.getLsbD 31 then .usable
  else match bitsOf w.toNat 28 3 with
    | 3 => .bad 1
    | 2 => .bad 2
    | 4 => .bad 3
    | _ => .transient

/-- DATA of a result word: FA zero-extended, PA sign-extended (05 R138). -/
def wordData (c : Fin 3) (w : Word) : Int := if c.val = 2 then signed 24 (bitsOf w.toNat 0 24) else (bitsOf w.toNat 0 24 : Int)

/-- A converter result as an input. -/
def Dev.readConv (s : Dev) (c : Fin 3) (i : Fin 64) : Reading :=
  let x := s.convs[c.val].inputs[i.val]
  if s.off (convFunc c) then { cls := .reset }
  else { cls := wordClass x.word, x := wordData c x.word, count := some x.count }

/-- A sensor-bus value as an input: an entry with RLEN 0 has none and is never a timeout (13 R409). -/
def Dev.readSb (s : Dev) (p : Fin 8) (e : Fin 32) : Reading :=
  let x := s.sbs[p.val].entries[e.val]
  if s.off (82 + p.val) then { cls := .reset }
  else if x.rlen = 0 then { cls := .transient }
  else if x.timeout || (x.en && x.time + 4 * x.period * 4000000 < s.now) then { cls := .bad 4 }
  else { cls := .usable, x := x.x }

/-- A building-bus value as an input (13 R390). -/
def Dev.readBb (s : Dev) (p : Fin 8) (e : Fin 64) : Reading :=
  let x := s.bbs[p.val].entries[e.val]
  if s.off (58 + p.val) then { cls := .reset }
  else if x.timeout || (x.en && x.time + 4 * x.period * 400000 < s.now) then { cls := .bad 4 }
  else { cls := .usable, x := x.x }

/-- A Vale value as an input (12 R355). -/
def Dev.readVale (s : Dev) (p : Fin 16) (slot item : Fin 32) : Reading :=
  let v := s.vports[p.val].slots[slot.val]
  let x := v.vals[item.val]
  if s.off (66 + p.val) then { cls := .reset }
  else if v.state != .present || x.old || x.time.isNone then { cls := .bad 4 }
  else { cls := .usable, x := signed 32 x.value.toNat }

/-- A fan's tach speed as an input (09 R258): 0 is Bad. -/
def Dev.readTach (s : Dev) (n : Fin 12) : Reading :=
  if s.off (30 + n.val) then { cls := .reset }
  else if s.fans[n.val].speed = 0 then { cls := .bad 4 }
  else { cls := .usable, x := s.fans[n.val].speed }

/-- An encoder count as an input. -/
def Dev.readEnc (s : Dev) (n : Fin 8) : Reading :=
  if s.off 54 then { cls := .reset } else { cls := .usable, x := signed 32 s.panel.encs[n.val].count.toNat }

/-- The raw feedback of a damper (09 R265): an FA code, PA data or an encoder count; its class is that of the reading. -/
def Dev.dmRaw (s : Dev) (n : Fin 12) : Reading :=
  match objOf s.dampers[n.val].fb with
  | some (.convResult c i) =>
    let r := s.readConv c i
    { r with x := if c.val = 2 then r.x else r.x / 1024 }
  | some (.encCount e) => s.readEnc e
  | _ => { cls := .bad 4 }

/-- The position that a raw value gives (09 R265). -/
def Damper.posOf (x : Damper) (raw : Int) : Int :=
  let span := x.calOpen - x.calClosed
  sat32 (roundDiv ((raw - x.calClosed) * 6553600 * span.sign) span.natAbs)

/-- A position lies outside -10 % to +110 % (09 R265). -/
def posOutside (pos : Int) : Bool := pos < -655360 || 7208960 < pos

/-- The damper's position as an input, as its feedback stands (09 R265). -/
def Dev.readPos (s : Dev) (n : Fin 12) : Reading :=
  if s.off (42 + n.val) then { cls := .reset }
  else
    let x := s.dampers[n.val]
    let r := s.dmRaw n
    if r.cls != .usable then { cls := r.cls, x := x.pos }
    else if !x.learned then { cls := .bad 4, x := x.pos }
    else
      let p := x.posOf r.x
      { cls := if posOutside p then .bad 2 else .usable, x := p }

/-- The latest value of a level-1 input (05 R138, 06 R173). -/
def Dev.reading (s : Dev) (h : Word) : Reading :=
  match objOf h with
  | some (.convResult c i) => s.readConv c i
  | some (.sbValue p e) => s.readSb p e
  | some (.bbValue p e) => s.readBb p e
  | some (.valeValue p k i) => s.readVale p k i
  | some (.tach n) => s.readTach n
  | some (.encCount n) => s.readEnc n
  | some (.position n) => s.readPos n
  | _ => { cls := .bad 4 }

/-! ## Fans and dampers as loops see them -/

/-- A fan's handle (09 R255). -/
abbrev hFan (n : Fin 12) : Word := mkHandle 2 0x05 n.val

/-- A damper's handle (09 R255). -/
abbrev hDamper (n : Fin 12) : Word := mkHandle 2 0x06 n.val

/-- The function of a fan. -/
abbrev fanFunc (n : Fin 12) : Nat := 30 + n.val

/-- The function of a damper. -/
abbrev dmFunc (n : Fin 12) : Nat := 42 + n.val

/-- A change of a fan. -/
def Dev.onFan (s : Dev) (n : Fin 12) (f : Fan → Fan) : Dev := { s with fans := vmod s.fans n f }

/-- A change of a damper. -/
def Dev.onDm (s : Dev) (n : Fin 12) (f : Damper → Damper) : Dev := { s with dampers := vmod s.dampers n f }

/-- The fan that a loop is attached to (09 R256). -/
def Dev.fanOf (s : Dev) (n : Fin 144) : Option (Fin 12) :=
  (List.finRange 12).find? fun k => s.fans[k.val].attached && s.fans[k.val].loop == n.val

/-- The damper that a loop is attached to. -/
def Dev.damperOf (s : Dev) (n : Fin 144) : Option (Fin 12) :=
  (List.finRange 12).find? fun k => s.dampers[k.val].attached && s.dampers[k.val].loop == n.val

/-- A loop is attached (09 R256). -/
def Dev.isAttached (s : Dev) (n : Fin 144) : Bool := (s.fanOf n).isSome || (s.damperOf n).isSome

/-- The target of a loop is written; it applies from its next run, with JUMP by a jump (05 R144, R170). -/
def Dev.loopTarget (s : Dev) (n : Fin 144) (v : Int) (jump : Bool) : Dev :=
  s.onLoop n fun l => { l with target := v, jump := l.jump || jump }

/-- POS and SPEED-like fields: a Q16.16 percentage as Q8.8, cut off and limited to 16 bits (09 R280). -/
def posQ8 (pos : Int) : Nat := wrapTo 16 (clampI (-32768) 32767 (pos / 256))

/-- The position of a damper is formed anew; leaving the range is logged once (09 R265). -/
def Dev.dmRefresh (s : Dev) (n : Fin 12) : Dev :=
  let r := s.readPos n
  let out := r.cls == .bad 2 && posOutside r.x
  let was := s.dampers[n.val].outNow
  let s := s.onDm n fun x => { x with pos := r.x, posCls := r.cls, range := x.range || out, outNow := out }
  if out && !was then (s.report (hDamper n) (dmFunc n) .warn LG_DM_RANGE (mkWord [(0, 16, posQ8 r.x)])).1 else s

/-- Every damper whose position is an input is formed anew before it is read. -/
def Dev.refreshInput (s : Dev) (h : Word) : Dev :=
  match objOf h with
  | some (.position n) => s.dmRefresh n
  | _ => s

/-- One band moves a speed to an edge (09 R262). -/
def bandStep (a lo hi : Nat) : Nat :=
  if hi ≠ 0 ∧ lo < a ∧ a < hi then (if a < (lo + hi + 1) / 2 then lo else hi) else a

/-- The limits and the bands of a fan applied to a written target in whole rpm (09 R262). -/
def Fan.form (f : Fan) (t : Nat) : Nat :=
  if t = 0 then 0
  else (List.finRange 4).foldl (fun a k => bandStep a f.lo[k.val] f.hi[k.val]) (max f.minRpm (min f.maxRpm t))

/-- BAND: a differs from clamp(t) (09 R262). -/
def Fan.banded (f : Fan) (t : Nat) : Bool := t != 0 && f.form t != max f.minRpm (min f.maxRpm t)

/-- Two applied targets lie on opposite sides of a band (09 R262). -/
def Fan.crosses (f : Fan) (a b : Nat) : Bool :=
  (List.finRange 4).any fun k =>
    let lo := f.lo[k.val]
    let hi := f.hi[k.val]
    hi != 0 && ((a ≤ lo && hi ≤ b) || (b ≤ lo && hi ≤ a))

/-- The applied target is formed from the written one and written to the attached loop (09 R262). -/
def Dev.fanForm (s : Dev) (n : Fin 12) : Dev :=
  let f := s.fans[n.val]
  let t := f.target / 65536
  let a := f.form t
  let s := s.onFan n fun f => { f with applied := a, band := f.banded t }
  if f.attached then s.loopTarget (ix 143 f.loop) (a * 65536) (f.crosses f.applied a) else s

/-- A fan's target is written by a loop or a zone (09 R262); while the host-loss policy applies it is ignored (R269). A value below 0
is 0. -/
def Dev.fanStore (s : Dev) (n : Fin 12) (v : Int) : Dev :=
  if s.fans[n.val].full then s else (s.onFan n fun f => { f with target := v.toNat }).fanForm n

/-- A damper's target is written by a loop or a zone, limited to 0 to 100 % (09 R265); ignored under the host-loss policy (R269). -/
def Dev.dmStore (s : Dev) (n : Fin 12) (v : Int) : Dev :=
  let x := s.dampers[n.val]
  if x.failpos then s
  else
    let t := clampI 0 0x640000 v
    let s := s.onDm n fun x => { x with target := t }
    if x.attached && x.state == .run then s.loopTarget (ix 143 x.loop) t false else s

/-! ## Drives -/

/-- The mapping of 05 R142: a duty on a channel with PHASE gives a set, and whether the duty was limited from above or below. -/
def Pwm.dutySet (p : Pwm) (phase : Nat) (y : Int) : PSet × Bool × Bool :=
  let u := p.units p.active
  let lim : Int := ((u - phase) * 65536 : Nat)
  let w := (clampI 0 lim (y * u)).toNat
  let fine := !p.amode && p.presc == 0
  let span := (roundDiv ((if fine then w * 32 else w : Nat) : Int) 65536).toNat
  let clear := phase + (if fine then span / 32 else span)
  ({ period := p.active.period, set := phase, clear := min clear 65535, fineSet := 0, fineClr := if fine then span % 32 else 0 },
   decide (lim < y * u) || u ≤ phase, decide (y < 0))

/-- Half-cycle firing of a TRIAC (09 R257). -/
def triacSet (p : Pwm) (gateW : Nat) (y : Int) : PSet × Bool × Bool :=
  let d := clampI 0 65536 y
  let fire := (roundDiv ((65536 - d) * ((32768 - gateW : Nat) : Int)) 65536).toNat
  (if d = 0 then { period := p.active.period } else { period := p.active.period, set := fire, clear := fire + gateW },
   decide (65536 < y), decide (y < 0))

/-- The drive of a fan's channel is written (09 R257). -/
def Dev.fanWrite (s : Dev) (n : Fin 12) (phase : Nat) (y : Int) : Dev × Bool × Bool :=
  let f := s.fans[n.val]
  let c := ix 47 f.ch
  let p := s.pwms[c.val]
  let r := if f.triac then triacSet p f.gateW y
    else
      let m := p.dutySet phase (clampI 0 65536 y)
      (m.1, m.2.1 || decide (65536 < y), m.2.2 || decide (y < 0))
  (s.pwmWrite c r.1, r.2)

/-- The drive of a damper's two channels is written (09 R257). -/
def Dev.dmWrite (s : Dev) (n : Fin 12) (phase : Nat) (y : Int) : Dev × Bool × Bool :=
  let x := s.dampers[n.val]
  let a := ix 47 x.chA
  let b := ix 47 x.chB
  let full := fun (c : Fin 48) => let p := s.pwms[c.val]; PSet.mk p.active.period 0 p.active.period 0 0
  let none := fun (c : Fin 48) => PSet.mk s.pwms[c.val].active.period 0 0 0 0
  let m := s.pwms[a.val].dutySet phase (min 65536 y.natAbs)
  let lim := m.2.1 || decide (65536 < y.natAbs)
  if y.natAbs * 100 < x.driveMin * 65536 || y = 0 then
    let g := if x.brake then full else none
    ((s.pwmWrite a (g a)).pwmWrite b (g b), false, false)
  else if y > 0 then ((s.pwmWrite a m.1).pwmWrite b (none b), lim, false)
  else ((s.pwmWrite a (none a)).pwmWrite b (s.pwms[b.val].dutySet phase (min 65536 y.natAbs)).1, false, lim)

/-- What an attached fan's state drives directly; none: the loop's own output (09 R260). -/
def Fan.drive (f : Fan) : Option Int :=
  match f.state with
  | .run | .open_ => none
  | .kick | .full => some 65536
  | _ => some 0

/-- What a damper's state drives directly (09 R266). -/
def Damper.drive (x : Damper) : Option Int :=
  let d := roundDiv (x.learnDrive * 65536) 100
  match x.state with
  | .run => none
  | .learnClose => some (-d)
  | .learnOpen => some d
  | .travel => some (if x.failMode = 3 then d else -d)
  | _ => some 0

/-- The code of a damper's state. -/
def DmState.num : DmState → Nat
  | .disabled => 0 | .unlearned => 1 | .learnClose => 2 | .learnOpen => 3 | .run => 4 | .travel => 5 | .halted => 6 | .fault => 7

/-- A damper changes its state, with EV_DM_STATE (09 R281). -/
def Dev.dmGo (s : Dev) (n : Fin 12) (st : DmState) : Dev :=
  let old := s.dampers[n.val].state
  if old = st then s
  else (s.onDm n fun x => { x with state := st }).raise EV_DM_STATE (dmFunc n) (hDamper n)
    (mkWord [(0, 3, st.num), (4, 3, old.num)])

/-- The attached loop of a damper has recovered (09 R268): back to RUN, with the target that was stored meanwhile (R277). -/
def Dev.dmResume (s : Dev) (n : Fin 12) : Dev :=
  let x := s.dampers[n.val]
  let s := s.dmGo n .run
  if x.attached then s.loopTarget (ix 143 x.loop) x.target false else s

/-- A damper learns: loop supervision is suspended (09 R267). -/
def Damper.learning (x : Damper) : Bool := x.state == .learnClose || x.state == .learnOpen

end Sys2Proof.Machine
end

