-- ==== Sys2Proof/Machine/Pid.lean ====
section
/-! DEFINITION. The arithmetic of a loop run: the set-point profile (05 R144), held exactly, and the PID law (05 R145, R146, R151). -/

namespace Sys2Proof.Machine

/-! ## The profile

Time t is in TCLK of 1/F s, F = 4 x 10^8; ra is in 1/F of a Q16.16 unit per s², rv in 1/F² per s, r in 1/(2 F³). In these units a
run adds ra t to rv and (rv before + rv after) t to r, with no rounding. -/

/-- F. -/
abbrev clkF : Int := 400000000

/-- One Q16.16 unit of r. -/
abbrev unitR : Nat := 2 * 400000000 * 400000000 * 400000000

/-- Binary digits of a square root, from digit `k` down. -/
def isqrtGo : Nat → Nat → Nat → Nat
  | 0, _, acc => acc
  | k + 1, n, acc => isqrtGo k n (if (acc + 2 ^ k) * (acc + 2 ^ k) ≤ n then acc + 2 ^ k else acc)

/-- The integer part of a square root. -/
def isqrt (n : Nat) : Nat := isqrtGo (n.log2 / 2 + 1) n 0

/-- The braking distance from velocity v ≥ 0 and acceleration a, within limits A and J above 0, is at least the distance d
(05 R144). From a = 0 and speed w it is w² / 2A + wA / 2J, or w √(w / J) where the deceleration does not reach A; the inequality is
freed of its denominators and of its root. -/
def brakeReaches (v a d amax jmax : Int) : Bool :=
  let af := amax * clkF
  let w := 2 * jmax * v + a * a
  if 0 ≤ a then
    if 2 * af * af ≤ w then
      12 * jmax * jmax * af * d ≤ 24 * jmax * af * v * a + 8 * af * a * a * a + 3 * w * w + 6 * w * af * af
    else
      let n := 3 * jmax * jmax * d - 6 * jmax * v * a - 2 * a * a * a
      n ≤ 0 || 2 * n * n ≤ 9 * w * w * w
  else
    let b := -a
    if b * b ≤ 2 * jmax * v then
      if 2 * af * af ≤ w then
        12 * jmax * jmax * af * d ≤ 3 * w * w + 6 * w * af * af - 4 * af * (3 * w * b - b * b * b)
      else
        let n := 3 * jmax * jmax * d + 3 * w * b - b * b * b
        n ≤ 0 || 2 * n * n ≤ 9 * w * w * w
    else
      let q := b * b - 2 * jmax * v
      let n := 3 * jmax * jmax * d - b * b * b + 3 * b * q
      n ≤ 0 || n * n ≤ 4 * q * q * q

/-- A run with JMAX 0 (05 R144), toward a target at distance d ≥ 0: the new velocity and acceleration. It goes on where the braking distance
after going on is less than the distance left, and else decelerates: by the least that still stops before the target, or, where even the
speed it has would, by the constant deceleration that stops at the target. -/
def trapezoid (d v t vmax amax : Int) : Int × Int :=
  let af := amax * clkF
  let top := vmax * clkF * clkF
  let up := min (v + af * t) top
  if v < 0 then (min 0 (v + af * t), if v + af * t ≤ 0 then af else 0)
  else if top < v then (max (v - af * t) top, -af)
  else if v = 0 ∨ up * up < af * (d - (v + up) * t) then (up, if up = v + af * t then af else 0)
  else
    let b := af * t
    let c := af * (d - v * t)
    let stop : Int := if 0 < c then ((isqrt (b * b + 4 * c).toNat : Int) - b) / 2 else 0
    let slow := if stop < v then stop else v - max 1 (v * v * t / d)
    let nv := max 0 (max (v - af * t) slow)
    (nv, if nv = v - af * t then -af else if t = 0 then 0 else (nv - v) / t)

/-- A run with all three limits (05 R144): of the accelerations that JMAX and AMAX allow, the highest that keeps the speed within VMAX
and from which r can still come to rest before the target; otherwise the strongest deceleration that brings ra to 0 with rv. -/
def jerkRun (d v a t vmax amax jmax : Int) : Int × Int :=
  let af := amax * clkF
  let hi := min (a + jmax * t) af
  let lo := max (a - jmax * t) (-af)
  let mid := if lo < 0 ∧ 0 < hi then [0] else []
  let down := if a > 0 then [hi, a] ++ mid ++ [lo] else [hi] ++ mid ++ [a, lo]
  let nv := fun (na : Int) => v + na * t
  if v = 0 ∧ a ≤ 0 then (max 0 (nv hi), hi)
  else if v < 0 then
    let na := (down.find? fun na => na ≤ 0 || na * na ≤ -2 * jmax * nv na).getD lo
    (nv na, na)
  else
    let fast := fun (na : Int) => decide (2 * jmax * vmax * clkF * clkF < 2 * jmax * nv na + (if na > 0 then na * na else 0))
    let ok := fun (na : Int) =>
      0 ≤ nv na && (!fast na || na == lo) && (0 ≤ na || na * na ≤ 2 * jmax * nv na || na == hi)
        && !brakeReaches (nv na) na (d - (v + nv na) * t) amax jmax
    match down.find? ok with
    | some na => (nv na, na)
    | none =>
      match down.reverse.find? fun na => 0 ≤ nv na && (0 ≤ na || na * na ≤ 2 * jmax * nv na) with
      | some na => (nv na, na)
      | none => (max 0 (nv hi), hi)

/-- r takes the target: rv and ra are 0, SETTLED (05 R144). -/
def Loop.settle (l : Loop) : Loop := { l with r := l.target * unitR, rv := 0, ra := 0, settled := true }

/-- r rounded to Q16.16 (05 R144). -/
def Loop.rQ (l : Loop) : Int := sat32 (roundDiv l.r unitR)

/-- One run of the profile generator over t TCLK (05 R144). -/
def Loop.profile (l : Loop) (t : Nat) : Loop :=
  if l.vmax = 0 ∨ l.jump then { l.settle with jump := false }
  else
    let dist := l.target * unitR - l.r
    let sgn : Int := if dist > 0 then 1 else if dist < 0 then -1 else if l.rv > 0 then -1 else 1
    let d := dist * sgn
    let v := l.rv * sgn
    let a := l.ra * sgn
    if 0 ≤ v ∧ (d < 2 * v * t ∨ (d = 0 ∧ v = 0)) then l.settle
    else
      let n : Int × Int :=
        if l.amax = 0 then (l.vmax * clkF * clkF, 0)
        else if l.jmax = 0 then trapezoid d v t l.vmax l.amax
        else jerkRun d v a t l.vmax l.amax l.jmax
      let trav := (if l.amax = 0 then 2 * n.1 else v + n.1) * t
      if d < trav ∨ (d = trav ∧ n.1 = 0) then l.settle
      else { l with r := l.r + sgn * trav, rv := sgn * n.1, ra := sgn * n.2, settled := false }

/-- The profile starts anew from a value (05 R151). -/
def Loop.profileFrom (l : Loop) (q : Int) : Loop :=
  { l with r := q * unitR, rv := 0, ra := 0, settled := decide (q = l.target) }

/-! ## The PID law -/

/-- A Q16.16 product: exact, rounded once, saturated (05 R145). -/
def qmul (a b : Int) : Int := sat32 (roundDiv (a * b) 65536)

/-- k t x with k per s and t in TCLK: one exact product, rounded once (05 R145). -/
def timesT (k : Int) (t : Nat) (x : Int) : Int := sat32 (roundDiv (k * t * x) (65536 * 400000000))

/-- The process value of an input (05 R139). -/
def Loop.scale (l : Loop) (x : Int) : Int := sat32 (roundDiv ((x - l.inOfs) * l.inGain) 65536)

/-- Y, the output's value of u (05 R141). -/
def Loop.mapOut (l : Loop) (u : Int) : Int := sat32 (l.outOfs + roundDiv (u * l.outGain) 65536)

/-- u taken back from a value that the output holds, limited (05 R151). DESIGN CHOICE: the quotient by OUT_GAIN is formed exactly and rounded
once, half away from zero, as R145 does with products (log entry 234). -/
def Loop.unmap (l : Loop) (y : Int) : Int :=
  clampI l.outMin l.outMax
    (if l.outGain = 0 then l.bias else sat32 (roundDiv ((y - l.outOfs) * 65536 * l.outGain.sign) l.outGain.natAbs))

/-- The rate limit around u_prev (05 R146). -/
def Loop.rateLimit (l : Loop) (t : Nat) (u : Int) : Int :=
  if l.rateMax = 0 then u
  else
    let step := sat32 (roundDiv (l.rateMax * t) 400000000)
    clampI (sat32 (l.uPrev - step)) (sat32 (l.uPrev + step)) u

/-- The terms of a run (05 R146). -/
structure PidOut where
  e : Int
  p : Int
  x : Int
  d : Int
  v : Int
  u : Int
  deriving DecidableEq, Repr

/-- The error e (05 R146). -/
def Loop.err (l : Loop) : Int := if l.direct then sat32 (l.y - l.rQ) else sat32 (l.rQ - l.y)

/-- x, what the derivative is taken on (05 R146). -/
def Loop.dTerm (l : Loop) : Int := if l.dsrc then l.err else if l.direct then l.y else sat32 (-l.y)

/-- d: the filtered derivative (05 R146). Its products kp n, tf d_prev and kd (x - x_prev) are each rounded and saturated, and so are their
sums (R145). DEDUCED: tf is the exact quotient of kd by the product kp n, and the last quotient is formed exactly and rounded once (log
entry 201). -/
def Loop.deriv (l : Loop) (t : Nat) (xp : Int) : Int :=
  if l.kd = 0 then 0
  else
    let kn := sat32 (l.kp * l.nn)
    let a := sat32 (roundDiv (l.kd * l.dPrev) kn.toNat)
    let b := qmul l.kd (sat32 (l.dTerm - xp))
    sat32 (roundDiv (sat32 (a + b) * kn * clkF) (clkF * l.kd + t * kn).toNat)

/-- p, d, v and u of a run with the integrator as it stands (05 R146). -/
def Loop.law (l : Loop) (t : Nat) : PidOut :=
  let e := l.err
  let x := l.dTerm
  let p := qmul l.kp e
  let d := l.deriv t (if l.first then x else l.xPrev)
  let v := sat32 (sat32 (sat32 (l.bias + p) + l.integ) + d)
  { e, p, x, d, v, u := l.rateLimit t (clampI l.outMin l.outMax v) }

/-- The limits of the integrator (05 R146). -/
def Loop.clampInteg (l : Loop) (i : Int) : Int := clampI (sat32 (l.outMin - l.bias)) (sat32 (l.outMax - l.bias)) i

/-- The integrator of a bumpless return, so that v = u_prev (05 R151). -/
def Loop.bump (l : Loop) (t : Nat) : Loop :=
  let o := l.law t
  { l with integ := l.clampInteg (sat32 (sat32 (sat32 (l.uPrev - l.bias) - o.p) - o.d)), bumpless := false }

/-- The integrator after a run (05 R146). -/
def Loop.nextInteg (l : Loop) (t : Nat) (o : PidOut) (sat : Bool) : Int :=
  l.clampInteg
    (if l.aw then sat32 (l.integ + sat32 (timesT l.ki t o.e + timesT l.kt t (sat32 (o.u - o.v))))
     else if !sat || (o.u < o.v && o.e < 0) || (o.v < o.u && 0 < o.e) then sat32 (l.integ + timesT l.ki t o.e)
     else l.integ)

/-- What a run leaves in the loop (05 R146, R167). -/
def Loop.commit (l : Loop) (t : Nat) (o : PidOut) (hi lo sat : Bool) : Loop :=
  { l with
    integ := l.nextInteg t o sat, xPrev := o.x, dPrev := o.d, uPrev := o.u, u := o.u, first := false
    satHi := hi || decide (l.outMax < o.v), satLo := lo || decide (o.v < l.outMin)
    rateLim := o.u != clampI l.outMin l.outMax o.v }

end Sys2Proof.Machine
end

