-- ==== Sys2Proof/Machine/Loop.lean ====
section
/-! DEFINITION. The loops, LE0 to LE5, functions 6 to 11: states, runs, outputs, supervision, budget and the opcodes of class 0x3
(05_loop_engines.md). The arithmetic of a run stands in Pid.lean, triggers in Conv.lean. -/

namespace Sys2Proof.Machine

/-! ## States -/

/-- The code of a loop's state (05 R151). -/
def LoopState.num : LoopState → Nat
  | .disabled => 0 | .run => 1 | .manual => 2 | .hold => 3 | .safe => 4 | .open_ => 5

/-- HOLD, SAFE and OPEN (05 R151). -/
def LoopState.faulty : LoopState → Bool
  | .hold | .safe | .open_ => true
  | _ => false

/-- A loop changes its state, with EV_LOOP_STATE (05 R151, R158). A return to RUN is bumpless, and its first run takes the nominal
period (R145). -/
def Dev.loopGo (s : Dev) (n : Fin 144) (st : LoopState) (cause : Nat := 0) : Dev :=
  let old := s.loops[n.val].state
  if old = st then s
  else
    let s := s.onLoop n fun l =>
      if st = .run then { l with state := st, first := true, lastRun := none, bumpless := old != .disabled }
      else { l with state := st }
    s.raise EV_LOOP_STATE (loopFunc n) (hLoop n) (mkWord [(0, 3, st.num), (4, 3, old.num), (8, 8, cause)])

/-- The state that POLICY names (05 R154, R164). -/
def Loop.policyState (l : Loop) : LoopState :=
  match l.policy with
  | 0 => .hold
  | 1 => .safe
  | _ => .open_

/-- A damper whose loop has raised LOOP_FEEDBACK (09 R268). -/
def Dev.dmFeedback (s : Dev) (n : Fin 144) : Dev :=
  match s.damperOf n with
  | none => s
  | some k => s.dmGo k (if s.loops[n.val].policy = 2 ∧ 2 ≤ s.dampers[k.val].failMode then .travel else .halted)

/-- POLICY applies to a loop in RUN (05 R154, R156); an attached fan loop does not use it (09 R260). `by_` is 1 to 5 loss, 6 freeze, 7
following error. -/
def Dev.loopPolicy (s : Dev) (n : Fin 144) (by_ : Nat) : Dev :=
  let l := s.loops[n.val]
  if l.state ≠ .run ∨ (s.fanOf n).isSome then s
  else
    let s := s.onLoop n fun l => { l with faultBy := by_ }
    (s.loopGo n l.policyState (if by_ = 7 then 0 else by_)).dmFeedback n

/-- ARG of LOOP_FEEDBACK (05 R158). -/
def feedbackArg (n : Fin 144) (cause : Nat) : Word := mkWord [(0, 8, n.val), (8, 8, cause)]

/-- LOOP_FEEDBACK is raised: cause 1 to 5 loss, 6 frozen (05 R152 to R154). -/
def Dev.loopFeedback (s : Dev) (n : Fin 144) (cause : Nat) : Dev :=
  let arg := feedbackArg n cause
  let s := s.reportEv (hLoop n) (loopFunc n) .fault LG_LOOP_FEEDBACK arg EV_LOOP_FEEDBACK (hLoop n) arg
  let s := if cause = 6 then s else s.onLoop n fun l => { l with cause := cause, lost := true, goodRun := 0 }
  s.loopPolicy n cause

/-- The cause of a loss that is being handled changes (05 R157). -/
def Dev.loopCause (s : Dev) (n : Fin 144) (cause : Nat) : Dev :=
  if s.loops[n.val].cause ≠ cause && s.handling (hLoop n) then
    ((s.onLoop n fun l => { l with cause := cause }).report (hLoop n) (loopFunc n) .fault LG_LOOP_FEEDBACK (feedbackArg n cause)).1
  else s

/-! ## Inputs -/

/-- The input of a run (05 R138, R140): the word that the triggering event carried, or the latest value; a converter result whose COUNT
has not moved since the previous run reads as a timeout. DESIGN CHOICE: that row of R140 goes before the rows of a word that is Transient
or Bad by its CAUSE (log entry 200). -/
def Dev.loopInput (s : Dev) (n : Fin 144) : Reading :=
  let l := s.loops[n.val]
  if l.trig = 1 then
    match objOf l.input with
    | some (.convResult c _) =>
      if s.off (convFunc c) then { cls := .reset } else { cls := wordClass l.eocWord, x := wordData c l.eocWord }
    | _ => { cls := .bad 4 }
  else
    let r := s.reading l.input
    if r.cls != .reset && r.count.isSome && r.count == l.refCount then { r with cls := .bad 4 } else r

/-- A damper learns: its loop's supervision is suspended (09 R267). -/
def Dev.dmLearns (s : Dev) (n : Fin 144) : Bool := match s.damperOf n with
  | some k => s.dampers[k.val].learning
  | none => false

/-- Feedback supervision of a loop is off: a fan judges its own tachometer (09 R260), a damper learns (R267). -/
def Dev.unsupervised (s : Dev) (n : Fin 144) : Bool := (s.fanOf n).isSome || s.dmLearns n

/-- The source of a loop is held in reset or disabled: loss, at once (05 R140, R152). -/
def Dev.loopSource (s : Dev) (n : Fin 144) : Dev :=
  if s.loopLive n && !s.unsupervised n && (s.loopInput n).cls == .reset then
    if s.loops[n.val].lost then (s.onLoop n fun l => { l with goodRun := 0 }).loopCause n 5 else s.loopFeedback n 5
  else s

/-- Every loop looks at its source, when a function is held or disabled: a loss is declared at once (05 R140, R152). -/
def Dev.loopSources (s : Dev) : Dev := (List.finRange 144).foldl Dev.loopSource s

/-- A run with a bad input (05 R140, R152, R157). -/
def Dev.loopBad (s : Dev) (n : Fin 144) (cause : Nat) (now : Bool) : Dev :=
  let s := s.onLoop n fun l => { l with badIn := l.badIn + 1, badRun := l.badRun + 1, goodRun := 0, lastBad := true }
  if s.unsupervised n then s
  else if s.loops[n.val].lost then s.loopCause n cause
  else if now || s.loops[n.val].lossN ≤ s.loops[n.val].badRun then s.loopFeedback n cause
  else s

/-- The judgement of a run's input (05 R140). -/
def Dev.loopJudge (s : Dev) (n : Fin 144) (r : Reading) : Dev :=
  let s := s.onLoop n fun l => { l with refCount := if r.count.isSome then r.count else l.refCount }
  match r.cls with
  | .usable => s.onLoop n fun l =>
      { l with y := l.scale r.x, badRun := 0, lastBad := false, goodRun := l.goodRun + 1, lost := l.lost && l.state.faulty }
  | .transient => s.onLoop n fun l => { l with badIn := l.badIn + 1, lastBad := false }
  | .bad c => s.loopBad n c false
  | .reset => s.loopBad n 5 true

/-- A following error with FE_ACT is cleared, as only ACK does (05 R156). -/
def Loop.feClear (l : Loop) : Loop := { l with feRaised := l.feRaised && !l.feAct, feTimer := l.feTimer && !l.feAct }

/-- A loop leaves its fault state by recovery or ACK (05 R155). -/
def Dev.loopReturn (s : Dev) (n : Fin 144) : Dev :=
  let s := s.onLoop n fun l => { l with lost := false, faultBy := 0, frzCnt := 0 }
  let s := s.loopGo n .run
  match s.damperOf n with
  | some k => s.dmResume k
  | none => s

/-- Automatic recovery from loss (05 R155). -/
def Dev.loopRecover (s : Dev) (n : Fin 144) : Dev :=
  let l := s.loops[n.val]
  if l.state.faulty && 1 ≤ l.faultBy && l.faultBy ≤ 5 && l.autoRec && l.recovN ≤ l.goodRun then
    ((s.note .info (loopFunc n) LG_LOOP_RECOVER (mkWord [(0, 8, n.val)])).endErr (hLoop n)).loopReturn n
  else s

/-! ## Following error -/

/-- The following error (05 R156). -/
def Loop.follow (l : Loop) : Nat := (l.rQ - l.y).natAbs

/-- The FE_TIME timer may run (05 R156). -/
def Loop.followRuns (l : Loop) : Bool :=
  (l.state == .run || l.state.faulty) && (l.vmax == 0 || l.rv == 0) && l.feLimit != 0

/-- The following error of a run (05 R156): the timer starts, goes on or stops; a report-only error clears when the error falls to
FE_LIMIT or below, whatever the timer does. -/
def Dev.loopFollow (s : Dev) (n : Fin 144) : Dev :=
  let l := s.loops[n.val]
  let above := l.feLimit < l.follow
  let ok := l.followRuns && !s.dmLearns n
  let clears := !above && l.feRaised && !l.feAct
  let s := s.onLoop n fun l =>
    { l with lastOver := above, feTimer := ok && above, feRaised := l.feRaised && !clears }
  if clears then s.endErrOf (hLoop n) [LG_LOOP_FOLLOW] else s

/-- FE_TIME_EXPIRY: the following error has exceeded FE_LIMIT for FE_TIME (05 R156, R157). -/
def Dev.feExpiry (s : Dev) (n : Fin 144) : Dev :=
  let l := s.loops[n.val]
  if !s.loopLive n || !l.feTimer || l.feRaised then s
  else
    let arg := mkWord [(0, 8, n.val), (16, 16, min 65535 (l.follow / 256))]
    let s := s.onLoop n fun l => { l with feRaised := true }
    let s := s.reportEv (hLoop n) (loopFunc n) (if l.feAct then .fault else .warn) LG_LOOP_FOLLOW arg EV_LOOP_FOLLOW (hLoop n) arg
    if l.feAct then s.loopPolicy n 7 else s

/-- FE_TIME_EXPIRY (05 R156). -/
def execFeTimeExpiry (n : Fin 144) (s : State) : Host.Outcome State Fault Refusal := .next (s.onDev fun v => v.feExpiry n)

/-! ## Outputs -/

/-- The function that an output handle belongs to (05 R141). -/
def outFunc (h : Word) : Nat :=
  match objOf h with
  | some o => o.func
  | none => 92

/-- The output does not take the loop's writes (05 R143, R170; 08 R242; 09 R256): its function is held or disabled, the inner loop has another
writer or is attached to a fan or damper, or the valve channel is in FAULT. -/
def Dev.outHeld (s : Dev) (n : Fin 144) : Bool :=
  let h := s.loops[n.val].output
  s.off (outFunc h) ||
    (match objOf h with
     | some (.loopTarget m) => s.loops[m.val].spSrc != 2 || s.isAttached m
     | some (.valve c) => (s.valves[c.val]).phase == .fault
     | _ => false)

/-- Y is limited by the output's duty clamp, from above and from below (05 R142, 09 R257). -/
def Dev.outLimits (s : Dev) (n : Fin 144) (y : Int) : Bool × Bool :=
  let l := s.loops[n.val]
  match s.fanOf n, s.damperOf n with
  | some k, _ => (s.fanWrite k l.phase y).2
  | none, some k => (s.dmWrite k l.phase y).2
  | none, none =>
    match objOf l.output with
    | some (.pwm c) => ((s.pwms[c.val]).dutySet l.phase y).2
    | _ => (false, false)

/-- Y is written to the output (05 R141, R142; 09 R257). -/
def Dev.loopSend (s : Dev) (n : Fin 144) (y : Int) : Dev :=
  let l := s.loops[n.val]
  if s.outHeld n then s
  else match s.fanOf n, s.damperOf n with
    | some k, _ => (s.fanWrite k l.phase y).1
    | none, some k => (s.dmWrite k l.phase y).1
    | none, none =>
      match objOf l.output with
      | some (.pwm c) => s.pwmWrite c ((s.pwms[c.val]).dutySet l.phase y).1
      | some (.valve c) => s.valveLoopWrite c y
      | some (.fan k) => s.fanStore k y
      | some (.damper k) => s.dmStore k y
      | some (.loopTarget m) => s.loopTarget m y false
      | _ => s

/-- The value that an output already holds (05 R151). DESIGN CHOICE: a duty, a quotient by P, is rounded once, half away from zero (log entry
234). -/
def Dev.heldValue (s : Dev) (h : Word) : Int :=
  match objOf h with
  | some (.pwm c) =>
    let p := s.pwms[c.val]
    let u := 32 * p.units p.active
    let w := if p.active.s ≤ p.active.k then p.active.k - p.active.s else u - (p.active.s - p.active.k)
    if u = 0 then 0 else roundDiv ((w * 65536 : Nat) : Int) u
  | some (.valve c) => (s.valves[c.val]).sp
  | some (.fan k) => (s.fans[k.val]).target
  | some (.damper k) => (s.dampers[k.val]).target
  | some (.loopTarget m) => s.loops[m.val].target
  | _ => 0

/-- LG_LOOP_OUT_HELD, once for each hold of the output's function; flag [5] (05 R167, R170). -/
def Dev.loopHeldFlag (s : Dev) (n : Fin 144) : Dev :=
  let l := s.loops[n.val]
  let f := outFunc l.output
  let h := s.outHeld n
  let s := s.onLoop n fun l => { l with held := h, heldLogged := s.off f }
  if s.off f && !l.heldLogged then
    (s.report (hLoop n) (loopFunc n) .warn LG_LOOP_OUT_HELD (mkWord [(0, 8, n.val), (8, 8, f)])).1
  else s

/-- What a fan or damper function drives through its attached loop (09 R256, R260, R266, R268). -/
def Dev.directDrive (s : Dev) (n : Fin 144) : Option Int :=
  match s.fanOf n, s.damperOf n with
  | some k, _ => (s.fans[k.val]).drive
  | none, some k => (s.dampers[k.val]).drive
  | none, none => none

/-- A run that computes no law leaves the count of saturated runs as it is where its output is at a limit, and restarts it elsewhere (05
R153). -/
def Loop.unsaturated (l : Loop) (sat : Bool) : Loop := { l with frzCnt := if sat then l.frzCnt else 0 }

/-- A drive set directly: written past the rate limit, and u_prev from then on (09 R256). -/
def Dev.loopDirect (s : Dev) (n : Fin 144) (y : Int) : Dev :=
  let lim := s.outLimits n y
  (s.onLoop n fun l =>
    { l.unsaturated (lim.1 || lim.2) with manual := y, u := y, uPrev := y, rateLim := false, satHi := lim.1, satLo := lim.2 }).loopSend n y

/-- A run in MANUAL, SAFE or OPEN writes the value w (05 R151): limited, through the rate limit unless it bypasses it; the flags are those
of this output (R167). -/
def Dev.loopValue (s : Dev) (n : Fin 144) (t : Nat) (w : Int) (rate : Bool) : Dev :=
  let l := s.loops[n.val]
  let c := clampI l.outMin l.outMax w
  let u := if rate then l.rateLimit t c else c
  let lim := s.outLimits n (l.mapOut u)
  (s.onLoop n fun l =>
    { l.unsaturated (u != w || lim.1 || lim.2) with
      u := u, uPrev := u, satHi := lim.1 || decide (l.outMax < w), satLo := lim.2 || decide (w < l.outMin)
      rateLim := u != c }).loopSend n (l.mapOut u)

/-- The output of a run that computes no law (05 R140, R151): in HOLD, or when its input makes it skip, the last one again. -/
def Dev.loopKeep (s : Dev) (n : Fin 144) (t : Nat) : Dev :=
  let l := s.loops[n.val]
  match l.state with
  | .manual => s.loopValue n t l.manual true
  | .safe => s.loopValue n t l.safeVal false
  | .open_ => s.loopValue n t l.openVal true
  | _ => (s.onLoop n fun l => { l with uPrev := l.u }).loopSend n (l.mapOut l.u)

/-- The freeze check of a run (05 R153): the count of saturated runs within the band, and y at the first of them. -/
def Loop.freeze (l : Loop) (sat : Bool) : Loop :=
  if !sat || l.frzN == 0 then { l with frzCnt := 0 }
  else if l.frzCnt != 0 && (l.y - l.frzY).natAbs ≤ l.frzBand then { l with frzCnt := l.frzCnt + 1 }
  else { l with frzCnt := 1, frzY := l.y }

/-- A run that computes the law (05 R146, R153, R154). -/
def Dev.loopCompute (s : Dev) (n : Fin 144) (t : Nat) : Dev :=
  let l := s.loops[n.val]
  let l := if l.bumpless then l.bump t else l
  let o := l.law t
  let lim := s.outLimits n (l.mapOut o.u)
  let sat := o.u != o.v || lim.1 || lim.2 || s.outHeld n
  let l := (l.commit t o lim.1 lim.2 sat).freeze (sat && !s.unsupervised n)
  let frozen := l.frzN != 0 && l.frzN ≤ l.frzCnt
  let s := s.onLoop n fun _ => if frozen then { l with frzCnt := 0 } else l
  let s := if frozen then s.loopFeedback n 6 else s
  if s.loops[n.val].state = LoopState.run then s.loopSend n (l.mapOut o.u)
  else match s.directDrive n with
    | some y => s.loopDirect n y
    | none => s.loopKeep n t

/-! ## Runs -/

/-- The nominal period in TCLK (05 R133). -/
def Loop.nominal (l : Loop) : Nat := if l.trig = 0 then l.periodUs * 400 else 400000000 / max 1 l.maxRate

/-- The interval t of a run, in TCLK, measured to one ECLK and limited (05 R145). -/
def Dev.loopInterval (s : Dev) (l : Loop) : Nat :=
  match l.lastRun with
  | none => l.nominal
  | some a =>
    min (s.toEclk (s.now - a)) (4 * l.nominal)

/-- The profile of a run: it starts from y at the first usable input (05 R144, R151). -/
def Loop.profileRun (l : Loop) (t : Nat) (usable : Bool) : Loop :=
  if l.startR then
    if usable then { l.profileFrom l.y with startR := false }.profile t else l
  else l.profile t

/-- The last good duty of a fan: its loop's u at the last run whose input was usable (09 R260). -/
def Dev.keepDuty (s : Dev) (n : Fin 144) (usable : Bool) : Dev :=
  match s.fanOf n with
  | some k => if usable then s.onFan k fun f => { f with goodDuty := s.loops[n.val].u } else s
  | none => s

/-- Loop m goes before loop n on their engine (05 R135, R136): both are due, and m is on the fast list and n is not, or both are and m's
event arrived first, or neither is and m's trigger is the earlier one, ties going to the lower number. -/
def Dev.loopBefore (s : Dev) (m n : Fin 144) : Bool :=
  let a := s.loops[m.val]
  let b := s.loops[n.val]
  m.val / 24 == n.val / 24 && m != n && s.loopLive m && a.due
    && (if a.fast then !b.fast || a.trigNo < b.trigNo
        else !b.fast && (a.trigAt < b.trigAt || (a.trigAt == b.trigAt && m.val < n.val)))

/-- The engine's next run is this loop's (05 R135, R136). -/
def Dev.loopTurn (s : Dev) (n : Fin 144) : Bool :=
  s.loopLive n && s.loops[n.val].due && !(List.finRange 144).any fun m => s.loopBefore m n

/-- One run of a loop whose turn it is (05 R135 to R157): input, profile, supervision, output. The run that takes a loop back to RUN is the
first one there, and takes the nominal period (R145). -/
def Dev.loopRun (s : Dev) (n : Fin 144) : Dev :=
  if !s.loopTurn n then s
  else
    let s := s.refreshInput s.loops[n.val].input
    let r := s.loopInput n
    let ok := r.cls == .usable
    let s := s.onLoop n fun l => { l with due := false, runs := l.runs + 1 }
    let s := s.loopJudge n r
    let s := if ok then s.loopRecover n else s
    let t := s.loopInterval s.loops[n.val]
    let s := s.onLoop n fun l => { l with lastRun := some s.now }
    let s := s.onLoop n fun l => l.profileRun t ok
    let s := (s.loopFollow n).loopHeldFlag n
    let s := match s.directDrive n with
      | some y => s.loopDirect n y
      | none => if s.loops[n.val].state = LoopState.run && ok then s.loopCompute n t else s.loopKeep n t
    s.keepDuty n ok

/-- LOOP_RUN: the engine starts the run whose turn it is (05 R135, R136, R138). -/
def execLoopRun (n : Fin 144) (s : State) : Host.Outcome State Fault Refusal := .next (s.onDev fun v => v.loopRun n)

/-- LOOP_TIMER_EXPIRY: the engine timer of a TIMER loop, or of an ANGLE loop while the angle is invalid (05 R133, R134). -/
def execLoopTimerExpiry (n : Fin 144) (s : State) : Host.Outcome State Fault Refusal :=
  .next (s.onDev fun v =>
    let l := v.loops[n.val]
    if l.trig = 0 || (l.trig = 2 && l.fallback) then v.loopTrigger n else v)

/-- An angle event to LE e (05 R134). -/
def Dev.loopAngle (s : Dev) (e : Fin 6) (arg : Byte) : Dev :=
  if 24 ≤ arg.toNat then s
  else
    let n : Fin 144 := ix 143 (24 * e.val + arg.toNat)
    if s.loops[n.val].trig = 2 then s.loopTrigger n else s

/-- The angle becomes invalid, or valid again: ANGLE loops take or leave their timers (03 R88, 05 R133, R134). -/
def Dev.loopsAngle (s : Dev) (valid : Bool) : Dev :=
  { s with loops := s.loops.map fun l =>
      { l with fallback := if l.trig = 2 ∧ l.state ≠ .disabled then !valid else l.fallback } }

/-! ## Enable and budget -/

/-- A loop starts as on ENABLE (05 R151): its integrator and derivative are 0, u_prev is what the output holds. A report-only following error
that is still handled goes on until the error falls (05 R156, 17 R483). -/
def Dev.loopBegin (s : Dev) (n : Fin 144) : Dev :=
  let l := s.loops[n.val]
  let u := l.unmap (s.heldValue l.output)
  let s := s.onLoop n fun l =>
    { (if l.vmax = 0 then l.profileFrom l.target else l) with
      state := .disabled, integ := 0, dPrev := 0, xPrev := 0, uPrev := u, u := u, startR := l.vmax != 0, satHi := false,
      satLo := false, rateLim := false, held := false, heldLogged := false, fallback := l.trig == 2 && !s.tb.valid,
      badRun := 0, goodRun := 0, lost := false, lastBad := false, lastOver := false, faultBy := 0, frzCnt := 0,
      feTimer := false, feRaised := l.feRaised && !l.feAct && s.handling (hLoop n), eocCnt := 0, due := false, refCount := none }
  s.loopGo n .run

/-- A loop starts, and looks at its source (05 R140, R152). -/
def Dev.loopStart (s : Dev) (n : Fin 144) : Dev := (s.loopBegin n).loopSource n

/-- A loop is disabled: its output keeps the last value (05 R141, R151). -/
def Dev.loopStop (s : Dev) (n : Fin 144) : Dev :=
  (s.loopGo n .disabled).onLoop n fun l => { l with due := false, fallback := false, feTimer := false }

/-- A free busy fraction of one second, in percent (05 R168). -/
def busySecond (k : Nat) : Nat := min 100 (Config.busyPeak k).toNat

/-- The cost of a run in ECLK cycles (05 R149). -/
def Loop.cost (l : Loop) (n : Fin 144) : Nat :=
  if l.fast then 180
  else
    600 + (if l.vmax ≠ 0 then 120 else 0)
      + (match objOf l.output with
         | some (.loopTarget m) => if m.val / 24 ≠ n.val / 24 then 40 else 0
         | _ => 0)

/-- A declared rate as a fraction in Hz (05 R149). -/
def Loop.rate (l : Loop) : Nat × Nat := if l.trig = 0 then (if l.periodUs = 0 then (0, 1) else (1000000, l.periodUs)) else (l.maxRate, 1)

/-- The declared load of an engine in cycles per second, as a fraction, `extra` counted as enabled (05 R149). -/
def Dev.leLoad (s : Dev) (e : Nat) (extra : Option (Fin 144)) : Nat × Nat :=
  (List.finRange 144).foldl (fun a n =>
    let l := s.loops[n.val]
    if n.val / 24 = e ∧ (l.state ≠ .disabled ∨ extra = some n) then
      let r := l.rate
      (a.1 * r.2 + l.cost n * r.1 * a.2, a.2 * r.2)
    else a) (0, 1)

/-- The load of the loop's engine would exceed 340 x 10^6, or its fast list four loops, or ECO's 100 Hz (05 R135, R149; 16 R459). -/
def Dev.loopBusy (s : Dev) (n : Fin 144) : Bool :=
  let l := s.loops[n.val]
  let e := n.val / 24
  let w := s.leLoad e (some n)
  340000000 * w.2 < w.1
    || (l.fast && 4 ≤ (List.finRange 144).countP fun m =>
          m.val / 24 == e && m != n && s.loops[m.val].fast && s.loops[m.val].state != .disabled)
    || (s.power.state == 1 && 100 * l.rate.2 < l.rate.1)

/-- The loop that a loop's output is the set-point of (05 R143). -/
def Dev.innerOf (s : Dev) (n : Fin 144) : Option (Fin 144) :=
  match objOf s.loops[n.val].output with
  | some (.loopTarget m) => some m
  | _ => none

/-- The enabled loops below a loop in its cascade, at most `k`; a cycle fills the bound (05 R143). -/
def Dev.below (s : Dev) : Nat → Fin 144 → Nat
  | 0, _ => 0
  | k + 1, n => match s.innerOf n with
    | some m => if s.loops[m.val].state != .disabled || m == n then 1 + s.below k m else 0
    | none => 0

/-- The enabled loops above a loop, at most `k`. -/
def Dev.above (s : Dev) : Nat → Fin 144 → Nat
  | 0, _ => 0
  | k + 1, n =>
    match (List.finRange 144).find? fun m => s.innerOf m == some n && s.loops[m.val].state != .disabled with
    | some m => 1 + s.above k m
    | none => 0

/-- The cascade that enabling a loop would form is cyclic or deeper than 4 (05 R143). -/
def Dev.cascadeBad (s : Dev) (n : Fin 144) : Bool :=
  let s := s.onLoop n fun l => { l with state := .run }
  4 < s.below 5 n + 1 + s.above 5 n

/-- The statuses of LOOP_CTRL ENABLE (05 R166), in the order of 14 R422. An attached loop's only target writer is its fan or damper
(09 R256). -/
def Dev.loopEnableCheck (s : Dev) (n : Fin 144) : Status :=
  let l := s.loops[n.val]
  if !l.bound then .range
  else if (s.ownerOf l.output).isSome || s.cascadeBad n
      || (match objOf l.output with
          | some (.loopTarget m) => s.loops[m.val].spSrc != 2 || s.isAttached m
          | some (.pwm c) => s.pwmOwned c
          | _ => false) then .conflict
  else if s.loopBusy n then .busy
  else if !s.enabled (outFunc l.output) then .disabled
  else .ok

/-! ## Class 0x3 -/

def opLoopBind : OpInfo :=
  { op := 0x30, accepts := .loop,
    fields := [(8, 0, 32), (12, 0, 32), (16, 0, 8), (17, 0, 5), (18, 0, 8), (20, 0, 32), (24, 0, 16), (26, 0, 16)] }
def opLoopScale : OpInfo := { op := 0x31, accepts := .loop, fields := [(8, 0, 128)] }
def opLoopGains : OpInfo := { op := 0x32, accepts := .loop, fields := [(8, 0, 160), (28, 0, 8)] }
def opLoopLimits : OpInfo := { op := 0x33, accepts := .loop, fields := [(8, 0, 160)] }
def opLoopProfile : OpInfo := { op := 0x34, accepts := .loop, fields := [(8, 0, 96)] }
def opLoopSupervise : OpInfo :=
  { op := 0x35, accepts := .loop,
    fields := [(8, 0, 32), (12, 0, 16), (14, 0, 8), (15, 0, 8), (16, 0, 32), (20, 0, 16), (22, 0, 4)] }
def opLoopSet : OpInfo := { op := 0x36, accepts := .loop, fields := [(8, 0, 32), (12, 0, 1)] }
def opLoopCtrl : OpInfo := { op := 0x37, accepts := .loop, fields := [(8, 0, 3), (12, 0, 32)] }
def opLoopStatusGet : OpInfo := { op := 0x38, accepts := .loop, fields := [(8, 0, 2)] }

/-- An opcode on a loop. -/
def onLoopObj (f : Fin 144 → Dev → Dev × Res) : Obj → Dev → Dev × Res
  | .loop n, s => f n s
  | _, s => refuse s .badHandle

/-- A handle names one of the inputs of 05 R138. -/
def inputOk (h : Word) : Bool :=
  match objOf h with
  | some (.convResult _ _) | some (.sbValue _ _) | some (.valeValue _ _ _) | some (.tach _) | some (.encCount _)
  | some (.position _) | some (.bbValue _ _) => true
  | _ => false

/-- A handle names one of the outputs of 05 R141. -/
def outputOk (h : Word) : Bool :=
  match objOf h with
  | some (.pwm _) | some (.valve _) | some (.fan _) | some (.damper _) | some (.loopTarget _) => true
  | _ => false

/-- A handle is a converter result. -/
def isResult (h : Word) : Bool :=
  match objOf h with
  | some (.convResult _ _) => true
  | _ => false

/-- A handle is a PWM channel. -/
def isPwm (h : Word) : Bool :=
  match objOf h with
  | some (.pwm _) => true
  | _ => false

/-- A handle is a valve channel. -/
def isValve (h : Word) : Bool :=
  match objOf h with
  | some (.valve _) => true
  | _ => false

/-- The range rules of LOOP_BIND (05 R133, R135, R159). -/
def bindBad (d : Desc) : Bool :=
  let i := d.word 8
  let o := d.word 12
  let t := d.bits 16 0 2
  let per := d.bits 20 0 32
  let rate := d.bits 24 0 16
  !inputOk i || !outputOk o || t == 3 || d.bits 16 6 2 == 3
    || (t == 1 && !isResult i)
    || (d.flag 16 2 && !(t == 1 && isResult i && (isPwm o || isValve o)))
    || (if t = 1 then per != 0 else per < 50 || 1000000 < per)
    || (if t = 0 then rate != 0 else rate < 1 || 20000 < rate)
    || (!isPwm o && d.bits 26 0 16 != 0)

/-- LOOP_BIND (05 R159; 09 R256). -/
def doLoopBind (d : Desc) (n : Fin 144) (s : Dev) : Dev × Res :=
  if bindBad d then refuse s .range
  else if s.isAttached n then refuse s .conflict
  else if s.loops[n.val].state ≠ .disabled then refuse s .busy
  else
    (s.onLoop n fun l =>
      { l with bound := true, input := d.word 8, output := d.word 12, trig := d.bits 16 0 2, fast := d.flag 16 2,
               direct := d.flag 16 3, dsrc := d.flag 16 4, aw := d.flag 16 5, spSrc := d.bits 16 6 2, tag := d.bits 17 0 4,
               tagm := d.flag 17 4, eocDiv := d.bits 18 0 8, periodUs := d.bits 20 0 32, maxRate := d.bits 24 0 16,
               phase := d.bits 26 0 16 }, .ok)

/-- LOOP_SCALE (05 R160). -/
def doLoopScale (d : Desc) (n : Fin 144) (s : Dev) : Dev × Res :=
  (s.onLoop n fun l => { l with inGain := d.s32 8, inOfs := d.s32 12, outGain := d.s32 16, outOfs := d.s32 20 }, .ok)

/-- LOOP_GAINS (05 R147, R161): the integrator is not changed (R148). -/
def doLoopGains (d : Desc) (n : Fin 144) (s : Dev) : Dev × Res :=
  if d.s32 8 < 0 ∨ d.s32 12 < 0 ∨ d.s32 16 < 0 ∨ d.s32 20 < 0 ∨ d.bits 28 0 8 < 1 ∨ 64 < d.bits 28 0 8
      ∨ (d.s32 16 ≠ 0 ∧ d.s32 8 = 0) then refuse s .range
  else
    (s.onLoop n fun l => { l with kp := d.s32 8, ki := d.s32 12, kd := d.s32 16, kt := d.s32 20, bias := d.s32 24,
                                  nn := d.bits 28 0 8 }, .ok)

/-- LOOP_LIMITS (05 R147, R162). -/
def doLoopLimits (d : Desc) (n : Fin 144) (s : Dev) : Dev × Res :=
  let lo := d.s32 8
  let hi := d.s32 12
  let sv := d.s32 20
  let ov := d.s32 24
  if hi ≤ lo ∨ d.s32 16 < 0 ∨ sv < lo ∨ hi < sv ∨ ov < lo ∨ hi < ov then refuse s .range
  else (s.onLoop n fun l => { l with outMin := lo, outMax := hi, rateMax := d.s32 16, safeVal := sv, openVal := ov }, .ok)

/-- LOOP_PROFILE (05 R163). -/
def doLoopProfile (d : Desc) (n : Fin 144) (s : Dev) : Dev × Res :=
  (s.onLoop n fun l => { l with vmax := d.bits 8 0 32, amax := d.bits 12 0 32, jmax := d.bits 16 0 32 }, .ok)

/-- LOOP_SUPERVISE (05 R164). -/
def doLoopSupervise (d : Desc) (n : Fin 144) (s : Dev) : Dev × Res :=
  if d.s32 8 < 0 ∨ d.s32 16 < 0 ∨ d.bits 12 0 16 = 0 ∨ d.bits 14 0 8 = 0 ∨ d.bits 15 0 8 = 0 ∨ d.bits 22 0 2 = 3 then
    refuse s .range
  else
    (s.onLoop n fun l =>
      { l with feLimit := d.s32 8, feTime := d.bits 12 0 16, lossN := d.bits 14 0 8, recovN := d.bits 15 0 8,
               frzBand := d.s32 16, frzN := d.bits 20 0 16, policy := d.bits 22 0 2, feAct := d.flag 22 2,
               autoRec := d.flag 22 3 }, .ok)

/-- LOOP_SET (05 R143, R165). -/
def doLoopSet (d : Desc) (n : Fin 144) (s : Dev) : Dev × Res :=
  let l := s.loops[n.val]
  if l.spSrc ≠ 0 ∨ s.isAttached n then refuse s .conflict
  else (s.loopTarget n (d.s32 8) (d.flag 12 0), .done .ok (mkRes [(8, 0, 32, wrapTo 32 l.target)]))

/-- The cause of a fault state persists at an ACK (05 R155). -/
def Dev.faultPersists (s : Dev) (n : Fin 144) : Bool :=
  let l := s.loops[n.val]
  if l.faultBy = 7 then l.lastOver
  else if l.faultBy = 6 then false
  else l.lastBad || (s.loopInput n).cls == .reset

/-- LOOP_CTRL ACK (05 R155, R156): the handling ends either way; a persisting cause is detected anew. A following error with FE_ACT that
outlived an automatic recovery is a fault that ACK clears too. -/
def Dev.loopAck (s : Dev) (n : Fin 144) : Dev × Res :=
  let l := s.loops[n.val]
  if l.state.faulty then
    let persists := s.faultPersists n
    let s := (s.endErr (hLoop n)).onLoop n Loop.feClear
    if persists then ((s.onLoop n fun l => { l with badRun := 0, lost := false }).loopSource n, .done .busy)
    else (s.loopReturn n, .ok)
  else if l.feRaised && l.feAct then
    ((s.endErrOf (hLoop n) [LG_LOOP_FOLLOW]).onLoop n Loop.feClear, if l.lastOver then .done .busy else .ok)
  else refuse s .conflict

/-- LOOP_CTRL (05 R166). -/
def doLoopCtrl (d : Desc) (n : Fin 144) (s : Dev) : Dev × Res :=
  let l := s.loops[n.val]
  let a := d.bits 8 0 3
  if 5 ≤ a then refuse s .range
  else if s.isAttached n then refuse s .conflict
  else match a with
    | 0 => (s.loopStop n, .ok)
    | 1 =>
      if l.state ≠ .disabled then (s, .ok)
      else match s.loopEnableCheck n with
        | .ok => (s.loopStart n, .ok)
        | st => refuse s st
    | 2 =>
      if l.state = .disabled then refuse s .disabled
      else if l.state.faulty then refuse s .conflict
      else ((s.onLoop n fun l => { l with manual := d.s32 12, feTimer := false }).loopGo n .manual, .ok)
    | 3 =>
      if l.state ≠ .manual then refuse s .conflict
      else (((s.onLoop n fun l => { l with lost := false }).loopGo n .run).loopSource n, .ok)
    | _ => s.loopAck n

/-- The flags of LOOP_STATUS_GET (05 R167). -/
def Loop.flags (l : Loop) : Nat :=
  fieldsOf [(0, 1, l.satHi.toNat), (1, 1, l.satLo.toNat), (2, 1, l.rateLim.toNat), (3, 1, l.settled.toNat),
            (4, 1, l.fallback.toNat), (5, 1, l.held.toNat)]

/-- LOOP_STATUS_GET (05 R167). -/
def doLoopStatusGet (d : Desc) (n : Fin 144) (s : Dev) : Dev × Res :=
  let l := s.loops[n.val]
  (s, .done .ok (match d.bits 8 0 2 with
    | 0 => mkRes [(8, 0, 32, wrapTo 32 l.y), (12, 0, 32, wrapTo 32 l.u)]
    | 1 => mkRes [(8, 0, 32, wrapTo 32 l.rQ), (12, 0, 32, wrapTo 32 l.target)]
    | 2 => mkRes [(8, 0, 32, wrapTo 32 l.integ), (12, 0, 8, l.state.num), (13, 0, 8, l.flags), (14, 0, 8, l.cause)]
    | _ => mkRes [(8, 0, 32, l.runs.toNat), (12, 0, 16, l.overruns.toNat), (14, 0, 16, l.badIn.toNat)]))

/-- LOOP_BIND (opcode 0x30, 05 R159). -/
def execLoopBind (d : Desc) (s : State) : Host.Outcome State Fault Refusal :=
  .next (s.desc opLoopBind d (onLoopObj (doLoopBind d)))

/-- LOOP_SCALE (opcode 0x31, 05 R160). -/
def execLoopScale (d : Desc) (s : State) : Host.Outcome State Fault Refusal :=
  .next (s.desc opLoopScale d (onLoopObj (doLoopScale d)))

/-- LOOP_GAINS (opcode 0x32, 05 R161). -/
def execLoopGains (d : Desc) (s : State) : Host.Outcome State Fault Refusal :=
  .next (s.desc opLoopGains d (onLoopObj (doLoopGains d)))

/-- LOOP_LIMITS (opcode 0x33, 05 R162). -/
def execLoopLimits (d : Desc) (s : State) : Host.Outcome State Fault Refusal :=
  .next (s.desc opLoopLimits d (onLoopObj (doLoopLimits d)))

/-- LOOP_PROFILE (opcode 0x34, 05 R163). -/
def execLoopProfile (d : Desc) (s : State) : Host.Outcome State Fault Refusal :=
  .next (s.desc opLoopProfile d (onLoopObj (doLoopProfile d)))

/-- LOOP_SUPERVISE (opcode 0x35, 05 R164). -/
def execLoopSupervise (d : Desc) (s : State) : Host.Outcome State Fault Refusal :=
  .next (s.desc opLoopSupervise d (onLoopObj (doLoopSupervise d)))

/-- LOOP_SET (opcode 0x36, 05 R165). -/
def execLoopSet (d : Desc) (s : State) : Host.Outcome State Fault Refusal :=
  .next (s.desc opLoopSet d (onLoopObj (doLoopSet d)))

/-- LOOP_CTRL (opcode 0x37, 05 R166). -/
def execLoopCtrl (d : Desc) (s : State) : Host.Outcome State Fault Refusal :=
  .next (s.desc opLoopCtrl d (onLoopObj (doLoopCtrl d)))

/-- LOOP_STATUS_GET (opcode 0x38, 05 R167). -/
def execLoopStatusGet (d : Desc) (s : State) : Host.Outcome State Fault Refusal :=
  .next (s.desc opLoopStatusGet d (onLoopObj (doLoopStatusGet d)))

/-! ## Holds -/

/-- What a hold of LE takes from a loop (05 R169): a run that is due; of a fast-list loop also its running state, which the engine's
local memory held. -/
def Loop.held_ (l : Loop) : Loop :=
  let l := { l with due := false, eocCnt := 0, feTimer := false }
  if l.fast then
    { l with target := 0, jump := false, r := 0, rv := 0, ra := 0, settled := false, integ := 0, xPrev := 0, dPrev := 0,
             uPrev := 0, u := 0, y := 0, runs := 0, overruns := 0, badIn := 0, cause := 0 }
  else l

/-- LEe is held (05 R169): its loops stop and stop writing. -/
def Dev.leHold (s : Dev) (e : Fin 6) : Dev :=
  { s with loops := Vector.ofFn fun n : Fin 144 => if n.val / 24 = e.val then (s.loops[n.val]).held_ else s.loops[n.val] }

/-- LEe is released (05 R169): its loops that were enabled restart as on ENABLE; attached loops follow their function (09 R282). -/
def Dev.leRelease (s : Dev) (e : Fin 6) : Dev :=
  (List.finRange 144).foldl (fun s n =>
    if n.val / 24 = e.val && s.loops[n.val].state != .disabled then s.loopStart n else s) s

end Sys2Proof.Machine
end

