-- ==== Sys2Proof/Machine/LogOps.lean ====
section
/-! DEFINITION. The log, function 56: delivery, Floodplain mode, its timers and the opcodes of class 0xE (17_faults_log.md, 14 R437). -/

namespace Sys2Proof.Machine

/-! ## Records and delivery -/

/-- A record's 16 bytes with a PHASE (02 R57). -/
def LogRec.bytes (r : LogRec) (phase : Bool) : List Byte :=
  bytesLE 2 (fieldsOf [(0, 11, r.code.toNat), (11, 3, r.sev.num), (14, 2, r.link.num)])
    ++ [BitVec.ofNat 8 r.repeated, BitVec.ofNat 8 (fieldsOf [(0, 7, r.src), (7, 1, phase.toNat)])]
    ++ bytesLE 2 r.seq.toNat ++ bytesLE 2 r.ref.toNat ++ bytesLE 4 r.arg.toNat ++ bytesLE 4 r.time.toNat

/-- The fill (17 R488): stored records that are not delivered. -/
def Log.fill (g : Log) : Nat := g.recs.countP fun r => !r.delivered

/-- The host has received the record with this number (17 R488): it and all earlier records are delivered, and count in OUT (R489). -/
def Log.deliver (g : Log) (num : Nat) : Log :=
  let hit (r : LogRec) : Bool := !r.delivered && r.num ≤ num
  { g with recs := g.recs.map fun r => if hit r then { r with delivered := true } else r, outCnt := g.outCnt + g.recs.countP hit }

/-- A change of the log. -/
def Dev.onLog (s : Dev) (f : Log → Log) : Dev := { s with log := f s.log }

/-- The log's handle (17). -/
abbrev hLog : Word := 0x50200038

/-! ## Floodplain mode (17 R489, R491) -/

/-- A SUMMARY record (17 R491). -/
def Dev.logSummary (s : Dev) : Dev :=
  let arg := mkWord [(0, 16, s.log.supTrace), (16, 16, s.log.supInfo)]
  let s := (s.logPut { code := LG_LOG_SUMMARY, sev := .warn, link := .summary, src := 56, arg }).1
  s.onLog fun g => { g with supTrace := 0, supInfo := 0 }

/-- EV_LOG_FLOOD (17 R489). -/
def Dev.floodEvent (s : Dev) (on : Bool) : Dev :=
  s.raise EV_LOG_FLOOD 56 hLog (mkWord [(0, 1, on.toNat), (16, 13, s.log.fill)])

/-- The end of a 10 ms interval (17 R489): the records written at it belong to the interval that ends. -/
def Dev.logEval (s : Dev) : Dev :=
  if s.held 56 ∨ s.asleep then s
  else
    let g := s.log
    let s :=
      if !g.flood then
        if 3072 < g.fill ∧ g.outCnt < g.inCnt then
          ((s.onLog fun g => { g with flood := true }).logPut { code := LG_LOG_FLOOD_ON, sev := .warn, src := 56, arg := 0 }).1.floodEvent true
        else s
      else if g.fill < 2048 then
        ((s.logSummary.logPut { code := LG_LOG_FLOOD_OFF, sev := .info, src := 56, arg := 0 }).1.floodEvent false).onLog
          fun g => { g with flood := false }
      else s
    s.onLog fun g => { g with inCnt := 0, outCnt := 0 }

/-- Function 56 is held (17 R494): Floodplain mode and its counts, and every open window, end without records. -/
def Log.hold (g : Log) : Log :=
  { g with flood := false, supTrace := 0, supInfo := 0, inCnt := 0, outCnt := 0, recs := g.recs.map fun r => { r with open_ := false } }

/-- WARNs whose chapters state when their handling ends (05 R156, 09 R264, 03 R99): quiet does not end them (17 R483). -/
def warnEndsItself : List (BitVec 11) := [LG_LOOP_FOLLOW, LG_FAN_SLOW, LG_FAN_TACH_LOST, LG_TB_HOLDOVER, LG_TB_RANGE]

/-- 1 s has passed with no error from a source (17 R483). -/
def Dev.warnQuiet (s : Dev) (src : Word) : Dev :=
  match s.errOf src with
  | some e => if e.cls = .warn ∧ !warnEndsItself.contains e.code then s.endErr src else s
  | none => s

/-! ## Registers (17 R493) -/

/-- LOG_STATUS. -/
def Log.status (g : Log) : Word :=
  mkWord [(0, 13, g.fill), (13, 1, g.flood.toNat), (16, 1, g.wrap[0].toNat), (17, 1, g.wrap[1].toNat), (18, 1, g.wrap[2].toNat),
          (19, 1, g.wrap[3].toNat), (20, 1, g.wrap[4].toNat)]

/-- LOG_HEAD. -/
def Log.head (g : Log) : Word :=
  mkWord [(0, 16, (g.recs.getLast?.map fun r => r.seq.toNat).getD 0), (16, 16, (g.recs.head?.map fun r => r.seq.toNat).getD 0)]

/-- ERR_HANDLINGk. -/
def Log.handlingReg (g : Log) (k : Nat) : Word :=
  (List.range 32).foldl (fun w b => if g.errs.any (fun e => e.func == 32 * k + b) then w ||| (1 <<< b) else w) 0

/-! ## Descriptors (14 R437) -/

/-- LOG_READ's row. -/
def opLogRead : OpInfo where
  op := 0xE0
  accepts := .log
  fields := bulkFields ++ [(20, 0, 16), (22, 0, 1)]

/-- LOG_READ (14 R437, 17 R488). -/
def doLogRead (d : Desc) (_ : Obj) (s : Dev) : Dev × Res :=
  let start := BitVec.ofNat 16 (d.bits 20 0 16)
  let rest := if d.flag 22 0 then s.log.recs else s.log.recs.dropWhile fun r => r.seq != start
  let sel := rest.take (bulkLen d / 16)
  if !s.bulkOk d ∨ bulkLen d % 16 ≠ 0 then refuse s .range
  else if !d.flag 22 0 ∧ rest.isEmpty then refuse s .conflict
  else
    let seq := (sel.head?.map fun r => r.seq.toNat).getD 0
    let s := match sel.getLast? with
      | some r => s.onLog fun g => g.deliver r.num
      | none => s
    (s, .done .ok (mkRes [(8, 0, 16, sel.length), (10, 0, 16, seq)])
      (if sel.isEmpty then [] else [(bulkAddr d, sel.flatMap fun r => r.bytes false)]))

/-- LOG_CONFIG's row. -/
def opLogConfig : OpInfo where
  op := 0xE1
  accepts := .log
  fields := [(8, 0, 3)]

/-- LOG_CONFIG (14 R437). -/
def doLogConfig (d : Desc) (_ : Obj) (s : Dev) : Dev × Res :=
  if 4 < d.bits 8 0 3 then refuse s .range else (s.onLog fun g => { g with lqMin := d.bits 8 0 3 }, .ok)

/-- LOG_ACK's row: its function is the log's (14 R437). -/
def opLogAck : OpInfo where
  op := 0xE2
  accepts := .errorSource
  func := some 56

/-- An error that an opcode of its own ends (14 R437, 17 R481). -/
def Dev.ownAck (s : Dev) (o : Obj) (e : ErrState) : Bool :=
  match o with
  | .loop n => (e.code == LG_LOOP_FEEDBACK || e.code == LG_LOOP_FOLLOW) && s.loops[n.val].state.faulty
  | .pair _ => e.code == LG_VALVE_OPEN || e.code == LG_VALVE_SHORT
  | .fan _ => e.code == LG_FAN_LOCKED
  | .damper n => s.dampers[n.val].state == .fault && e.code == LG_DM_LEARN_FAIL
  | .bank _ => e.code == LG_PWM_TRIP
  | _ => false

/-- LOG_ACK (14 R437, 17 R483). -/
def doLogAck (d : Desc) (o : Obj) (s : Dev) : Dev × Res :=
  match s.errOf d.handle with
  | none => refuse s .conflict
  | some e => if s.ownAck o e then refuse s .conflict else (s.endErr d.handle, .done .ok (mkRes [(8, 0, 8, 1)]))

/-- LOG_STATS_GET's row. -/
def opLogStatsGet : OpInfo where
  op := 0xE3
  accepts := .log
  fields := [(8, 0, 3)]

/-- LOG_STATS_GET (14 R437, 17 R491, R493). -/
def doLogStatsGet (d : Desc) (_ : Obj) (s : Dev) : Dev × Res :=
  let k := d.bits 8 0 3
  let g := s.log
  if 5 < k then refuse s .range
  else if k = 5 then
    (s, .done .ok (mkRes [(8, 0, 16, g.fill), (10, 0, 1, g.flood.toNat), (12, 0, 32, g.supTrace + g.supInfo)]))
  else (s, .done .ok (mkRes [(8, 0, 32, (g.drops[(ix 4 k).val]).toNat), (12, 0, 8, (g.wrap[(ix 4 k).val]).toNat)]))

/-- LOG_MARK's row. -/
def opLogMark : OpInfo where
  op := 0xE4
  accepts := .log
  fields := [(8, 0, 32)]

/-- LOG_MARK (14 R437). -/
def doLogMark (d : Desc) (_ : Obj) (s : Dev) : Dev × Res :=
  let r := s.logPut { code := LG_HOST_MARK, sev := .info, src := 1, arg := d.word 8 }
  match r.2 with
  | some q => (r.1, .done .ok (mkRes [(8, 0, 16, q.toNat)]))
  | none => (r.1, .done .busy)

/-- DIAG_ENGINE_GET's row. -/
def opDiagEngineGet : OpInfo where
  op := 0xE5
  accepts := .engine

/-- DIAG_ENGINE_GET (14 R437): the load, the depth and the version are measurements and values that the manual does not give. -/
def doDiagEngineGet (_ : Desc) (_ : Obj) (s : Dev) : Dev × Res :=
  let a := s.draw
  let n := a.1
  (a.2, .done .ok (mkRes [(8, 0, 8, (Config.busyPercent n).toNat), (9, 0, 8, (Config.queueDepth n).toNat),
                          (12, 0, 32, (Config.engineVersion n).toNat)]))

/-! ## The commands -/

/-- LOG_READ (opcode 0xE0, 14 R437). -/
def execLogRead (d : Desc) (s : State) : Host.Outcome State Fault Refusal := .next (s.desc opLogRead d (doLogRead d))

/-- LOG_CONFIG (opcode 0xE1, 14 R437). -/
def execLogConfig (d : Desc) (s : State) : Host.Outcome State Fault Refusal := .next (s.desc opLogConfig d (doLogConfig d))

/-- LOG_ACK (opcode 0xE2, 14 R437). -/
def execLogAck (d : Desc) (s : State) : Host.Outcome State Fault Refusal := .next (s.desc opLogAck d (doLogAck d))

/-- LOG_STATS_GET (opcode 0xE3, 14 R437). -/
def execLogStatsGet (d : Desc) (s : State) : Host.Outcome State Fault Refusal := .next (s.desc opLogStatsGet d (doLogStatsGet d))

/-- LOG_MARK (opcode 0xE4, 14 R437). -/
def execLogMark (d : Desc) (s : State) : Host.Outcome State Fault Refusal := .next (s.desc opLogMark d (doLogMark d))

/-- DIAG_ENGINE_GET (opcode 0xE5, 14 R437). -/
def execDiagEngineGet (d : Desc) (s : State) : Host.Outcome State Fault Refusal := .next (s.desc opDiagEngineGet d (doDiagEngineGet d))

/-- COALESCE_WINDOW_CLOSE (17 R486, R487). -/
def execCoalesceWindowClose (seq : BitVec 16) (s : State) : Host.Outcome State Fault Refusal :=
  .next (s.onDev fun v => v.onLog fun g => g.closeWindow seq)

/-- LOG_LOAD_EVAL (17 R489). -/
def execLogLoadEval (s : State) : Host.Outcome State Fault Refusal := .next (s.onDev Dev.logEval)

/-- SUMMARY_TIMER (17 R491). -/
def execSummaryTimer (s : State) : Host.Outcome State Fault Refusal :=
  .next (s.onDev fun v => if v.log.flood ∧ !v.held 56 then v.logSummary else v)

/-- WARN_QUIET_EXPIRY (17 R483). -/
def execWarnQuietExpiry (src : Word) (s : State) : Host.Outcome State Fault Refusal := .next (s.onDev fun v => v.warnQuiet src)

end Sys2Proof.Machine
end

