-- ==== Sys2Proof/Machine/Nv.lean ====
section
/-! DEFINITION. The NV store, function 57: banks, firmware slots and the opcodes of class 0xF, with VALE_KEY_SET
(18_nvstore_boot.md, 12 R364). Start-up is in the file of the resets. -/

namespace Sys2Proof.Machine

/-- A change of the NV store. -/
def Dev.onNv (s : Dev) (f : Nv → Nv) : Dev := { s with nv := f s.nv }

/-! ## The stored headers (18 R501, R502) -/

/-- A little-endian field of an image. -/
def leAt (b : List Byte) (off n : Nat) : Nat := ofBytesLE ((b.drop off).take n)

/-- MAGIC of a configuration bank (18 R502). -/
abbrev bankMagic : Word := 0x4243565A

/-- MAGIC of a firmware slot (18 R502). -/
abbrev slotMagic : Word := 0x5746565A

/-- MAGIC, SEQ, LEN and COMMITS: bytes 0 to 15 of a bank's header (18 R502). -/
def Bank.head (b : Bank) : List Byte :=
  bytesLE 4 b.magic.toNat ++ bytesLE 4 b.seq.toNat ++ bytesLE 4 b.len.toNat ++ bytesLE 4 b.commits.toNat

/-- A bank as the store holds it (18 R502): its header of 64 bytes, then the image. -/
def Bank.bytes (b : Bank) : List Byte := b.head ++ bytesLE 4 b.crc.toNat ++ List.replicate 44 0 ++ b.image

/-- A bank's bytes are valid (18 R501): MAGIC matches, LEN lies within its range and the CRC, over bytes 0 to 15 and the image, matches. -/
def bankBytesOk (b : List Byte) : Bool :=
  let n := leAt b 8 4
  leAt b 0 4 == 0x4243565A && (16 ≤ n && n ≤ 65472) && leAt b 16 4 == (crc32 (b.take 16 ++ (b.drop 64).take n)).toNat

/-- A bank is valid (18 R501). -/
def Bank.valid (b : Bank) : Bool := bankBytesOk b.bytes

/-- LEN of a bank's header lies within its range (18 R502). -/
def Bank.lenOk (b : Bank) : Bool := 16 ≤ b.len.toNat && b.len.toNat ≤ 65472

/-- A bank that a commit has written (18 R502, R503). -/
def Bank.written (seq commits : Word) (image : List Byte) : Bank :=
  let b : Bank := { magic := bankMagic, seq, len := BitVec.ofNat 32 image.length, commits, image }
  { b with crc := crc32 (b.head ++ image) }

/-- A bank that a commit has written and that does not read back (18 R503, R504): what its header reads is open, but for that it is not
valid. -/
def Bank.flawed (seq commits : Word) (image : List Byte) (x : BitVec 96) : Bank :=
  let b : Bank := { magic := x.extractLsb' 0 32, seq, len := x.extractLsb' 32 32, commits, crc := x.extractLsb' 64 32, image }
  if b.valid then { b with magic := 0 } else b

/-- A byte of a slot as the parts written have left it; bytes that nothing has written read 0 (log entry 4). -/
def partByte (parts : List (Nat × List Byte)) (a : Nat) : Byte :=
  parts.foldl (fun b q => if q.1 ≤ a ∧ a < q.1 + q.2.length then q.2.getD (a - q.1) 0 else b) 0

/-- Bytes of a slot. -/
def partBytes (parts : List (Nat × List Byte)) (a n : Nat) : List Byte := (List.range n).map fun i => partByte parts (a + i)

/-- MAGIC, SEQ and LEN: bytes 0 to 11 of a slot (18 R502). -/
def FwSlot.head (x : FwSlot) : List Byte := bytesLE 4 x.magic.toNat ++ bytesLE 4 x.seq.toNat ++ bytesLE 4 x.len.toNat

/-- What the slot holds past its header, as far as its LEN. -/
def FwSlot.body (x : FwSlot) : List Byte := partBytes x.parts 16 (x.len.toNat - 16)

/-- A slot as the store holds it (18 R502, R509): its header of 16 bytes, then the image as far as its LEN. -/
def FwSlot.bytes (x : FwSlot) : List Byte := x.head ++ bytesLE 4 x.crc.toNat ++ x.body

/-- A slot's bytes are valid (18 R501, R509): the CRC leaves its own bytes out. -/
def slotBytesOk (b : List Byte) : Bool :=
  let n := leAt b 8 4
  leAt b 0 4 == 0x5746565A && (256 ≤ n && n ≤ 163840) && leAt b 12 4 == (crc32 (b.take 12 ++ (b.take n).drop 16)).toNat

/-- A slot is valid (18 R501); as delivered it is (R511, log entry 247). -/
def FwSlot.valid (x : FwSlot) : Bool := x.factory || slotBytesOk x.bytes

/-- VERSION of a slot's image (18 R509). -/
def FwSlot.version (x : FwSlot) : BitVec 16 :=
  if x.factory then Config.factoryVersion else BitVec.ofNat 16 (ofBytesLE (partBytes x.parts 18 2))

/-- A slot whose header LAST has written (18 R502, R510), with the LEN of its image. -/
def FwSlot.written (x : FwSlot) (seq len : Word) : FwSlot :=
  let y : FwSlot := { magic := slotMagic, seq, len, parts := x.parts }
  { y with crc := crc32 (y.head ++ y.body) }

/-! ## The two-bank scheme (18 R501 to R503) -/

/-- Of two SEQs, the second is newer (18 R501). -/
def newerSeq (a b : Word) : Bool := 1 ≤ (b - a).toNat && (b - a).toNat ≤ 0x7FFFFFFF

/-- Which of two is active: the newer valid one; equal or half-way SEQs go to 0 (18 R501). -/
def activeOf (v0 v1 : Bool) (q0 q1 : Word) : Option (Fin 2) :=
  match v0, v1 with
  | false, false => none
  | true, false => some 0
  | false, true => some 1
  | true, true => if newerSeq q0 q1 then some 1 else some 0

/-- The active configuration bank. -/
def Nv.activeBank (n : Nv) : Option (Fin 2) := activeOf n.banks[0].valid n.banks[1].valid n.banks[0].seq n.banks[1].seq

/-- The newest valid firmware slot. -/
def Nv.newestSlot (n : Nv) : Option (Fin 2) := activeOf n.slots[0].valid n.slots[1].valid n.slots[0].seq n.slots[1].seq

/-- The slot whose SEQ a new image follows: the running one, in recovery the newest valid one (18 R503, R510). -/
def Nv.baseSlot (n : Nv) : Option (Fin 2) := if n.slot < 2 then some (ix 1 n.slot) else n.newestSlot

/-- The other of two. -/
def otherOf (k : Fin 2) : Fin 2 := if k = 0 then 1 else 0

/-- The target of a write and its SEQ (18 R503): with nothing active, 0 with SEQ 1. -/
def targetOf (active : Option (Fin 2)) (seq : Fin 2 → Word) : Fin 2 × Word :=
  match active with
  | some k => (otherOf k, seq k + 1)
  | none => (0, 1)

/-- Bank and SEQ of the next commit. -/
def Nv.bankTarget (n : Nv) : Fin 2 × Word := targetOf n.activeBank fun k => n.banks[k.val].seq

/-- Slot and SEQ of the next firmware. -/
def Nv.slotTarget (n : Nv) : Fin 2 × Word := targetOf n.baseSlot fun k => n.slots[k.val].seq

/-- NV_STATUS.BANK follows the active bank. -/
def Nv.withBank (n : Nv) : Nv := { n with bank := (n.activeBank.map (·.val)).getD 3 }

/-! ## Atost images (18 R505, R506) -/

/-- SLOT_CNT, CFG_LEN and RUN_LEN of an image. -/
def imgParts (b : List Byte) : Nat × Nat × Nat := (leAt b 6 2, leAt b 8 2, leAt b 10 2)

/-- AUTORUN of an image. -/
def imgAutorun (b : List Byte) : Bool := leAt b 5 1 % 2 == 1

/-- A slot record of an image (18 R505): UID, PORT, SLOT, CAPS, ITEMS, MAXSESS. -/
structure SlotRec where
  uid     : DWord
  port    : Fin 16
  slot    : Fin 32
  caps    : Byte
  items   : Byte
  maxsess : Byte
  deriving DecidableEq, Repr

/-- The slot records of an image. -/
def imgSlots (b : List Byte) : List SlotRec :=
  (List.range (imgParts b).1).map fun i =>
    let r := b.drop (16 + 16 * i)
    { uid := BitVec.ofNat 64 (leAt r 0 8), port := ix 15 (leAt r 8 1), slot := ix 31 (leAt r 9 1), caps := r.getD 10 0
      items := r.getD 11 0, maxsess := r.getD 12 0 }

/-- `n` descriptors of 32 bytes from an offset. -/
def imgDescs (b : List Byte) (off n : Nat) : List (List Byte) := (List.range n).map fun i => (b.drop (off + 32 * i)).take 32

/-- The descriptors of the configuration section. -/
def imgCfg (b : List Byte) : List (List Byte) := imgDescs b (16 + 16 * (imgParts b).1) ((imgParts b).2.1 / 32)

/-- The offset of the run section. -/
def imgRunAt (b : List Byte) : Nat := 16 + 16 * (imgParts b).1 + (imgParts b).2.1

/-- The descriptors of the run section. -/
def imgRun (b : List Byte) : List (List Byte) := imgDescs b (imgRunAt b + 16) ((imgParts b).2.2 / 32)

/-- The enable record of the run section, a bit per function ID. -/
def imgEnable (b : List Byte) : BitVec 96 := if (imgParts b).2.2 = 0 then 0 else BitVec.ofNat 96 (leAt b (imgRunAt b) 12)

/-- Opcodes whose descriptors an image may hold (18 R506): those of classes 0x1 to 0xB (14 R424 to R433) that are not of the bulk form,
VALE_KEY_SET excepted, and those named one by one. -/
def imgOps : List Nat :=
  [0x10, 0x11, 0x12, 0x13, 0x20, 0x21, 0x22, 0x23, 0x24, 0x25, 0x30, 0x31, 0x32, 0x33, 0x34, 0x35, 0x36, 0x37, 0x38]
    ++ [0x40, 0x41, 0x42, 0x43, 0x44, 0x45, 0x46, 0x47, 0x50, 0x51, 0x52, 0x53, 0x54, 0x55, 0x56, 0x57]
    ++ [0x60, 0x61, 0x62, 0x63, 0x64, 0x65, 0x66, 0x70, 0x71, 0x72, 0x73, 0x74, 0x78, 0x79, 0x7A, 0x7B, 0x7C]
    ++ [0x80, 0x81, 0x82, 0x83, 0x84, 0x85, 0x90, 0x91, 0x92, 0x93, 0x94, 0x96, 0x97, 0x99, 0x9A, 0x9B, 0x9C]
    ++ [0xA0, 0xA1, 0xA2, 0xA6, 0xA9, 0xAA, 0xB0, 0xB1, 0xB3, 0xB4, 0xB5, 0xC3, 0xC4, 0xC5, 0xD1, 0xD2, 0xD4, 0xE1]

/-- A descriptor may stand in an image: TAG 0, FLAGS 0, an opcode allowed there (18 R505, R506). -/
def imgDescOk (x : List Byte) : Bool := leAt x 1 3 == 0 && imgOps.contains (leAt x 0 1)

/-- A slot record keeps its reserved bits 0 (18 R505). -/
def slotRecOk (r : List Byte) : Bool := leAt r 8 1 < 16 && leAt r 9 1 < 32 && leAt r 13 3 == 0

/-- An image that NV_CONFIG_WRITE stores (18 R505, R506); `lock` is SETUP_LOCK. -/
def imageOk (lock : Bool) (b : List Byte) : Bool :=
  let (n, c, r) := imgParts b
  let en := imgEnable b
  leAt b 0 4 == 0x54535441 && leAt b 4 1 == 1 && leAt b 5 1 ≤ 1 && n ≤ 512 && c % 32 == 0
    && (r == 0 || (16 ≤ r && (r - 16) % 32 == 0)) && leAt b 12 2 == 0x4816 && leAt b 14 2 == 0
    && b.length == 16 + 16 * n + c + r
    && (List.range n).all (fun i => slotRecOk (b.drop (16 + 16 * i)))
    && (imgCfg b).all imgDescOk && (imgRun b).all imgDescOk
    && (r == 0 || leAt b (imgRunAt b + 12) 4 == 0) && en &&& 0xF00000000000000000000003 == 0
    && !(lock && imgAutorun b)

/-! ## Firmware images (18 R509) -/

/-- LEN of a firmware image. -/
def fwLen (parts : List (Nat × List Byte)) : Nat := ofBytesLE (partBytes parts 20 4)

/-- A firmware image verifies (18 R509) against the PKH fuse, with LEN in its range. -/
def fwVerifies (pkh : BitVec 256) (parts : List (Nat × List Byte)) : Bool :=
  let n := fwLen parts
  if n < 256 ∨ 163840 < n then false
  else
    let key := partBytes parts 64 64
    let sig := partBytes parts 128 64
    sha256 key == pkh.toNat
      && ecdsaOk (ofBytesBE (key.take 32)) (ofBytesBE (key.drop 32)) (ofBytesBE (sig.take 32)) (ofBytesBE (sig.drop 32))
           (sha256 (partBytes parts 16 112 ++ partBytes parts 192 (n - 192)))

/-- A slot's image verifies (18 R509); as delivered it does (R511, log entry 247). -/
def FwSlot.verifies (x : FwSlot) (pkh : BitVec 256) : Bool := x.factory || fwVerifies pkh x.parts

/-! ## Writes -/

/-- The NV controller runs: its clock is there (01 R27) and function 57 is not held. -/
def Dev.nvRuns (s : Dev) : Bool := !s.power.xclkDown && !s.held 57

/-- A write to the store fails (18 R504). -/
def Dev.nvFailed (s : Dev) (arg : Word) : Dev := (s.report hNv 57 .fault LG_NV_FAIL arg).1

/-- A descriptor of a write ends. -/
def Dev.nvEnds (s : Dev) : NvOp → Status → DWord → Dev
  | .config d _ _, st, r => s.finish 0xF0 d st r
  | .fwPart d _ _ _ _, st, r => s.finish 0xF3 d st r
  | .key d _ _, st, r => s.finish 0x95 d st r
  | .invalidate d, st, r => s.finish 0xF4 d st r

/-- UID and key of a VALE_KEY_SET; an all-zero key deletes (12 R364). -/
def keyArgs (d : Desc) : DWord × Option (BitVec 128) :=
  let k := d.bits 16 0 128
  (BitVec.ofNat 64 (d.bits 8 0 64), if k = 0 then none else some (BitVec.ofNat 128 k))

/-- The key area has room for a VALE_KEY_SET (12 R364). -/
def Nv.keyFits (n : Nv) (d : Desc) : Bool :=
  let a := keyArgs d
  a.2.isNone || n.keys.any (fun e => e.1 == a.1) || n.keys.length < 64

/-- The VALE_KEY_SETs that wait: the first that fits begins (18 R512); `k` bounds their number. -/
def Dev.nvNextKey : Nat → Dev → Dev
  | 0, s => s
  | k + 1, s =>
    match s.nv.busy, s.nv.keyQ with
    | none, d :: rest =>
      let s := s.onNv fun n => { n with keyQ := rest }
      if !s.nv.keyFits d then (s.finish 0x95 d .busy 0).nvNextKey k
      else s.onNv fun n => { n with busy := some (.key d (keyArgs d).1 (keyArgs d).2) }
    | _, _ => s

/-- The write that runs has ended and the next begins. -/
def Dev.nvIdle (s : Dev) : Dev := (s.onNv fun n => { n with busy := none }).nvNextKey s.nv.keyQ.length

/-- A write of the key area stops where it has come, which is a free value; the target of any other write is invalid already
(18 R503, R512). -/
def Dev.nvTear (s : Dev) : Dev :=
  match s.nv.busy with
  | some (.key _ uid key) =>
    let k := s.draw
    k.2.onNv fun n => n.keyStage uid key (Config.keyTorn k.1 % 5)
  | _ => s

/-- The write that runs fails. -/
def Dev.nvAbort (s : Dev) (st : Status) : Dev :=
  match s.nv.busy with
  | none => s
  | some w => (s.nvTear.onNv fun n => { n with busy := none }).nvEnds w st 0

/-- A commit does not read back (18 R504). -/
def Dev.nvFlaw (s : Dev) (k : Fin 2) (image : List Byte) : Dev :=
  let x := s.draw
  x.2.onNv fun n => { n with banks := vmod n.banks k fun b => Bank.flawed n.bankTarget.2 b.commits image (Config.nvFlaw x.1) }

/-- A write of the key area does not read back, in copy A or in copy B (18 R512). -/
def Dev.keyFlaw (s : Dev) (uid : DWord) (key : Option (BitVec 128)) : Dev :=
  let x := s.draw
  x.2.onNv fun n => n.keyStage uid key (if Config.keyTorn x.1 % 2 = 0 then 1 else 3)

/-- An NV write has been read back (18 R503, R504, R510, 12 R364). -/
def Dev.nvComplete (s : Dev) (good : Bool) : Dev :=
  match s.nv.busy with
  | none => s
  | some w =>
    if !s.nvRuns then s
    else
      let s := match w with
        | .config d k image =>
          if good then
            let seq := s.nv.bankTarget.2
            let c := s.nv.banks[k.val].commits + 1
            let s := s.onNv fun n => Nv.withBank { n with banks := n.banks.set k.val (Bank.written seq c image) }
            (s.note .info 57 LG_NV_COMMIT (mkWord [(0, 1, k.val), (8, 24, min 0xFFFFFF c.toNat)])).finish 0xF0 d .ok
              (mkRes [(8, 0, 32, seq.toNat), (12, 0, 8, k.val)])
          else ((s.nvFlaw k image).nvFailed (mkWord [(0, 1, k.val)])).nvEnds w .nvFail 0
        | .fwPart d k off bytes last =>
          if !good then (s.nvFailed (mkWord [(0, 1, k.val), (1, 1, 1)])).nvEnds w .nvFail 0
          else
            let s := s.onNv fun n => { n with slots := vmod n.slots k fun x => { x with parts := x.parts ++ [(off, bytes)] } }
            let parts := s.nv.slots[k.val].parts
            if !last then s.finish 0xF3 d .ok 0
            else if fwVerifies s.nv.pkh parts then
              let seq := s.nv.slotTarget.2
              (s.onNv fun n => { n with slots := vmod n.slots k fun x => x.written seq (BitVec.ofNat 32 (fwLen parts)) }).finish
                0xF3 d .ok (mkRes [(8, 0, 8, 1)])
            else ((s.report hNv 57 .alarm LG_FW_SIG_FAIL (mkWord [(0, 1, k.val)])).1).finish 0xF3 d .authFail 0
        | .key d uid key =>
          if good then
            let old := s.nv.keys.any fun (e : DWord × BitVec 128) => e.1 == uid
            (s.onNv fun n => n.keyStage uid key 4).finish 0x95 d .ok (mkRes [(8, 0, 8, old.toNat)])
          else ((s.keyFlaw uid key).nvFailed 0).nvEnds w .nvFail 0
        | .invalidate d =>
          if good then
            (s.onNv fun n => Nv.withBank { n with banks := n.banks.map fun (b : Bank) => { b with magic := 0 } }).finish 0xF4 d .ok 0
          else (s.nvFailed 0).nvEnds w .nvFail 0
      s.nvIdle

/-- A hold of function 57 stops the write, whose target stays invalid (18 R503, R514). -/
def Dev.nvHold (s : Dev) : Dev :=
  let q := s.nv.keyQ
  q.foldl (fun s d => s.finish 0x95 d .flushed 0) ((s.nvAbort .flushed).onNv fun n => { n with keyQ := [] })

/-- XCLK has failed: the NV controller stops (01 R27). -/
def Dev.nvClock (s : Dev) : Dev :=
  let q := s.nv.keyQ
  q.foldl (fun s d => s.finish 0x95 d .nvFail 0) ((s.nvAbort .nvFail).onNv fun n => { n with keyQ := [] })

/-! ## Register (18 R515) -/

/-- The active bank carries AUTORUN. -/
def Nv.autorun (n : Nv) : Bool := match n.activeBank with
  | some k => imgAutorun n.banks[k.val].image
  | none => false

/-- NV_STATUS. -/
def Nv.status (n : Nv) : Word :=
  mkWord [(0, 2, n.bank), (2, 2, n.slot), (4, 1, n.empty.toNat), (5, 1, n.autorun.toNat), (6, 1, n.dbgLock.toNat),
          (7, 1, n.busy.isSome.toNat)]

/-! ## Descriptors (14 R438) -/

/-- NV_CONFIG_WRITE's row. -/
def opNvConfigWrite : OpInfo where
  op := 0xF0
  accepts := .nv
  fields := bulkFields

/-- NV_CONFIG_WRITE before its image is read. -/
def doNvConfigWrite (d : Desc) (_ : Obj) (s : Dev) : Dev × Res :=
  if !s.bulkOk d ∨ bulkLen d < 16 ∨ 65472 < bulkLen d then refuse s .range else (s, .read)

/-- NV_CONFIG_WRITE with its image (18 R503, R506): the target's header is erased first. -/
def nvConfigData (d : Desc) (image : List Byte) (s : Dev) : Dev × Res :=
  if !imageOk s.regs.lock image then refuse s .range
  else if s.nv.busy.isSome then refuse s .busy
  else if !s.nvRuns then refuse s .nvFail
  else
    let k := s.nv.bankTarget.1
    (s.onNv fun n => { n with banks := vmod n.banks k fun b => { b with magic := 0 }, busy := some (.config d k image) }, .wait)

/-- NV_CONFIG_READ's row. -/
def opNvConfigRead : OpInfo where
  op := 0xF1
  accepts := .nv
  fields := bulkFields ++ [(20, 0, 1)]

/-- NV_CONFIG_READ (14 R438): as much of the image as the buffer takes. -/
def doNvConfigRead (d : Desc) (_ : Obj) (s : Dev) : Dev × Res :=
  let b := s.nv.banks[(ix 1 (d.bits 20 0 1)).val]
  if !s.bulkOk d then refuse s .range
  else if !b.valid then refuse s .nvFail
  else
    (s, .done .ok (mkRes [(8, 0, 32, b.image.length), (12, 0, 32, b.seq.toNat)]) [(bulkAddr d, b.image.take (bulkLen d))])

/-- NV_STATUS_GET's row. -/
def opNvStatusGet : OpInfo where
  op := 0xF2
  accepts := .nv

/-- NV_STATUS_GET (14 R438). -/
def doNvStatusGet (_ : Desc) (_ : Obj) (s : Dev) : Dev × Res :=
  let n := s.nv
  let c := match n.activeBank with
    | some k => n.banks[k.val].commits.toNat
    | none => 0
  (s, .done .ok (mkRes [(8, 0, 8, if n.bank < 2 then n.bank else 0xFF), (9, 0, 8, if n.slot < 2 then n.slot else 0xFF),
                        (10, 0, 1, n.empty.toNat), (10, 1, 1, n.autorun.toNat), (10, 2, 1, n.dbgLock.toNat), (12, 0, 32, c)]))

/-- FW_WRITE's row. -/
def opFwWrite : OpInfo where
  op := 0xF3
  accepts := .nv
  fields := bulkFields ++ [(20, 0, 32), (24, 0, 1)]

/-- FW_WRITE before its part is read (14 R438, 18 R510). -/
def doFwWrite (d : Desc) (_ : Obj) (s : Dev) : Dev × Res :=
  let off := d.bits 20 0 32
  if !s.bulkOk d ∨ off % 16 ≠ 0 ∨ 163840 < off + bulkLen d ∨ (!s.nv.fwOpen ∧ off ≠ 0) then refuse s .range
  else if s.nv.busy.isSome then refuse s .busy
  else (s, .read)

/-- FW_WRITE with its part (18 R503, R510): the first part erases the target's header. -/
def fwData (d : Desc) (bytes : List Byte) (s : Dev) : Dev × Res :=
  let off := d.bits 20 0 32
  if !s.nv.fwOpen ∧ off ≠ 0 then refuse s .range
  else if s.nv.busy.isSome then refuse s .busy
  else if !s.nvRuns then refuse s .nvFail
  else
    let k := s.nv.slotTarget.1
    (s.onNv fun n =>
      { n with slots := vmod n.slots k fun x => { x with magic := 0, factory := false }, fwOpen := !d.flag 24 0
               busy := some (.fwPart d k off bytes (d.flag 24 0)) }, .wait)

/-- NV_INVALIDATE's row. -/
def opNvInvalidate : OpInfo where
  op := 0xF4
  accepts := .nv
  fields := [(8, 0, 32)]

/-- NV_INVALIDATE (14 R438). -/
def doNvInvalidate (d : Desc) (_ : Obj) (s : Dev) : Dev × Res :=
  if d.word 8 ≠ 0x5A5AA5A5 then refuse s .range
  else if s.nv.busy.isSome then refuse s .busy
  else if !s.nvRuns then refuse s .nvFail
  else (s.onNv fun n => { n with busy := some (.invalidate d) }, .wait)

/-- VALE_KEY_SET's row (12 R364). -/
def opValeKeySet : OpInfo where
  op := 0x95
  accepts := .controller
  fields := [(8, 0, 192)]

/-- VALE_KEY_SET (12 R364, 18 R512): while another write runs, it waits. -/
def doValeKeySet (d : Desc) (_ : Obj) (s : Dev) : Dev × Res :=
  if s.nv.busy.isSome then (s.onNv fun n => { n with keyQ := n.keyQ ++ [d] }, .wait)
  else if !s.nv.keyFits d then refuse s .busy
  else if !s.nvRuns then refuse s .nvFail
  else (s.onNv fun n => { n with busy := some (.key d (keyArgs d).1 (keyArgs d).2) }, .wait)

/-! ## The commands -/

/-- NV_CONFIG_WRITE (opcode 0xF0, 14 R438). -/
def execNvConfigWrite (d : Desc) (s : State) : Host.Outcome State Fault Refusal := .next (s.desc opNvConfigWrite d (doNvConfigWrite d))

/-- NV_CONFIG_READ (opcode 0xF1, 14 R438). -/
def execNvConfigRead (d : Desc) (s : State) : Host.Outcome State Fault Refusal := .next (s.desc opNvConfigRead d (doNvConfigRead d))

/-- NV_STATUS_GET (opcode 0xF2, 14 R438). -/
def execNvStatusGet (d : Desc) (s : State) : Host.Outcome State Fault Refusal := .next (s.desc opNvStatusGet d (doNvStatusGet d))

/-- FW_WRITE (opcode 0xF3, 14 R438). -/
def execFwWrite (d : Desc) (s : State) : Host.Outcome State Fault Refusal := .next (s.desc opFwWrite d (doFwWrite d))

/-- NV_INVALIDATE (opcode 0xF4, 14 R438). -/
def execNvInvalidate (d : Desc) (s : State) : Host.Outcome State Fault Refusal := .next (s.desc opNvInvalidate d (doNvInvalidate d))

/-- VALE_KEY_SET (opcode 0x95, 12 R364). -/
def execValeKeySet (d : Desc) (s : State) : Host.Outcome State Fault Refusal := .next (s.desc opValeKeySet d (doValeKeySet d))

/-- NV_WRITE_COMPLETE (18 R503). -/
def execNvWriteComplete (verified : Bool) (s : State) : Host.Outcome State Fault Refusal :=
  .next (s.onDev fun v => v.nvComplete verified)

end Sys2Proof.Machine
end

