-- ==== Sys2Proof/Machine/Sb.lean ====
section
/-! DEFINITION. The sensor-bus ports: transactions, polling, recovery and the opcodes of class 0xB (13_building_bus.md). -/

namespace Sys2Proof.Machine

/-! ## Handles and access -/

/-- The function of a sensor-bus port (16 R469). -/
abbrev sbFunc (p : Fin 8) : Nat := 82 + p.val

/-- The handle of a sensor-bus port, the source of its errors (13 R416). -/
abbrev hSb (p : Fin 8) : Word := mkHandle 2 0x09 p.val

/-- The handle of a polled value (13 R416). -/
abbrev hSbVal (p : Fin 8) (e : Fin 32) : Word := mkHandle 1 0x05 (32 * p.val + e.val)

/-- A port. -/
abbrev Dev.sb (s : Dev) (p : Fin 8) : SbPort := s.sbs[p.val]

/-- A change of a port. -/
def Dev.onSb (s : Dev) (p : Fin 8) (f : SbPort → SbPort) : Dev := { s with sbs := vmod s.sbs p f }

/-- An entry. -/
abbrev Dev.sbEntry (s : Dev) (p : Fin 8) (e : Fin 32) : SbEntry := (s.sb p).entries[e.val]

/-- A change of an entry. -/
def Dev.onSbE (s : Dev) (p : Fin 8) (e : Fin 32) (f : SbEntry → SbEntry) : Dev :=
  s.onSb p fun b => { b with entries := vmod b.entries e f }

/-! ## Checks and extraction (13 R407, R409) -/

/-- One bit of a CRC-8 with polynomial `g`, most significant bit first. -/
def crc8Bit (g c : Byte) : Byte := if c.getLsbD 7 then (c <<< 1) ^^^ g else c <<< 1

/-- One byte of a CRC-8. -/
def crc8Byte (g c b : Byte) : Byte :=
  crc8Bit g (crc8Bit g (crc8Bit g (crc8Bit g (crc8Bit g (crc8Bit g (crc8Bit g (crc8Bit g (c ^^^ b))))))))

/-- The SMBus PEC (13 R407). -/
def pec (bs : List Byte) : Byte := bs.foldl (crc8Byte 0x07) 0

/-- CRC8_31 of a word (13 R407). -/
def crc31 (a b : Byte) : Byte := [a, b].foldl (crc8Byte 0x31) 0xFF

/-- The words of read data, their CRCs checked and removed (13 R407); none: a mismatch. -/
def words31 : List Byte → Option (List Byte)
  | [] => some []
  | a :: b :: c :: rest => if c = crc31 a b then (words31 rest).map fun r => a :: b :: r else none
  | _ => none

/-- The bytes that a transaction of write and read phases puts on the bus before its PEC (13 R404, R407). -/
def pecOver (addr : Nat) (w r : List Byte) : List Byte :=
  (if w.isEmpty then [] else BitVec.ofNat 8 (2 * addr) :: w) ++ BitVec.ofNat 8 (2 * addr + 1) :: r

/-- The bytes that a read phase of `n` bytes brings: PEC adds one. -/
def readLen (withPec : Bool) (n : Nat) : Nat := if withPec ∧ 0 < n then n + 1 else n

/-- Bytes read with their PEC removed; none: a mismatch (13 R407). -/
def unPec (withPec : Bool) (addr : Nat) (w r : List Byte) : Option (List Byte) :=
  if !withPec ∨ r.isEmpty then some r
  else
    let n := r.length - 1
    if r.getD n 0 = pec (pecOver addr w (r.take n)) then some (r.take n) else none

/-- The write phase as it goes on the bus (13 R404, R407): address and bytes, and after the last byte of a write-only transaction with PEC
the PEC. -/
def writePhase (withPec : Bool) (addr : Nat) (w : List Byte) (rlen : Nat) : List Byte :=
  if w.isEmpty then []
  else
    let bs := BitVec.ofNat 8 (2 * addr) :: w
    if withPec ∧ rlen = 0 then bs ++ [pec bs] else bs

/-- The bytes that an entry writes. -/
def SbEntry.writes (x : SbEntry) : List Byte := (bytesLE 4 x.wdata.toNat).take x.wlen

/-- The data of an entry, check bytes removed; none: CHECK (13 R405, R407). -/
def SbEntry.checked (x : SbEntry) (r : List Byte) : Option (List Byte) :=
  match x.check with
  | 1 => unPec true x.addr x.writes r
  | 2 => words31 r
  | _ => some r

/-- The length of an entry's data after check bytes are removed. -/
def SbEntry.dataLen (x : SbEntry) : Nat := if x.check = 2 then 2 * x.rlen / 3 else x.rlen

/-- X (13 R409). -/
def SbEntry.extract (x : SbEntry) (data : List Byte) : Int :=
  let b := (data.drop x.ofs).take x.width
  let raw := ofBytesLE (if x.order then b else b.reverse)
  let v := bitsOf raw x.rshift x.bits
  sat32 ((if x.sign then signed x.bits v else (v : Int)) * 2 ^ x.lshift)

/-! ## Values -/

/-- No success for too long: the value reads as a read timeout, which is logged once (13 R409). -/
def Dev.sbStale (s : Dev) (p : Fin 8) (e : Fin 32) (late : Bool) : Dev :=
  let x := s.sbEntry p e
  if !late ∨ x.rlen = 0 then s
  else
    let s := s.onSbE p e fun x => { x with timeout := true, logged := true }
    if x.logged then s else (s.report (hSb p) (sbFunc p) .warn LG_SB_VALUE_TO (mkWord [(0, 6, e.val)])).1

/-- 4 × PERIOD have passed since the last success, or since the enable (13 R409). -/
def SbEntry.late (x : SbEntry) (now : Nat) : Bool := x.time + 4 * x.period * 4000000 < now

/-- A poll fails (13 R409). -/
def Dev.sbFail (s : Dev) (p : Fin 8) (e : Fin 32) (cause : Nat) : Dev :=
  let s := (s.onSbE p e fun x => { x with fails := x.fails + 1, cause }).note .trace (sbFunc p) LG_SB_FAIL (mkWord [(0, 3, cause)])
  let x := s.sbEntry p e
  s.sbStale p e (x.failN ≤ x.fails || x.late s.now)

/-- A poll succeeds with data (13 R409): an entry with RLEN 0 sets no value. -/
def Dev.sbSuccess (s : Dev) (p : Fin 8) (e : Fin 32) (data : List Byte) : Dev :=
  let x := s.sbEntry p e
  if x.rlen = 0 then s.onSbE p e fun x => { x with fails := 0, time := s.now }
  else
    let v := x.extract data
    let s := s.onSbE p e fun x => { x with x := v, valid := true, timeout := false, logged := false, fails := 0, time := s.now }
    if x.event ∧ x.x ≠ v then s.raise EV_SB_VALUE (sbFunc p) (hSbVal p e) (BitVec.ofInt 32 v) else s

/-! ## Service (13 R408) -/

/-- Which of two pieces of due work goes first: read phases, then the earliest due, ties to the lower entry. -/
def SbWork.before : SbWork → SbWork → Bool
  | .readPhase e t _ _, .readPhase f u _ _ | .entry e t, .entry f u => t < u || (t == u && e.val < f.val)
  | .readPhase _ _ _ _, _ => true
  | _, _ => false

/-- Work falls due. -/
def sbInsert (w : SbWork) : List SbWork → List SbWork
  | [] => [w]
  | x :: xs => if w.before x then w :: x :: xs else x :: sbInsert w xs

/-- A port of a working function is not STOPPED. -/
def Dev.sbUp (s : Dev) (p : Fin 8) : Bool := s.active (sbFunc p) && (s.sb p).state != 0

/-- The port serves its next piece of work, or the recovery that a descriptor asked for (13 R408, R413). -/
def Dev.sbNext (s : Dev) (p : Fin 8) : Dev :=
  let b := s.sb p
  if !s.active (sbFunc p) ∨ b.state ≠ 1 ∨ b.cur.isSome then s
  else if !b.recD.isEmpty then s.onSb p fun b => { b with state := 2 }
  else
    let entry (w : SbWork) (rest : List SbWork) : Dev :=
      match w with
      | .entry e _ =>
        s.onSb p fun b => { b with cur := some (w, b.entries[e.val]), curVoid := false, due := rest, lastHost := false }
      | .readPhase _ _ x v => s.onSb p fun b => { b with cur := some (w, x), curVoid := v, due := rest }
      | .xfer _ _ => s
    let host (w : SbWork) (rest : List SbWork) : Dev :=
      s.onSb p fun b => { b with cur := some (w, default), curVoid := false, xfers := rest, lastHost := true }
    match b.due, b.xfers with
    | [], [] => s
    | w :: ws, [] => entry w ws
    | [], x :: xs => host x xs
    | w :: ws, x :: xs =>
      match w with
      | .readPhase _ _ _ _ => entry w ws
      | _ => if b.lastHost then entry w ws else host x xs

/-- A piece of work fails with a cause (13 R405, R409, R412); `void`: the result of a rewritten entry is discarded (13 R418). -/
def Dev.sbWorkFail (s : Dev) (p : Fin 8) (cause : Nat) (void : Bool) (w : SbWork) : Dev :=
  let s := s.onSb p fun b => { b with fails := b.fails + 1, stretchSeen := b.stretchSeen || cause == 4 }
  match w with
  | .entry e _ => if void then s else s.sbFail p e cause
  | .readPhase e _ _ v => if void || v then s else s.sbFail p e cause
  | .xfer d _ =>
    s.finish 0xB2 d (if cause = 4 ∨ cause = 5 then .timeout else .peerError) (mkRes [(8, 0, 8, cause)])

/-- The transaction on the bus fails. -/
def Dev.sbCurFail (s : Dev) (p : Fin 8) (cause : Nat) : Dev :=
  let b := s.sb p
  match b.cur with
  | none => s
  | some (w, _) => (s.onSb p fun b => { b with cur := none, curVoid := false }).sbWorkFail p cause b.curVoid w

/-- A recovery has ended (13 R406): the port runs on, or is STUCK, and all its work fails. -/
def Dev.sbRecEnd (s : Dev) (p : Fin 8) (good : Bool) : Dev :=
  let b := s.sb p
  let s := s.onSb p fun b => { b with recoveries := b.recoveries + 1, recD := [] }
  let ends (st : Status) (s : Dev) : Dev := b.recD.foldl (fun s d => s.finish 0xB3 d st 0) s
  if good then
    (ends .ok ((s.onSb p fun b => { b with state := 1 }).note .info (sbFunc p) LG_SB_RECOVERED 0)).sbNext p
  else
    let s := if b.state = 3 then s
      else ((s.onSb p fun b => { b with state := 3, stuckSeen := true }).report (hSb p) (sbFunc p) .fault LG_SB_STUCK 0).1
    let s := (s.sbCurFail p 5).onSb p fun b => { b with due := [], xfers := [] }
    ends .timeout ((b.due ++ b.xfers).foldl (fun s w => s.sbWorkFail p 5 false w) s)

/-- The transaction on the bus succeeds. -/
def Dev.sbDone (s : Dev) (p : Fin 8) (data : List Byte) : Dev :=
  let b := s.sb p
  match b.cur with
  | none => s
  | some (w, x) =>
    let poll (e : Fin 32) : Dev :=
      if data.length ≠ readLen (x.check == 1) x.rlen then s
      else match x.checked data with
        | none => (s.sbCurFail p 3).sbNext p
        | some r =>
          let s := s.onSb p fun b => { b with cur := none, curVoid := false }
          (if b.curVoid then s else s.sbSuccess p e r).sbNext p
    match w with
    | .entry e _ =>
      if x.wait ≠ 0 ∧ x.wlen ≠ 0 ∧ x.rlen ≠ 0 then
        (s.onSb p fun b => { b with cur := none, curVoid := false, parked := b.parked ++ [(e, x, b.curVoid)] }).sbNext p
      else poll e
    | .readPhase e _ _ _ => poll e
    | .xfer d wdata =>
      let rlen := d.bits 24 0 16
      if data.length ≠ readLen (d.flag 21 0) rlen then s
      else match unPec (d.flag 21 0) (d.bits 20 0 7) wdata data with
        | none => (s.sbCurFail p 3).sbNext p
        | some r =>
          let bulk := if rlen = 0 then [] else [(bulkAddr d + wdata.length, r)]
          ((s.onSb p fun b => { b with cur := none }).finish 0xB2 d .ok 0 bulk).sbNext p

/-- A transaction ends on the wire (13 R405, R406). -/
def Dev.sbEnd (s : Dev) (p : Fin 8) (r : SbEnd) : Dev :=
  if !s.sbUp p ∨ (s.sb p).cur.isNone then s
  else match r with
    | .done data => s.sbDone p data
    | .addrNack => (s.sbCurFail p 1).sbNext p
    | .dataNack => (s.sbCurFail p 2).sbNext p
    | .bus => (s.sbCurFail p 6).onSb p fun b => { b with state := 2 }

/-- An entry falls due (13 R408): an occurrence that finds the last one unfinished is missed. -/
def Dev.sbDue (s : Dev) (p : Fin 8) (e : Fin 32) : Dev :=
  let b := s.sb p
  let x := s.sbEntry p e
  let mine (w : SbWork) : Bool := match w with
    | .entry f _ => f == e
    | .readPhase f _ _ v => f == e && !v
    | .xfer _ _ => false
  let busy : Bool := b.due.any mine || b.parked.any (fun q => q.1 == e && !q.2.2) || (match b.cur with
    | some (w, _) => mine w && !b.curVoid
    | none => false)
  if !s.active (sbFunc p) ∨ !x.en then s
  else
    let s := s.sbStale p e (x.late s.now)
    if busy ∨ b.state = 0 then s
    else if b.state = 3 then s.sbWorkFail p 5 false (.entry e s.now)
    else (s.onSb p fun b => { b with due := sbInsert (.entry e s.now) b.due }).sbNext p

/-- WAIT has passed since an entry's write phase (13 R408). -/
def Dev.sbWaited (s : Dev) (p : Fin 8) (e : Fin 32) : Dev :=
  let b := s.sb p
  match b.parked.find? (fun q => q.1 == e) with
  | none => s
  | some (_, x, v) =>
    if !s.sbUp p then s
    else
      let s := s.onSb p fun b => { b with parked := b.parked.eraseP fun q => q.1 == e }
      let w : SbWork := .readPhase e s.now x v
      if b.state = 3 then s.sbWorkFail p 5 false w
      else (s.onSb p fun b => { b with due := sbInsert w b.due }).sbNext p

/-- SCL has been held low for STRETCH_T (13 R405, R406): the transaction fails and recovery runs; during a recovery the port is
STUCK. -/
def Dev.sbStretch (s : Dev) (p : Fin 8) (good : Bool) : Dev :=
  if !s.sbUp p then s
  else match (s.sb p).state with
    | 1 => if (s.sb p).cur.isNone then s else (s.sbCurFail p 4).sbRecEnd p good
    | 2 => s.sbRecEnd p false
    | _ => s

/-! ## Start and stop -/

/-- Everything that a port has queued ends (13 R413). -/
def Dev.sbFlush (s : Dev) (p : Fin 8) (st : Status) : Dev :=
  let b := s.sb p
  let s := s.onSb p fun b => { b with due := [], xfers := [], cur := none, curVoid := false, parked := [], recD := [], lastHost := false }
  let one (s : Dev) (w : SbWork) : Dev := match w with
    | .xfer d _ => s.finish 0xB2 d st 0
    | _ => s
  let s := ((match b.cur with
    | some (w, _) => [w]
    | none => []) ++ b.xfers).foldl one s
  b.recD.foldl (fun s d => s.finish 0xB3 d st 0) s

/-- STOP (13 R413). -/
def Dev.sbStop (s : Dev) (p : Fin 8) : Dev := (s.sbFlush p .flushed).onSb p fun b => { b with state := 0 }

/-- START (13 R413). -/
def Dev.sbStart (s : Dev) (p : Fin 8) : Dev :=
  if (s.sb p).state ≠ 0 then s else (s.onSb p fun b => { b with state := 1 }).sbNext p

/-- Function or LK2 held (13 R417): descriptors are flushed with the function's others (16 R470), values read as timeouts. -/
def Dev.sbHold (s : Dev) (p : Fin 8) : Dev :=
  s.onSb p fun b =>
    { b with state := 0, wasRun := false, due := [], xfers := [], cur := none, curVoid := false, parked := [], recD := [], lastHost := false
             entries := b.entries.map fun x => { x with timeout := true, fails := 0 } }

/-- What the transaction on the bus writes (13 R404, R407): an entry's write phase, nothing in the read phase after a WAIT, a host
transfer's bytes. -/
def SbPort.writing (b : SbPort) : List Byte :=
  match b.cur with
  | none => []
  | some (.entry _ _, x) => writePhase (x.check == 1) x.addr x.writes x.rlen
  | some (.readPhase _ _ _ _, _) => []
  | some (.xfer d w, _) => writePhase (d.flag 21 0) (d.bits 20 0 7) w (d.bits 24 0 16)

/-- SLEEP (13 R417): a port stops; one that is RUNNING, in a recovery or not, restarts at the wake (DEDUCED, log entry 219). -/
def Dev.sbSleep (s : Dev) (p : Fin 8) : Dev :=
  let run := (s.sb p).state == 1 || (s.sb p).state == 2
  (s.sbStop p).onSb p fun b => { b with wasRun := run }

/-- The wake (13 R417). -/
def Dev.sbWake (s : Dev) (p : Fin 8) : Dev :=
  if (s.sb p).wasRun then (s.onSb p fun b => { b with wasRun := false }).sbStart p else s

/-! ## Registers (13 R415) -/

/-- SBn_STATUS. -/
def SbPort.status (b : SbPort) : Word :=
  mkWord [(0, 2, b.state), (2, 1, b.cur.isSome.toNat), (3, 1, b.stuckSeen.toNat), (4, 1, b.stretchSeen.toNat)]

/-- SBn_COUNTS. -/
def SbPort.counts (b : SbPort) : Word := mkWord [(0, 16, b.fails.toNat), (16, 16, b.recoveries.toNat)]

/-! ## Descriptors -/

/-- The port that an opcode names acts. -/
def onSbObj (f : Fin 8 → Dev → Dev × Res) (o : Obj) (s : Dev) : Dev × Res :=
  match o with
  | .sbPort p => f p s
  | _ => refuse s .badHandle

/-- The polled value that an opcode names acts. -/
def onSbValObj (f : Fin 8 → Fin 32 → Dev → Dev × Res) (o : Obj) (s : Dev) : Dev × Res :=
  match o with
  | .sbValue p e => f p e s
  | _ => refuse s .badHandle

/-- SB_CONFIG's row (13 R410). -/
def opSbConfig : OpInfo where
  op := 0xB0
  accepts := .sbPort
  needsEn := true
  fields := [(8, 0, 2), (9, 0, 8)]

/-- SB_CONFIG (13 R410). -/
def doSbConfig (d : Desc) (p : Fin 8) (s : Dev) : Dev × Res :=
  if d.bits 8 0 2 = 3 ∨ d.bits 9 0 8 = 0 then refuse s .range
  else if (s.sb p).state ≠ 0 then refuse s .busy
  else (s.onSb p fun b => { b with speed := d.bits 8 0 2, stretchT := d.bits 9 0 8 }, .ok)

/-- SB_POLL_WRITE's row (13 R411). -/
def opSbPollWrite : OpInfo where
  op := 0xB1
  accepts := .sbValue
  needsEn := true
  fields := [(8, 0, 6), (9, 0, 7), (10, 0, 3), (11, 0, 4), (12, 0, 64), (20, 0, 6), (21, 0, 5), (22, 0, 6), (23, 0, 5), (24, 0, 4)]

/-- The entry that an SB_POLL_WRITE spells (13 R411). -/
def sbEntryOf (d : Desc) : SbEntry where
  en := d.flag 8 0
  event := d.flag 8 1
  check := d.bits 8 2 2
  order := d.flag 8 4
  sign := d.flag 8 5
  addr := d.bits 9 0 7
  wlen := d.bits 10 0 3
  rlen := d.bits 11 0 4
  wdata := d.word 12
  wait := d.bits 16 0 16
  period := d.bits 18 0 16
  ofs := d.bits 20 0 3
  width := d.bits 20 3 3
  rshift := d.bits 21 0 5
  bits := d.bits 22 0 6
  lshift := d.bits 23 0 5
  failN := d.bits 24 0 4

/-- The fields of an entry lie in their ranges (13 R411). -/
def SbEntry.ok (x : SbEntry) : Bool :=
  x.check ≤ 2 && 0x08 ≤ x.addr && x.addr ≤ 0x77 && x.wlen ≤ 4 && x.rlen ≤ 8 && (x.check != 2 || x.rlen % 3 == 0)
    && 1 ≤ x.wlen + x.rlen && 1 ≤ x.period && 1 ≤ x.width && x.width ≤ 4 && (x.rlen == 0 || x.ofs + x.width ≤ x.dataLen)
    && 1 ≤ x.bits && x.bits ≤ 32 && x.lshift ≤ 16 && 1 ≤ x.failN

/-- SB_POLL_WRITE (13 R411, R418). An entry that is all zeros is not enabled. -/
def doSbPollWrite (d : Desc) (p : Fin 8) (e : Fin 32) (s : Dev) : Dev × Res :=
  let x := sbEntryOf d
  if !x.ok ∧ d.pay ≠ 0 then refuse s .range
  else
    let old := s.sbEntry p e
    let mine (w : SbWork) : Bool := match w with
      | .entry f _ => f == e
      | _ => false
    let voided (w : SbWork) : SbWork := match w with
      | .readPhase f t y v => .readPhase f t y (v || f == e)
      | w => w
    let runs : Bool := match (s.sb p).cur with
      | some (.entry f _, _) | some (.readPhase f _ _ _, _) => f == e
      | _ => false
    (s.onSb p fun b =>
      { b with entries := b.entries.set e.val { x with x := old.x, cause := old.cause, time := s.now }
               due := (b.due.filter fun w => !mine w).map voided
               parked := b.parked.map fun q => (q.1, q.2.1, q.2.2 || q.1 == e)
               curVoid := b.curVoid || runs }, .ok)

/-- SB_XFER's row (13 R412). -/
def opSbXfer : OpInfo where
  op := 0xB2
  accepts := .sbPort
  needsEn := true
  fields := bulkFields ++ [(20, 0, 7), (21, 0, 1), (22, 0, 32)]

/-- SB_XFER with the bytes it writes (13 R406, R408, R412). -/
def sbXferData (d : Desc) (data : List Byte) (p : Fin 8) (s : Dev) : Dev × Res :=
  if (s.sb p).state = 3 then (s.onSb p fun b => { b with fails := b.fails + 1 }, .done .timeout (mkRes [(8, 0, 8, 5)]))
  else
    ((s.onSb p fun b => { b with xfers := b.xfers ++ [.xfer d (data.take (d.bits 22 0 16))] }).sbNext p, .wait)

/-- SB_XFER before its data are read (13 R412). -/
def doSbXfer (d : Desc) (p : Fin 8) (s : Dev) : Dev × Res :=
  let w := d.bits 22 0 16
  let r := d.bits 24 0 16
  if !s.bulkOk d ∨ 256 < w ∨ 256 < r ∨ w + r ≠ bulkLen d then refuse s .range
  else if w = 0 then sbXferData d [] p s
  else (s, .read)

/-- SB_CTRL's row (13 R413). -/
def opSbCtrl : OpInfo where
  op := 0xB3
  accepts := .sbPort
  needsEn := true
  fields := [(8, 0, 2)]

/-- SB_CTRL (13 R413). -/
def doSbCtrl (d : Desc) (p : Fin 8) (s : Dev) : Dev × Res :=
  match d.bits 8 0 2 with
  | 0 => (s.sbStop p, .ok)
  | 1 => (s.sbStart p, .ok)
  | 2 =>
    (s.onSb p fun b =>
      { b with recD := b.recD ++ [d], state := if b.state = 3 ∨ b.cur.isSome then b.state else 2 }, .wait)
  | _ => (s.onSb p fun b => { b with fails := 0, recoveries := 0 }, .ok)

/-- SB_READ's row (13 R413). -/
def opSbRead : OpInfo where
  op := 0xB4
  accepts := .sbValue
  needsEn := true

/-- SB_READ (13 R413). -/
def doSbRead (p : Fin 8) (e : Fin 32) (s : Dev) : Dev × Res :=
  let x := s.sbEntry p e
  let old : Bool := x.rlen != 0 && (x.timeout || (x.en && x.late s.now))
  (s, .done .ok (mkRes [(8, 0, 32, wrapTo 32 x.x), (12, 0, 1, x.valid.toNat), (12, 1, 1, old.toNat),
                        (12, 2, 1, (x.rlen == 0).toNat), (13, 0, 8, x.cause), (14, 0, 16, age10ms s.now x.time)]))

/-- SB_STATUS_GET's row (13 R413). -/
def opSbStatusGet : OpInfo where
  op := 0xB5
  accepts := .sbPort
  needsEn := true

/-- SB_STATUS_GET (13 R413). -/
def doSbStatusGet (p : Fin 8) (s : Dev) : Dev × Res :=
  (s, .done .ok (mkRes [(8, 0, 32, (s.sb p).status.toNat), (12, 0, 32, (s.sb p).counts.toNat)]))

/-! ## The commands -/

/-- SB_CONFIG (opcode 0xB0, 13 R410). -/
def execSbConfig (d : Desc) (s : State) : Host.Outcome State Fault Refusal := .next (s.desc opSbConfig d (onSbObj (doSbConfig d)))

/-- SB_POLL_WRITE (opcode 0xB1, 13 R411). -/
def execSbPollWrite (d : Desc) (s : State) : Host.Outcome State Fault Refusal :=
  .next (s.desc opSbPollWrite d (onSbValObj (doSbPollWrite d)))

/-- SB_XFER (opcode 0xB2, 13 R412). -/
def execSbXfer (d : Desc) (s : State) : Host.Outcome State Fault Refusal := .next (s.desc opSbXfer d (onSbObj (doSbXfer d)))

/-- SB_CTRL (opcode 0xB3, 13 R413). -/
def execSbCtrl (d : Desc) (s : State) : Host.Outcome State Fault Refusal := .next (s.desc opSbCtrl d (onSbObj (doSbCtrl d)))

/-- SB_READ (opcode 0xB4, 13 R413). -/
def execSbRead (d : Desc) (s : State) : Host.Outcome State Fault Refusal := .next (s.desc opSbRead d (onSbValObj doSbRead))

/-- SB_STATUS_GET (opcode 0xB5, 13 R413). -/
def execSbStatusGet (d : Desc) (s : State) : Host.Outcome State Fault Refusal := .next (s.desc opSbStatusGet d (onSbObj doSbStatusGet))

/-- SB_ENTRY_DUE (13 R408). -/
def execSbEntryDue (p : Fin 8) (e : Fin 32) (s : State) : Host.Outcome State Fault Refusal := .next (s.onDev fun v => v.sbDue p e)

/-- SB_WAIT_EXPIRY (13 R408). -/
def execSbWaitExpiry (p : Fin 8) (e : Fin 32) (s : State) : Host.Outcome State Fault Refusal :=
  .next (s.onDev fun v => v.sbWaited p e)

/-- SB_TRANSACTION_END (13 R405, R409). -/
def execSbTransactionEnd (p : Fin 8) (r : SbEnd) (s : State) : Host.Outcome State Fault Refusal :=
  .next (s.onDev fun v => v.sbEnd p r)

/-- STRETCH_T_EXPIRY (13 R405, R406), with the outcome of the recovery that follows it. -/
def execStretchTExpiry (p : Fin 8) (recovered : Bool) (s : State) : Host.Outcome State Fault Refusal :=
  .next (s.onDev fun v => v.sbStretch p recovered)

/-- SB_RECOVERY_TIMER (13 R406): the recovery of a RECOVERING port ends, a STUCK port repeats it, or a running port has found SDA low
on an idle bus. -/
def execSbRecoveryTimer (p : Fin 8) (recovered : Bool) (s : State) : Host.Outcome State Fault Refusal :=
  .next (s.onDev fun v => if v.sbUp p then v.sbRecEnd p recovered else v)

end Sys2Proof.Machine
end

