-- ==== Sys2Proof/Machine/Fan.lean ====
section
/-! DEFINITION. The fans, functions 30 to 41: tachometer, states, stalls, host loss and the fan opcodes of class 0x7
(09_fans_dampers.md). -/

namespace Sys2Proof.Machine

/-! ## States -/

/-- The code of a fan's state (09 R260). -/
def FanState.num : FanState → Nat
  | .disabled => 0 | .stopped => 1 | .kick => 2 | .run => 3 | .open_ => 4 | .backoff => 5 | .locked => 6 | .full => 7

/-- The loop that a fan names. -/
abbrev Fan.loopNo (f : Fan) : Fin 144 := ix 143 f.loop

/-- The fan function works: its function and the engine of its loop (01 R16, 09 R282). -/
def Dev.fanLive (s : Dev) (n : Fin 12) : Bool :=
  (s.fans[n.val]).attached && s.active (fanFunc n) && s.active (loopFunc (s.fans[n.val]).loopNo)

/-- The attached loop is brought to the state of 09 R260, and a drive set directly is written at once. While the loop's engine is held
the drive keeps its value, and the state is applied on the engine's release (R282). -/
def Dev.fanApply (s : Dev) (n : Fin 12) : Dev :=
  let f := s.fans[n.val]
  let m := f.loopNo
  if !s.active (loopFunc m) then s
  else match f.drive with
  | some y => (s.loopGo m .manual).loopDirect m y
  | none =>
    if f.state = .open_ then
      (s.onLoop m fun l => { l with openVal := min (f.goodDuty + 6554) l.outMax }).loopGo m .open_
    else s.loopGo m .run

/-- A fan changes its state, with EV_FAN_STATE (09 R281). Entry to RUN sets s to 0 and ends the handling of a stall or a lost
tachometer; leaving RUN ends FAN_SLOW (R263, R264). -/
def Dev.fanGo (s : Dev) (n : Fin 12) (st : FanState) : Dev :=
  let f := s.fans[n.val]
  if f.state = st then s
  else
    let s := s.onFan n fun f =>
      { f with state := st, stalls := if st = .run then 0 else f.stalls, slow := false, slowOk := 0, okVals := 0, curBad := 0,
               seen := false }
    let s := s.raise EV_FAN_STATE (fanFunc n) (hFan n) (mkWord [(0, 3, st.num), (4, 3, f.state.num)])
    if st = .run then s.endErrOf (hFan n) [LG_FAN_STALL, LG_FAN_TACH_LOST]
    else if f.state = .run then s.endErrOf (hFan n) [LG_FAN_SLOW]
    else s

/-- A fan's state changes and acts on its loop. -/
def Dev.fanTo (s : Dev) (n : Fin 12) (st : FanState) : Dev := (s.fanGo n st).fanApply n

/-- The drive current: 0 normal, 1 low, 2 high, 3 unknown (09 R259, R281). -/
def Dev.fanCurrent (s : Dev) (n : Fin 12) : Nat :=
  let f := s.fans[n.val]
  match objOf f.isense with
  | some (.convResult c i) =>
    let w := (s.convs[c.val].inputs[i.val]).word
    let x := bitsOf w.toNat 10 14
    if !w.getLsbD 31 then 3 else if x < f.iMin then 1 else if f.iMax < x then 2 else 0
  | _ => 3

/-- FAN_STALL (09 R263): the fan is off; past RETRIES it locks, with FAN_LOCKED, whose class is the higher one (17 R496). -/
def Dev.fanStall (s : Dev) (n : Fin 12) : Dev :=
  let k := (s.fans[n.val]).stalls + 1
  let arg := mkWord [(0, 4, k), (8, 2, s.fanCurrent n)]
  let s := s.onFan n fun f => { f with stalls := k }
  let stall (s : Dev) : Dev := s.reportEv (hFan n) (fanFunc n) .fault LG_FAN_STALL arg EV_FAN_FAULT (hFan n) arg
  if k ≤ (s.fans[n.val]).retries then (stall s).fanTo n .backoff
  else
    let arg := mkWord [(0, 4, k)]
    (stall (s.reportEv (hFan n) (fanFunc n) .alarm LG_FAN_LOCKED arg EV_FAN_FAULT (hFan n) arg)).fanTo n .locked

/-- The states that a fan with a target starts in (09 R261). -/
def Dev.fanStart (s : Dev) (n : Fin 12) : Dev :=
  let f := s.fans[n.val]
  if f.applied = 0 then s.fanTo n .stopped
  else if f.minRpm * 65536 ≤ f.speed then s.fanTo n .run else s.fanTo n .kick

/-- The host-loss policy sends a fan to FULL (09 R261, R269), with LG_FAN_FULL; in BACKOFF from the next kick on (R283). -/
def Dev.fanFull (s : Dev) (n : Fin 12) : Dev :=
  let f := s.fans[n.val]
  let s := (s.onFan n fun f => { f with full := true }).note .info (fanFunc n) LG_FAN_FULL (mkWord [(0, 3, f.state.num)])
  if f.state = .backoff then s else s.fanTo n .full

/-- The transitions of 09 R261 that stand on the host-loss policy and on the target. Under the policy only its own retries leave FULL
(R269). -/
def Dev.fanTarget (s : Dev) (n : Fin 12) : Dev :=
  let f := s.fans[n.val]
  match f.state with
  | .stopped | .run | .open_ =>
    if f.full || s.power.policy then s.fanFull n
    else if f.state = .stopped then (if f.applied = 0 then s else s.fanStart n)
    else if f.applied = 0 then s.fanTo n .stopped
    else s
  | .kick => if f.applied = 0 && !f.full then s.fanTo n .stopped else s
  | _ => s

/-- The speed is below SLOW_PCT % of the applied target (09 R261). -/
def Fan.below (f : Fan) : Bool := f.speed * 100 < f.slowPct * f.applied * 65536

/-- What the 1 ms evaluation counts: FAN_SLOW clears after 1 s at speed; in OPEN the current's time out of its window (09 R261, R264). -/
def Dev.fanCounts (s : Dev) (n : Fin 12) : Dev :=
  let f := s.fans[n.val]
  if f.slow then
    let k := if f.below then 0 else f.slowOk + 1
    if 1000 ≤ k then (s.onFan n fun f => { f with slow := false, slowOk := 0 }).endErrOf (hFan n) [LG_FAN_SLOW]
    else s.onFan n fun f => { f with slowOk := k }
  else if f.state = .open_ then
    let c := s.fanCurrent n
    let k := if c = 1 ∨ c = 2 then f.curBad + 1 else 0
    let s := s.onFan n fun f => { f with curBad := k }
    if f.lostT ≤ k then s.fanStall n else s
  else s

/-- The evaluation of a fan (09 R261). -/
def Dev.fanEval (s : Dev) (n : Fin 12) : Dev := if s.fanLive n then (s.fanTarget n).fanCounts n else s

/-! ## Tachometer -/

/-- The tach-speed value of a revolution of T PCLK, none for one slower than 200 rpm (09 R258). -/
def tachValue (t : Nat) : Option Nat :=
  if 30000000 < t then none
  else if t < 300000 then some 0x4E200000
  else some (roundDiv (6000000000 * 65536) t).toNat

/-- A tach-speed value is set (09 R261, R269). -/
def Dev.fanValue (s : Dev) (n : Fin 12) : Dev :=
  let f := s.fans[n.val]
  if !s.fanLive n then s
  else match f.state with
    | .kick => s.fanTo n (if f.full then .full else if f.applied = 0 then .stopped else .run)
    | .full => s.onFan n fun f => { f with seen := true }
    | .open_ =>
      if f.okVals = 0 then s.onFan n fun f => { f with okVals := 1 }
      else (s.fanTo n .run).note .info (fanFunc n) LG_FAN_TACH_OK (mkWord [(0, 16, f.speed / 65536)])
    | _ => s

/-- TACH_EDGE: a filtered rising edge, timestamped in PCLK (09 R258). -/
def Dev.tachEdge (s : Dev) (n : Fin 12) : Dev :=
  let f := s.fans[n.val]
  if !s.active (fanFunc n) then s
  else
    let t := s.now / 4
    if f.edges.length ≤ f.ppr - 1 then s.onFan n fun f => { f with edges := t :: f.edges, edgeCnt := 0 }
    else if f.edges.length ≠ f.ppr ∧ f.edgeCnt + 1 < f.ppr then
      s.onFan n fun f => { f with edges := (t :: f.edges).take (f.ppr + 1), edgeCnt := f.edgeCnt + 1 }
    else
      match tachValue (t - f.edges.getD (f.ppr - 1) t) with
      | none => s.onFan n fun f => { f with edges := [], edgeCnt := 0, speed := 0, okVals := 0 }
      | some v =>
        let s := (s.onFan n fun f => { f with edges := (t :: f.edges).take (f.ppr + 1), edgeCnt := 0, speed := v }).fanValue n
        if s.fanLive n then s.fanTarget n else s

/-- TACH_EDGE (09 R258). -/
def execTachEdge (n : Fin 12) (s : State) : Host.Outcome State Fault Refusal := .next (s.onDev fun v => v.tachEdge n)

/-- KICK_TIMEOUT: KICK_T has passed. In KICK no value was set in it: a stall, but none where the target has become 0 (09 R261, R283).
In FULL it is a stall when no value was set since KICK_T began, and KICK_T begins again (R269). -/
def Dev.kickEnd (s : Dev) (n : Fin 12) : Dev :=
  let f := s.fans[n.val]
  if !s.fanLive n then s
  else match f.state with
    | .kick => if f.applied = 0 && !f.full then s.fanTo n .stopped else s.fanStall n
    | .full => if f.seen then s.onFan n fun f => { f with seen := false } else s.fanStall n
    | _ => s

/-- KICK_TIMEOUT (09 R261). -/
def execKickTimeout (n : Fin 12) (s : State) : Host.Outcome State Fault Refusal := .next (s.onDev fun v => v.kickEnd n)

/-- TACH_LOST_TIMEOUT: no edge for LOST_T (09 R258, R261). -/
def Dev.tachLost (s : Dev) (n : Fin 12) : Dev :=
  if !s.active (fanFunc n) then s
  else
    let s := s.onFan n fun f => { f with speed := 0, edges := [], edgeCnt := 0, okVals := 0 }
    let f := s.fans[n.val]
    if f.state ≠ .run || !s.fanLive n then s
    else if s.fanCurrent n = 0 then
      let arg := mkWord [(0, 16, (clampI 0 65535 f.goodDuty).toNat)]
      let s := s.onFan n fun f => { f with tachLost := true }
      (s.reportEv (hFan n) (fanFunc n) .fault LG_FAN_TACH_LOST arg EV_FAN_FAULT (hFan n) arg).fanTo n .open_
    else s.fanStall n

/-- TACH_LOST_TIMEOUT (09 R261). -/
def execTachLostTimeout (n : Fin 12) (s : State) : Host.Outcome State Fault Refusal := .next (s.onDev fun v => v.tachLost n)

/-- BACKOFF_END: the fan kicks again, or locks (09 R261, R263). -/
def Dev.backoffEnd (s : Dev) (n : Fin 12) : Dev :=
  let f := s.fans[n.val]
  if f.state ≠ .backoff || !s.fanLive n then s
  else if f.stalls ≤ f.retries then s.fanTo n .kick
  else
    let arg := mkWord [(0, 4, f.stalls)]
    (s.reportEv (hFan n) (fanFunc n) .alarm LG_FAN_LOCKED arg EV_FAN_FAULT (hFan n) arg).fanTo n .locked

/-- BACKOFF_END (09 R263). -/
def execBackoffEnd (n : Fin 12) (s : State) : Host.Outcome State Fault Refusal := .next (s.onDev fun v => v.backoffEnd n)

/-- FAN_SLOW_TIMEOUT: the speed has been below SLOW_PCT % of the applied target for SLOW_T (09 R261, R264). -/
def Dev.fanSlow (s : Dev) (n : Fin 12) : Dev :=
  let f := s.fans[n.val]
  if f.state = .run && s.fanLive n && f.below && !f.slow then
    ((s.onFan n fun f => { f with slow := true, slowOk := 0 }).report (hFan n) (fanFunc n) .warn LG_FAN_SLOW
      (mkWord [(0, 16, f.speed / 65536)])).1
  else s

/-- FAN_SLOW_TIMEOUT (09 R264). -/
def execFanSlowTimeout (n : Fin 12) (s : State) : Host.Outcome State Fault Refusal := .next (s.onDev fun v => v.fanSlow n)

/-! ## Class 0x7, fans -/

def opFanConfig : OpInfo :=
  { op := 0x70, accepts := .fan, needsEn := true,
    fields := [(8, 0, 8), (9, 0, 8), (10, 0, 1), (10, 4, 4), (11, 0, 3), (12, 0, 32), (16, 0, 16), (18, 0, 16), (20, 0, 8), (21, 0, 8),
               (22, 0, 8), (23, 0, 8), (24, 0, 16), (26, 0, 16), (28, 0, 16), (30, 0, 16)] }
def opFanBands : OpInfo := { op := 0x71, accepts := .fan, needsEn := true, fields := [(8, 0, 128)] }
def opFanSet : OpInfo := { op := 0x72, accepts := .fan, needsEn := true, fields := [(8, 0, 32)] }
def opFanCtrl : OpInfo := { op := 0x73, accepts := .fan, needsEn := true, fields := [(8, 0, 2)] }
def opFanStatusGet : OpInfo := { op := 0x74, accepts := .fan, needsEn := true }

/-- An opcode on a fan. -/
def onFanObj (f : Fin 12 → Dev → Dev × Res) : Obj → Dev → Dev × Res
  | .fan n, s => f n s
  | _, s => refuse s .badHandle

/-- The ranges of FAN_CONFIG (09 R271). -/
def fanConfigBad (d : Desc) : Bool :=
  let b := fun (o lo hi : Nat) => d.bits o 0 8 < lo || hi < d.bits o 0 8
  let h := fun (o lo hi : Nat) => d.bits o 0 16 < lo || hi < d.bits o 0 16
  b 8 0 143 || b 9 0 47 || d.bits 11 0 3 < 1 || 4 < d.bits 11 0 3
    || (d.word 12 != 0 && !isResult (d.word 12))
    || h 16 200 (d.bits 18 0 16) || h 18 0 20000 || b 20 1 50 || b 21 1 8 || b 22 10 90 || b 23 1 60 || h 24 50 5000
    || h 26 0 16383 || h 28 (d.bits 26 0 16) 16383 || (if d.flag 10 0 then h 30 16 4096 else h 30 0 0)

/-- FAN_CONFIG (09 R271). -/
def doFanConfig (d : Desc) (n : Fin 12) (s : Dev) : Dev × Res :=
  if fanConfigBad d then refuse s .range
  else if (s.fans[n.val]).state ≠ .disabled then refuse s .busy
  else
    ((s.onFan n fun f =>
      { f with loop := d.bits 8 0 8, ch := d.bits 9 0 8, triac := d.flag 10 0, tfilt := d.bits 10 4 4, ppr := d.bits 11 0 3,
               isense := d.word 12, minRpm := d.bits 16 0 16, maxRpm := d.bits 18 0 16, kickT := d.bits 20 0 8,
               retries := d.bits 21 0 8, slowPct := d.bits 22 0 8, slowT := d.bits 23 0 8, lostT := d.bits 24 0 16,
               iMin := d.bits 26 0 16, iMax := d.bits 28 0 16, gateW := d.bits 30 0 16, edges := [], edgeCnt := 0 }).fanForm n, .ok)

/-- LO of a band in a FAN_BANDS (09 R272). -/
def bandLo (d : Desc) (k : Nat) : Nat := d.bits (8 + 4 * k) 0 16

/-- HI of a band. -/
def bandHi (d : Desc) (k : Nat) : Nat := d.bits (10 + 4 * k) 0 16

/-- The bands that a FAN_BANDS uses, in their order. -/
def bandsUsed (d : Desc) : List (Nat × Nat) :=
  ((List.range 4).map fun k => (bandLo d k, bandHi d k)).filter fun b => b != (0, 0)

/-- Used bands are in the limits, ascending and disjoint (09 R272). -/
def bandsOk (f : Fan) : Nat → List (Nat × Nat) → Bool
  | _, [] => true
  | low, b :: bs => low ≤ b.1 && b.1 < b.2 && b.2 ≤ f.maxRpm && bandsOk f b.2 bs

/-- FAN_BANDS (09 R272). -/
def doFanBands (d : Desc) (n : Fin 12) (s : Dev) : Dev × Res :=
  let f := s.fans[n.val]
  if !bandsOk f f.minRpm (bandsUsed d) then refuse s .range
  else
    ((s.onFan n fun f => { f with lo := Vector.ofFn fun k : Fin 4 => bandLo d k.val, hi := Vector.ofFn fun k : Fin 4 => bandHi d k.val }).fanForm n,
     .ok)

/-- The host-loss policy ends for a fan (09 R269): from FULL it goes on as its target and speed say, with its drive on its engine's release
where that is held (R282). -/
def Dev.fanPolicyEnd (s : Dev) (n : Fin 12) : Dev :=
  let f := s.fans[n.val]
  let s := s.onFan n fun f => { f with full := false }
  if f.full && f.state == .full && f.attached && s.active (fanFunc n) then s.fanStart n else s

/-- FAN_SET (09 R269, R273). -/
def doFanSet (d : Desc) (n : Fin 12) (s : Dev) : Dev × Res :=
  let f := s.fans[n.val]
  if (s.ownerOf (hFan n)).isSome then refuse s .conflict
  else
    let s :=
      if f.full && s.power.policy then s
      else (((s.onFan n fun f => { f with target := d.bits 8 0 32 }).fanForm n).fanPolicyEnd n)
    (s, .done .ok (mkRes [(8, 0, 32, f.target), (12, 0, 32, (s.fans[n.val]).applied * 65536)]))

/-- A fan's loop and channel meet 09 R256 and R257. -/
def Dev.fanFits (s : Dev) (n : Fin 12) : Bool :=
  let f := s.fans[n.val]
  let l := s.loops[f.loopNo.val]
  let p := s.pwms[(ix 47 f.ch).val]
  l.bound && l.trig == 0 && l.spSrc == 2 && l.input == mkHandle 1 0x07 n.val && l.output == hPwm (ix 47 f.ch)
    && (if f.triac then p.amode && p.half else !p.amode)

/-- A loop is owned already: attached, enabled, or the target of an enabled outer loop (09 R256, R274). -/
def Dev.loopTaken (s : Dev) (m : Fin 144) : Bool :=
  s.isAttached m || s.loops[m.val].state != .disabled || (s.ownerOf (mkHandle 1 0x02 m.val)).isSome

/-- A fan attaches its loop and stops (09 R256, R260, R263). -/
def Dev.fanAttach (s : Dev) (n : Fin 12) : Dev :=
  let s := s.onFan n fun f => { f with attached := true, wasEn := false, stalls := 0, full := false }
  let s := (s.fanForm n).loopStart (s.fans[n.val]).loopNo
  s.fanTo n .stopped

/-- A fan is disabled: its loop is detached and disabled (09 R256, R260). -/
def Dev.fanDetach (s : Dev) (n : Fin 12) : Dev :=
  let f := s.fans[n.val]
  if !f.attached then s
  else
    ((s.fanGo n .disabled).onFan n fun f => { f with attached := false, full := false }).loopStop f.loopNo

/-- FAN_CTRL (09 R274). -/
def doFanCtrl (d : Desc) (n : Fin 12) (s : Dev) : Dev × Res :=
  let f := s.fans[n.val]
  match d.bits 8 0 2 with
  | 0 => (s.fanDetach n, .ok)
  | 1 =>
    if f.state ≠ .disabled then (s, .ok)
    else if !s.fanFits n then refuse s .range
    else if s.loopTaken f.loopNo || s.pwmOwned (ix 47 f.ch) then refuse s .conflict
    else if s.loopBusy f.loopNo then refuse s .busy
    else (s.fanAttach n, .ok)
  | 2 =>
    if f.state ≠ .locked then refuse s .conflict
    else (((s.onFan n fun f => { f with stalls := 0 }).endErrOf (hFan n) [LG_FAN_LOCKED]).fanTo n .stopped, .ok)
  | _ => refuse s .range

/-- FANn_STATUS (09 R280). FULL is 0 in LOCKED (R283). -/
def Fan.status (f : Fan) : Word :=
  mkWord [(0, 3, f.state.num), (3, 1, f.slow.toNat), (4, 1, f.band.toNat), (5, 1, (f.full && f.state != .locked).toNat), (6, 1, f.tachLost.toNat),
          (8, 4, f.stalls), (16, 16, f.speed / 65536)]

/-- FAN_STATUS_GET (09 R275). -/
def doFanStatusGet (n : Fin 12) (s : Dev) : Dev × Res :=
  let f := s.fans[n.val]
  (s, .done .ok (mkRes [(8, 0, 32, f.status.toNat), (12, 0, 32, f.speed)]))

/-- FAN_CONFIG (opcode 0x70, 09 R271). -/
def execFanConfig (d : Desc) (s : State) : Host.Outcome State Fault Refusal :=
  .next (s.desc opFanConfig d (onFanObj (doFanConfig d)))

/-- FAN_BANDS (opcode 0x71, 09 R272). -/
def execFanBands (d : Desc) (s : State) : Host.Outcome State Fault Refusal :=
  .next (s.desc opFanBands d (onFanObj (doFanBands d)))

/-- FAN_SET (opcode 0x72, 09 R273). -/
def execFanSet (d : Desc) (s : State) : Host.Outcome State Fault Refusal :=
  .next (s.desc opFanSet d (onFanObj (doFanSet d)))

/-- FAN_CTRL (opcode 0x73, 09 R274). -/
def execFanCtrl (d : Desc) (s : State) : Host.Outcome State Fault Refusal :=
  .next (s.desc opFanCtrl d (onFanObj (doFanCtrl d)))

/-- FAN_STATUS_GET (opcode 0x74, 09 R275). -/
def execFanStatusGet (d : Desc) (s : State) : Host.Outcome State Fault Refusal :=
  .next (s.desc opFanStatusGet d (onFanObj doFanStatusGet))

/-! ## Host loss, holds -/

/-- The host-loss policy applies to a fan (09 R269, R283): FULL, not for a DISABLED fan; a LOCKED one stays off until CLEAR. -/
def Dev.fanHostLoss (s : Dev) (n : Fin 12) : Dev :=
  let f := s.fans[n.val]
  if !f.attached || f.state == .disabled || !s.active (fanFunc n) then s
  else if f.state = .locked then s.onFan n fun f => { f with full := true }
  else s.fanFull n

/-- The fan's function is held (09 R282): its loop is detached and disabled, s becomes 0; its drive channel is inert, which releases the
waits for its strobes (04 R114). -/
def Dev.fanHold (s : Dev) (n : Fin 12) : Dev :=
  let f := s.fans[n.val]
  let s := s.onFan n fun f =>
    { f with wasEn := f.attached || f.wasEn, attached := false, state := .disabled, stalls := 0, full := false, slow := false,
             slowOk := 0, okVals := 0, curBad := 0, seen := false, speed := 0, edges := [], edgeCnt := 0 }
  if f.attached then (s.loopStop f.loopNo).strobeGone (ix 47 f.ch) else s

/-- A loop can be attached again to the function that drives these channels: no other fan or damper has it, and no other loop or damper the
channels (09 R256). -/
def Dev.mayReturn (s : Dev) (m : Fin 144) (chs : List (Fin 48)) : Bool :=
  !s.isAttached m && chs.all fun c =>
    (s.ownerOf (hPwm c)).all (· == m)
      && (List.finRange 12).all fun k => let x := s.dampers[k.val]; !(x.attached && (x.chA == c.val || x.chB == c.val))

/-- It is released: a fan that was enabled attaches again and starts in STOPPED (09 R282). DESIGN CHOICE: where its loop and channel no
longer meet R256 and R257 it stays DISABLED (log entry 244). -/
def Dev.fanRelease (s : Dev) (n : Fin 12) : Dev :=
  let f := s.fans[n.val]
  if !f.wasEn then s
  else if s.fanFits n && s.mayReturn f.loopNo [ix 47 f.ch] then s.fanAttach n
  else s.onFan n fun f => { f with wasEn := false }

end Sys2Proof.Machine
end

