-- ==== Sys2Proof/Machine/Damper.lean ====
section
/-! DEFINITION. The dampers, functions 42 to 53: learning, travel, host loss, the damper opcodes of class 0x7, and the 1 ms evaluation
of fans and dampers (09_fans_dampers.md). -/

namespace Sys2Proof.Machine

/-- The loop that a damper names. -/
abbrev Damper.loopNo (x : Damper) : Fin 144 := ix 143 x.loop

/-- The damper function works: its function and the engine of its loop (01 R16, 09 R282). -/
def Dev.dmLive (s : Dev) (n : Fin 12) : Bool :=
  (s.dampers[n.val]).attached && s.active (dmFunc n) && s.active (loopFunc (s.dampers[n.val]).loopNo)

/-- LOOP_FEEDBACK has stopped the damper, or makes it travel (09 R268). -/
def Damper.byFeedback (x : Damper) : Bool := (x.state == .halted || x.state == .travel) && !x.failpos

/-- The attached loop follows the damper's state (09 R256, R266): RUN with the stored target, or MANUAL at the drive, written at once.
A loop in its fault state keeps it in HALTED and TRAVEL outside the host-loss policy, so that its recovery brings the damper back (R268).
While the loop's engine is held the drive keeps its value, and the state is applied on the engine's release (R282). -/
def Dev.dmApply (s : Dev) (n : Fin 12) : Dev :=
  let x := s.dampers[n.val]
  let m := x.loopNo
  let fresh (s : Dev) : Dev := s.onLoop m fun l => { l with lost := false, faultBy := 0 }
  if !s.active (loopFunc m) then s
  else match x.drive with
    | some y =>
      if x.byFeedback && (s.loops[m.val]).state.faulty then s.loopDirect m y
      else ((fresh s).loopGo m .manual).loopDirect m y
    | none => ((fresh s).loopTarget m x.target false).loopGo m .run

/-- A damper's state changes and acts on its loop. -/
def Dev.dmTo (s : Dev) (n : Fin 12) (st : DmState) : Dev := (s.dmGo n st).dmApply n

/-- The state that an enabled damper starts in (09 R266). -/
def Damper.start (x : Damper) : DmState := if x.learned then .run else .unlearned

/-! ## Learning -/

/-- A running LEARN completes (09 R278). -/
def Dev.learnDone (s : Dev) (n : Fin 12) (st : Status) (res : DWord) : Dev :=
  match (s.dampers[n.val]).learnD with
  | none => s
  | some d => (s.onDm n fun x => { x with learnD := none }).finish 0x7A d st res

/-- Learning fails (09 R267, R278): cause 1 close timeout, 2 open timeout, 3 feedback invalid, 4 span too small. -/
def Dev.learnFail (s : Dev) (n : Fin 12) (cause : Nat) : Dev :=
  let s := (s.report (hDamper n) (dmFunc n) .fault LG_DM_LEARN_FAIL (mkWord [(0, 3, cause)])).1
  (s.dmTo n .fault).learnDone n (if cause ≤ 2 then .timeout else .range) (mkRes [(8, 0, 8, cause)])

/-- An end has been reached at a raw value (09 R267). -/
def Dev.learnEnd (s : Dev) (n : Fin 12) (raw : Int) : Dev :=
  let x := s.dampers[n.val]
  if x.state = .learnClose then (s.onDm n fun x => { x with newClosed := raw, hist := [] }).dmTo n .learnOpen
  else
    let span := (raw - x.newClosed).natAbs
    if span < x.minSpan then s.learnFail n 4
    else
      let s := s.onDm n fun x => { x with calClosed := x.newClosed, calOpen := raw, learned := true, hist := [] }
      let s := s.note .info (dmFunc n) LG_DM_LEARNED (mkWord [(0, 16, min 65535 span)])
      (s.dmTo n .run).learnDone n .ok (mkRes [(8, 0, 32, wrapTo 32 x.newClosed), (12, 0, 32, wrapTo 32 raw)])

/-- The raw readings have changed by less than LEARN_BAND (09 R267). -/
def stillWithin (band : Nat) (l : List Int) : Bool := l.all fun a => l.all fun b => a - b < band

/-- One evaluation of a learning damper: a reading each 1 ms (09 R267). -/
def Dev.learnStep (s : Dev) (n : Fin 12) : Dev :=
  let r := s.dmRaw n
  if r.cls != .usable then s.learnFail n 3
  else
    let x := s.dampers[n.val]
    let hist := (r.x :: x.hist).take x.learnStill
    if x.learnStill ≤ hist.length && stillWithin x.learnBand hist then s.learnEnd n r.x
    else s.onDm n fun x => { x with hist := hist }

/-- The evaluation of a damper. -/
def Dev.dmEval (s : Dev) (n : Fin 12) : Dev :=
  if !s.active (dmFunc n) then s
  else
    let s := s.dmRefresh n
    if s.dmLive n && (s.dampers[n.val]).learning then s.learnStep n else s

/-- FAN_EVALUATION: every 1 ms each fan and each damper evaluates its state (09 R261, R270). -/
def Dev.evaluate (s : Dev) : Dev := (List.finRange 12).foldl (fun s n => (s.fanEval n).dmEval n) s

/-- FAN_EVALUATION (09 R261). -/
def execFanEvaluation (s : State) : Host.Outcome State Fault Refusal := .next (s.onDev Dev.evaluate)

/-- LEARN_TIMEOUT: a direction takes longer than LEARN_T (09 R267). -/
def Dev.learnTimeout (s : Dev) (n : Fin 12) : Dev :=
  if !s.dmLive n then s
  else match (s.dampers[n.val]).state with
    | .learnClose => s.learnFail n 1
    | .learnOpen => s.learnFail n 2
    | _ => s

/-- LEARN_TIMEOUT (09 R267). -/
def execLearnTimeout (n : Fin 12) (s : State) : Host.Outcome State Fault Refusal := .next (s.onDev fun v => v.learnTimeout n)

/-- TRAVEL_TIMEOUT: TRAVEL has run its time and ends in HALTED (09 R266, R268). -/
def Dev.travelEnd (s : Dev) (n : Fin 12) : Dev :=
  let x := s.dampers[n.val]
  if x.state = .travel && s.dmLive n then (s.dmGo n .halted).loopDirect x.loopNo 0 else s

/-- TRAVEL_TIMEOUT (09 R268). -/
def execTravelTimeout (n : Fin 12) (s : State) : Host.Outcome State Fault Refusal := .next (s.onDev fun v => v.travelEnd n)

/-! ## Class 0x7, dampers -/

def opDamperConfig : OpInfo :=
  { op := 0x78, accepts := .damper, needsEn := true,
    fields := [(8, 0, 8), (9, 0, 8), (10, 0, 8), (11, 0, 3), (12, 0, 32), (16, 0, 8), (17, 0, 8), (18, 0, 8), (19, 0, 8), (20, 0, 16),
               (22, 0, 16), (24, 0, 16), (26, 0, 8)] }
def opDamperSet : OpInfo := { op := 0x79, accepts := .damper, needsEn := true, fields := [(8, 0, 32)] }
def opDamperCtrl : OpInfo := { op := 0x7A, accepts := .damper, needsEn := true, fields := [(8, 0, 2)] }
def opDamperCal : OpInfo := { op := 0x7B, accepts := .damper, needsEn := true, fields := [(8, 0, 64)] }
def opDamperStatusGet : OpInfo := { op := 0x7C, accepts := .damper, needsEn := true }

/-- An opcode on a damper. -/
def onDamperObj (f : Fin 12 → Dev → Dev × Res) : Obj → Dev → Dev × Res
  | .damper n, s => f n s
  | _, s => refuse s .badHandle

/-- A feedback handle is a converter result or an encoder count (09 R265). -/
def feedbackOk (h : Word) : Bool :=
  match objOf h with
  | some (.convResult _ _) | some (.encCount _) => true
  | _ => false

/-- The ranges of DAMPER_CONFIG (09 R276). -/
def damperConfigBad (d : Desc) : Bool :=
  let b := fun (o lo hi : Nat) => d.bits o 0 8 < lo || hi < d.bits o 0 8
  let h := fun (o lo hi : Nat) => d.bits o 0 16 < lo || hi < d.bits o 0 16
  b 8 0 143 || b 9 0 47 || b 10 0 47 || !feedbackOk (d.word 12) || b 16 0 100 || b 17 10 100 || b 18 1 255 || b 19 1 255
    || h 20 1 1000 || h 22 10 5000 || h 24 16 65535 || b 26 0 20

/-- DAMPER_CONFIG (09 R276). -/
def doDamperConfig (d : Desc) (n : Fin 12) (s : Dev) : Dev × Res :=
  if damperConfigBad d then refuse s .range
  else if (s.dampers[n.val]).state ≠ .disabled then refuse s .busy
  else
    (s.onDm n fun x =>
      { x with loop := d.bits 8 0 8, chA := d.bits 9 0 8, chB := d.bits 10 0 8, brake := d.flag 11 0, failMode := d.bits 11 1 2,
               fb := d.word 12, failPos := d.bits 16 0 8, learnDrive := d.bits 17 0 8, travelT := d.bits 18 0 8,
               learnT := d.bits 19 0 8, learnBand := d.bits 20 0 16, learnStill := d.bits 22 0 16, minSpan := d.bits 24 0 16,
               driveMin := d.bits 26 0 8 }, .ok)

/-- DAMPER_SET (09 R269, R277): stored, and written to the loop in RUN; after host loss it ends the policy for the damper. -/
def doDamperSet (d : Desc) (n : Fin 12) (s : Dev) : Dev × Res :=
  let x := s.dampers[n.val]
  let t := d.s32 8
  if t < 0 ∨ 0x640000 < t then refuse s .range
  else if (s.ownerOf (hDamper n)).isSome then refuse s .conflict
  else
    let s :=
      if x.failpos && s.power.policy then s
      else
        let s := (s.onDm n fun x => { x with failpos := false }).dmStore n t
        if x.failpos && x.attached && s.active (dmFunc n) then s.dmTo n x.start else s
    (s, .done .ok (mkRes [(8, 0, 32, wrapTo 32 x.target)]))

/-- A damper's loop and channels meet 09 R256 and R257. -/
def Dev.dmFits (s : Dev) (n : Fin 12) : Bool :=
  let x := s.dampers[n.val]
  let l := s.loops[x.loopNo.val]
  let a := s.pwms[(ix 47 x.chA).val]
  let b := s.pwms[(ix 47 x.chB).val]
  l.bound && l.trig == 0 && l.spSrc == 2 && l.input == mkHandle 1 0x09 n.val && l.output == hPwm (ix 47 x.chA)
    && x.chA != x.chB && x.chA / 8 == x.chB / 8 && !a.amode && !b.amode && a.active.period == b.active.period

/-- The host-loss policy applies to a damper (09 R269, R283). -/
def Dev.dmHostLoss (s : Dev) (n : Fin 12) : Dev :=
  let x := s.dampers[n.val]
  if !x.attached || x.state == .disabled || !s.active (dmFunc n) then s
  else
    let s := (s.learnDone n .flushed 0).dmRefresh n
    let s := (s.onDm n fun x => { x with failpos := true, hist := [] }).note .info (dmFunc n) LG_DM_FAILPOS
      (mkWord [(0, 2, x.failMode)])
    let y := s.dampers[n.val]
    if 2 ≤ x.failMode then s.dmTo n .travel
    else if y.posCls != .usable then s.dmTo n .halted
    else
      let t : Int := if x.failMode = 0 then x.failPos * 65536 else clampI 0 0x640000 y.pos
      (s.onDm n fun x => { x with target := t }).dmTo n .run

/-- A damper attaches its loop and enters RUN or UNLEARNED (09 R256, R266); its loop then looks at its source (R268), and the host-loss policy
applies to it while it is in force (R269). -/
def Dev.dmAttach (s : Dev) (n : Fin 12) : Dev :=
  let s := s.onDm n fun x => { x with attached := true, wasEn := false, failpos := false }
  let s := s.dmRefresh n
  let s := s.dmGo n (s.dampers[n.val]).start
  let m := (s.dampers[n.val]).loopNo
  let s := ((s.loopBegin m).dmApply n).loopSource m
  if s.power.policy then s.dmHostLoss n else s

/-- A damper is disabled: a running LEARN is abandoned, its loop is detached and disabled (09 R256, R266, R278). -/
def Dev.dmDetach (s : Dev) (n : Fin 12) : Dev :=
  let x := s.dampers[n.val]
  if !x.attached then s
  else
    let s := (s.learnDone n .flushed 0).dmGo n .disabled
    (s.onDm n fun x => { x with attached := false, failpos := false, hist := [] }).loopStop x.loopNo

/-- DAMPER_CTRL (09 R278). -/
def doDamperCtrl (d : Desc) (n : Fin 12) (s : Dev) : Dev × Res :=
  let x := s.dampers[n.val]
  match d.bits 8 0 2 with
  | 0 => (s.dmDetach n, .ok)
  | 1 =>
    if x.state ≠ .disabled then (s, .ok)
    else if !s.dmFits n then refuse s .range
    else if s.loopTaken x.loopNo || s.pwmOwned (ix 47 x.chA) || s.pwmOwned (ix 47 x.chB) then refuse s .conflict
    else if s.loopBusy x.loopNo then refuse s .busy
    else (s.dmAttach n, .ok)
  | 2 =>
    if x.state = .disabled ∨ x.state = .travel ∨ x.failpos ∨ s.power.policy then refuse s .conflict
    else if x.learning then refuse s .busy
    else ((s.onDm n fun x => { x with hist := [], learnD := some d }).dmTo n .learnClose, .wait)
  | _ =>
    if x.state ≠ .fault then refuse s .conflict
    else ((s.endErrOf (hDamper n) [LG_DM_LEARN_FAIL]).dmTo n x.start, .ok)

/-- DAMPER_CAL (09 R279). -/
def doDamperCal (d : Desc) (n : Fin 12) (s : Dev) : Dev × Res :=
  let x := s.dampers[n.val]
  if (d.s32 8 - d.s32 12).natAbs < x.minSpan then refuse s .range
  else
    (s.onDm n fun x => { x with calClosed := d.s32 8, calOpen := d.s32 12, learned := true },
     .done .ok (mkRes [(8, 0, 32, wrapTo 32 x.calClosed), (12, 0, 32, wrapTo 32 x.calOpen)]))

/-- DMn_STATUS (09 R280). -/
def Damper.status (x : Damper) : Word :=
  mkWord [(0, 3, x.state.num), (3, 1, x.learned.toNat), (4, 1, x.failpos.toNat), (5, 1, x.range.toNat), (16, 16, posQ8 x.pos)]

/-- DAMPER_STATUS_GET (09 R279). -/
def doDamperStatusGet (n : Fin 12) (s : Dev) : Dev × Res :=
  let x := s.dampers[n.val]
  (s, .done .ok (mkRes [(8, 0, 32, x.status.toNat), (12, 0, 32, wrapTo 32 x.pos)]))

/-- DAMPER_CONFIG (opcode 0x78, 09 R276). -/
def execDamperConfig (d : Desc) (s : State) : Host.Outcome State Fault Refusal :=
  .next (s.desc opDamperConfig d (onDamperObj (doDamperConfig d)))

/-- DAMPER_SET (opcode 0x79, 09 R277). -/
def execDamperSet (d : Desc) (s : State) : Host.Outcome State Fault Refusal :=
  .next (s.desc opDamperSet d (onDamperObj (doDamperSet d)))

/-- DAMPER_CTRL (opcode 0x7A, 09 R278). -/
def execDamperCtrl (d : Desc) (s : State) : Host.Outcome State Fault Refusal :=
  .next (s.desc opDamperCtrl d (onDamperObj (doDamperCtrl d)))

/-- DAMPER_CAL (opcode 0x7B, 09 R279). -/
def execDamperCal (d : Desc) (s : State) : Host.Outcome State Fault Refusal :=
  .next (s.desc opDamperCal d (onDamperObj (doDamperCal d)))

/-- DAMPER_STATUS_GET (opcode 0x7C, 09 R279). -/
def execDamperStatusGet (d : Desc) (s : State) : Host.Outcome State Fault Refusal :=
  .next (s.desc opDamperStatusGet d (onDamperObj doDamperStatusGet))

/-! ## Host loss, holds -/

/-- The damper's function is held (09 R282); its drive channels are inert, which releases the waits for their strobes (04 R114). -/
def Dev.dmHold (s : Dev) (n : Fin 12) : Dev :=
  let x := s.dampers[n.val]
  let s := (s.learnDone n .flushed 0).onDm n fun x =>
    { x with wasEn := x.attached || x.wasEn, attached := false, state := .disabled, failpos := false, hist := [] }
  if x.attached then ((s.loopStop x.loopNo).strobeGone (ix 47 x.chA)).strobeGone (ix 47 x.chB) else s

/-- It is released: a damper that was enabled attaches again (09 R282). DESIGN CHOICE: where its loop and channels no longer meet R256 and R257
it stays DISABLED (log entry 244). -/
def Dev.dmRelease (s : Dev) (n : Fin 12) : Dev :=
  let x := s.dampers[n.val]
  if !x.wasEn then s
  else if s.dmFits n && s.mayReturn x.loopNo [ix 47 x.chA, ix 47 x.chB] then s.dmAttach n
  else s.onDm n fun x => { x with wasEn := false }

/-- A damper applies its state to its restarted loop (09 R282). DESIGN CHOICE: one that LOOP_FEEDBACK had stopped goes on as on ENABLE, unless
its loop has raised it again at the restart (log entry 245). -/
def Dev.dmReturn (s : Dev) (n : Fin 12) : Dev :=
  let x := s.dampers[n.val]
  if x.byFeedback && !(s.loops[x.loopNo.val]).state.faulty then s.dmTo n x.start else s.dmApply n

/-- LEe is released: fans and dampers apply their states to their restarted loops (09 R282). -/
def Dev.motorsApply (s : Dev) (e : Fin 6) : Dev :=
  (List.finRange 12).foldl (fun s n =>
    let s := if (s.fans[n.val]).attached && (s.fans[n.val]).loop / 24 == e.val then s.fanApply n else s
    if (s.dampers[n.val]).attached && (s.dampers[n.val]).loop / 24 == e.val then s.dmReturn n else s) s

end Sys2Proof.Machine
end

