-- ==== Sys2Proof/Machine/Zone.lean ====
section
/-! DEFINITION. The zone sequencer and its schedules, function 15: inputs, modes, targets, the dew point, overrides and the opcodes of
class 0x4 (06_zones_schedules.md). -/

namespace Sys2Proof.Machine

/-- A zone's handle (06 R195). -/
abbrev hZone (z : Fin 16) : Word := mkHandle 4 0x01 z.val

/-- A change of a zone. -/
def Dev.onZone (s : Dev) (z : Fin 16) (f : Zone → Zone) : Dev := { s with zones := vmod s.zones z f }

/-- 0.5 in Q16.16, the threshold of presence and window (06 R173). -/
abbrev half : Int := 32768

/-! ## Inputs -/

/-- An input gives a value: bound, not lost, and one has come (06 R173, R174). -/
def ZoneIn.have_ (i : ZoneIn) : Option Int := if i.handle = 0 ∨ i.lost then none else i.value

/-- An input is lost (06 R174). -/
def Dev.zoneLose (s : Dev) (z : Fin 16) (k : Fin 6) : Dev :=
  if (s.zones[z.val].ins[k.val]).lost then s
  else
    ((s.onZone z fun x => { x with ins := vmod x.ins k fun i => { i with lost := true } }).report (hZone z) 15 .warn LG_ZONE_INPUT
      (mkWord [(0, 4, z.val), (8, 3, k.val)])).1

/-- An input is read and judged by the classes of 05 R140 (06 R174). -/
def Dev.zoneRead (s : Dev) (z : Fin 16) (k : Fin 6) : Dev :=
  let i := s.zones[z.val].ins[k.val]
  if i.handle = 0 then s
  else
    let r := s.reading i.handle
    let stale := r.count.isSome && r.count == i.refCount
    let set := fun (f : ZoneIn → ZoneIn) =>
      s.onZone z fun x => { x with ins := vmod x.ins k fun i => f { i with refCount := if r.count.isSome then r.count else i.refCount } }
    let bad :=
      let s := set fun i => { i with bad := i.bad + 1 }
      if 3 ≤ i.bad + 1 then s.zoneLose z k else s
    match r.cls with
    | .reset => s.zoneLose z k
    | .usable =>
      if stale then bad
      else set fun i => { i with value := some (sat32 (roundDiv ((r.x - i.ofs) * i.gain) 65536)), bad := 0, lost := false }
    | .transient => if stale then bad else set id
    | .bad _ => bad

/-! ## Schedule -/

/-- MINUTE of a point; 2047 is unused (06 R192). -/
def pointMinute (p : BitVec 16) : Nat := bitsOf p.toNat 0 11

/-- MODE of a point. -/
def pointMode (p : BitVec 16) : Nat := bitsOf p.toNat 11 3

/-- The used point of a day type with the largest MINUTE not above `t`: its place (06 R183). -/
def Zone.pointBy (x : Zone) (day t : Nat) : Option (Nat × Nat) :=
  (List.range 8).foldl (fun (acc : Option (Nat × Nat)) p =>
    let m := pointMinute (x.sched8.toList.getD (8 * day + p) 0x07FF)
    if m = 2047 ∨ t < m then acc
    else match acc with
      | some a => if pointMinute (x.sched8.toList.getD (8 * a.1 + a.2) 0x07FF) < m then some (day, p) else acc
      | none => some (day, p)) none

/-- The day type of the current day (06 R182). -/
def Dev.dayType (s : Dev) (z : Fin 16) : Nat :=
  let c := s.hollow.cal
  match s.dates.toList.find? (fun e =>
      e.en && e.day == c.day.toNat && e.month == c.month.toNat && (e.year == 255 || e.year == c.year.toNat) && e.zones.getLsbD z.val) with
  | some e => e.dayType
  | none => c.weekday.toNat % 7

/-- The current point (06 R183): in the current day type, or else the last one of the days before. -/
def Dev.currentPoint (s : Dev) (z : Fin 16) : Option (Nat × Nat) :=
  let c := s.hollow.cal
  let x := s.zones[z.val]
  let w := c.weekday.toNat % 7
  match x.pointBy (s.dayType z) (c.hour.toNat * 60 + c.minute.toNat) with
  | some p => some p
  | none => ((List.range 7).map fun j => (w + 6 - j) % 7).findSome? fun d => x.pointBy d 2046

/-- The scheduled mode of a current point (06 R183). -/
def Zone.pointsMode (x : Zone) (p : Option (Nat × Nat)) : Nat :=
  match p with
  | some a => pointMode (x.sched8.toList.getD (8 * a.1 + a.2) 0x07FF)
  | none => x.defMode

/-! ## The dew point -/

/-- 2^40, the scale of the logarithm. -/
abbrev lnS : Int := 1099511627776

/-- The atanh series of z, scaled (|z| ≤ 1/3): `k` terms from z^i / i on. -/
def atanhGo : Nat → Int → Int → Int → Int
  | 0, _, _, _ => 0
  | k + 1, z, pw, i => pw / i + atanhGo k z (pw * z / lnS * z / lnS) (i + 2)

/-- ln(n / 6 553 600), scaled, for n from 65 536 to 6 553 600: n is doubled until it lies in the upper half. -/
def lnGo : Nat → Nat → Int
  | 0, n => let z : Int := ((n : Int) - 6553600) * lnS / ((n : Int) + 6553600); 2 * atanhGo 16 z z 1
  | k + 1, n => if n < 3276800 then lnGo k (2 * n) - 762123384786 else lnGo 0 n

/-- The dew point of 06 R180 in Q16.16 °C, for T and RH in Q16.16, less than 1.5/65536 K from the formula. -/
def dewFormula (t rh : Int) : Int :=
  let g := lnGo 7 (clampI 65536 6553600 rh).toNat + 1762 * t * lnS / (24312 * 65536 + 100 * t)
  24312 * 65536 * g / (1762 * lnS - 100 * g)

/-- The device's dew point (06 R180): within ±0.1 K of the formula for T from -10 to +50 °C, a free value elsewhere. -/
def dewPoint (n : Nat) (t rh : Int) : Int :=
  if -655360 ≤ t ∧ t ≤ 3276800 then dewFormula t rh + clampI (-6552) 6552 (Config.dewError n) else Config.dewOutside n

/-! ## The cycle -/

/-- A presence or window reading is true; `dflt` where there is none (06 R173). -/
def ZoneIn.isTrue (i : ZoneIn) (dflt : Bool) : Bool :=
  match i.have_ with
  | some v => decide (half ≤ v)
  | none => dflt

/-- Presence and window of a cycle (06 R175). -/
def Zone.sense (x : Zone) : Zone :=
  let here := (x.ins[3]).isTrue true
  let absent := if here then 0 else x.absentFor + 1
  let run := if (x.ins[4]).isTrue false then x.openFor + 1 else 0
  { x with absentFor := absent, present := here || (x.present && absent < x.presDelay * 60), openFor := run,
           winOpen := x.winDelay < run }

/-- The end of an override that falls due in this cycle, as the ARG of its event (06 R185, R197). -/
def Zone.ovrEnds (x : Zone) (ticks : Nat) (timeOk : Bool) (point : Option (Nat × Nat)) : Option Nat :=
  match x.ovr with
  | none => none
  | some o =>
    if o.expiry = 0 then (if o.deadline ≤ ticks then some 0 else none)
    else if o.expiry = 1 && x.schedEn then
      if !timeOk then some 1
      else match o.point with
        | none => none
        | some p => if p = point then none else some 1
    else none

/-- An override ends, with EV_ZONE_OVR_END (06 R185). -/
def Dev.ovrEnd (s : Dev) (z : Fin 16) (why : Nat) : Dev :=
  (s.onZone z fun x => { x with ovr := none, ovrAct := false }).raise EV_ZONE_OVR_END 15 (hZone z) (mkWord [(0, 2, why)])

/-- The mode before presence, override and window, and its reason (06 R177, R183, R184). -/
def Zone.baseMode (x : Zone) (timeOk : Bool) (point : Option (Nat × Nat)) : Nat × Nat :=
  if x.schedEn then (if timeOk then (x.pointsMode point, 0) else (x.noMode, 2)) else (x.defMode, 1)

/-- The resolved mode and its reason (06 R177): 0 SCHEDULE, 1 DEFAULT, 2 NOTIME, 3 PRESENCE, 4 OVERRIDE, 5 WINDOW. -/
def Zone.resolve (x : Zone) (base : Nat × Nat) : Nat × Nat :=
  let bound := x.ins[3].handle != 0
  let a :=
    if bound && base.1 == 1 && !x.present then (2, 3)
    else if bound && x.presUp && base.1 == 2 && x.present then (1, 3)
    else base
  let b := match x.ovr with
    | some o => if o.mode ≠ 7 then (o.mode, 4) else a
    | none => a
  if b.1 ≠ 0 && x.winOpen then (4, 5) else b

/-- The heating and cooling set-points of a mode, in 1/256 K (06 R176, R178). -/
def Zone.setpoints (x : Zone) (m : Nat) : Int × Int :=
  if m = 0 then (-65536, 65536)
  else
    let k : Fin 4 := ix 3 (m - 1)
    let loc := match x.ins[5].have_ with
      | some v => roundDiv v 256
      | none => 0
    let sh := if m = 4 then 0 else clampI (-x.shiftMax) x.shiftMax ((x.ovr.map Override.shift).getD 0 + loc)
    let h := x.spH[k.val] + sh
    let c := x.spC[k.val] + sh
    (h, if c < h + x.deadband then h + x.deadband else c)

/-- pct(p) of 06 R179. -/
def pct (p : Nat) : Int := roundDiv ((p * 65536 : Nat) : Int) 100

/-- The ventilation demand D (06 R179). -/
def Zone.demand (x : Zone) (m : Nat) : Int :=
  if m = 0 ∨ m = 4 then 0
  else
    let lo : Int := x.co2Lo * 65536
    let d :=
      if x.ins[2].handle ≠ 0 ∧ x.ins[2].lost then pct x.ventFail
      else clampI 0 65536 (((x.ins[2].have_).getD lo - lo) / ((x.co2Hi : Int) - x.co2Lo))
    if m = 1 then max d (pct x.ventMin) else d

/-- The value of the ventilation output (06 R179). -/
def Zone.vent (x : Zone) (d : Int) : Int := sat32 (x.outOfs + roundDiv (d * x.outGain) 65536)

/-- The dew-point target in Q16.16, and DEW_ACTIVE (06 R180); `n` numbers the free value. -/
def Zone.dewTarget (x : Zone) (n : Nat) : Int × Bool :=
  match x.ins[0].have_, x.ins[1].have_ with
  | some t, some rh =>
    let v := dewPoint n t rh + x.dewMargin * 256
    (sat32 (max (x.dewBase * 256) v), decide (x.dewBase * 256 < v))
  | _, _ => (x.dewFail * 256, false)

/-- A loop's u is above its OUT_MIN (06 R181). -/
def Dev.loopAbove (s : Dev) (h : Word) : Bool :=
  match objOf h with
  | some (.loop n) => s.loops[n.val].outMin < s.loops[n.val].u
  | _ => false

/-- SEQ (06 R181). -/
def Dev.zoneSeq (s : Dev) (x : Zone) : Nat :=
  if s.loopAbove x.outs[0].handle then 1 else if s.loopAbove x.outs[1].handle then 2 else 0

/-- An output takes a zone's write: the loop's SP_SRC is ZONE, the fan or damper is not owned (06 R172). -/
def Dev.zoneMay (s : Dev) (h : Word) : Bool :=
  match objOf h with
  | some (.loop n) | some (.loopTarget n) => s.loops[n.val].spSrc == 1
  | some (.fan _) | some (.damper _) => (s.ownerOf h).isNone
  | _ => false

/-- A value is written to an output. -/
def Dev.zoneSend (s : Dev) (h : Word) (v : Int) (jump : Bool) : Dev :=
  match objOf h with
  | some (.loop n) | some (.loopTarget n) => s.loopTarget n v jump
  | some (.fan k) => s.fanStore k v
  | some (.damper k) => s.dmStore k v
  | _ => s

/-- An output is written when its value differs, or in the first cycle; a dropped write sets OUT_BLOCKED (06 R172). -/
def Dev.zoneWrite (s : Dev) (z : Fin 16) (k : Fin 4) (v : Int) (jump : Bool) : Dev :=
  let x := s.zones[z.val]
  let o := x.outs[k.val]
  if o.handle = 0 ∨ (o.last = some v ∧ !x.fresh) then s
  else if s.zoneMay o.handle then
    (s.zoneSend o.handle v jump).onZone z fun x => { x with outs := vmod x.outs k fun o => { o with last := some v, blocked := false } }
  else
    let s := s.onZone z fun x => { x with outs := vmod x.outs k fun o => { o with blocked := true } }
    if o.blocked then s
    else (s.report (hZone z) 15 .warn LG_ZONE_OUT_BLOCKED (mkWord [(0, 4, z.val), (8, 2, k.val)])).1

/-- The override of a cycle: it ends, or takes its current point (06 R185, R197). -/
def Dev.zoneOvr (s : Dev) (z : Fin 16) (point : Option (Nat × Nat)) : Dev :=
  match (s.zones[z.val]).ovrEnds s.hollow.cnt.toNat s.timeOk point with
  | some why => s.ovrEnd z why
  | none => s.onZone z fun x =>
      { x with ovr := x.ovr.map fun o => if o.point.isNone && s.timeOk then { o with point := some point } else o }

/-- Whether the time is available, and LG_ZONE_NOTIME once for each period in which it is not (06 R184). -/
def Dev.zoneTime (s : Dev) (z : Fin 16) : Dev :=
  let x := s.zones[z.val]
  let s := s.onZone z fun x => { x with noTime := !s.timeOk, noTimeLogged := !s.timeOk }
  if !s.timeOk && !x.noTimeLogged then (s.report (hZone z) 15 .warn LG_ZONE_NOTIME (mkWord [(0, 4, z.val)])).1 else s

/-- The inputs that are lost, one bit per SEL (06 R174, R191). -/
def Zone.lostBits (x : Zone) : Nat := fieldsOf ((List.finRange 6).map fun k => (k.val, 1, (x.ins[k.val]).lost.toNat))

/-- What a cycle has written (06 R191): OUT_BLOCKED, and the heating and cooling targets, of which a dropped one is not written. DESIGN
CHOICE: an output that is unbound shows its computed target (log entry 203). -/
def Zone.wrote (x : Zone) (sp : Int × Int) : Zone :=
  { x with fresh := false, wasBlocked := x.outs.toList.any ZoneOut.blocked,
           wroteH := if x.outs[0].blocked then x.wroteH else sp.1, wroteC := if x.outs[1].blocked then x.wroteC else sp.2 }

/-- One zone's cycle (06 R171 to R185). -/
def Dev.zoneCycle (s : Dev) (z : Fin 16) : Dev :=
  if !(s.zones[z.val]).en then s
  else
    let s := (List.finRange 6).foldl (fun s k => s.zoneRead z k) s
    let s := (s.onZone z Zone.sense).zoneTime z
    let point := if s.timeOk then s.currentPoint z else none
    let s := s.zoneOvr z point
    let x := s.zones[z.val]
    let base := x.baseMode s.timeOk point
    let r := x.resolve base
    let sp := x.setpoints r.1
    let dew := x.dewTarget s.fresh
    let old := x.mode
    let jump := decide ((old = 0) ≠ (r.1 = 0))
    let s := { s with fresh := s.fresh + 1 }
    let s := s.onZone z fun x =>
      { x with mode := r.1, reason := r.2, sched := base.1, seq := s.zoneSeq x, dew := dew.2, ovrOn := x.ovr.isSome,
               ovrAct := x.ovr.isSome, wasPresent := x.present, wasLost := x.lostBits }
    let s := if old ≠ r.1 then
        s.raise EV_ZONE_MODE 15 (hZone z) (mkWord [(0, 3, r.1), (4, 3, old), (8, 3, r.2)])
      else s
    let s := if x.dew ≠ dew.2 then s.note .info 15 LG_ZONE_DEW (mkWord [(0, 4, z.val), (8, 1, dew.2.toNat)]) else s
    let s := s.zoneWrite z 0 (sp.1 * 256) jump
    let s := s.zoneWrite z 1 (sp.2 * 256) jump
    let s := s.zoneWrite z 2 dew.1 jump
    let s := s.zoneWrite z 3 (x.vent (x.demand r.1)) jump
    s.onZone z fun x => x.wrote sp

/-- A period in which the time was unavailable is over, for a zone that is not enabled too (06 R184). -/
def Dev.zoneTimeBack (s : Dev) : Dev :=
  if s.timeOk then { s with zones := s.zones.map fun x => { x with noTimeLogged := false } } else s

/-- ZONE_CYCLE: at a Hollow second boundary SC evaluates every enabled zone in ascending number (06 R171, R196). -/
def execZoneCycle (s : State) : Host.Outcome State Fault Refusal :=
  .next (s.onDev fun v => if v.active 15 then (List.finRange 16).foldl Dev.zoneCycle v.zoneTimeBack else v)

/-! ## Class 0x4 -/

/-- DESIGN CHOICE: the table of 06 R186 names no field in byte 9 bit 3 and does not call it reserved; it is taken as reserved (R7; log
entry 223). -/
def opZoneConfig : OpInfo :=
  { op := 0x40, accepts := .zone,
    fields := [(8, 0, 3), (9, 0, 3), (9, 4, 3), (10, 0, 8), (11, 0, 8), (12, 0, 16), (14, 0, 16), (16, 0, 16), (18, 0, 16), (20, 0, 8), (21, 0, 8),
               (22, 0, 16), (24, 0, 16), (26, 0, 16)] }
def opZoneSetpoints : OpInfo := { op := 0x41, accepts := .zone, fields := [(8, 0, 128)] }
def opZoneInput : OpInfo := { op := 0x42, accepts := .zone, fields := [(8, 0, 3), (12, 0, 96)] }
def opZoneOutput : OpInfo := { op := 0x43, accepts := .zone, fields := [(8, 0, 2), (12, 0, 96)] }
def opZoneOverride : OpInfo := { op := 0x44, accepts := .zone, fields := [(8, 0, 4), (9, 0, 2), (10, 0, 16), (12, 0, 16)] }
def opZoneStatusGet : OpInfo := { op := 0x45, accepts := .zone }
def opSchedWrite : OpInfo := { op := 0x46, accepts := .zone, fields := (8, 0, 3) :: (List.range 8).map fun p => (16 + 2 * p, 0, 14) }
def opSchedExcept : OpInfo :=
  { op := 0x47, accepts := .exDate, fields := [(8, 0, 5), (9, 0, 4), (10, 0, 8), (11, 0, 3), (11, 7, 1), (12, 0, 16)] }

/-- An opcode on a zone. -/
def onZoneObj (f : Fin 16 → Dev → Dev × Res) : Obj → Dev → Dev × Res
  | .zone z, s => f z s
  | _, s => refuse s .badHandle

/-- An opcode on an exception date. -/
def onDateObj (f : Fin 32 → Dev → Dev × Res) : Obj → Dev → Dev × Res
  | .exDate e, s => f e s
  | _, s => refuse s .badHandle

/-- A temperature of a descriptor is out of range: -40.0 to +80.0 °C (06, Descriptors). -/
def tempBad (t : Int) : Bool := t < -0x2800 || 0x5000 < t

/-- The ranges of ZONE_CONFIG (06 R186). -/
def zoneConfigBad (d : Desc) : Bool :=
  4 < d.bits 9 0 3 || 4 < d.bits 9 4 3 || d.bits 10 0 8 < 1 || 240 < d.bits 10 0 8 || d.bits 12 0 16 < 0x80 || 0xA00 < d.bits 12 0 16
    || 0x800 < d.bits 14 0 16 || 9999 < d.bits 16 0 16 || d.bits 18 0 16 ≤ d.bits 16 0 16 || 10000 < d.bits 18 0 16
    || 100 < d.bits 20 0 8 || 100 < d.bits 21 0 8 || 0xA00 < d.bits 22 0 16 || tempBad (d.s16 24) || tempBad (d.s16 26)

/-- A loop that an output handle names has another set-point source than ZONE (06 R186, R189). -/
def Dev.notZone (s : Dev) (h : Word) : Bool :=
  match objOf h with
  | some (.loop n) | some (.loopTarget n) => s.loops[n.val].spSrc != 1
  | _ => false

/-- What the enable of a zone starts from (06 R172, R175). -/
def Zone.begin_ (x : Zone) : Zone :=
  { x with fresh := true, present := true, absentFor := 0, openFor := 0,
           ins := x.ins.map fun i => { i with value := none, bad := 0, lost := false, refCount := none },
           outs := x.outs.map fun o => { o with last := none, blocked := false } }

/-- ZONE_CONFIG (06 R186): disabling ends the override (R185). -/
def doZoneConfig (d : Desc) (z : Fin 16) (s : Dev) : Dev × Res :=
  let x := s.zones[z.val]
  let en := d.flag 8 0
  if zoneConfigBad d then refuse s .range
  else if en && x.outs.toList.any fun o => s.notZone o.handle then refuse s .conflict
  else
    let s := s.onZone z fun x =>
      { x with en, schedEn := d.flag 8 1, presUp := d.flag 8 2, defMode := d.bits 9 0 3, noMode := d.bits 9 4 3,
               presDelay := d.bits 10 0 8, winDelay := d.bits 11 0 8, deadband := d.bits 12 0 16, shiftMax := d.bits 14 0 16,
               co2Lo := d.bits 16 0 16, co2Hi := d.bits 18 0 16, ventMin := d.bits 20 0 8, ventFail := d.bits 21 0 8,
               dewMargin := d.bits 22 0 16, dewBase := d.s16 24, dewFail := d.s16 26 }
    let s := if en && !x.en then s.onZone z Zone.begin_ else s
    (if !en && x.ovr.isSome then s.ovrEnd z 2 else s, .ok)

/-- SP_H of a pair in ZONE_SETPOINTS. -/
def pairH (d : Desc) (k : Nat) : Int := d.s16 (8 + 4 * k)

/-- SP_C of a pair. -/
def pairC (d : Desc) (k : Nat) : Int := d.s16 (10 + 4 * k)

/-- ZONE_SETPOINTS (06 R187). -/
def doZoneSetpoints (d : Desc) (z : Fin 16) (s : Dev) : Dev × Res :=
  if (List.range 4).any fun k => tempBad (pairH d k) || tempBad (pairC d k) || pairC d k < pairH d k then refuse s .range
  else
    (s.onZone z fun x => { x with spH := Vector.ofFn fun k : Fin 4 => pairH d k.val, spC := Vector.ofFn fun k : Fin 4 => pairC d k.val },
     .ok)

/-- A zone may read a handle: null, or a converter result, sensor-bus, Vale or building-bus value (06 R173). -/
def zoneInOk (h : Word) : Bool :=
  h == 0 || (match objOf h with
    | some (.convResult _ _) | some (.sbValue _ _) | some (.valeValue _ _ _) | some (.bbValue _ _) => true
    | _ => false)

/-- ZONE_INPUT (06 R188). -/
def doZoneInput (d : Desc) (z : Fin 16) (s : Dev) : Dev × Res :=
  let k := d.bits 8 0 3
  if 5 < k then refuse s .range
  else if !zoneInOk (d.word 12) then refuse s .badHandle
  else
    (s.onZone z fun x =>
      { x with ins := x.ins.set (ix 5 k).val { handle := d.word 12, gain := d.s32 16, ofs := d.s32 20 } }, .ok)

/-- A zone may write a handle at an output (06 R189). -/
def zoneOutOk (k : Nat) (h : Word) : Bool :=
  h == 0 || (match objOf h with
    | some (.loop _) => k < 3
    | some (.loopTarget _) | some (.fan _) | some (.damper _) => k == 3
    | _ => false)

/-- The loop that an output handle names. -/
def loopNamed (h : Word) : Option (Fin 144) :=
  match objOf h with
  | some (.loop n) | some (.loopTarget n) => some n
  | _ => none

/-- A loop is bound to a zone output already, be it the one that is addressed (06 R189). -/
def Dev.zoneBound (s : Dev) (h : Word) : Bool :=
  (loopNamed h).isSome && s.zones.toList.any fun x => x.outs.toList.any fun o => loopNamed o.handle == loopNamed h

/-- ZONE_OUTPUT (06 R189). -/
def doZoneOutput (d : Desc) (z : Fin 16) (s : Dev) : Dev × Res :=
  let k := d.bits 8 0 2
  let h := d.word 12
  if !zoneOutOk k h then refuse s .range
  else if s.zoneBound h || ((s.zones[z.val]).en && s.notZone h) then refuse s .conflict
  else
    (s.onZone z fun x =>
      let x := { x with outs := x.outs.set (ix 3 k).val { handle := h } }
      if k = 3 then { x with outGain := d.s32 16, outOfs := d.s32 20 } else x, .ok)

/-- ZONE_OVERRIDE (06 R185, R190): the zone must be enabled, which is checked before the fields (01 R32). -/
def doZoneOverride (d : Desc) (z : Fin 16) (s : Dev) : Dev × Res :=
  let x := s.zones[z.val]
  let m := d.bits 8 0 3
  let e := d.bits 9 0 2
  let mins := d.bits 10 0 16
  if !x.en then refuse s .disabled
  else if d.flag 8 3 then
    if m ≠ 0 ∨ e ≠ 0 ∨ mins ≠ 0 ∨ d.bits 12 0 16 ≠ 0 then refuse s .range
    else (if x.ovr.isSome then s.ovrEnd z 2 else s, .ok)
  else if m = 5 ∨ m = 6 ∨ e = 3 ∨ (e = 0 ∧ mins = 0) ∨ (e ≠ 0 ∧ mins ≠ 0) ∨ x.shiftMax < (d.s16 12).natAbs then refuse s .range
  else
    (s.onZone z fun x =>
      { x with ovr := some { mode := m, expiry := e, shift := d.s16 12, deadline := s.hollow.cnt.toNat + mins * 1966080,
                             point := none } }, .ok)

/-- A temperature limited to signed Q8.8 (06 R191). -/
def q88 (t : Int) : Nat := wrapTo 16 (clampI (-32768) 32767 t)

/-- FLAGS of ZONE_STATUS_GET (06 R191). -/
def Zone.flags (x : Zone) : Nat :=
  fieldsOf [(0, 1, x.wasPresent.toNat), (1, 1, x.winOpen.toNat), (2, 1, x.dew.toNat), (3, 1, x.ovrOn.toNat),
            (4, 1, x.wasBlocked.toNat), (5, 1, x.noTime.toNat)]

/-- The targets that ZONE_STATUS_GET shows: those last written, in OFF those of OFF (06 R191). -/
def Zone.shown (x : Zone) : Int × Int := if x.mode = 0 then (-65536, 65536) else (x.wroteH, x.wroteC)

/-- ZONE_STATUS_GET (06 R191). -/
def doZoneStatusGet (z : Fin 16) (s : Dev) : Dev × Res :=
  let x := s.zones[z.val]
  (s, .done .ok (mkRes [(8, 0, 3, x.mode), (8, 4, 3, x.sched), (9, 0, 3, x.reason), (9, 4, 2, x.seq), (10, 0, 6, x.flags),
                        (11, 0, 6, x.wasLost), (12, 0, 16, q88 x.shown.1), (14, 0, 16, q88 x.shown.2)]))

/-- A point of SCHED_WRITE. -/
def schedPoint (d : Desc) (p : Nat) : BitVec 16 := BitVec.ofNat 16 (d.bits (16 + 2 * p) 0 16)

/-- A point is acceptable (06 R192). -/
def pointOk (p : BitVec 16) : Bool :=
  if pointMinute p = 2047 then pointMode p == 0 else pointMinute p ≤ 1439 && pointMode p ≤ 4

/-- Two used points with one MINUTE (06 R192). -/
def pointsClash (d : Desc) : Bool :=
  (List.range 8).any fun a => (List.range 8).any fun b =>
    a != b && pointMinute (schedPoint d a) != 2047 && pointMinute (schedPoint d a) == pointMinute (schedPoint d b)

/-- SCHED_WRITE (06 R192). -/
def doSchedWrite (d : Desc) (z : Fin 16) (s : Dev) : Dev × Res :=
  let t := d.bits 8 0 3
  if t = 7 ∨ !((List.range 8).all fun p => pointOk (schedPoint d p)) ∨ pointsClash d then refuse s .range
  else
    (s.onZone z fun x =>
      { x with sched8 := Vector.ofFn fun i : Fin 56 => if i.val / 8 = t then schedPoint d (i.val % 8) else x.sched8[i.val] }, .ok)

/-- SCHED_EXCEPT (06 R193). -/
def doSchedExcept (d : Desc) (e : Fin 32) (s : Dev) : Dev × Res :=
  let day := d.bits 8 0 5
  let month := d.bits 9 0 4
  let year := d.bits 10 0 8
  if day = 0 ∨ month = 0 ∨ 12 < month ∨ (99 < year ∧ year ≠ 255) ∨ d.bits 11 0 3 = 7 then refuse s .range
  else
    let x : ExDate :=
      { en := d.flag 11 7, day, month, year, dayType := d.bits 11 0 3, zones := BitVec.ofNat 16 (d.bits 12 0 16) }
    ({ s with dates := s.dates.set e.val x }, .ok)

/-- ZONE_CONFIG (opcode 0x40, 06 R186). -/
def execZoneConfig (d : Desc) (s : State) : Host.Outcome State Fault Refusal :=
  .next (s.desc opZoneConfig d (onZoneObj (doZoneConfig d)))

/-- ZONE_SETPOINTS (opcode 0x41, 06 R187). -/
def execZoneSetpoints (d : Desc) (s : State) : Host.Outcome State Fault Refusal :=
  .next (s.desc opZoneSetpoints d (onZoneObj (doZoneSetpoints d)))

/-- ZONE_INPUT (opcode 0x42, 06 R188). -/
def execZoneInput (d : Desc) (s : State) : Host.Outcome State Fault Refusal :=
  .next (s.desc opZoneInput d (onZoneObj (doZoneInput d)))

/-- ZONE_OUTPUT (opcode 0x43, 06 R189). -/
def execZoneOutput (d : Desc) (s : State) : Host.Outcome State Fault Refusal :=
  .next (s.desc opZoneOutput d (onZoneObj (doZoneOutput d)))

/-- ZONE_OVERRIDE (opcode 0x44, 06 R190). -/
def execZoneOverride (d : Desc) (s : State) : Host.Outcome State Fault Refusal :=
  .next (s.desc opZoneOverride d (onZoneObj (doZoneOverride d)))

/-- ZONE_STATUS_GET (opcode 0x45, 06 R191). -/
def execZoneStatusGet (d : Desc) (s : State) : Host.Outcome State Fault Refusal :=
  .next (s.desc opZoneStatusGet d (onZoneObj doZoneStatusGet))

/-- SCHED_WRITE (opcode 0x46, 06 R192). -/
def execSchedWrite (d : Desc) (s : State) : Host.Outcome State Fault Refusal :=
  .next (s.desc opSchedWrite d (onZoneObj (doSchedWrite d)))

/-- SCHED_EXCEPT (opcode 0x47, 06 R193). -/
def execSchedExcept (d : Desc) (s : State) : Host.Outcome State Fault Refusal :=
  .next (s.desc opSchedExcept d (onDateObj (doSchedExcept d)))

/-! ## Register, reset and power -/

/-- ZONE_MODE0 and ZONE_MODE1 (06 R194). -/
def Dev.zoneModeReg (s : Dev) (k : Nat) : Word :=
  mkWord ((List.finRange 8).flatMap fun z =>
    let x := s.zones[(ix 15 (8 * k + z.val)).val]
    [(4 * z.val, 3, x.mode), (4 * z.val + 3, 1, x.ovrAct.toNat)])

/-- Function 15 is released, or wakes: the first cycle rewrites every output (06 R196). -/
def Dev.zonesRestart (s : Dev) : Dev :=
  { s with zones := s.zones.map fun x =>
      { x with fresh := true, ins := x.ins.map fun i => { i with refCount := none } } }

end Sys2Proof.Machine
end

