-- ==== Sys2Proof/Machine/Timebase.lean ====
section
/-! DEFINITION. The line-angle timebase and its calendar, function 2: crossings, acquisition, tracking, holdover, fallback, firing, and
the opcodes 0x10 to 0x13 (03_line_angle_timebase.md). -/

namespace Sys2Proof.Machine

/-- The timebase's handle (03 R89), the source of its errors (03 R99). -/
abbrev hTb : Word := 0x50200002

/-- INC at 45 Hz (03 R78). -/
abbrev incMin : Nat := 31665935

/-- INC at 65 Hz (03 R78). -/
abbrev incMax : Nat := 45739684

/-- The nominal INC (03 R86). -/
def Tb.nominalInc (t : Tb) : Nat := if t.nom60 then 42221247 else 35184372

/-- The fine angle in flu (03 R78). -/
def Tb.fine (t : Tb) : Nat := t.acc.toNat / 65536

/-- A state's code (03 R79). -/
def TbState.num : TbState → Nat
  | .off => 0 | .acquire => 1 | .locked => 2 | .holdover => 3 | .unlocked => 4 | .free => 5

/-- The angle is valid in a state, with a fallback in force (03 R79). -/
def angleValid (st : TbState) (fb : Nat) : Bool :=
  match st with
  | .locked | .holdover | .free => true
  | .unlocked => fb != 2
  | _ => false

/-- A change of the timebase. -/
def Dev.onTb (s : Dev) (f : Tb → Tb) : Dev := { s with tb := f s.tb }

/-! ## The calendar -/

/-- ANGLE has been passed in the current cycle (03 R91, R95: a passage at the moment itself is past). -/
def Tb.passed (t : Tb) (angle : Word) : Bool := angle.toNat ≤ t.fine

/-- A REPEAT 2 entry comes too late (03 R91). -/
def Tb.late (t : Tb) (cycle : BitVec 16) (angle : Word) : Bool :=
  let d := (cycle - t.cycle).toNat
  32768 ≤ d || (d == 0 && t.passed angle)

/-- k of 03 R91: the cycles after the current one in which a REPEAT 3 entry first fires. Where k is 0 and ANGLE has already passed, the
passage of the current cycle is gone and the next such cycle is DIV + 1 later. -/
def Tb.firstWait (t : Tb) (cycle : BitVec 16) (div : Nat) : Nat :=
  let n := div + 1
  (n - (t.cycle - cycle).toNat % n) % n

/-- A slot strobe reaches a Vale port (11 R320): `lk` is the function of its engine. -/
def Dev.slotStrobe (s : Dev) (lk : Nat) (arg : Byte) : Dev :=
  if 16 ≤ arg.toNat then s
  else
    let p : Fin 16 := ix 15 ((if lk = 14 then 8 else 0) + arg.toNat % 8)
    { s with vports := vmod s.vports p fun v =>
        if 8 ≤ arg.toNat then { v with slotOpen := false } else { v with slotOpen := true, noslot := false } }

/-- An event of the calendar reaches its subscriber (03 R92). -/
def Dev.calDeliver (s : Dev) (e : CalEntry) : Dev :=
  if 3 ≤ e.func ∧ e.func ≤ 5 then s.strobe (.calendar (ix 2 (e.func - 3)) e.arg)
  else if 6 ≤ e.func ∧ e.func ≤ 11 then s.loopAngle (ix 5 (e.func - 6)) e.arg
  else if e.func = 13 ∨ e.func = 14 then s.slotStrobe e.func e.arg
  else if 22 ≤ e.func ∧ e.func ≤ 29 then s.valveStrobe (ix 7 (e.func - 22)) e.arg
  else s

/-- The fine angle, moving from `a` to `b`, passes an angle (03 R93). An angle equal to `a` was passed when the angle moved to it, so that
each passage counts once. -/
def passes (a b angle : Word) : Bool := angle != a && (decide ((angle - a).toNat < (b - a).toNat) || b == angle)

/-- A move from `a` to `b` is a passage of an entry's angle (03 R93): an ANGLE equal to `a` counts too where the angle was set there and did
not move there, as at 0 in OFF and at the alignment of ACQUIRE. -/
def CalEntry.passedBy (e : CalEntry) (a b angle : Word) : Bool := passes a b angle || (e.rest && a == angle && a != b)

/-- Cycles left before the next firing of a REPEAT 3 entry, once the cycle has ended (03 R91). -/
def CalEntry.nextWait (e : CalEntry) : Nat := if e.wait = 0 then e.div else e.wait - 1

/-- An entry on a TCLK that moves the fine angle from `a` to `b`, in cycles `ca` and `cb`, at time `now` (03 R91, R93, R96): a passage makes
it due if the angle is valid, a REPEAT 2 entry in its cycle only, and a REPEAT 3 entry in every DIV + 1st cycle only. -/
def CalEntry.move (e : CalEntry) (a b : Word) (ca cb : BitVec 16) (valid : Bool) (now : Nat) : CalEntry :=
  let hit : Bool := e.passedBy a b e.angle || (e.rep == 1 && e.passedBy a b (e.angle + 0x80000000))
  let after : Bool := decide (e.angle.toNat ≤ b.toNat)
  let wait := if ca = cb then e.wait else e.nextWait
  let inCycle : Bool :=
    if e.rep = 2 then (if after then cb else ca) == e.cycle
    else if e.rep = 3 then (if after then wait else e.wait) == 0
    else true
  if !e.en then e
  else { e with due := if hit && valid && inCycle && e.due.isNone then some now else e.due, wait, rest := false }

/-- The fine angle is set, and does not move, to where it stands now: OFF, and the alignment of ACQUIRE (03 R79, R81, R93). -/
def Tb.setAngle (t : Tb) (acc : BitVec 48) : Tb := { t with acc, cal := t.cal.map fun e => { e with rest := true } }

/-- Entry `n` is the next to fire (03 R93): of those due, the ones passed earliest come first, in ascending number, 4 on one TCLK. -/
def Tb.fires (t : Tb) (n : Fin 256) (now : Nat) : Bool :=
  match t.cal[n.val].due with
  | none => false
  | some d =>
    !(t.fireAt == now && 4 ≤ t.fireCnt) && (List.finRange 256).all fun m =>
      match t.cal[m.val].due with
      | none => true
      | some x => d < x || (x == d && n ≤ m)

/-- A due entry fires: its event reaches the subscriber, and a one-shot entry is free from then on (03 R92, R93, R96). While the angle is
invalid nothing fires (03 R88). -/
def Dev.calFire (s : Dev) (n : Fin 256) : Dev :=
  let e := s.tb.cal[n.val]
  if e.due.isNone then s
  else
    let live := s.tb.valid
    let s := s.onTb fun t =>
      { t with cal := t.cal.set n.val { e with due := none, en := e.en && (e.rep != 2 || !live) }
               fireCnt := if t.fireAt = s.now then t.fireCnt + 1 else 1, fireAt := s.now }
    if live then s.calDeliver e else s

/-- CALENDAR_ENTRY_FIRE: the entry fires if it is the next to do so (03 R93). -/
def Dev.calPass (s : Dev) (n : Fin 256) : Dev := if s.tb.fires n s.now then s.calFire n else s

/-! ## Validity and state -/

/-- The angle becomes invalid: what the consumers do (03 R88); passages not fired are not made up. -/
def Dev.angleLost (s : Dev) : Dev :=
  let s := s.onTb fun t => { t with cal := t.cal.map fun e => { e with due := none } }
  let s := (List.finRange 48).foldl (fun s c => s.pwmAngleLost c) s
  let s := s.convAngleLost.valveAngleLost.loopsAngle false
  { s with vports := s.vports.map fun v => if v.slotEn then { v with noslot := true } else v }

/-- The passage of a REPEAT 2 entry has gone (03 R96): it comes too late, and its ANGLE is not one that the angle starts from. -/
def Tb.gone (t : Tb) (e : CalEntry) : Bool :=
  t.late e.cycle e.angle && !(e.rest && e.cycle == t.cycle && e.angle.toNat == t.fine)

/-- The angle becomes valid again (03 R88, R96): loops return to their events, and one-shot entries whose passage has gone are freed. -/
def Dev.angleBack (s : Dev) : Dev :=
  (s.onTb fun t =>
    { t with cal := t.cal.map fun e =>
        if e.en ∧ e.rep = 2 ∧ t.gone e then { e with en := false } else e }).loopsAngle true

/-- A change of state with its event, its log record and, where the validity of the angle changes, the consumers' part (03 R88, R99).
`fault`: an entry to UNLOCKED other than by a change of MODE (03 R87). -/
def Dev.tbGo (s : Dev) (st : TbState) (fault : Bool := true) : Dev :=
  let old := s.tb.state
  let was := s.tb.valid
  if st = old then s
  else
    let s := s.onTb fun t => { t with state := st, valid := angleValid st t.fbNow }
    let s := s.raise EV_TB_STATE 2 hTb (mkWord [(0, 3, st.num), (8, 3, old.num), (16, 8, s.tb.misses)])
    let s := match st with
      | .locked => (s.endErr hTb).note .info 2 LG_TB_LOCKED s.tb.freq
      | .holdover => (s.report hTb 2 .warn LG_TB_HOLDOVER (mkWord [(0, 16, s.tb.cycle.toNat)])).1
      | .unlocked =>
        if fault then
          (s.report hTb 2 .fault LG_TB_UNLOCKED (mkWord [(0, 2, s.tb.fallback), (8, 1, s.tb.rangeErr.toNat)])).1
        else s
      | _ => s
    if was && !s.tb.valid then s.angleLost else if !was && s.tb.valid then s.angleBack else s

/-- No crossing of the new state has come yet (03 R80). -/
def Tb.restart (t : Tb) : Tb :=
  { t with corr := 0, prevX := none, prevPer := none, goods := 0, p1 := none, lockRun := 0, slewing := false,
           xIn := 0, xOut := 0, xErr := 0, xDone := false }

/-- OFF: the angle is invalid and stands at 0 (03 R79, R90). DEDUCED: fields of a TB_CONFIG that wait for a judgement point go on waiting,
through a hold and the ACQUIRE after it, for the next one in LOCKED (log entry 191). DESIGN CHOICE: INC is 0 here (log entry 227) and MISSES
is cleared (log entry 228). -/
def Dev.tbOff (s : Dev) : Dev :=
  (s.onTb fun t => { t.restart.setAngle 0 with inc := 0, misses := 0 }).tbGo .off

/-- FREE: INC is nominal at once, the angle continues (03 R87). DESIGN CHOICE: MISSES is cleared (log entry 228). -/
def Dev.tbFree (s : Dev) : Dev :=
  (s.onTb fun t => { t.restart with inc := t.nominalInc, misses := 0 }).tbGo .free

/-- UNLOCKED, with the fallback that is in force there (03 R86, R87). DESIGN CHOICE: with STOP, INC is 0 until the alignment of the ACQUIRE
that follows (log entry 227), and MISSES stays as it is until LOCKED (log entry 228). -/
def Dev.tbUnlock (s : Dev) (fb : Nat) (fault : Bool) : Dev :=
  (s.onTb fun t =>
    { t.restart with fbNow := fb
                     inc := if fb = 2 then 0 else if fb = 1 then t.nominalInc else t.inc
                     unlocks := if fault then t.unlocks + 1 else t.unlocks
                     unlockSeen := t.unlockSeen || fault }).tbGo .unlocked fault

/-- The timebase starts as MODE directs (03 R100), unless it is held, stopped or not enabled. -/
def Dev.tbStart (s : Dev) : Dev :=
  if !s.active 2 then s
  else match s.tb.mode with
    | 1 => (s.onTb Tb.restart).tbGo .acquire
    | 2 => s.tbFree
    | _ => s

/-! ## Crossings -/

/-- A crossing's time before now, in fifths of a TCLK: the filter's delay and COMP (03 R77). -/
def Tb.delay5 (t : Tb) : Int := (t.filt * 2000 : Nat) + t.comp * 2

/-- The phase error of a crossing seen now: the fine angle at its timestamp, signed, in flu (03 R80). -/
def Tb.phase (t : Tb) : Int :=
  signed 32 (wrapTo 48 ((t.acc.toNat : Int) - (t.rate : Int) * t.delay5 / 5) / 65536)

/-- A period lies within 45 to 65 Hz, in TCLK (03 R80). -/
def inRange (per : Nat) : Bool := 400000000 ≤ per * 65 && per * 45 ≤ 400000000

/-- Two periods agree within 1 % of the second (03 R80, R81). -/
def within1 (a b : Nat) : Bool := a * 100 ≤ b * 101 && b * 99 ≤ a * 100

/-- A crossing in ACQUIRE or UNLOCKED is good, with the period it ends (03 R80). -/
def Tb.judge (t : Tb) (now : Nat) : Bool × Option Nat :=
  match t.prevX with
  | none => (true, none)
  | some x =>
    let per := now - x
    (inRange per && (match t.prevPer with
      | none => true
      | some q => within1 per q), some per)

/-- INC and its correction for the cycle that follows: a lasting part and a part for that cycle, together within 2 % of INC (03 R83). -/
def Tb.limitStep (t : Tb) (lasting corr : Int) : Int × Int :=
  let lim : Int := (t.inc / 50 : Nat)
  let a := clampI (-lim) lim lasting
  (a, clampI (-lim - a) (lim - a) corr)

/-- The proportional gain of the law of 03 R81 step 4, in 2^-16: the part of a phase error that the cycle after it takes away. A law with the
time constant of T = 2^BW cycles takes away more than 1/(T + 1) and at most 1/T of it in one cycle, and where in these bounds it lies is
free (log entry 120). -/
def gainP (bw : Nat) : Nat :=
  let lo := 65536 / (2 ^ bw + 1)
  lo + 1 + Config.trackP bw % (65536 / 2 ^ bw - lo)

/-- The integral gain of that law, in 2^-16: free within the bounds in which the law does not oscillate about its time constant: more than
0 and at most a quarter of the square of the proportional one (log entry 120). -/
def gainI (bw : Nat) : Nat := 1 + Config.trackI bw % (gainP bw * gainP bw / 262144)

/-- One tracking correction for a phase error (03 R81 step 4, R83, R85). In relock the whole error goes over the cycle that follows,
within the limit (03 R101 and its example), and INC keeps its value where the period confirms it. The manual gives the law's shape and its
time constant, 2^BW cycles, and of its gains what that constant says of them. The limit at which INC is held, if it is, comes with it: true
is that of 65 Hz. -/
def Dev.tbTrack (s : Dev) (err : Int) (relock : Bool) (per : Option Nat) : Dev × Option Bool :=
  let t := s.tb
  let confirmed := match per with
    | none => false
    | some p => p * t.inc ≤ 2 ^ 48 + t.inc && 2 ^ 48 ≤ p * t.inc + t.inc
  let part (gain : Nat) : Int := -((gain : Int) * (err * t.inc) / 2 ^ 48)
  let lasting := if relock && confirmed then 0 else part (gainI t.bw)
  let step := t.limitStep lasting (part (if relock then 65536 else gainP t.bw))
  let inc : Int := t.inc + step.1
  let rate := inc + step.2
  if rate < incMin ∨ (incMax : Int) < rate ∨ inc < incMin ∨ (incMax : Int) < inc then
    let top : Bool := (incMax : Int) < rate ∨ (incMax : Int) < inc
    (s.onTb fun t => { t with inc := if top then incMax else incMin, corr := 0, rangeErr := true }, some top)
  else
    (s.onTb fun t => { t with inc := inc.toNat, corr := step.2, corrEnd := s.now + 2 ^ 48 / max 1 inc.toNat }, none)

/-- LG_TB_RANGE, where INC was held at a limit (03 R85, R99). -/
def Dev.tbRange (s : Dev) (lim : Option Bool) : Dev :=
  match lim with
  | some top => (s.report hTb 2 .warn LG_TB_RANGE (mkWord [(0, 1, top.toNat)])).1
  | none => s

/-- A crossing of a tracking acquisition or relock (03 R81 steps 4 and 5, R83): a correction, and the count to LOCKED. -/
def Dev.tbFollow (s : Dev) (good : Bool) (per : Option Nat) : Dev :=
  if !good then s.onTb fun t => { t with lockRun := 0 }
  else
    let err := s.tb.phase
    let r := (s.onTb fun t => { t with pherr := BitVec.ofInt 16 (err / 65536) }).tbTrack err (s.tb.state == .unlocked) per
    let s := r.1.tbRange r.2
    let near : Bool := r.2.isNone && decide (err.natAbs ≤ s.tb.lockWin * 65536)
    let n := if near then s.tb.lockRun + 1 else 0
    if s.tb.lockCnt ≤ n then
      (s.onTb fun t => { t with lockRun := 0, slewing := false, misses := 0, goods := 0, p1 := none,
                                xIn := 1, xOut := 0, xErr := err, xDone := true }).tbGo .locked
    else s.onTb fun t => { t with lockRun := n }

/-- TB_PHERR at a good crossing (03 R98). -/
def Tb.noteErr (t : Tb) : Tb := { t with pherr := BitVec.ofInt 16 (t.phase / 65536) }

/-- INC from two periods (03 R81 step 3). -/
def incOf (p1 p2 : Nat) : Nat := (2 ^ 49 + (p1 + p2) / 2) / (p1 + p2)

/-- A crossing in ACQUIRE (03 R81). -/
def Dev.tbAcquire (s : Dev) (good : Bool) (per : Option Nat) : Dev :=
  let t := s.tb
  if 3 ≤ t.goods then s.tbFollow good per
  else if !good then s
  else match t.goods, per with
    | 0, _ => s.onTb fun t => { t.noteErr with goods := 1 }
    | 1, some p => s.onTb fun t => { t.noteErr with goods := 2, p1 := some p }
    | 2, some p =>
      (match t.p1 with
       | some q =>
         if within1 p q then
           let inc := max incMin (min incMax (incOf q p))
           s.onTb fun t => { t.setAngle (BitVec.ofNat 48 (wrapTo 48 ((inc : Int) * t.delay5 / 5))) with
                                    goods := 3, p1 := none, lockRun := 0, inc, pherr := 0 }
         else s.onTb fun t => { t.noteErr with goods := 1, p1 := none }
       | none => s)
    | _, _ => s

/-- A crossing in UNLOCKED (03 R86). DEDUCED: the crossing that takes STOP to ACQUIRE is itself the first good crossing of the acquisition
(log entry 192). -/
def Dev.tbRelock (s : Dev) (good : Bool) (per : Option Nat) : Dev :=
  if s.tb.fbNow = 2 then (s.onTb fun t => { t.noteErr with goods := 1 }).tbGo .acquire
  else if s.tb.goods = 0 then s.onTb fun t => { t.noteErr with goods := 1 }
  else if s.tb.slewing then s.tbFollow good per
  else if good then (s.onTb fun t => { t with slewing := true }).tbFollow true per
  else s

/-- A filtered rising crossing of LINE (03 R77, R80, R81, R86, R87). DEDUCED: one that FILT and COMP make visible only after the judgement point
of its own cycle counts in the next judgement (log entry 193). -/
def Dev.lineCross (s : Dev) : Dev :=
  match s.tb.state with
  | .off | .free => s
  | .locked | .holdover =>
    let err := s.tb.phase
    s.onTb fun t =>
      if err.natAbs ≤ t.captureWin * 65536 then { t with xIn := t.xIn + 1, xErr := err, xDone := false }
      else { t with xOut := t.xOut + 1 }
  | .acquire | .unlocked =>
    let j := s.tb.judge s.now
    let s := s.onTb fun t => { t with prevX := some s.now, prevPer := j.2 }
    if s.tb.state = .acquire then s.tbAcquire j.1 j.2 else s.tbRelock j.1 j.2

/-! ## Judgement -/

/-- The fields of a TB_CONFIG (03 R89) but for MODE. -/
def Tb.fields (t : Tb) (d : Desc) : Tb :=
  { t with nom60 := d.flag 8 2, fallback := d.bits 9 0 2, lockCnt := d.bits 10 0 8, holdMax := d.bits 11 0 8,
           lockWin := d.bits 12 0 16, captureWin := d.bits 14 0 16, comp := d.s32 16, hyst := d.bits 20 0 3,
           filt := d.bits 21 0 8, bw := d.bits 22 0 3 }

/-- A missed cycle (03 R84). -/
def Dev.tbMiss (s : Dev) : Dev :=
  if s.tb.state = .locked then (s.onTb fun t => { t with misses := 1, corr := 0 }).tbGo .holdover
  else if s.tb.holdMax < s.tb.misses + 1 then
    (s.onTb fun t => { t with misses := t.holdMax + 1 }).tbUnlock s.tb.fallback true
  else s.onTb fun t => { t with misses := t.misses + 1 }

/-- Predicted angle 0 + CAPTURE_WIN has come: the cycle is good, missed or corrupted (03 R80, R84, R85). DESIGN CHOICE: the correction of a
good cycle starts here, and lasts one cycle from here (log entry 229). Where INC is held at a limit, what the missed cycle reports, the FAULT
of UNLOCKED or LG_TB_HOLDOVER with the lower CODE, comes before LG_TB_RANGE (17 R496). -/
def Dev.judgement (s : Dev) : Dev :=
  if s.tb.state ≠ .locked ∧ s.tb.state ≠ .holdover then s
  else
    let x := s.tb
    let s := s.onTb fun t =>
      let t := { t with xIn := 0, xOut := 0, xErr := 0, xDone := false, next := none }
      (match x.next with
       | some d => t.fields d
       | none => t)
    if x.xIn = 1 ∧ x.xOut = 0 then
      let s := s.onTb fun t => { t with pherr := BitVec.ofInt 16 (x.xErr / 65536) }
      let r := if x.xDone then (s, none) else s.tbTrack x.xErr false none
      if r.2.isNone then (r.1.onTb fun t => { t with misses := 0 }).tbGo .locked else r.1.tbMiss.tbRange r.2
    else if x.xIn = 0 ∧ x.xOut = 0 then s.tbMiss
    else (s.note .trace 2 LG_TB_CORRUPT (BitVec.ofNat 32 x.xIn)).tbMiss

/-- The correction of a cycle ends with it (03 R83). -/
def Tb.endCorr (t : Tb) (now : Nat) : Tb := if t.corr ≠ 0 ∧ t.corrEnd ≤ now then { t with corr := 0 } else t

/-- One TCLK of the accumulator, with the entries whose angles it passes (03 R78, R93), at time `now`. -/
def Tb.tick (t : Tb) (now : Nat) : Tb :=
  let a := t.acc.toNat + t.rate
  if t.rate = 0 then t
  else
    let t' : Tb := { t with acc := BitVec.ofNat 48 a, cycle := if 2 ^ 48 ≤ a then t.cycle + 1 else t.cycle }
    let x := BitVec.ofNat 32 t.fine
    let y := BitVec.ofNat 32 t'.fine
    { t' with cal := t.cal.map fun e => e.move x y t.cycle t'.cycle t.valid now }

/-! ## Reset and power -/

/-- Function 2 is held, loses its enable, or stops with SLEEP or a clock (03 R100, R549): OFF, with calendar and configuration kept. -/
def Dev.tbHold (s : Dev) : Dev := s.tbOff

/-! ## Descriptors -/

/-- TB_CONFIG's row (03 R89). -/
def opTbConfig : OpInfo where
  op := 0x10
  accepts := .timebase
  fields := [(8, 0, 3), (9, 0, 2), (10, 0, 8), (11, 0, 8), (12, 0, 16), (14, 0, 16), (16, 0, 32), (20, 0, 3), (21, 0, 8), (22, 0, 3)]

/-- The fields of a TB_CONFIG lie in their ranges (03 R89). -/
def tbConfigOk (d : Desc) : Bool :=
  d.bits 8 0 2 ≤ 2 && d.bits 9 0 2 ≤ 2 && 2 ≤ d.bits 10 0 8 && d.bits 10 0 8 ≤ 32 && 1 ≤ d.bits 11 0 8 && d.bits 11 0 8 ≤ 8
    && 4 ≤ d.bits 12 0 16 && d.bits 12 0 16 ≤ 1024 && 64 ≤ d.bits 14 0 16 && d.bits 14 0 16 ≤ 8192
    && d.bits 12 0 16 < d.bits 14 0 16 && (-2000000 ≤ d.s32 16 && d.s32 16 ≤ 2000000) && d.bits 22 0 3 ≤ 5

/-- A TB_CONFIG takes effect (03 R87, R90): MODE and the nominal INC of a synthetic angle at once, other fields from the next judgement
point, which only LOCKED and HOLDOVER have. -/
def Dev.tbApply (s : Dev) (d : Desc) : Dev :=
  let old := s.tb
  let mode := d.bits 8 0 2
  let waits : Bool := mode == old.mode && (old.state == .locked || old.state == .holdover)
  let s := s.onTb fun t =>
    if waits then { t with next := some d } else { t.fields d with mode, next := none }
  if mode = old.mode then
    if s.tb.nom60 != old.nom60 && (old.state == .free || (old.state == .unlocked && old.fbNow == 1)) then
      s.onTb fun t => { t with inc := t.nominalInc, corr := 0 }
    else s
  else if mode = 0 then s.tbOff
  else if !s.active 2 then s
  else if old.mode = 0 then s.tbStart
  else if mode = 2 then s.tbFree
  else s.tbUnlock 0 false

/-- TB_CONFIG (03 R89, R90, R549). -/
def doTbConfig (d : Desc) (_ : Obj) (s : Dev) : Dev × Res :=
  let mode := d.bits 8 0 2
  if (mode = 1 ∨ mode = 2) ∧ !s.enabled 2 ∧ !s.loading then refuse s .disabled
  else if !tbConfigOk d then refuse s .range
  else (s.tbApply d, .ok)

/-- TB_STATUS_GET's row (03 R97). -/
def opTbStatusGet : OpInfo where
  op := 0x11
  accepts := .timebase

/-- TB_STATUS_GET (03 R97). -/
def doTbStatusGet (_ : Obj) (s : Dev) : Dev × Res :=
  let t := s.tb
  (s, .done .ok (mkRes [(8, 0, 32, t.freq.toNat), (12, 0, 16, t.acc.toNat / 2 ^ 32), (14, 0, 3, t.state.num),
                        (14, 3, 1, t.valid.toNat), (14, 4, 1, t.slewing.toNat), (15, 0, 8, t.misses)]))

/-- TB_EVENT_SET's row (03 R91). -/
def opTbEventSet : OpInfo where
  op := 0x12
  accepts := .angleEvent
  fields := [(8, 0, 32), (12, 0, 7), (13, 0, 2), (14, 0, 8), (15, 0, 8), (16, 0, 16)]

/-- The functions that may subscribe (03 R92). -/
def subscriber (f : Nat) : Bool := (3 ≤ f && f ≤ 11) || f == 13 || f == 14 || (22 ≤ f && f ≤ 29)

/-- The entry that an opcode names acts. -/
def onEventObj (f : Fin 256 → Dev → Dev × Res) (o : Obj) (s : Dev) : Dev × Res :=
  match o with
  | .angleEvent e => f e s
  | _ => refuse s .badHandle

/-- TB_EVENT_SET (03 R91, R95): a passage up to the moment of application belongs to the old entry, which fires for it. -/
def doTbEventSet (d : Desc) (e : Fin 256) (s : Dev) : Dev × Res :=
  let angle := d.word 8
  let rep := d.bits 13 0 2
  let div := d.bits 15 0 8
  let cycle := BitVec.ofNat 16 (d.bits 16 0 16)
  if !subscriber (d.bits 12 0 7) then refuse s .range
  else if rep = 2 ∧ s.tb.late cycle angle then refuse s .late
  else
    let x : CalEntry := { en := true, angle, func := d.bits 12 0 7, rep, arg := BitVec.ofNat 8 (d.bits 14 0 8), div, cycle
                          wait := if rep = 3 then s.tb.firstWait cycle div else 0 }
    ((s.calFire e).onTb fun t => { t with cal := t.cal.set e.val x }, .ok)

/-- TB_EVENT_CLEAR's row (03 R96). -/
def opTbEventClear : OpInfo where
  op := 0x13
  accepts := .angleEvent

/-- TB_EVENT_CLEAR (03 R96, R101): an entry passed before fires once more. -/
def doTbEventClear (e : Fin 256) (s : Dev) : Dev × Res :=
  ((s.calFire e).onTb fun t => { t with cal := vmod t.cal e fun x => { x with en := false } }, .ok)

/-! ## The commands -/

/-- TB_CONFIG (opcode 0x10, 03 R89). -/
def execTbConfig (d : Desc) (s : State) : Host.Outcome State Fault Refusal := .next (s.desc opTbConfig d (doTbConfig d))

/-- TB_STATUS_GET (opcode 0x11, 03 R97). -/
def execTbStatusGet (d : Desc) (s : State) : Host.Outcome State Fault Refusal := .next (s.desc opTbStatusGet d doTbStatusGet)

/-- TB_EVENT_SET (opcode 0x12, 03 R91). -/
def execTbEventSet (d : Desc) (s : State) : Host.Outcome State Fault Refusal :=
  .next (s.desc opTbEventSet d (onEventObj (doTbEventSet d)))

/-- TB_EVENT_CLEAR (opcode 0x13, 03 R96). -/
def execTbEventClear (d : Desc) (s : State) : Host.Outcome State Fault Refusal :=
  .next (s.desc opTbEventClear d (onEventObj doTbEventClear))

/-- LINE_CROSSING: a rising crossing leaves the filter now (03 R77, R80, R81). -/
def execLineCrossing (s : State) : Host.Outcome State Fault Refusal := .next (s.onDev Dev.lineCross)

/-- CYCLE_JUDGEMENT: the angle passes predicted 0 + CAPTURE_WIN (03 R80). -/
def execCycleJudgement (s : State) : Host.Outcome State Fault Refusal := .next (s.onDev Dev.judgement)

/-- CALENDAR_ENTRY_FIRE: an entry that is due fires (03 R93). -/
def execCalendarEntryFire (e : Fin 256) (s : State) : Host.Outcome State Fault Refusal := .next (s.onDev fun v => v.calPass e)

end Sys2Proof.Machine
end

