-- ==== Sys2Proof/Machine/Vale.lean ====
section
/-! DEFINITION. What the Vale ports share: messages and their bytes, the transmit queue, slots, violations and exclusion, trailers, the
judgement of received frames, transactions, handshakes, sessions, sweeps and assignment (11_vale_link.md, 12_vale_conversations.md). -/

namespace Sys2Proof.Machine

/-! ## Handles and access -/

/-- The function of a Vale port (11 R302). -/
abbrev valeFunc (p : Fin 16) : Nat := 66 + p.val

/-- The handle of a Vale port (11 R302), the source of its errors (11 R333, 12 R372). -/
abbrev hVale (p : Fin 16) : Word := mkHandle 2 0x07 p.val

/-- The handle of a satellite slot (01 R31). -/
abbrev hSat (p : Fin 16) (k : Fin 32) : Word := mkHandle 6 0x03 (32 * p.val + k.val)

/-- The handle of an item value (01 R31). -/
abbrev hItem (p : Fin 16) (k i : Fin 32) : Word := mkHandle 1 0x06 (1024 * p.val + 32 * k.val + i.val)

/-- A change of a port. -/
def Dev.onVP (s : Dev) (p : Fin 16) (f : VPort → VPort) : Dev := { s with vports := vmod s.vports p f }

/-- A change of a slot. -/
def Dev.onVS (s : Dev) (p : Fin 16) (k : Fin 32) (f : VSlot → VSlot) : Dev :=
  s.onVP p fun v => { v with slots := vmod v.slots k f }

/-- A slot. -/
def Dev.vslot (s : Dev) (p : Fin 16) (k : Fin 32) : VSlot := (s.vports[p.val]).slots[k.val]

/-- A session. -/
def Dev.vsess (s : Dev) (p sid : Fin 16) : Option VSess := (s.vports[p.val]).sess[sid.val]

/-- A session changed. -/
def Dev.onSess (s : Dev) (p sid : Fin 16) (f : VSess → VSess) : Dev :=
  s.onVP p fun v => { v with sess := vmod v.sess sid fun x => x.map f }

/-- A port can send and receive (11 R322). -/
def VPort.live (v : VPort) : Bool := v.state == .normal || v.state == .warn

/-- A port of a working function can send and receive. -/
def Dev.vUp (s : Dev) (p : Fin 16) : Bool := s.active (valeFunc p) && (s.vports[p.val]).live

/-- A slot's address (12 R336). -/
abbrev addrOf (k : Fin 32) : Nat := k.val + 1

/-! ## Messages on the wire -/

/-- CLASS of a message (12 R339, 11 R326). -/
def VMsg.cls : VMsg → Nat
  | .exclude | .readmit => 0
  | .read .. | .write .. => 2
  | .data .. => 3
  | .open_ .. | .sack .. | .resume .. | .close .. => 4
  | .probe .. | .assign .. | .ident | .release .. => 5
  | .chal .. | .confirm .. => 6

/-- The device's PRIO of a CLASS (11 R326, 12 R339). -/
def classPrio : Nat → Nat
  | 0 => 0 | 2 => 2 | 3 => 4 | 4 => 3 | 5 => 5 | _ => 2

/-- ACKREQ (11 R309, 12 R339). -/
def VMsg.ackReq : VMsg → Bool
  | .probe .. | .assign .. | .release .. => false
  | _ => true

/-- MSG, and the payload from byte 2 on (12 R340); link management has its code alone (11 R326). -/
def VMsg.body : VMsg → Byte × List Byte
  | .exclude => (0x01, [])
  | .readmit => (0x02, [])
  | .probe n x => (0x01, BitVec.ofNat 8 n :: bytesLE 8 x.toNat)
  | .assign u a => (0x02, bytesLE 8 u.toNat ++ [BitVec.ofNat 8 a])
  | .ident => (0x03, [])
  | .release a => (0x04, [BitVec.ofNat 8 a])
  | .chal n => (0x01, bytesLE 8 n.toNat)
  | .confirm t => (0x02, bytesLE 4 t.toNat)
  | .read t f c => (0x01, [t, BitVec.ofNat 8 f, BitVec.ofNat 8 c])
  | .write t f vs => (0x02, [t, BitVec.ofNat 8 f, BitVec.ofNat 8 vs.length] ++ vs.flatMap fun v => bytesLE 4 v.toNat)
  | .open_ i g o n => (0x01, [BitVec.ofNat 8 i, BitVec.ofNat 8 g.toNat] ++ bytesLE 2 o.toNat ++ bytesLE 4 n)
  | .sack i b m => (0x02, BitVec.ofNat 8 i :: bytesLE 2 b ++ [m])
  | .resume i b m => (0x03, BitVec.ofNat 8 i :: bytesLE 2 b ++ [m])
  | .data i n bs => (0x01, BitVec.ofNat 8 i :: bytesLE 2 n ++ bs)
  | .close i r => (0x04, [BitVec.ofNat 8 i, BitVec.ofNat 8 r])

/-- The payload of a frame of the device before its trailer (12 R340). -/
def VTx.payload (f : VTx) : List Byte :=
  let b := f.msg.body
  if f.msg.cls = 0 then [b.1] else b.1 :: f.epoch :: b.2

/-- ARB of a frame of the device: SRC 0 (11 R309). -/
def VTx.arb (f : VTx) : Nat := (3 - f.age) * 16384 + classPrio f.msg.cls * 2048 + f.msg.cls

/-- The trailer as it stands in a frame (12 R352): CNT, then TAG. -/
def VTx.tail (f : VTx) : List Byte := match f.trailer with
  | some (c, tag) => c :: bytesLE 4 tag.toNat
  | none => []

/-- One bit more of the CRC of a frame (11 R310). -/
def crcVBit (c : BitVec 16) (b : Bool) : BitVec 16 := if c.getLsbD 15 != b then (c <<< 1) ^^^ 0x1021 else c <<< 1

/-- The bits of a byte, most significant first (11 R310). -/
def bitsMSB (b : Byte) : List Bool := (List.range 8).map fun i => b.getLsbD (7 - i)

/-- CRC-16 of a frame (11 R310): polynomial 0x1021 from 0xFFFF, neither reflected nor inverted. -/
def crcV (bs : List Byte) : BitVec 16 := (bs.flatMap bitsMSB).foldl crcVBit 0xFFFF

/-- The bytes of a frame from ARB to PAYLOAD (11 R308): ARB, CTRL with ACKREQ and DST, LEN, the payload with its trailer. -/
def VTx.octets (f : VTx) : List Byte :=
  let pay := f.payload ++ f.tail
  [BitVec.ofNat 8 (f.arb / 256), BitVec.ofNat 8 f.arb, BitVec.ofNat 8 (fieldsOf [(0, 6, f.dst), (6, 1, f.msg.ackReq.toNat)]),
   BitVec.ofNat 8 pay.length] ++ pay

/-- Stuff bits (11 R311): after five equal bits one of the opposite level, the first of the next run. -/
def stuffBits (last : Bool) (run : Nat) : List Bool → List Bool
  | [] => []
  | b :: bs =>
    let run := if b = last then run + 1 else 1
    if 5 ≤ run then b :: (!b) :: stuffBits (!b) 1 bs else b :: stuffBits b run bs

/-- What the device sends for a frame (11 R308, R311), recessive as true: SOF to CRC with stuff bits, then the CRC delimiter, the ACK slot,
the ACK delimiter and EOF, which a sender leaves recessive. -/
def VTx.wireBits (f : VTx) : List Bool :=
  let crc := crcV f.octets
  stuffBits true 0 (false :: (f.octets ++ [(crc >>> 8).setWidth 8, crc.setWidth 8]).flatMap bitsMSB) ++ List.replicate 10 true

/-- TAG of a trailer (12 R352). -/
def trailerTag (ks : BitVec 128) (dir : Byte) (addr cls : Nat) (ctr : Word) (payload : List Byte) : Word :=
  trunc4 (cmac (bytesLE 16 ks.toNat) ([dir, BitVec.ofNat 8 addr, BitVec.ofNat 8 cls] ++ bytesLE 4 ctr.toNat ++ payload))

/-! ## Sending -/

/-- A frame enters the port's queue. A port that is STOPPED or in TXFAULT has no use of one: it is lost, as LINK_ERROR. -/
def Dev.vSend (s : Dev) (p : Fin 16) (dst : Nat) (epoch : Byte) (msg : VMsg) : Dev :=
  s.onVP p fun v =>
    if v.state = .stopped ∨ v.state = .txfault then v else { v with queue := v.queue ++ [{ dst, epoch, msg }] }

/-- A frame to a slot, with the slot's EPOCH (12 R337). -/
def Dev.vTo (s : Dev) (p : Fin 16) (k : Fin 32) (msg : VMsg) : Dev := s.vSend p (addrOf k) (s.vslot p k).epoch msg

/-- Frames of the queue discarded. -/
def Dev.vPurge (s : Dev) (p : Fin 16) (f : VTx → Bool) : Dev :=
  s.onVP p fun v => { v with queue := v.queue.filter fun x => !f x }

/-- RELEASE of an address, sent twice (12 R347, R368). -/
def Dev.vRelease (s : Dev) (p : Fin 16) (k : Fin 32) : Dev :=
  (s.vSend p 63 0 (.release (addrOf k))).vSend p 63 0 (.release (addrOf k))

/-- Something waits for an answer within RSP_T, from now on; the answer is expected once the request has been sent. -/
def Dev.vWait (s : Dev) (p : Fin 16) (k : Fin 32) (w : VRsp) : Dev :=
  s.onVS p k fun x => { x with rsp := x.rsp.filter (· != w) ++ [w], asked := x.asked.filter (· != w) }

/-- It waits no more. -/
def Dev.vUnwait (s : Dev) (p : Fin 16) (k : Fin 32) (w : VRsp) : Dev :=
  s.onVS p k fun x => { x with rsp := x.rsp.filter (· != w), asked := x.asked.filter (· != w) }

/-- What a message asks an answer for (12 R340). -/
def VMsg.asks : VMsg → Option VRsp
  | .read .. | .write .. => some .txn
  | .ident => some .ident
  | .chal _ => some .hs
  | .open_ i .. | .resume i .. | .data i .. | .close i _ => some (.sess i)
  | _ => none

/-- A request has been sent: where something waits for its answer, or a session sends RESUME, the answer is expected from now on. -/
def Dev.vAsked (s : Dev) (p : Fin 16) (f : VTx) : Dev :=
  match f.msg.asks with
  | none => s
  | some w =>
    if f.dst = 0 ∨ 32 < f.dst then s
    else
      let resume : Bool := match f.msg with
        | .resume .. => true
        | _ => false
      s.onVS p (ix 31 (f.dst - 1)) fun x =>
        if x.rsp.contains w ∨ resume then { x with asked := x.asked.filter (· != w) ++ [w] } else x

/-- An answer in a frame of this CLASS is expected of the slot (12 R339, R347); a NOTIFY and the DATA of a GET answer no request. -/
def VSlot.expects (x : VSlot) (cls : Nat) : Bool :=
  x.asked.any fun w => cls == (match w with
    | .txn => 2
    | .sess _ => 4
    | .ident => 5
    | .hs => 6)

/-! ## Slot states -/

/-- A slot state's code (12 R348). -/
def VSState.num : VSState → Nat
  | .empty => 0 | .assigning => 1 | .auth => 2 | .present => 3 | .quarantine => 4 | .lost => 5 | .excluded => 6

/-- What the device may send to a slot: nothing but link management to an excluded address (11 R324), nothing but IDENT, and CHAL on a
REAUTH, in QUARANTINE (12 R350). -/
def Dev.vMay (s : Dev) (p : Fin 16) (f : VTx) : Bool :=
  if f.dst = 0 ∨ 32 < f.dst then true
  else if (s.vports[p.val]).excl.getLsbD (f.dst - 1) then f.msg.cls == 0
  else (s.vslot p (ix 31 (f.dst - 1))).state != .quarantine || f.msg == .ident || (match f.msg with
    | .chal _ => true
    | _ => false)

/-- A slot changes its state (12 R348, R372). What is queued to one that enters QUARANTINE is not sent, but for an IDENT (R350). -/
def Dev.vSlotGo (s : Dev) (p : Fin 16) (k : Fin 32) (st : VSState) (newUid : Bool := false) : Dev :=
  let x := s.vslot p k
  if x.state = st then s
  else
    let s := s.onVS p k fun x => { x with state := st }
    let s := if st = .quarantine then s.vPurge p fun f => f.dst == addrOf k && f.msg != .ident else s
    s.raise EV_VALE_SLOT (valeFunc p) (hSat p k)
      (mkWord [(0, 3, st.num), (4, 3, x.state.num), (8, 8, x.epoch.toNat), (24, 1, newUid.toNat)])

/-! ## Transactions (12 R354) -/

/-- The opcode of a request. -/
def VTxn.op (t : VTxn) : Nat := if t.write then 0x97 else 0x96

/-- A request's descriptor completes; POLL has none. -/
def Dev.vTxnDone (s : Dev) (t : VTxn) (st : Status) (res : DWord) : Dev :=
  match t.d with
  | none => s
  | some d => s.finish t.op d st res

/-- The outstanding request is sent, or sent again. -/
def Dev.vTxnSend (s : Dev) (p : Fin 16) (k : Fin 32) : Dev :=
  match (s.vslot p k).txn with
  | none => s
  | some t =>
    let s := s.vPurge p fun f => f.dst == addrOf k && f.msg.cls == 2
    (s.vTo p k (if t.write then .write t.tid t.first t.values else .read t.tid t.first t.count)).vWait p k .txn

/-- The next queued request goes out. -/
def Dev.vTxnNext (s : Dev) (p : Fin 16) (k : Fin 32) : Dev :=
  let x := s.vslot p k
  match x.state, x.txn, x.queue with
  | .present, none, t :: rest =>
    (s.onVS p k fun x => { x with tid := x.tid + 1, txn := some { t with tid := x.tid + 1 }, queue := rest }).vTxnSend p k
  | _, _, _ => s

/-- The outstanding request ends. -/
def Dev.vTxnEnd (s : Dev) (p : Fin 16) (k : Fin 32) (st : Status) (res : DWord) : Dev :=
  match (s.vslot p k).txn with
  | none => s
  | some t => ((s.onVS p k fun x => { x with txn := none }).vUnwait p k .txn).vTxnDone t st res

/-- Every request of a slot ends with a status. -/
def Dev.vTxnsDrop (s : Dev) (p : Fin 16) (k : Fin 32) (st : Status) (res : DWord) : Dev :=
  let q := (s.vslot p k).queue
  let s := (s.vTxnEnd p k st res).onVS p k fun x => { x with queue := [] }
  (q.foldl (fun s t => s.vTxnDone t st res) s).vPurge p fun f => f.dst == addrOf k && f.msg.cls == 2

/-! ## Sessions (12 R356 to R360) -/

/-- Segments of an object. -/
def nsegOf (len : Nat) : Nat := (len + 47) / 48

/-- A session's segments. -/
abbrev VSess.nseg (x : VSess) : Nat := nsegOf x.len

/-- The bytes of a segment of a PUT. -/
def VSess.segment (x : VSess) (n : Nat) : List Byte := (x.bytes.drop (48 * n)).take 48

/-- Bytes transferred so far. -/
def VSess.moved (x : VSess) : Nat := min x.len (48 * (if x.get then x.next else x.base))

/-- RESULT of VALE_BULK_OPEN (12 R366). -/
def VSess.result (x : VSess) (sid : Fin 16) (moved nak : Nat) (reboot : Bool) : DWord :=
  mkRes [(8, 0, 32, moved), (12, 0, 8, sid.val), (13, 0, 8, nak), (14, 0, 1, x.resumed.toNat), (14, 1, 1, reboot.toNat)]

/-- Frames of a session. -/
def VTx.ofSess (k : Nat) (sid : Fin 16) (f : VTx) : Bool :=
  f.dst == k + 1 && (match f.msg with
    | .data i _ _ | .open_ i _ _ _ | .sack i _ _ | .resume i _ _ | .close i _ => i == sid.val
    | _ => false)

/-- A session is CLOSED; its descriptor completes unless it has been answered. -/
def Dev.vSessEnd (s : Dev) (p sid : Fin 16) (st : Status) (moved nak : Nat) (reboot : Bool := false) : Dev :=
  match s.vsess p sid with
  | none => s
  | some x =>
    let s := (s.onVP p fun v => { v with sess := v.sess.set sid.val none }).vPurge p (VTx.ofSess x.slot sid)
    let s := s.vUnwait p (ix 31 x.slot) (.sess sid.val)
    let bulk := if st = .ok ∧ x.get then [(bulkAddr x.d, x.bytes.take x.len)] else []
    if x.aborted then s else s.finish 0x98 x.d st (x.result sid moved nak reboot) bulk

/-- The sessions of a slot. -/
def Dev.vSids (s : Dev) (p : Fin 16) (k : Fin 32) : List (Fin 16) :=
  (List.finRange 16).filter fun i => match s.vsess p i with
    | some x => x.slot == k.val
    | none => false

/-- Every session of a slot ends, with the bytes transferred in RESULT (12 R366), or with RESULT byte 8 at 0 where the rule says so
(R347, R349). -/
def Dev.vSessDrop (s : Dev) (p : Fin 16) (k : Fin 32) (st : Status) (reboot zero : Bool := false) : Dev :=
  (s.vSids p k).foldl (fun s i =>
    let moved := if zero then 0 else ((s.vsess p i).map VSess.moved).getD 0
    s.vSessEnd p i st moved 0 reboot) s

/-- A session is SUSPENDED (12 R349, R357, R358); one that is being aborted ends as it would. -/
def Dev.vSuspend (s : Dev) (p sid : Fin 16) : Dev :=
  match s.vsess p sid with
  | none => s
  | some x =>
    if x.aborted ∨ x.phase = .suspended then s
    else
      ((s.onSess p sid fun x => { x with phase := .suspended, fails := 0, tries := 0, authWait := false }).vPurge p (VTx.ofSess x.slot sid)).vUnwait p
        (ix 31 x.slot) (.sess sid.val)

/-- A segment of a PUT goes out. -/
def Dev.vSendSeg (s : Dev) (p sid : Fin 16) (n : Nat) : Dev :=
  match s.vsess p sid with
  | none => s
  | some x => (s.vTo p (ix 31 x.slot) (.data sid.val n (x.segment n))).vWait p (ix 31 x.slot) (.sess sid.val)

/-- A segment stands in the queue or on the wire. -/
def Dev.vSegQueued (s : Dev) (p sid : Fin 16) (k n : Nat) : Bool :=
  let v := s.vports[p.val]
  (v.queue ++ v.wire.toList).any fun f => f.dst == k + 1 && (match f.msg with
    | .data i m _ => i == sid.val && m == n
    | _ => false)

/-- MAP marks a segment of the window. -/
def VSess.marked (x : VSess) (n : Nat) : Bool := decide (x.base < n ∧ n ≤ x.base + 7) && x.map.getLsbD (n - x.base - 1)

/-- What a PUT sends next (12 R357): the missing segments of the window, then new ones up to its end. -/
def Dev.vFill (s : Dev) (p sid : Fin 16) : Dev :=
  match s.vsess p sid with
  | none => s
  | some x =>
    let old := (List.range 8).filterMap fun i =>
      let n := x.base + i
      if n < x.next ∧ !x.marked n ∧ !s.vSegQueued p sid x.slot n then some n else none
    let top := min (x.base + 8) x.nseg
    let new := (List.range 8).filterMap fun i => if x.next + i < top then some (x.next + i) else none
    let s := (old ++ new).foldl (fun s n => s.vSendSeg p sid n) s
    s.onSess p sid fun y => { y with next := max y.next top }

/-- CLOSE with REASON 0: the object has been transferred (12 R358). -/
def Dev.vClose (s : Dev) (p sid : Fin 16) : Dev :=
  match s.vsess p sid with
  | none => s
  | some x =>
    ((s.onSess p sid fun x => { x with phase := .closing, tries := 0 }).vTo p (ix 31 x.slot) (.close sid.val 0)).vWait p
      (ix 31 x.slot) (.sess sid.val)

/-- MAP of a GET: the segments beyond the gap (12 R357). -/
def VSess.mapOf (x : VSess) : Byte :=
  BitVec.ofNat 8 (fieldsOf ((List.range 7).map fun i => (i, 1, (x.got.any fun g => g.1 == x.next + 1 + i).toNat)))

/-- SACK as receiver (12 R357); one that confirms the whole object is followed by CLOSE (12 R358). -/
def Dev.vSack (s : Dev) (p sid : Fin 16) : Dev :=
  match s.vsess p sid with
  | none => s
  | some x =>
    let s := (s.vTo p (ix 31 x.slot) (.sack sid.val x.next x.mapOf)).onSess p sid fun x => { x with base := x.next, since := 0 }
    if x.next = x.nseg then s.vClose p sid else s

/-- The request or frame of a session that waits for its answer is sent again (12 R353, R354, R357 to R359). -/
def Dev.vSessResend (s : Dev) (p sid : Fin 16) : Dev :=
  match s.vsess p sid with
  | none => s
  | some x =>
    let k := ix 31 x.slot
    match x.phase with
    | .opening => (s.vTo p k (.open_ sid.val x.get x.obj x.len)).vWait p k (.sess sid.val)
    | .closing => (s.vTo p k (.close sid.val x.aborted.toNat)).vWait p k (.sess sid.val)
    | .suspended => s.vTo p k (if x.get then .resume sid.val x.next x.mapOf else .resume sid.val 0 0)
    | .xfer => if x.get then s.vTo p k (.sack sid.val x.next x.mapOf) else s.vSendSeg p sid x.base

/-- A failure of a PUT (12 R357): the eighth in a row suspends it. The flag says that it goes on. -/
def Dev.vSessFail (s : Dev) (p sid : Fin 16) : Dev × Bool :=
  match s.vsess p sid with
  | none => (s, false)
  | some x =>
    if x.phase ≠ .xfer ∨ x.get then (s, false)
    else if 7 ≤ x.fails then (s.vSuspend p sid, false)
    else (s.onSess p sid fun x => { x with fails := x.fails + 1 }, true)

/-- A session returns to XFER from SUSPENDED (12 R359). -/
def Dev.vResumed (s : Dev) (p sid : Fin 16) : Dev :=
  match s.vsess p sid with
  | none => s
  | some x =>
    if x.phase ≠ .suspended then s
    else (s.onSess p sid fun x => { x with phase := .xfer, resumed := true, acked := true, tries := 0, reauthed := false }).vUnwait p
      (ix 31 x.slot) (.sess sid.val)

/-! ## Sweeps (12 R344) -/

/-- The probe that is out is never sent. -/
def VSweep.lose (w : VSweep) (x : Nat × DWord) : VSweep :=
  if w.cur = some x then { w with cur := none, opened := false, one := none, bad := false } else w

/-- The sweep goes on with its next probe, or ends: its VALE_DISCOVERs complete, and one that was triggered meanwhile starts. -/
def Dev.vSweepNext (s : Dev) (p : Fin 16) : Dev :=
  match (s.vports[p.val]).sweep with
  | none => s
  | some w =>
    if w.cur.isSome ∨ w.busy.isSome then s
    else match w.stack with
      | x :: rest =>
        (s.onVP p fun v => { v with sweep := some { w with cur := some x, stack := rest, opened := false, one := none, bad := false,
                                                           probes := w.probes + 1 } }).vSend p 63 0 (.probe x.1 x.2)
      | [] =>
        let again := (s.vports[p.val]).again
        let res := mkRes [(8, 0, 8, w.assigned), (9, 0, 8, w.probes), (10, 0, 8, w.collisions)]
        let s := w.ds.foldl (fun s d => s.finish 0x94 d .ok res) s
        match again with
        | none => s.onVP p fun v => { v with sweep := none }
        | some ds =>
          (s.onVP p fun v => { v with again := none, sweep := some { stack := [], cur := some (0, 0), probes := 1, ds } }).vSend
            p 63 0 (.probe 0 0)

/-- A sweep is triggered (12 R344): one runs at a time, and one more follows it. -/
def Dev.vTrigger (s : Dev) (p : Fin 16) (d : Option Desc) : Dev :=
  match (s.vports[p.val]).sweep with
  | some _ => s.onVP p fun v => { v with again := some (v.again.getD [] ++ d.toList) }
  | none => (s.onVP p fun v => { v with sweep := some { stack := [(0, 0)], ds := d.toList } }).vSweepNext p

/-- An assignment has ended: the sweep that waits for it goes on. -/
def Dev.vAssigned (s : Dev) (p : Fin 16) (k : Fin 32) (ok : Bool) : Dev :=
  match (s.vports[p.val]).sweep with
  | none => s
  | some w =>
    if w.busy = some k then
      (s.onVP p fun v => { v with sweep := some { w with busy := none, assigned := w.assigned + ok.toNat } }).vSweepNext p
    else s

/-! ## Leaving and losing a slot -/

/-- The REAUTHs that wait for a handshake that does not come about end (12 R368). -/
def Dev.vReauthFail (s : Dev) (p : Fin 16) (k : Fin 32) : Dev :=
  let ds := (s.vslot p k).reauth
  ds.foldl (fun s d => s.finish 0x9A d .authFail 0) (s.onVS p k fun x => { x with reauth := [] })

/-- A slot takes part in conversations no more: requests end with `st`, sessions with ST_PEER_ERROR, handshake, assignment and IDENT stop;
a READMIT that waits is still sent (11 R330). -/
def Dev.vDrop (s : Dev) (p : Fin 16) (k : Fin 32) (st : Status) : Dev :=
  let s := ((s.vTxnsDrop p k st 0).vSessDrop p k .peerError false (st == .peerError)).onVS p k fun x =>
    { x with ident := none, hs := none, conf := none, ks := none, rsp := [], asked := [], timeouts := 0, broken := 0, badTags := 0 }
  (s.vPurge p fun f => match f.msg with
    | .readmit => false
    | .assign _ a => a == addrOf k
    | _ => f.dst == addrOf k).vReauthFail p k

/-- A PRESENT satellite becomes LOST (12 R349). -/
def Dev.vLost (s : Dev) (p : Fin 16) (k : Fin 32) : Dev :=
  let s := (s.report (hVale p) (valeFunc p) .warn LG_VALE_LOST (mkWord [(0, 6, addrOf k)])).1
  let s := (s.onVS p k fun x => { x with ident := none, timeouts := 0 }).vUnwait p k .ident
  let n := (s.vports[p.val]).lostCnt + 1
  let s := (s.onVP p fun v => { v with lostCnt := n }).onVS p k fun x => { x with lostNo := n }
  let s := (s.vSlotGo p k .lost).vTxnsDrop p k .disabled 0
  (s.vSids p k).foldl (fun s i => s.vSuspend p i) s

/-- A satellite is excluded (11 R324), but for the frame that tells it. -/
def Dev.vExcludeMark (s : Dev) (p : Fin 16) (k : Fin 32) (cause : Nat) : Dev :=
  let x := s.vslot p k
  let arg := mkWord [(0, 6, addrOf k), (8, 8, cause)]
  let s := s.reportEv (hVale p) (valeFunc p) .fault LG_VALE_PEER_TIMING arg EV_VALE_EXCLUDED (hSat p k) arg
  let s := s.vDrop p k .disabled
  let s := s.onVP p fun v =>
    { v with excl := v.excl ||| BitVec.ofNat 32 (2 ^ k.val), exclSeen := true
             exclUids := match x.uid with
               | some u => v.exclUids.filter (fun e => e.1 != u) ++ [(u, cause)]
               | none => v.exclUids }
  s.vSlotGo p k .excluded

/-- A satellite is excluded and told so with EXCLUDE (11 R324, R326); a sweep that waits for its assignment goes on (12 R344). -/
def Dev.vExclude (s : Dev) (p : Fin 16) (k : Fin 32) (cause : Nat) : Dev :=
  ((s.vExcludeMark p k cause).vTo p k .exclude).vAssigned p k false

/-- A timing violation is charged to an address and logged (11 R323, R324, R333), after the fault of the exclusion that it brings about
(17 R496); those of an excluded satellite are not counted. -/
def Dev.vCharge (s : Dev) (p : Fin 16) (a cause : Nat) : Dev :=
  let k := ix 31 (a - 1)
  let s :=
    if a = 0 ∨ 32 < a ∨ (s.vports[p.val]).excl.getLsbD k.val then s
    else
      let s := s.onVS p k fun x => { x with viols := x.viols + 1, lastViol := cause }
      if 3 ≤ (s.vslot p k).viols then s.vExclude p k cause else s
  (s.report (hVale p) (valeFunc p) .warn LG_VALE_TIMING (mkWord [(0, 6, a), (8, 8, cause)])).1

/-- The violations of a frame from address `a` are charged as they occur (11 R323): an early SOF, the second top age in a round, which its
ARB shows (R318), the others. -/
def Dev.vCharges (s : Dev) (p : Fin 16) (a dst : Nat) (topAge : Bool) (viols : List (Fin 8)) : Dev :=
  let sat : Bool := 1 ≤ a && a ≤ 32
  let k := ix 31 (a - 1)
  let again := sat && topAge && (s.vslot p k).topSeen
  let s := if sat && topAge then s.onVS p k fun x => { x with topSeen := true } else s
  let causes := ((viols.filter (· == 2)).map Fin.val) ++ (if again then [3] else []) ++ ((viols.filter (· != 2)).map Fin.val)
  causes.foldl (fun s c => s.vCharge p (if c = 4 then dst else a) c) s

/-! ## The port's states (11 R321, R322) -/

/-- A port state's code (11 R322). -/
def VPState.num : VPState → Nat
  | .stopped => 0 | .normal => 1 | .warn => 2 | .quiet => 3 | .stuck => 4 | .txfault => 5

/-- A frame is a PROBE. -/
def VTx.isProbe (f : VTx) : Bool := match f.msg with
  | .probe .. => true
  | _ => false

/-- VALE_DISCOVERs of a sweep and of the one that follows end with a status, and the sweeps with them; a PROBE that is queued is not sent. -/
def Dev.vSweepAbort (s : Dev) (p : Fin 16) (st : Status) : Dev :=
  let v := s.vports[p.val]
  let ds := (match v.sweep with
    | some w => w.ds
    | none => []) ++ v.again.getD []
  let s := (s.onVP p fun v => { v with sweep := none, again := none }).vPurge p VTx.isProbe
  ds.foldl (fun s d => s.finish 0x94 d st 0) s

/-- A port changes its state (11 R322, R333); one that can send no more suspends its sessions and ends its sweep (12 R358, R363). -/
def Dev.vGo (s : Dev) (p : Fin 16) (st : VPState) : Dev :=
  let v := s.vports[p.val]
  if v.state = st then s
  else
    let s := s.onVP p fun v =>
      { v with state := st, stuckSeen := v.stuckSeen || st == .stuck, quietSeen := v.quietSeen || st == .quiet }
    let s := s.raise EV_VALE_PORT (valeFunc p) (hVale p) (mkWord [(0, 3, st.num), (4, 3, v.state.num), (16, 9, v.err)])
    let err := mkWord [(0, 9, v.err)]
    let s := match st with
      | .warn => (s.report (hVale p) (valeFunc p) .warn LG_VALE_WARN err).1
      | .quiet => (s.report (hVale p) (valeFunc p) .fault LG_VALE_QUIET err).1
      | .stuck => (s.report (hVale p) (valeFunc p) .fault LG_VALE_STUCK 0).1
      | .txfault => (s.report (hVale p) (valeFunc p) .fault LG_VALE_TXFAULT 0).1
      | _ => s
    if st = .normal ∨ st = .warn then s
    else ((List.finRange 16).foldl (fun s i => s.vSuspend p i) s).vSweepAbort p .disabled

/-- The state follows ERR (11 R322): QUIET from 256, WARN from 96, NORMAL below. -/
def Dev.vEval (s : Dev) (p : Fin 16) : Dev :=
  let v := s.vports[p.val]
  if !v.live then s
  else if 256 ≤ v.err then s.vGo p .quiet
  else if 96 ≤ v.err then (if v.state = .normal then s.vGo p .warn else s)
  else s.vGo p .normal

/-- ERR changes (11 R321). -/
def Dev.vErr (s : Dev) (p : Fin 16) (d : Int) : Dev :=
  (s.onVP p fun v => { v with err := (clampI 0 511 ((v.err : Int) + d)).toNat }).vEval p

/-! ## Identity (12 R345, R347, R349) -/

/-- IDENT to a slot. In answer to a NAK EPOCH it carries the EPOCH that the NAK carried, so that the satellite can answer. -/
def Dev.vIdent (s : Dev) (p : Fin 16) (k : Fin 32) (w : VIdent) (tries : Nat := 0) : Dev :=
  let e := match w with
    | .epoch e => e
    | _ => (s.vslot p k).epoch
  let s := s.vPurge p fun f => f.dst == addrOf k && f.msg == .ident
  ((s.onVS p k fun x => { x with ident := some (w, tries) }).vSend p (addrOf k) e .ident).vWait p k .ident

/-- The IDENT that is out is settled. -/
def Dev.vIdentDone (s : Dev) (p : Fin 16) (k : Fin 32) : Dev :=
  (s.onVS p k fun x => { x with ident := none }).vUnwait p k .ident

/-- ASSIGN, then IDENT to the new address (12 R345), which is queued when the ASSIGN has left the queue (`Dev.vAssignSent`). -/
def Dev.vAssignPair (s : Dev) (p : Fin 16) (k : Fin 32) (tries : Nat) : Dev :=
  let x := s.vslot p k
  let s := s.vPurge p fun f => match f.msg with
    | .assign _ a => a == addrOf k
    | .ident => f.dst == addrOf k
    | _ => false
  ((s.vUnwait p k .ident).onVS p k fun x => { x with ident := some (.assign, tries) }).vSend p 63 x.epoch
    (.assign (x.uid.getD 0) (addrOf k))

/-- An ASSIGN has been sent, or its attempts are used up (12 R345): unless another one of the slot is queued, IDENT follows, or EXCLUDE to a
UID of the exclusion record (11 R324). -/
def Dev.vAssignSent (s : Dev) (p : Fin 16) (a : Nat) : Dev :=
  let v := s.vports[p.val]
  let k := ix 31 (a - 1)
  if v.queue.any (fun g => match g.msg with
    | .assign _ b => b == a
    | _ => false) then s
  else if v.excl.getLsbD k.val then s.vTo p k .exclude
  else match (s.vslot p k).ident with
    | some (.assign, n) => s.vIdent p k .assign n
    | _ => s

/-- The EPOCH after an ASSIGN (12 R337). -/
def nextEpoch (e : Byte) : Byte := if e = 255 then 1 else e + 1

/-- The slot for a UID (12 R345): the one that records it, the lowest EMPTY one, the LOST one lost longest. -/
def VPort.slotFor (v : VPort) (uid : DWord) : Option (Fin 32) :=
  let of (f : VSlot → Bool) := (List.finRange 32).find? fun k => f v.slots[k.val]
  match of fun x => x.uid == some uid with
  | some k => some k
  | none => match of fun x => x.state == .empty with
    | some k => some k
    | none =>
      (List.finRange 32).foldl (fun b k =>
        if (v.slots[k.val]).state = .lost then
          (match b with
           | none => some k
           | some j => if (v.slots[k.val]).lostNo < (v.slots[(j : Fin 32).val]).lostNo then some k else b)
        else b) none

/-- A UID is assigned (12 R345): the slot taken, or none. A UID on the exclusion record is excluded again at once (11 R324): EXCLUDE follows
when its ASSIGN has been sent. -/
def Dev.vAssign (s : Dev) (p : Fin 16) (uid : DWord) (caps : Byte) : Dev × Option (Fin 32) :=
  let v := s.vports[p.val]
  match v.slotFor uid with
  | none => ((s.report (hVale p) (valeFunc p) .warn LG_VALE_FULL (uid.setWidth 32)).1, none)
  | some k =>
    let x := s.vslot p k
    let other := x.uid.isSome && x.uid != some uid
    let s := if other then s.vDrop p k .disabled else s
    let s := s.onVS p k fun x =>
      { x with uid := some uid, caps, epoch := nextEpoch x.epoch, hs := none, conf := none, ks := none, badTags := 0, broken := 0
               viols := if other then 0 else x.viols, good := if other then 0 else x.good
               vals := if other then x.vals.map (fun y => { y with value := 0, time := none, old := false }) else x.vals }
    match v.exclUids.find? (fun e => e.1 == uid) with
    | some e =>
      let s := (s.vSlotGo p k .assigning other).vExcludeMark p k e.2
      (s.vSend p 63 (s.vslot p k).epoch (.assign uid (addrOf k)), none)
    | none => ((s.vSlotGo p k .assigning other).vAssignPair p k 0, some k)

/-! ## Duplicates (12 R347) -/

/-- Two satellites hold an address (12 R347). -/
def Dev.vDuplicate (s : Dev) (p : Fin 16) (k : Fin 32) : Dev :=
  let arg := mkWord [(0, 6, addrOf k)]
  let s := s.reportEv (hVale p) (valeFunc p) .fault LG_VALE_DUP arg EV_VALE_DUP (hSat p k) arg
  (((((s.vDrop p k .peerError).vRelease p k).vSlotGo p k .empty).vAssigned p k false)).vTrigger p none

/-! ## Authentication (12 R350 to R353) -/

/-- The pairing key of a UID. -/
def Dev.keyOf (s : Dev) (uid : Option DWord) : Option (BitVec 128) :=
  match uid with
  | none => none
  | some u => (s.nv.keys.find? fun e => e.1 == u).map (·.2)

/-- CMAC input of a handshake tag (12 R351). -/
def hsInput (tag : Byte) (uid nd ns : DWord) (addr : Nat) (epoch : Byte) : List Byte :=
  tag :: bytesLE 8 uid.toNat ++ bytesLE 8 nd.toNat ++ bytesLE 8 ns.toNat ++ [BitVec.ofNat 8 addr, epoch]

/-- A handshake starts with CHAL (12 R351), ND free. -/
def Dev.vHandshake (s : Dev) (p : Fin 16) (k : Fin 32) : Dev :=
  let r := s.draw
  let nd := Config.nonce r.1
  let s := r.2.vPurge p fun f => f.dst == addrOf k && f.msg.cls == 6
  let s := (s.onVS p k fun x => { x with hs := some (nd, 0), conf := none, ks := none, badTags := 0 }).vSlotGo p k .auth
  (s.vTo p k (.chal nd)).vWait p k .hs

/-- A failure of authentication puts the slot in QUARANTINE (12 R350, R353): 0 tag, 1 timeout, 2 downgrade. -/
def Dev.vAuthFail (s : Dev) (p : Fin 16) (k : Fin 32) (cause : Nat) : Dev :=
  let arg := mkWord [(0, 2, cause)]
  let s := (s.vTxnsDrop p k .authFail 0).vSessDrop p k .authFail
  let s := (s.onVS p k fun x => { x with hs := none, conf := none, ks := none }).vUnwait p k .hs
  let s := s.reportEv (hVale p) (valeFunc p) .fault LG_VALE_AUTH_FAIL arg EV_VALE_AUTH (hSat p k) arg
  (s.vSlotGo p k .quarantine).vReauthFail p k

/-- CONFIRM has left the queue (12 R351, R352): the slot is PRESENT, its frames carry trailers from now on, the REAUTHs complete and the
requests that waited go out. -/
def Dev.vConfirmed (s : Dev) (p : Fin 16) (k : Fin 32) : Dev :=
  let x := s.vslot p k
  if x.conf.isNone then s
  else
    let s := (s.onVS p k fun x => { x with conf := none, ks := x.conf, txCnt := 0, rxCnt := 0, badTags := 0, reauth := [] }).vSlotGo p k
      .present
    let s := x.reauth.foldl (fun s d => s.finish 0x9A d .ok 0) s
    let s := (s.vTxnSend p k).vTxnNext p k
    (s.vSids p k).foldl (fun s i =>
      if ((s.vsess p i).map VSess.authWait).getD false then
        (s.onSess p i fun x => { x with authWait := false }).vSessResend p i
      else s) s

/-- An identified satellite is admitted or not (12 R350). A slot in QUARANTINE holds no conversation: what was open ends. DESIGN CHOICE: as
on a RELEASE (log entry 214). -/
def Dev.vAdmit (s : Dev) (p : Fin 16) (k : Fin 32) : Dev :=
  let x := s.vslot p k
  let shut (s : Dev) : Dev := (((s.vTxnsDrop p k .disabled 0).vSessDrop p k .peerError).vSlotGo p k .quarantine).vReauthFail p k
  let stranger (s : Dev) : Dev :=
    let arg := mkWord [(0, 8, x.caps.toNat)]
    (s.note .info (valeFunc p) LG_VALE_STRANGER arg).raise EV_VALE_STRANGER (valeFunc p) (hSat p k) arg
  match x.caps.getLsbD 0, (s.keyOf x.uid).isSome with
  | true, true => s.vHandshake p k
  | true, false => stranger (shut s)
  | false, true => s.vAuthFail p k 2
  | false, false =>
    if (s.vports[p.val]).stranger then stranger (shut s)
    else ((stranger (s.vSlotGo p k .present)).vReauthFail p k).vTxnNext p k

/-! ## Received frames -/

/-- A trailer is judged (12 R352): the counter it stands for, if it is accepted. -/
def VSlot.trailerOk (x : VSlot) (k : Fin 32) (cls : Nat) (t : Option (Byte × Word)) (payload : List Byte) : Option Word :=
  match x.ks, t with
  | some ks, some (c, tag) =>
    let d := (c - x.rxCnt.setWidth 8).toNat
    let ctr := x.rxCnt + BitVec.ofNat 32 d
    if 1 ≤ d ∧ d ≤ 128 ∧ trailerTag ks 0x53 (addrOf k) cls ctr payload = tag then some ctr else none
  | _, _ => none

/-- An error-free frame is heard (11 R321, R323): its violations are charged and its frames counted. -/
def Dev.vHear (s : Dev) (p : Fin 16) (f : VFrame) : Dev :=
  let a := f.src.val
  let s := (s.vErr p (-1)).vCharges p a f.dst.val f.topAge f.viols
  if a = 0 ∨ 32 < a then s
  else s.onVS p (ix 31 (a - 1)) fun x =>
    if x.good = 255 then { x with good := 0, viols := x.viols - 1 } else { x with good := x.good + 1 }

/-- An error-free frame on a port that takes none: QUIET hears it and discards it (11 R321, R322). -/
def Dev.vDeaf (s : Dev) (p : Fin 16) (f : VFrame) : Dev :=
  if s.active (valeFunc p) && (s.vports[p.val]).state == .quiet then s.vHear p f else s

/-- An error-free frame is delivered (11 R312, R313): for DST 0 or 63, while a receive buffer of the port is free. One for DST 0 without a
buffer is not acknowledged, and counts in NOBUF. Frames of an excluded address are neither acknowledged nor delivered (R324). -/
def Dev.vTaken (s : Dev) (p : Fin 16) (f : VFrame) : Dev × Bool :=
  let a := f.src.val
  if (1 ≤ a && a ≤ 32 && (s.vports[p.val]).excl.getLsbD (a - 1)) || !(f.dst == 0 || f.dst == 63) then (s, false)
  else if f.room then (s, true)
  else (if f.dst = 0 then s.onVP p fun v => { v with nobuf := v.nobuf + 1 } else s, false)

/-- A frame of a satellite with its payload is judged: heard, delivered, of the slot's EPOCH unless `anyEpoch`, not of an EMPTY slot, in
QUARANTINE only IDENT_RSP (the one message of CLASS 5) and NAK (R350), with an acceptable trailer where the slot has KS unless `noTag`
(12 R337, R352, R353). A LOST slot is PRESENT again (12 R348). The answer is the slot whose frame it is. -/
def Dev.vAccept (s : Dev) (p : Fin 16) (f : VFrame) (cls : Nat) (payload : List Byte) (anyEpoch noTag : Bool := false) :
    Dev × Option (Fin 32) :=
  if !s.vUp p then (s.vDeaf p f, none)
  else
    let s := s.vHear p f
    let a := f.src.val
    if a = 0 ∨ 32 < a then (s, none)
    else
      let k := ix 31 (a - 1)
      let x := s.vslot p k
      let r := s.vTaken p f
      let s := r.1
      if !r.2 then (s, none)
      else if f.epoch ≠ x.epoch ∧ !anyEpoch then
        ((s.onVP p fun v => { v with stale := v.stale + 1 }).note .trace (valeFunc p) LG_VALE_STALE
          (mkWord [(0, 6, a), (8, 8, f.epoch.toNat)]), none)
      else if x.state = .empty ∨ (x.state = .quarantine ∧ cls ≠ 5 ∧ payload.head? ≠ some 0xFF) then (s, none)
      else
        let tagged := x.ks.isSome && cls ≤ 4 && !(noTag && f.trailer.isNone)
        match tagged, x.trailerOk k cls f.trailer payload with
        | true, none =>
          let s := s.onVP p fun v => { v with authFail := v.authFail + 1 }
          let s := s.onVS p k fun x => { x with badTags := x.badTags + 1 }
          (if 3 ≤ (s.vslot p k).badTags then s.vHandshake p k else s, none)
        | t, ctr =>
          let s := s.onVS p k fun x =>
            { x with broken := 0, badTags := if t then 0 else x.badTags, rxCnt := if t then ctr.getD x.rxCnt else x.rxCnt }
          let s := if x.state = .lost ∧ f.epoch = x.epoch then (s.vSlotGo p k .present).vTxnNext p k else s
          (s, some k)

/-! ## Values (12 R355) -/

/-- A value of an item arrives. -/
def Dev.vValue (s : Dev) (p : Fin 16) (k i : Fin 32) (w : Word) : Dev :=
  let y := (s.vslot p k).vals[i.val]
  let s := s.onVS p k fun x => { x with vals := vmod x.vals i fun y => { y with value := w, time := some s.now, old := false } }
  if y.event ∧ (y.time.isNone ∨ y.value ≠ w) then s.raise EV_VALE_NOTIFY (valeFunc p) (hItem p k i) w else s

/-- Values of consecutive items arrive. -/
def Dev.vValues (s : Dev) (p : Fin 16) (k : Fin 32) (first : Nat) : List Word → Dev
  | [] => s
  | w :: ws => (s.vValue p k (ix 31 first) w).vValues p k (first + 1) ws

end Sys2Proof.Machine
end

