-- ==== Sys2Proof/Machine/ValeLink.lean ====
section
/-! DEFINITION. The link layer of the Vale ports: what happens to frames on the wire, the port's states, and the opcodes 0x90 to 0x92
(11_vale_link.md). -/

namespace Sys2Proof.Machine

/-! ## Outcomes of the device's frames -/

/-- A READMIT has been sent: its descriptor completes, and the satellite is identified anew (11 R330, 12 R348). -/
def Dev.vReadmitted (s : Dev) (p : Fin 16) (a : Nat) (st : Status) : Dev :=
  match (s.vports[p.val]).readmit.find? (fun e => e.2 == a) with
  | none => s
  | some e =>
    let s := s.onVP p fun v => { v with readmit := v.readmit.filter fun x => x.2 != a }
    (s.finish 0x91 e.1 st 0).vIdent p (ix 31 (a - 1)) .readmit

/-- The attempts of a frame are used up, or it is lost with the port (11 R316): NO_ACK or LINK_ERROR for the conversation. DESIGN CHOICE: a
PROBE that was never sent ends as NONE (log entry 212); a CONFIRM that got no ACK counts as sent (12 R351). -/
def Dev.vFail (s : Dev) (p : Fin 16) (f : VTx) : Dev :=
  match f.msg with
  | .data sid _ _ => (s.vSessFail p (ix 15 sid)).1
  | .readmit => s.vReadmitted p f.dst .timeout
  | .confirm _ => s.vConfirmed p (ix 31 (f.dst - 1))
  | .assign _ a => if (s.vports[p.val]).excl.getLsbD (a - 1) then s else s.vAssignSent p a
  | .probe n x =>
    (s.onVP p fun v => { v with sweep := v.sweep.map fun w => w.lose (n, x) }).vSweepNext p
  | _ => s

/-- A frame needs another attempt, after a backoff that is free (11 R316); one that the device may send no more gets none (R324, 12 R350). -/
def Dev.vRetry (s : Dev) (p : Fin 16) (f : VTx) : Dev :=
  if !s.vMay p f then s
  else if f.tries < (s.vports[p.val]).retryMax then
    let r := s.draw
    r.2.onVP p fun v => { v with queue := { f with age := 0, tries := f.tries + 1 } :: v.queue
                                 backoff := some (Config.valeBackoff r.1 % 16) }
  else s.vFail p f

/-- A frame leaves the wire; one of top age has won in this round (11 R318). -/
def Dev.vOff (s : Dev) (p : Fin 16) : Dev :=
  s.onVP p fun v => { v with wire := none, wonTop := v.wonTop || (match v.wire with
    | some f => f.age == 3
    | none => false) }

/-! ## Starting a frame -/

/-- The slot is open, or slots are not in force (11 R320). -/
def VPort.slotFree (v : VPort) : Bool := !v.slotEn || v.noslot || v.slotOpen

/-- The frame the port may start: the lowest ARB of its queue, the oldest of equals (11 R317), no second of top age in one round (11 R318),
and outside its slot only a further attempt (11 R320). -/
def VPort.offered (v : VPort) : Option VTx :=
  v.queue.foldl (fun b f =>
    if (f.age = 3 ∧ v.wonTop) ∨ (!v.slotFree ∧ f.tries = 0) then b
    else match b with
      | none => some f
      | some g => if f.arb < g.arb then some f else b) none

/-- The trailer of a frame (12 R352): the sender's next counter for a new frame, its own for a further attempt. -/
def Dev.vTrail (s : Dev) (p : Fin 16) (f : VTx) : Dev × VTx :=
  if f.trailer.isSome ∨ f.msg.cls = 0 ∨ 4 < f.msg.cls ∨ f.dst = 0 ∨ 32 < f.dst then (s, f)
  else
    let k := ix 31 (f.dst - 1)
    match (s.vslot p k).ks with
    | none => (s, f)
    | some ks =>
      let c := (s.vslot p k).txCnt + 1
      (s.onVS p k fun x => { x with txCnt := c },
       { f with trailer := some (c.setWidth 8, trailerTag ks 0x44 f.dst f.msg.cls c f.payload) })

/-- SOF (11 R317): the offered frame goes on the wire. -/
def Dev.vStart (s : Dev) (p : Fin 16) : Dev :=
  let v := s.vports[p.val]
  if !s.vUp p ∨ v.wire.isSome ∨ v.backoff.isSome then s
  else match v.offered with
    | none => s
    | some f =>
      let r := s.vTrail p f
      r.1.onVP p fun v => { v with queue := v.queue.erase f, wire := some r.2 }

/-- Arbitration is lost (11 R317): every frame of the queue ages, and a new frame gives its counter back. -/
def Dev.vLose (s : Dev) (p : Fin 16) : Dev :=
  match (s.vports[p.val]).wire with
  | none => s
  | some f =>
    let back := f.trailer.isSome && f.tries == 0
    let s := if back then s.onVS p (ix 31 (f.dst - 1)) fun x => { x with txCnt := x.txCnt - 1 } else s
    let f := if back then { f with trailer := none } else f
    s.onVP p fun v => { v with wire := none, queue := (f :: v.queue).map fun g => { g with age := min 3 (g.age + 1) } }

/-- The frame on the wire ends error-free, acknowledged where it asks for that (11 R313, R321): READMIT completes its descriptor, a PROBE
opens its window (12 R343), IDENT or EXCLUDE follows an ASSIGN (12 R345), CONFIRM ends its handshake, a request expects its answer
(R347). Violations of the satellite it goes to are charged at its end (11 R335). -/
def Dev.vSent (s : Dev) (p : Fin 16) (viols : List (Fin 8)) : Dev :=
  match (s.vports[p.val]).wire with
  | none => s
  | some f =>
    let s := ((s.vOff p).vErr p (-1)).vAsked p f
    let s := match f.msg with
      | .readmit => s.vReadmitted p f.dst .ok
      | .confirm _ => s.vConfirmed p (ix 31 (f.dst - 1))
      | .probe n x => s.onVP p fun v =>
        if v.queue.any VTx.isProbe then v else { v with sweep := v.sweep.map fun w => { w with opened := w.cur == some (n, x) } }
      | .assign _ a => s.vAssignSent p a
      | _ => s
    viols.foldl (fun s c => s.vCharge p f.dst c.val) s

/-- NO_ACK on the frame on the wire (11 R312, R316, R321). -/
def Dev.vNoAck (s : Dev) (p : Fin 16) : Dev :=
  match (s.vports[p.val]).wire with
  | none => s
  | some f =>
    if !f.msg.ackReq then s
    else
      let s := (s.vOff p).onVP p fun v => { v with noack := v.noack + 1 }
      (s.note .trace (valeFunc p) LG_VALE_FRAME_ERR (mkWord [(0, 3, 4)])).vRetry p f

/-! ## Errors -/

/-- The kind of an error in LG_VALE_FRAME_ERR (11 R333). -/
def wireKind : WireErr → Nat
  | .bit => 0 | .stuff => 1 | .crc => 2 | .form => 3

/-- An error is counted and logged (11 R321, R332, R333). -/
def Dev.vErrNote (s : Dev) (p : Fin 16) (e : WireErr) (src : Nat) : Dev :=
  (s.onVP p fun v => { v with frameErr := v.frameErr + 1 }).note .trace (valeFunc p) LG_VALE_FRAME_ERR
    (mkWord [(0, 3, wireKind e), (8, 6, src)])

/-- A frame of an address was destroyed (12 R347). If an answer was expected in a frame of its CLASS, the second such in a row asks for the
slot's identity, where no IDENT is out, and the destruction of the IDENT response that follows shows a duplicate. -/
def Dev.vBroken (s : Dev) (p : Fin 16) (k : Fin 32) (cls : Nat) : Dev :=
  let x := s.vslot p k
  if !x.expects cls then s
  else match x.ident with
    | some (.dup, _) => if cls = 5 then s.vDuplicate p k else s
    | some _ => if cls = 5 ∧ 2 ≤ x.broken then s.vDuplicate p k else s.onVS p k fun x => { x with broken := x.broken + 1 }
    | none =>
      if 1 ≤ x.broken then (s.onVS p k fun x => { x with broken := 0 }).vIdent p k .dup
      else s.onVS p k fun x => { x with broken := 1 }

/-- An error in a frame (11 R314 to R316, R321, R323): in the device's own, or in one it receives. A damaged frame of SRC 62 is a
collision of announcements (12 R343, R344). -/
def Dev.vFrameError (s : Dev) (p : Fin 16) (own : Bool) (e : WireErr) (f : VAddrs) (viols : List (Fin 8)) : Dev :=
  let v := s.vports[p.val]
  if !s.active (valeFunc p) ∨ !(v.live || v.state == .quiet) then s
  else if own then
    match v.wire with
    | none => s
    | some g => viols.foldl (fun s c => s.vCharge p g.dst c.val) ((((s.vOff p).vErrNote p e 0).vRetry p g).vErr p 8)
  else
    let a := f.src.val
    let s := (s.vErrNote p e a).vErr p 1
    let s := if 1 ≤ a ∧ a ≤ 32 then s.onVS p (ix 31 (a - 1)) fun x => { x with good := 0 } else s
    let s := s.vCharges p a f.dst.val f.topAge viols
    if a = 62 then
      match (s.vports[p.val]).sweep with
      | some w => if w.opened then s.onVP p fun v => { v with sweep := some { w with bad := true } } else s
      | none => if s.vUp p then s.vTrigger p none else s
    else if 1 ≤ a ∧ a ≤ 32 ∧ e ≠ .crc then s.vBroken p (ix 31 (a - 1)) f.cls.val
    else s

/-! ## The port's states -/

/-- The frame on the wire is cut off by a fault of the bus. -/
def Dev.vCut (s : Dev) (p : Fin 16) : Dev :=
  match (s.vports[p.val]).wire with
  | none => s
  | some f => (s.vOff p).vRetry p f

/-- STOP (11 R330): TX released, the frames lost, a START that waits given up. -/
def Dev.vStop (s : Dev) (p : Fin 16) : Dev :=
  let v := s.vports[p.val]
  let s := (s.onVP p fun v => { v with wire := none, queue := [], backoff := none, starting := none, slotOpen := false
                                       noslot := false }).vGo p .stopped
  let s := (v.wire.toList ++ v.queue).foldl (fun s f => s.vFail p f) s
  (v.starting.getD []).foldl (fun s d => s.finish 0x91 d .flushed 0) s

/-- 11 recessive bits have been seen (11 R330): the port works, identifies its LOST slots and sweeps (12 R344, R373). -/
def Dev.vStarted (s : Dev) (p : Fin 16) : Dev :=
  match (s.vports[p.val]).starting with
  | none => s
  | some ds =>
    if !s.active (valeFunc p) then s
    else
      let s := (s.onVP p fun v => { v with starting := none, err := 0, slotOpen := false
                                           noslot := v.slotEn && !s.tb.valid }).vGo p .normal
      let s := ds.foldl (fun s d => s.finish 0x91 d .ok 0) s
      let s := (List.finRange 32).foldl (fun s k =>
        if (s.vslot p k).state = .lost then s.vIdent p k .start else s) s
      if (s.vports[p.val]).autodisc then s.vTrigger p none else s

/-- Function or engine held, or a clock failed (11 R334, 12 R373): the port stops, its conversations end, addressed slots become LOST;
configuration, records and exclusions are kept. The descriptors are flushed with the function's others (16 R470). -/
def Dev.vHold (s : Dev) (p : Fin 16) : Dev :=
  let old := s.vports[p.val]
  let s := if old.state = .stopped then s
    else s.raise EV_VALE_PORT (valeFunc p) (hVale p) (mkWord [(0, 3, VPState.stopped.num), (4, 3, old.state.num), (16, 9, old.err)])
  let s := s.onVP p fun v =>
    { v with state := .stopped, before := .stopped, starting := none, wasRun := false, slotOpen := false, noslot := false, err := 0, frameErr := 0
             noack := 0, nobuf := 0, wakeSeen := 0, queue := [], wire := none, backoff := none, wonTop := false, readmit := []
             stale := 0, authFail := 0, sweep := none, again := none, sess := Vector.replicate 16 none
             slots := v.slots.map fun x =>
               { x with txn := none, queue := [], ident := none, hs := none, reauth := [], conf := none, rsp := [], asked := [], timeouts := 0, broken := 0
                        badTags := 0, viols := 0, good := 0, topSeen := false } }
  (List.finRange 32).foldl (fun s k =>
    match (s.vslot p k).state with
    | .assigning | .auth | .present | .quarantine =>
      let n := (s.vports[p.val]).lostCnt + 1
      ((s.onVP p fun v => { v with lostCnt := n }).onVS p k fun x => { x with lostNo := n }).vSlotGo p k .lost
    | _ => s) s

/-- SLEEP (11 R334): a running port stops, to restart at the wake. -/
def Dev.vSleep (s : Dev) (p : Fin 16) : Dev :=
  let v := s.vports[p.val]
  let run := v.starting.isSome || !(v.state == .stopped || v.state == .txfault)
  (s.vStop p).onVP p fun v => { v with wasRun := run }

/-- The wake (11 R334): the port that ran restarts, as START. -/
def Dev.vWake (s : Dev) (p : Fin 16) : Dev :=
  s.onVP p fun v => if v.wasRun then { v with wasRun := false, starting := some [] } else v

/-! ## Registers (11 R332) -/

/-- VLn_STATUS. -/
def VPort.status (v : VPort) : Word :=
  let run := v.state != .stopped
  mkWord [(0, 3, v.state.num), (3, 1, (run && v.slotFree).toNat), (4, 1, (run && v.noslot).toNat), (5, 1, v.stuckSeen.toNat),
          (6, 1, v.quietSeen.toNat), (7, 1, v.exclSeen.toNat), (16, 9, v.err)]

/-- VLn_ERRORS. -/
def VPort.errors (v : VPort) : Word := mkWord [(0, 16, v.frameErr.toNat), (16, 16, v.noack.toNat)]

/-- VLn_MISC. -/
def VPort.misc (v : VPort) : Word := mkWord [(0, 16, v.nobuf.toNat), (16, 16, v.wakeSeen.toNat)]

/-! ## Descriptors -/

/-- The port that an opcode names acts. -/
def onValeObj (f : Fin 16 → Dev → Dev × Res) (o : Obj) (s : Dev) : Dev × Res :=
  match o with
  | .valePort p => f p s
  | _ => refuse s .badHandle

/-- VALE_PORT_CONFIG's row (11 R329). -/
def opValePortConfig : OpInfo where
  op := 0x90
  accepts := .valePort
  needsEn := true
  fields := [(8, 0, 3), (9, 0, 8), (10, 0, 8), (11, 0, 3)]

/-- VALE_PORT_CONFIG (11 R329). -/
def doValePortConfig (d : Desc) (p : Fin 16) (s : Dev) : Dev × Res :=
  let rate := d.bits 8 0 2
  let sp := d.bits 9 0 5
  let sjw := d.bits 9 5 3
  let rxfilt := d.bits 10 0 8
  if rate = 3 ∨ sp < 12 ∨ 17 < sp ∨ sjw = 0 ∨ 4 < sjw ∨ 20 < sp + sjw ∨ 20 < rxfilt
      ∨ (if rate = 0 then 20 else if rate = 1 then 10 else 5) < rxfilt then refuse s .range
  else if (s.vports[p.val]).state ≠ .stopped then refuse s .busy
  else (s.onVP p fun v => { v with rate, slotEn := d.flag 8 2, sp, sjw, rxfilt, retryMax := d.bits 11 0 3 }, .ok)

/-- VALE_PORT_CTRL's row (11 R330). -/
def opValePortCtrl : OpInfo where
  op := 0x91
  accepts := .valePort
  needsEn := true
  fields := [(8, 0, 2), (9, 0, 6)]

/-- VALE_PORT_CTRL (11 R330). -/
def doValePortCtrl (d : Desc) (p : Fin 16) (s : Dev) : Dev × Res :=
  let v := s.vports[p.val]
  let a := d.bits 9 0 6
  match d.bits 8 0 2 with
  | 0 => (s.vStop p, .ok)
  | 1 =>
    if v.state = .stopped ∨ v.state = .txfault then
      (s.onVP p fun v => { v with starting := some (v.starting.getD [] ++ [d]) }, .wait)
    else (s, .ok)
  | 2 =>
    if a = 0 ∨ 32 < a then refuse s .conflict
    else
      let k := ix 31 (a - 1)
      if !v.excl.getLsbD k.val then refuse s .conflict
      else
        let x := s.vslot p k
        let s := (s.onVP p fun v =>
          { v with excl := v.excl &&& ~~~ BitVec.ofNat 32 (2 ^ k.val)
                   exclUids := v.exclUids.filter fun e => x.uid != some e.1 }).onVS p k fun x => { x with viols := 0, good := 0 }
        if v.state = .stopped ∨ v.state = .txfault then (s, .done .timeout)
        else ((s.onVP p fun v => { v with readmit := v.readmit ++ [(d, a)] }).vTo p k .readmit, .wait)
  | _ => ((s.onVP p fun v => { v with err := 0, noack := 0, frameErr := 0, wakeSeen := 0 }).vEval p, .ok)

/-- VALE_PORT_STATUS_GET's row (11 R331). -/
def opValePortStatusGet : OpInfo where
  op := 0x92
  accepts := .valePort
  needsEn := true

/-- VALE_PORT_STATUS_GET (11 R331). -/
def doValePortStatusGet (p : Fin 16) (s : Dev) : Dev × Res :=
  let v := s.vports[p.val]
  (s, .done .ok (mkRes [(8, 0, 32, v.status.toNat), (12, 0, 32, v.excl.toNat)]))

/-- VALE_PORT_CONFIG (opcode 0x90, 11 R329). -/
def execValePortConfig (d : Desc) (s : State) : Host.Outcome State Fault Refusal :=
  .next (s.desc opValePortConfig d (onValeObj (doValePortConfig d)))

/-- VALE_PORT_CTRL (opcode 0x91, 11 R330). -/
def execValePortCtrl (d : Desc) (s : State) : Host.Outcome State Fault Refusal :=
  .next (s.desc opValePortCtrl d (onValeObj (doValePortCtrl d)))

/-- VALE_PORT_STATUS_GET (opcode 0x92, 11 R331). -/
def execValePortStatusGet (d : Desc) (s : State) : Host.Outcome State Fault Refusal :=
  .next (s.desc opValePortStatusGet d (onValeObj doValePortStatusGet))

/-! ## The wire's commands -/

/-- VALE_FRAME_START: the bus is idle after the IFS (11 R317). -/
def execValeFrameStart (p : Fin 16) (s : State) : Host.Outcome State Fault Refusal := .next (s.onDev fun v => v.vStart p)

/-- VALE_ARBITRATION_LOST (11 R314, R317). -/
def execValeArbitrationLost (p : Fin 16) (s : State) : Host.Outcome State Fault Refusal := .next (s.onDev fun v => v.vLose p)

/-- VALE_FRAME_SENT (11 R313). -/
def execValeFrameSent (f : VSent) (s : State) : Host.Outcome State Fault Refusal :=
  .next (s.onDev fun v => v.vSent f.port f.viols)

/-- VALE_FRAME_ERROR (11 R315). -/
def execValeFrameError (p : Fin 16) (own : Bool) (e : WireErr) (a : VAddrs) (viols : List (Fin 8)) (s : State) :
    Host.Outcome State Fault Refusal := .next (s.onDev fun v => v.vFrameError p own e a viols)

/-- VALE_NO_ACK (11 R312). -/
def execValeNoAck (p : Fin 16) (s : State) : Host.Outcome State Fault Refusal := .next (s.onDev fun v => v.vNoAck p)

/-- VALE_RETRY_BACKOFF_END (11 R316): the frame contends again. -/
def execValeRetryBackoffEnd (p : Fin 16) (s : State) : Host.Outcome State Fault Refusal :=
  .next (s.onDev fun v => v.onVP p fun x => { x with backoff := none })

/-- ROUND_GAP (11 R318). -/
def execRoundGap (p : Fin 16) (s : State) : Host.Outcome State Fault Refusal :=
  .next (s.onDev fun v => v.onVP p fun x => { x with wonTop := false, slots := x.slots.map fun y => { y with topSeen := false } })

/-- STUCK_DETECT (11 R322). -/
def execStuckDetect (p : Fin 16) (s : State) : Host.Outcome State Fault Refusal :=
  .next (s.onDev fun v =>
    let x := v.vports[p.val]
    if !v.active (valeFunc p) ∨ !(x.live || x.state == .quiet) then v
    else ((v.onVP p fun y => { y with before := x.state }).vCut p).vGo p .stuck)

/-- STUCK_RECOVERY (11 R322). -/
def execStuckRecovery (p : Fin 16) (s : State) : Host.Outcome State Fault Refusal :=
  .next (s.onDev fun v => if (v.vports[p.val]).state = .stuck then v.vGo p (v.vports[p.val]).before else v)

/-- QUIET_RECOVERY (11 R322). -/
def execQuietRecovery (p : Fin 16) (s : State) : Host.Outcome State Fault Refusal :=
  .next (s.onDev fun v =>
    if (v.vports[p.val]).state = .quiet then (v.onVP p fun x => { x with err := 0 }).vGo p .normal else v)

/-- TXFAULT_DETECT (11 R322). -/
def execTxfaultDetect (p : Fin 16) (s : State) : Host.Outcome State Fault Refusal :=
  .next (s.onDev fun v => if v.vUp p then (v.vCut p).vGo p .txfault else v)

/-- WAKE_PULSE_SEEN (11 R322): counted in RUN by a port that receives. -/
def execWakePulseSeen (p : Fin 16) (s : State) : Host.Outcome State Fault Refusal :=
  .next (s.onDev fun v =>
    if v.active (valeFunc p) ∧ (v.vports[p.val]).state ≠ .stopped then
      v.onVP p fun x => { x with wakeSeen := x.wakeSeen + 1 }
    else v)

/-- START_RECESSIVE_SEEN (11 R330). -/
def execStartRecessiveSeen (p : Fin 16) (s : State) : Host.Outcome State Fault Refusal := .next (s.onDev fun v => v.vStarted p)

/-- START_TIMEOUT (11 R330): the port stays STOPPED. -/
def execStartTimeout (p : Fin 16) (s : State) : Host.Outcome State Fault Refusal :=
  .next (s.onDev fun v =>
    let ds := (v.vports[p.val]).starting.getD []
    ds.foldl (fun v d => v.finish 0x91 d .timeout 0) (v.onVP p fun x => { x with starting := none }))

end Sys2Proof.Machine
end

