-- ==== Sys2Proof/Machine/ValeConv.lean ====
section
/-! DEFINITION. The conversations of the Vale ports: received messages, their timers, discovery, and the opcodes 0x93, 0x94 and 0x96 to
0x9C (12_vale_conversations.md). -/

namespace Sys2Proof.Machine

/-! ## Discovery -/

/-- An ANNOUNCE (12 R342, R343, R345, R349): its satellite has rebooted if its UID is that of a PRESENT or LOST slot; in a probe window
the ANNOUNCE is kept for the judgement, otherwise the UID is assigned at once. -/
def Dev.vAnnounce (s : Dev) (p : Fin 16) (f : VFrame) (uid : DWord) (caps : Byte) : Dev :=
  if !s.vUp p then s.vDeaf p f
  else
    let r := (s.vHear p f).vTaken p f
    let s := r.1
    if !r.2 then s else
    let known := (List.finRange 32).find? fun k => (s.vslot p k).uid == some uid
    let reboot := match known with
      | some k => if (s.vslot p k).state = .present ∨ (s.vslot p k).state = .lost then some k else none
      | none => none
    let s := match reboot with
      | none => s
      | some k =>
        let n := (s.vSids p k).length
        let s := s.vSessDrop p k .peerError true true
        (s.report (hVale p) (valeFunc p) .warn LG_VALE_REBOOT (mkWord [(0, 5, n)])).1
    let window := match (s.vports[p.val]).sweep with
      | some w => if w.opened ∧ w.one.isNone then some w else none
      | none => none
    match window with
    | some w => s.onVP p fun v => { v with sweep := some { w with one := some (uid, caps) } }
    | none =>
      let running : Bool := match known with
        | some k => (s.vslot p k).state == .assigning
        | none => false
      if running then s else (s.vAssign p uid caps).1

/-- The probe window ends (12 R343, R344): COLLISION splits, ONE assigns, NONE ends the branch. -/
def Dev.vWindow (s : Dev) (p : Fin 16) (disturbed : Bool) : Dev :=
  match (s.vports[p.val]).sweep with
  | none => s
  | some w =>
    match (if w.opened then w.cur else none) with
    | none => s
    | some (plen, pfx) =>
      let put (s : Dev) (w : VSweep) : Dev := s.onVP p fun v => { v with sweep := some w }
      let w0 : VSweep := { w with cur := none, opened := false, one := none, bad := false }
      if disturbed ∨ w.bad then
        let w1 : VSweep := { w0 with collisions := w.collisions + 1 }
        if plen = 64 then
          ((s.report (hVale p) (valeFunc p) .fault LG_VALE_UID_CLASH 0).1 |> fun s => put s w1).vSweepNext p
        else
          (put s { w1 with stack := (plen + 1, pfx) :: (plen + 1, pfx ||| BitVec.ofNat 64 (2 ^ (63 - plen))) :: w.stack }).vSweepNext p
      else match w.one with
        | none => (put s w0).vSweepNext p
        | some (uid, caps) =>
          let r := (put s w0).vAssign p uid caps
          (r.1.onVP p fun v => { v with sweep := v.sweep.map fun w => { w with busy := r.2 } }).vSweepNext p

/-- IDENT_RSP (12 R345, R347, R348, R350, R373). -/
def Dev.vIdentRsp (s : Dev) (p : Fin 16) (f : VFrame) (uid : DWord) (caps items : Byte) (fwver : BitVec 16) (maxsess : Byte) : Dev :=
  let pay := [0x83, f.epoch] ++ bytesLE 8 uid.toNat ++ [caps, items] ++ bytesLE 2 fwver.toNat ++ [maxsess]
  let asked := match (if f.src.val = 0 then none else (s.vslot p (ix 31 (f.src.val - 1))).ident) with
    | some (.epoch e, _) => e == f.epoch
    | _ => false
  let r := s.vAccept p f 5 pay asked
  match r.2 with
  | none => r.1
  | some k =>
    let s := r.1
    let x := s.vslot p k
    if x.uid ≠ some uid then s.vDuplicate p k
    else
      let ident := x.ident
      let s := (s.vIdentDone p k).onVS p k fun x =>
        { x with caps, items := min 32 (max 1 items.toNat), fwver, maxsess := maxsess.toNat }
      match ident, x.state with
      | some (.epoch _, _), _ =>
        let s := s.onVS p k fun x => { x with epoch := nextEpoch x.epoch, ks := none, hs := none, conf := none }
        (s.vSlotGo p k .assigning).vAssignPair p k 0
      | _, .assigning => (s.vAdmit p k).vAssigned p k true
      | some (.readmit, _), .excluded => s.vAdmit p k
      | _, .lost => (s.vSlotGo p k .present).vTxnNext p k
      | _, _ => s

/-! ## Authentication -/

/-- PROVE (12 R351, R353): with the right TAG_S CONFIRM is queued; the slot is PRESENT once it has been sent (`Dev.vConfirmed`). -/
def Dev.vProve (s : Dev) (p : Fin 16) (f : VFrame) (ns : DWord) (tag : Word) : Dev :=
  let r := s.vAccept p f 6 ([0x81, f.epoch] ++ bytesLE 8 ns.toNat ++ bytesLE 4 tag.toNat)
  match r.2 with
  | none => r.1
  | some k =>
    let s := r.1
    let x := s.vslot p k
    match x.hs, s.keyOf x.uid with
    | some (nd, _), some key =>
      let kb := bytesLE 16 key.toNat
      let uid := x.uid.getD 0
      if trunc4 (cmac kb (hsInput 0x53 uid nd ns (addrOf k) x.epoch)) ≠ tag then s.vAuthFail p k 0
      else
        let ks := aes128 kb (bytesLE 8 nd.toNat ++ bytesLE 8 ns.toNat)
        let s := (s.vUnwait p k .hs).onVS p k fun x =>
          { x with hs := none, conf := some (BitVec.ofNat 128 (ofBytesLE ks)) }
        s.vTo p k (.confirm (trunc4 (cmac kb (hsInput 0x44 uid nd ns (addrOf k) x.epoch))))
    | some _, none => s.vAuthFail p k 0
    | none, _ => s

/-! ## Transactions -/

/-- A READ_RSP (12 R354, R355). -/
def Dev.vReadRsp (s : Dev) (p : Fin 16) (f : VFrame) (tid first : Byte) (values : List Word) : Dev :=
  let r := s.vAccept p f 2
    ([0x81, f.epoch, tid, first, BitVec.ofNat 8 values.length] ++ values.flatMap fun v => bytesLE 4 v.toNat)
  match r.2 with
  | none => r.1
  | some k =>
    let s := r.1
    let x := s.vslot p k
    match x.state, x.txn with
    | .present, some t =>
      if t.write ∨ t.tid ≠ tid ∨ t.first ≠ first.toNat ∨ t.count ≠ values.length then s
      else
        let s := (s.vValues p k t.first values).onVS p k fun x => { x with timeouts := 0 }
        (s.vTxnEnd p k .ok (mkRes [(8, 0, 32, (values.getD 0 0).toNat), (12, 0, 32, (values.getD 1 0).toNat)])).vTxnNext p k
    | _, _ => s

/-- A WRITE_RSP (12 R354). -/
def Dev.vWriteRsp (s : Dev) (p : Fin 16) (f : VFrame) (tid first count : Byte) : Dev :=
  let r := s.vAccept p f 2 [0x82, f.epoch, tid, first, count]
  match r.2 with
  | none => r.1
  | some k =>
    let s := r.1
    let x := s.vslot p k
    match x.state, x.txn with
    | .present, some t =>
      if !t.write ∨ t.tid ≠ tid ∨ t.first ≠ first.toNat ∨ t.count ≠ count.toNat then s
      else ((s.onVS p k fun x => { x with timeouts := 0 }).vTxnEnd p k .ok 0).vTxnNext p k
    | _, _ => s

/-- A NOTIFY (12 R350, R355): for items up to ITEMS of a PRESENT satellite. -/
def Dev.vNotify (s : Dev) (p : Fin 16) (f : VFrame) (first : Byte) (values : List Word) : Dev :=
  let r := s.vAccept p f 1
    ([0x01, f.epoch, first, BitVec.ofNat 8 values.length] ++ values.flatMap fun v => bytesLE 4 v.toNat)
  match r.2 with
  | none => r.1
  | some k =>
    let x := r.1.vslot p k
    if x.state = .present ∧ first.toNat + values.length ≤ x.items ∧ values.length ≤ 8 then r.1.vValues p k first.toNat values
    else r.1

/-- The code of a NAK, reserved codes read as BAD_MSG (12 R341). -/
def nakCode (c : Byte) : Nat := if 1 ≤ c.toNat ∧ c.toNat ≤ 0x0D then c.toNat else 1

/-- The status a NAK gives a descriptor (12 R341). -/
def nakStatus (c : Nat) : Status :=
  if c = 5 ∨ c = 8 then .busy else if c = 0x0A then .range else if c = 0x0B then .authFail else .peerError

/-- A request ends with a NAK's status; ST_PEER_ERROR has its CODE in RESULT byte 8 (12 R341). -/
def Dev.vTxnNak (s : Dev) (p : Fin 16) (k : Fin 32) (c : Nat) : Dev :=
  let st := nakStatus c
  ((s.onVS p k fun x => { x with timeouts := 0 }).vTxnEnd p k st (if st = .peerError then mkRes [(8, 0, 8, c)] else 0)).vTxnNext p k

/-- NAK AUTH (12 R353): a PRESENT satellite with a key is authenticated anew, once for a request, which waits for the outcome; a handshake
that runs already serves it. The flag says that the request waits. -/
def Dev.vNakAuth (s : Dev) (p : Fin 16) (k : Fin 32) (again : Bool) : Dev × Bool :=
  let x := s.vslot p k
  if again then (s, false)
  else if x.state = .auth then (s, true)
  else if x.state = .present ∧ (s.keyOf x.uid).isSome then (s.vHandshake p k, true)
  else (s, false)

/-- A NAK of a session (12 R341, R353, R354, R359). -/
def Dev.vSessNak (s : Dev) (p sid : Fin 16) (k : Fin 32) (c : Nat) : Dev :=
  match s.vsess p sid with
  | none => s
  | some x =>
    if x.slot ≠ k.val then s
    else if c = 5 ∧ x.tries < 2 then (s.onSess p sid fun x => { x with tries := x.tries + 1 }).vSessResend p sid
    else if c = 6 ∧ x.phase ≠ .suspended then s
    else if c = 0x0B then
      let r := s.vNakAuth p k x.reauthed
      if r.2 then (r.1.onSess p sid fun x => { x with reauthed := true, authWait := true }).vUnwait p k (.sess sid.val)
      else s.vSessEnd p sid .authFail x.moved c
    else s.vSessEnd p sid (nakStatus c) x.moved c

/-- A NAK (12 R341). A satellite that is not authenticated sends NAK EPOCH and NAK AUTH without a trailer, so these need none. -/
def Dev.vNak (s : Dev) (p : Fin 16) (f : VFrame) (cls : Fin 32) (id code detail : Byte) : Dev :=
  let c := nakCode code
  let r := s.vAccept p f cls.val [0xFF, f.epoch, id, code, detail] (c = 6) (c = 6 ∨ c = 0x0B)
  match r.2 with
  | none => r.1
  | some k =>
    let s := r.1
    let x := s.vslot p k
    let s := if c = 6 then (match x.ident with
      | some (.epoch e, _) => if e = f.epoch then s else s.vIdent p k (.epoch f.epoch)
      | some (.assign, _) => s
      | _ => s.vIdent p k (.epoch f.epoch)) else s
    match cls.val with
    | 2 =>
      (match x.txn with
       | none => s
       | some t =>
         if t.tid ≠ id ∨ c = 6 then s
         else if c = 5 ∧ t.tries < 2 then
           (s.onVS p k fun x => { x with txn := some { t with tries := t.tries + 1 } }).vTxnSend p k
         else if c = 0x0B then
           let r := s.vNakAuth p k t.reauthed
           if r.2 then (r.1.onVS p k fun x => { x with txn := x.txn.map fun t => { t with reauthed := true } }).vUnwait p k .txn
           else s.vTxnNak p k c
         else s.vTxnNak p k c)
    | 4 => if id.toNat < 16 then s.vSessNak p (ix 15 id.toNat) k c else s
    | _ => s

/-! ## Sessions -/

/-- A message of a session is judged: the session it belongs to. -/
def Dev.vForSess (s : Dev) (p : Fin 16) (k : Fin 32) (sid : Byte) : Option (Fin 16 × VSess) :=
  if 16 ≤ sid.toNat then none
  else match s.vsess p (ix 15 sid.toNat) with
    | some x => if x.slot = k.val then some (ix 15 sid.toNat, x) else none
    | none => none

/-- OPEN_ACK (12 R356, R358): XFER. A GET may not be longer than the buffer; one that is, or is empty, is aborted. -/
def Dev.vOpenAck (s : Dev) (p : Fin 16) (f : VFrame) (sid : Byte) (len : Word) : Dev :=
  let r := s.vAccept p f 4 ([0x81, f.epoch, sid] ++ bytesLE 4 len.toNat)
  match r.2 with
  | none => r.1
  | some k =>
    match r.1.vForSess p k sid with
    | none => r.1
    | some (i, x) =>
      let s := r.1
      if x.phase ≠ .opening then s
      else
        let s := (s.onSess p i fun x => { x with phase := .xfer, tries := 0, acked := true, reauthed := false }).vUnwait p k (.sess i.val)
        if !x.get then s.vFill p i
        else if len.toNat = 0 ∨ x.len < len.toNat then
          (s.vSessEnd p i .peerError 0 0).vTo p k (.close i.val 1)
        else s.onSess p i fun x => { x with len := len.toNat }

/-- SACK (12 R357, R359, R373): the sender's window moves. Segments that are queued and have not been tried are queued anew, behind the
missing ones (log entry 246). -/
def Dev.vSackIn (s : Dev) (p : Fin 16) (f : VFrame) (sid : Byte) (base : BitVec 16) (map : Byte) : Dev :=
  let r := s.vAccept p f 4 ([0x02, f.epoch, sid] ++ bytesLE 2 base.toNat ++ [map])
  match r.2 with
  | none => r.1
  | some k =>
    match r.1.vForSess p k sid with
    | none => if sid.toNat < 16 then r.1.vTo p k (.close sid.toNat 1) else r.1
    | some (i, x) =>
      let s := r.1
      if x.get ∨ !(x.phase == .xfer || x.phase == .suspended) ∨ x.nseg < base.toNat then s
      else
        let s := (s.vResumed p i).onSess p i fun x => { x with fails := 0, tries := 0, reauthed := false }
        if base.toNat < x.base then s
        else
          let s := (s.onSess p i fun x => { x with base := base.toNat, map, next := max x.next base.toNat }).vUnwait p k (.sess i.val)
          let y : VSess := { x with base := base.toNat, map }
          let s := s.vPurge p fun g => g.dst == addrOf k && (match g.msg with
            | .data j n _ => j == i.val && (n < base.toNat || y.marked n || g.tries == 0)
            | _ => false)
          if base.toNat = x.nseg then s.vClose p i else (s.vFill p i).vWait p k (.sess i.val)

/-- The segments of a GET that follow without a gap move to its bytes; `n` bounds them. -/
def VSess.absorb : Nat → VSess → VSess
  | 0, x => x
  | n + 1, x =>
    match x.got.find? (fun g => g.1 == x.next) with
    | none => x
    | some g => VSess.absorb n { x with bytes := x.bytes ++ g.2, next := x.next + 1, got := x.got.filter fun h => h.1 != x.next }

/-- DATA of a GET (12 R357). -/
def Dev.vData (s : Dev) (p : Fin 16) (f : VFrame) (sid : Byte) (seg : BitVec 16) (bytes : List Byte) : Dev :=
  let n := seg.toNat
  let r := s.vAccept p f 3 ([0x01, f.epoch, sid] ++ bytesLE 2 n ++ bytes)
  match r.2 with
  | none => r.1
  | some k =>
    match r.1.vForSess p k sid with
    | none => r.1
    | some (i, x) =>
      let s := r.1
      if !x.get ∨ x.phase ≠ .xfer ∨ x.nseg ≤ n then s
      else if n < x.next ∨ x.next + 7 < n ∨ x.got.any (fun g => g.1 == n) then s.vSack p i
      else if bytes.length ≠ min 48 (x.len - 48 * n) then s
      else
        let y : VSess := VSess.absorb 9 { x with got := x.got ++ [(n, bytes)], since := x.since + 1, tries := 0 }
        let s := s.onSess p i fun _ => y
        if x.base + 8 ≤ y.next ∨ y.next = y.nseg ∨ y.got.any (fun g => g.1 + 1 == y.nseg) then s.vSack p i else s

/-- RESUME_ACK (12 R359, R373). DESIGN CHOICE: a GET that was suspended before its OPEN_ACK has no length yet, so that it sends OPEN again
(log entry 213). -/
def Dev.vResumeAck (s : Dev) (p : Fin 16) (f : VFrame) (sid : Byte) : Dev :=
  let r := s.vAccept p f 4 [0x83, f.epoch, sid]
  match r.2 with
  | none => r.1
  | some k =>
    match r.1.vForSess p k sid with
    | none => if sid.toNat < 16 then r.1.vTo p k (.close sid.toNat 1) else r.1
    | some (i, x) =>
      if !x.get ∨ x.phase ≠ .suspended then r.1
      else if !x.acked then
        (r.1.onSess p i fun x => { x with phase := .opening, resumed := true, tries := 0 }).vSessResend p i
      else
        let s := r.1.vResumed p i
        if x.next = x.nseg then s.vClose p i else s

/-- CLOSE_ACK (12 R358, R360). -/
def Dev.vCloseAck (s : Dev) (p : Fin 16) (f : VFrame) (sid result : Byte) : Dev :=
  let r := s.vAccept p f 4 [0x84, f.epoch, sid, result]
  match r.2 with
  | none => r.1
  | some k =>
    match r.1.vForSess p k sid with
    | none => r.1
    | some (i, x) =>
      if x.phase ≠ .closing then r.1
      else if result = 0 then r.1.vSessEnd p i .ok x.len 0
      else r.1.vSessEnd p i .peerError x.moved (nakCode result)

/-! ## Timers -/

/-- RSP_T of a request (12 R349, R354). -/
def Dev.vTxnTimeout (s : Dev) (p : Fin 16) (k : Fin 32) : Dev :=
  let x := s.vslot p k
  match x.txn with
  | none => s
  | some t =>
    if x.state = .auth ∨ x.state = .assigning then s.vWait p k .txn
    else if x.state ≠ .present then s.vTxnEnd p k .disabled 0
    else if t.tries < 2 then
      (s.onVS p k fun x => { x with txn := some { t with tries := t.tries + 1 } }).vTxnSend p k
    else
      let s := (s.vTxnEnd p k .timeout 0).onVS p k fun x => { x with timeouts := x.timeouts + 1 }
      if 3 ≤ (s.vslot p k).timeouts then s.vLost p k else s.vTxnNext p k

/-- RSP_T of an IDENT (12 R345, R347, R349, R373). -/
def Dev.vIdentTimeout (s : Dev) (p : Fin 16) (k : Fin 32) : Dev :=
  let x := s.vslot p k
  match x.ident with
  | none => s
  | some (w, n) =>
    if n < 2 then (if w = .assign then s.vAssignPair p k (n + 1) else s.vIdent p k w (n + 1))
    else
      let s := s.vIdentDone p k
      match w with
      | .assign => (((s.vSend p 63 0 (.release (addrOf k))).vSlotGo p k .empty).vReauthFail p k).vAssigned p k false
      | .readmit => if x.state = .excluded then s.vSlotGo p k .lost else s
      | _ => if x.state = .present then s.vLost p k else s

/-- RSP_T of a CHAL (12 R353): two repeats. -/
def Dev.vHsTimeout (s : Dev) (p : Fin 16) (k : Fin 32) : Dev :=
  match (s.vslot p k).hs with
  | none => s
  | some (nd, n) =>
    if n < 2 then ((s.onVS p k fun x => { x with hs := some (nd, n + 1) }).vTo p k (.chal nd)).vWait p k .hs
    else s.vAuthFail p k 1

/-- RSP_T of a session (12 R357, R358); while the satellite is authenticated or assigned anew it waits on (R353). -/
def Dev.vSessTimeout (s : Dev) (p sid : Fin 16) : Dev :=
  match s.vsess p sid with
  | none => s
  | some x =>
    let k := ix 31 x.slot
    let st := (s.vslot p k).state
    if st = .auth ∨ st = .assigning then s.vWait p k (.sess sid.val)
    else match x.phase with
      | .opening | .closing =>
        if x.tries < 2 then (s.onSess p sid fun x => { x with tries := x.tries + 1 }).vSessResend p sid
        else s.vSessEnd p sid .timeout x.moved 0
      | .xfer =>
        let r := s.vSessFail p sid
        if r.2 then r.1.vSessResend p sid else r.1
      | .suspended => s

/-- RSP_T of what has waited longest for a slot. -/
def Dev.vRspT (s : Dev) (p : Fin 16) (k : Fin 32) : Dev :=
  match (s.vslot p k).rsp with
  | [] => s
  | w :: _ =>
    let s := s.vUnwait p k w
    match w with
    | .ident => s.vIdentTimeout p k
    | .hs => s.vHsTimeout p k
    | .txn => s.vTxnTimeout p k
    | .sess i => s.vSessTimeout p (ix 15 i)

/-! ## Descriptors -/

/-- The item value that an opcode names acts. -/
def onItemObj (f : Fin 16 → Fin 32 → Fin 32 → Dev → Dev × Res) (o : Obj) (s : Dev) : Dev × Res :=
  match o with
  | .valeValue p k i => f p k i s
  | _ => refuse s .badHandle

/-- The satellite slot that an opcode names acts. -/
def onSatObj (f : Fin 16 → Fin 32 → Dev → Dev × Res) (o : Obj) (s : Dev) : Dev × Res :=
  match o with
  | .satellite p k => f p k s
  | _ => refuse s .badHandle

/-- VALE_CONV_CONFIG's row (12 R362). -/
def opValeConvConfig : OpInfo where
  op := 0x93
  accepts := .valePort
  needsEn := true
  fields := [(8, 0, 2), (9, 0, 8), (10, 0, 8), (11, 0, 8), (12, 0, 8), (13, 0, 8)]

/-- VALE_CONV_CONFIG (12 R362). -/
def doValeConvConfig (d : Desc) (p : Fin 16) (s : Dev) : Dev × Res :=
  let rspT := d.bits 9 0 8
  let aliveT := d.bits 10 0 8
  let resumeT := d.bits 11 0 8
  let sackT := d.bits 12 0 8
  if rspT < 5 ∨ aliveT = 0 ∨ resumeT = 0 ∨ 30 < resumeT ∨ sackT = 0 ∨ 100 < sackT then refuse s .range
  else (s.onVP p fun v =>
    { v with stranger := d.flag 8 0, autodisc := d.flag 8 1, rspT, aliveT, resumeT, sackT, probeT := d.bits 13 0 8 }, .ok)

/-- VALE_DISCOVER's row (12 R363). -/
def opValeDiscover : OpInfo where
  op := 0x94
  accepts := .valePort
  needsEn := true

/-- VALE_DISCOVER (12 R344, R363). -/
def doValeDiscover (d : Desc) (p : Fin 16) (s : Dev) : Dev × Res :=
  if !(s.vports[p.val]).live then refuse s .disabled else (s.vTrigger p (some d), .wait)

/-- VALE_READ's row (12 R365). -/
def opValeRead : OpInfo where
  op := 0x96
  accepts := .valeValue
  needsEn := true
  fields := [(8, 0, 8)]

/-- VALE_WRITE's row (12 R365). -/
def opValeWrite : OpInfo where
  op := 0x97
  accepts := .valeValue
  needsEn := true
  fields := [(8, 0, 8), (12, 0, 64)]

/-- A TXN request of the host (12 R354, R365). -/
def doValeTxn (write : Bool) (d : Desc) (p : Fin 16) (k i : Fin 32) (s : Dev) : Dev × Res :=
  let x := s.vslot p k
  let n := d.bits 8 0 8
  if x.state ≠ .present then refuse s .disabled
  else if n = 0 ∨ 2 < n then refuse s .range
  else if x.items < i.val + n then refuse s .badHandle
  else
    let t : VTxn := { d := some d, write, first := i.val, count := n
                      values := if write then ([d.word 12, d.word 16].take n) else [] }
    ((s.onVS p k fun x => { x with queue := x.queue ++ [t] }).vTxnNext p k, .wait)

/-- VALE_BULK_OPEN's row (12 R366). -/
def opValeBulkOpen : OpInfo where
  op := 0x98
  accepts := .satellite
  needsEn := true
  fields := bulkFields ++ [(20, 0, 1), (22, 0, 16)]

/-- A session is opened (12 R356, R358, R366): for a PUT with the object's bytes. -/
def valeOpen (d : Desc) (bytes : List Byte) (p : Fin 16) (k : Fin 32) (s : Dev) : Dev × Res :=
  let x := s.vslot p k
  let get := d.flag 20 0
  let obj := BitVec.ofNat 16 (d.bits 22 0 16)
  if x.state ≠ .present then refuse s .disabled
  else match (List.finRange 16).find? (fun i => (s.vsess p i).isNone) with
    | none => refuse s .busy
    | some sid =>
      if x.maxsess ≤ (s.vSids p k).length then refuse s .busy
      else
        let y : VSess := { slot := k.val, get, obj, len := bulkLen d, d, bytes }
        (((s.onVP p fun v => { v with sess := v.sess.set sid.val (some y) }).vTo p k (.open_ sid.val get obj (bulkLen d))).vWait p k
          (.sess sid.val), .wait)

/-- VALE_BULK_OPEN (12 R366): a PUT reads its object first (02 R53). -/
def doValeBulkOpen (d : Desc) (p : Fin 16) (k : Fin 32) (s : Dev) : Dev × Res :=
  let x := s.vslot p k
  if x.state ≠ .present then refuse s .disabled
  else if !s.bulkOk d ∨ !x.caps.getLsbD 1 then refuse s .range
  else if d.flag 20 0 then valeOpen d [] p k s
  else if x.maxsess ≤ (s.vSids p k).length ∨ (List.finRange 16).all (fun i => (s.vsess p i).isSome) then refuse s .busy
  else (s, .read)

/-- VALE_BULK_ABORT's row (12 R367). -/
def opValeBulkAbort : OpInfo where
  op := 0x99
  accepts := .satellite
  needsEn := true
  fields := [(8, 0, 8)]

/-- VALE_BULK_ABORT (12 R360, R367), which needs the slot PRESENT as the other opcodes do: the open completes with ST_FLUSHED at once; CLOSE with REASON 1 follows. -/
def doValeBulkAbort (d : Desc) (p : Fin 16) (k : Fin 32) (s : Dev) : Dev × Res :=
  if (s.vslot p k).state ≠ .present then refuse s .disabled
  else match s.vForSess p k (BitVec.ofNat 8 (d.bits 8 0 8)) with
  | none => refuse s .conflict
  | some (i, x) =>
    if x.aborted then refuse s .conflict
    else
      let s := (s.vPurge p (VTx.ofSess k.val i)).finish 0x98 x.d .flushed (x.result i x.moved 0 false)
      (((s.onSess p i fun x => { x with aborted := true, phase := .closing, tries := 0 }).vTo p k (.close i.val 1)).vWait p k
        (.sess i.val), .ok)

/-- VALE_SAT_CTRL's row (12 R368). -/
def opValeSatCtrl : OpInfo where
  op := 0x9A
  accepts := .satellite
  needsEn := true
  fields := [(8, 0, 2)]

/-- VALE_SAT_CTRL (12 R368). DESIGN CHOICE: REAUTH of a slot that no handshake can run with, EMPTY, ASSIGNING or EXCLUDED, fails (log entry
215). -/
def doValeSatCtrl (d : Desc) (p : Fin 16) (k : Fin 32) (s : Dev) : Dev × Res :=
  let x := s.vslot p k
  let key := (s.keyOf x.uid).isSome
  match d.bits 8 0 2 with
  | 0 => ((((s.vDrop p k .disabled).vRelease p k).vSlotGo p k .empty).vAssigned p k false, .ok)
  | 1 =>
    if x.state ≠ .quarantine ∨ x.caps.getLsbD 0 ∨ key then refuse s .conflict
    else ((s.vSlotGo p k .present).vTxnNext p k, .ok)
  | 2 =>
    let s := (((s.vDrop p k .disabled).vRelease p k).vSlotGo p k .empty).vAssigned p k false
    (s.onVS p k fun x =>
      { x with uid := none, epoch := 0, caps := 0, items := 0, fwver := 0, maxsess := 0, viols := 0, good := 0
               vals := x.vals.map fun y => { y with value := 0, time := none, old := false } }, .ok)
  | _ =>
    if !key then refuse s .conflict
    else match x.state with
      | .auth => (s.onVS p k fun x => { x with reauth := x.reauth ++ [d] }, .wait)
      | .present | .quarantine | .lost => ((s.onVS p k fun x => { x with reauth := x.reauth ++ [d] }).vHandshake p k, .wait)
      | _ => refuse s .authFail

/-- VALE_SAT_STATUS_GET's row (12 R369). -/
def opValeSatStatusGet : OpInfo where
  op := 0x9B
  accepts := .satellite
  needsEn := true
  fields := [(8, 0, 1)]

/-- VALE_SAT_STATUS_GET (12 R369). -/
def doValeSatStatusGet (d : Desc) (p : Fin 16) (k : Fin 32) (s : Dev) : Dev × Res :=
  let x := s.vslot p k
  if d.flag 8 0 then
    (s, .done .ok (mkRes [(8, 0, 8, x.state.num), (9, 0, 8, x.epoch.toNat), (10, 0, 8, x.caps.toNat), (11, 0, 8, x.items),
                          (12, 0, 16, x.fwver.toNat), (14, 0, 8, (s.vSids p k).length), (15, 0, 8, x.viols)]))
  else (s, .done .ok (x.uid.getD 0))

/-- VALE_ITEM_WATCH's row (12 R370). -/
def opValeItemWatch : OpInfo where
  op := 0x9C
  accepts := .valeValue
  needsEn := true
  fields := [(8, 0, 16), (10, 0, 16), (12, 0, 1)]

/-- VALE_ITEM_WATCH (12 R370); the slot's state counts as the enable (12 R365), which loading waives (18 R507). -/
def doValeItemWatch (d : Desc) (p : Fin 16) (k i : Fin 32) (s : Dev) : Dev × Res :=
  let poll := d.bits 8 0 16
  let maxage := d.bits 10 0 16
  if (s.vslot p k).state ≠ .present ∧ !s.loading then refuse s .disabled
  else if poll ≠ 0 ∧ (poll < 10 ∨ 60000 < poll) then refuse s .range
  else (s.onVS p k fun x =>
    { x with vals := vmod x.vals i fun y =>
        { y with poll, maxage, event := d.flag 12 0
                 old := maxage != 0 && (match y.time with
                   | some t => t + maxage * 400000 < s.now
                   | none => false) } }, .ok)

/-! ## Register views -/

/-- VLn_PRESENT (12 R371). -/
def VPort.present (v : VPort) : Word :=
  mkWord ((List.finRange 32).map fun k => (k.val, 1, ((v.slots[k.val]).state == .present).toNat))

/-- VLn_CONV (12 R371). -/
def VPort.conv (v : VPort) : Word := mkWord [(0, 16, v.stale.toNat), (16, 16, v.authFail.toNat)]

/-! ## The commands -/

/-- VALE_CONV_CONFIG (opcode 0x93, 12 R362). -/
def execValeConvConfig (d : Desc) (s : State) : Host.Outcome State Fault Refusal :=
  .next (s.desc opValeConvConfig d (onValeObj (doValeConvConfig d)))

/-- VALE_DISCOVER (opcode 0x94, 12 R363). -/
def execValeDiscover (d : Desc) (s : State) : Host.Outcome State Fault Refusal :=
  .next (s.desc opValeDiscover d (onValeObj (doValeDiscover d)))

/-- VALE_READ (opcode 0x96, 12 R365). -/
def execValeRead (d : Desc) (s : State) : Host.Outcome State Fault Refusal :=
  .next (s.desc opValeRead d (onItemObj (doValeTxn false d)))

/-- VALE_WRITE (opcode 0x97, 12 R365). -/
def execValeWrite (d : Desc) (s : State) : Host.Outcome State Fault Refusal :=
  .next (s.desc opValeWrite d (onItemObj (doValeTxn true d)))

/-- VALE_BULK_OPEN (opcode 0x98, 12 R366). -/
def execValeBulkOpen (d : Desc) (s : State) : Host.Outcome State Fault Refusal :=
  .next (s.desc opValeBulkOpen d (onSatObj (doValeBulkOpen d)))

/-- VALE_BULK_ABORT (opcode 0x99, 12 R367). -/
def execValeBulkAbort (d : Desc) (s : State) : Host.Outcome State Fault Refusal :=
  .next (s.desc opValeBulkAbort d (onSatObj (doValeBulkAbort d)))

/-- VALE_SAT_CTRL (opcode 0x9A, 12 R368). -/
def execValeSatCtrl (d : Desc) (s : State) : Host.Outcome State Fault Refusal :=
  .next (s.desc opValeSatCtrl d (onSatObj (doValeSatCtrl d)))

/-- VALE_SAT_STATUS_GET (opcode 0x9B, 12 R369). -/
def execValeSatStatusGet (d : Desc) (s : State) : Host.Outcome State Fault Refusal :=
  .next (s.desc opValeSatStatusGet d (onSatObj (doValeSatStatusGet d)))

/-- VALE_ITEM_WATCH (opcode 0x9C, 12 R370). -/
def execValeItemWatch (d : Desc) (s : State) : Host.Outcome State Fault Refusal :=
  .next (s.desc opValeItemWatch d (onItemObj (doValeItemWatch d)))

/-- ANNOUNCE (12 R342). -/
def execAnnounce (p : Fin 16) (f : VFrame) (uid : DWord) (caps : Byte) (s : State) : Host.Outcome State Fault Refusal :=
  .next (s.onDev fun v => v.vAnnounce p f uid caps)

/-- ANN_WIN_END (12 R343). -/
def execAnnWinEnd (p : Fin 16) (disturbed : Bool) (s : State) : Host.Outcome State Fault Refusal :=
  .next (s.onDev fun v => v.vWindow p disturbed)

/-- IDENT_RSP (12 R350). -/
def execIdentRsp (p : Fin 16) (f : VFrame) (uid : DWord) (caps items : Byte) (fwver : BitVec 16) (maxsess : Byte) (s : State) :
    Host.Outcome State Fault Refusal := .next (s.onDev fun v => v.vIdentRsp p f uid caps items fwver maxsess)

/-- PROVE (12 R351). -/
def execProve (p : Fin 16) (f : VFrame) (ns : DWord) (tag : Word) (s : State) : Host.Outcome State Fault Refusal :=
  .next (s.onDev fun v => v.vProve p f ns tag)

/-- NOTIFY (12 R355). -/
def execNotify (p : Fin 16) (f : VFrame) (first : Byte) (values : List Word) (s : State) : Host.Outcome State Fault Refusal :=
  .next (s.onDev fun v => v.vNotify p f first values)

/-- READ_RSP (12 R354). -/
def execReadRsp (p : Fin 16) (f : VFrame) (tid first : Byte) (values : List Word) (s : State) : Host.Outcome State Fault Refusal :=
  .next (s.onDev fun v => v.vReadRsp p f tid first values)

/-- WRITE_RSP (12 R354). -/
def execWriteRsp (p : Fin 16) (f : VFrame) (tid first count : Byte) (s : State) : Host.Outcome State Fault Refusal :=
  .next (s.onDev fun v => v.vWriteRsp p f tid first count)

/-- NAK (12 R341). -/
def execNak (p : Fin 16) (f : VFrame) (cls : Fin 32) (id code detail : Byte) (s : State) : Host.Outcome State Fault Refusal :=
  .next (s.onDev fun v => v.vNak p f cls id code detail)

/-- OPEN_ACK (12 R358). -/
def execOpenAck (p : Fin 16) (f : VFrame) (sid : Byte) (len : Word) (s : State) : Host.Outcome State Fault Refusal :=
  .next (s.onDev fun v => v.vOpenAck p f sid len)

/-- SACK (12 R357). -/
def execSack (p : Fin 16) (f : VFrame) (sid : Byte) (base : BitVec 16) (map : Byte) (s : State) : Host.Outcome State Fault Refusal :=
  .next (s.onDev fun v => v.vSackIn p f sid base map)

/-- DATA (12 R357). -/
def execData (p : Fin 16) (f : VFrame) (sid : Byte) (seg : BitVec 16) (bytes : List Byte) (s : State) :
    Host.Outcome State Fault Refusal := .next (s.onDev fun v => v.vData p f sid seg bytes)

/-- RESUME_ACK (12 R359). -/
def execResumeAck (p : Fin 16) (f : VFrame) (sid : Byte) (s : State) : Host.Outcome State Fault Refusal :=
  .next (s.onDev fun v => v.vResumeAck p f sid)

/-- CLOSE_ACK (12 R360). -/
def execCloseAck (p : Fin 16) (f : VFrame) (sid result : Byte) (s : State) : Host.Outcome State Fault Refusal :=
  .next (s.onDev fun v => v.vCloseAck p f sid result)

/-- RSP_T_EXPIRY (12 R354). -/
def execRspTExpiry (p : Fin 16) (k : Fin 32) (s : State) : Host.Outcome State Fault Refusal := .next (s.onDev fun v => v.vRspT p k)

/-- SACK_T_EXPIRY (12 R357). -/
def execSackTExpiry (p sid : Fin 16) (s : State) : Host.Outcome State Fault Refusal :=
  .next (s.onDev fun v => match v.vsess p sid with
    | some x => if x.get ∧ x.phase = .xfer ∧ 0 < x.since then v.vSack p sid else v
    | none => v)

/-- ALIVE_T_EXPIRY (12 R349). -/
def execAliveTExpiry (p : Fin 16) (k : Fin 32) (s : State) : Host.Outcome State Fault Refusal :=
  .next (s.onDev fun v =>
    let x := v.vslot p k
    if v.active (valeFunc p) ∧ x.state = .present ∧ x.ident.isNone then v.vIdent p k .alive else v)

/-- RESUME_TIMER (12 R359): RESUME while the port can send. -/
def execResumeTimer (p sid : Fin 16) (s : State) : Host.Outcome State Fault Refusal :=
  .next (s.onDev fun v => match v.vsess p sid with
    | some x =>
      if x.phase = .suspended ∧ v.vUp p then v.vSessResend p sid else v
    | none => v)

/-- RESUME_T_EXPIRY (12 R359). -/
def execResumeTExpiry (p sid : Fin 16) (s : State) : Host.Outcome State Fault Refusal :=
  .next (s.onDev fun v => match v.vsess p sid with
    | some x => if x.phase = .suspended then v.vSessEnd p sid .timeout x.moved 0 else v
    | none => v)

/-- PROBE_T_EXPIRY (12 R344). -/
def execProbeTExpiry (p : Fin 16) (s : State) : Host.Outcome State Fault Refusal :=
  .next (s.onDev fun v => if (v.vports[p.val]).probeT ≠ 0 ∧ v.vUp p then v.vTrigger p none else v)

/-- ITEM_POLL_TIMER (12 R355). -/
def execItemPollTimer (p : Fin 16) (k i : Fin 32) (s : State) : Host.Outcome State Fault Refusal :=
  .next (s.onDev fun v =>
    let x := v.vslot p k
    if v.active (valeFunc p) ∧ x.state = .present ∧ (x.vals[i.val]).poll ≠ 0 then
      (v.onVS p k fun x => { x with queue := x.queue ++ [{ d := none, write := false, first := i.val, count := 1 }] }).vTxnNext p k
    else v)

/-- MAXAGE_EXPIRY (12 R355). -/
def execMaxageExpiry (p : Fin 16) (k i : Fin 32) (s : State) : Host.Outcome State Fault Refusal :=
  .next (s.onDev fun v => v.onVS p k fun x =>
    { x with vals := vmod x.vals i fun y => if y.maxage ≠ 0 ∧ y.time.isSome then { y with old := true } else y })

end Sys2Proof.Machine
end

