-- ==== Sys2Proof/Machine/Power.lean ====
section
/-! DEFINITION. Holds and releases of functions, power states, clocks, the host-loss policy and the opcodes of class 0xD, as far as the
host attachment is not concerned (16_power_reset.md, 01 R27). -/

namespace Sys2Proof.Machine

/-- A change of the power block. -/
def Dev.onPower (s : Dev) (f : Power → Power) : Dev := { s with power := f s.power }

/-! ## Holds and releases (16 R469, R470) -/

/-- The descriptors of a function, executing or queued, complete with ST_FLUSHED (16 R470), but for those `keep` names. -/
def Dev.flushWhere (s : Dev) (hit : QDesc → Bool) : Dev :=
  let out := s.waits.filter hit ++ s.bulk.filter hit ++ s.fq.filter hit
  let s := { s with waits := s.waits.filter fun q => !hit q, bulk := s.bulk.filter fun q => !hit q, fq := s.fq.filter fun q => !hit q }
  out.foldl (fun s q => s.ends q .flushed 0) s

/-- The descriptors of a function are flushed. -/
def Dev.flushFunc (s : Dev) (f : Nat) : Dev := s.flushWhere fun q => queueFunc q.op q.d.handle == f

/-- What a hold does to a function itself, by its chapter. -/
def Dev.holdOne (s : Dev) (f : Nat) : Dev :=
  if f = 2 then s.tbHold
  else if 3 ≤ f ∧ f ≤ 5 then s.convHold (ix 2 (f - 3))
  else if 6 ≤ f ∧ f ≤ 11 then s.leHold (ix 5 (f - 6))
  else if 16 ≤ f ∧ f ≤ 21 then (List.range 8).foldl (fun s i => s.pwmHold (ix 47 (8 * (f - 16) + i))) s
  else if 22 ≤ f ∧ f ≤ 29 then s.pairHold (ix 7 (f - 22))
  else if 30 ≤ f ∧ f ≤ 41 then s.fanHold (ix 11 (f - 30))
  else if 42 ≤ f ∧ f ≤ 53 then s.dmHold (ix 11 (f - 42))
  else if f = 54 then s.panelHold
  else if f = 55 then s.flushStaged
  else if f = 56 then s.onLog Log.hold
  else if f = 57 then s.nvHold
  else if 58 ≤ f ∧ f ≤ 65 then s.bbHold (ix 7 (f - 58))
  else if 66 ≤ f ∧ f ≤ 81 then s.vHold (ix 15 (f - 66))
  else if 82 ≤ f ∧ f ≤ 89 then s.sbHold (ix 7 (f - 82))
  else if f = 91 then s.tripHold
  else s

/-- The host-loss policy in force reaches a function that returns (16 R474, R479). -/
def Dev.policyOne (s : Dev) (f : Nat) : Dev :=
  if !s.power.policy then s
  else if 22 ≤ f ∧ f ≤ 29 then (s.valveFailPos (evenOf (ix 7 (f - 22)))).valveFailPos (oddOf (ix 7 (f - 22)))
  else if 30 ≤ f ∧ f ≤ 41 then s.fanHostLoss (ix 11 (f - 30))
  else if 42 ≤ f ∧ f ≤ 53 then s.dmHostLoss (ix 11 (f - 42))
  else s

/-- What a function does on its release, or, with `wake`, at its delay of the wake table (16 R466, R470), when it is enabled. -/
def Dev.startOne (s : Dev) (f : Nat) (wake : Bool) : Dev :=
  if !s.active f then (if 3 ≤ f ∧ f ≤ 5 ∧ !wake then s.refEvent (ix 2 (f - 3)) else s)
  else
    let s :=
      if f = 2 then s.tbStart
      else if 3 ≤ f ∧ f ≤ 5 then (if wake then s.convWake (ix 2 (f - 3)) else s.convRelease (ix 2 (f - 3)))
      else if 6 ≤ f ∧ f ≤ 11 then (s.leRelease (ix 5 (f - 6))).motorsApply (ix 5 (f - 6))
      else if f = 15 then s.zonesRestart
      else if 16 ≤ f ∧ f ≤ 21 then (List.range 8).foldl (fun s i => s.pwmRestart (ix 47 (8 * (f - 16) + i))) s
      else if 30 ≤ f ∧ f ≤ 41 then s.fanRelease (ix 11 (f - 30))
      else if 42 ≤ f ∧ f ≤ 53 then s.dmRelease (ix 11 (f - 42))
      else if f = 54 then s.panelRelease
      else if f = 56 then s.onLog fun g => { g with inCnt := 0, outCnt := 0 }
      else if 58 ≤ f ∧ f ≤ 65 then s.bbWake (ix 7 (f - 58))
      else if 66 ≤ f ∧ f ≤ 81 then s.vWake (ix 15 (f - 66))
      else if 82 ≤ f ∧ f ≤ 89 then s.sbWake (ix 7 (f - 82))
      else s
    s.policyOne f

/-- A function is held by its own bit or by a clock failure, whatever its engine. -/
def Dev.ownHeld (s : Dev) (f : Nat) : Bool := s.frstBit f || (groupOf f < 8 && s.power.clkHeld.getLsbD (groupOf f))

/-- EV_FUNC_RESET and LG_FRESET (16 R470): `clk` a clock failure, `beat` an engine's heartbeat. -/
def Dev.fresetEvent (s : Dev) (f : Nat) (hold clk beat : Bool) : Dev :=
  let arg := mkWord [(0, 7, f), (8, 1, hold.toNat), (9, 1, clk.toNat), (10, 1, beat.toNat)]
  (s.note .info 0 LG_FRESET arg).raise EV_FUNC_RESET 0 (hFunc f) arg

/-- The hold bits change: what the functions concerned, and those of a held engine (01 R16), do, in the order of their IDs. Function 1
acts in the host attachment. -/
def Dev.reHold (s : Dev) (clk beat : Bool) (f : Dev → Dev) : Dev :=
  let t := f s
  (List.range 92).foldl (fun r i =>
    let was := s.held i
    let is := t.held i
    let r := if !was && is then (((r.holdOne i).flushFunc i).endFunc i).loopSources else r
    let r := if was && !is then r.startOne i false else r
    if s.ownHeld i != t.ownHeld i then r.fresetEvent i (t.ownHeld i) clk beat else r) t

/-- The hold bits of FRST are set to a value (16 R469). -/
def Dev.setFrst (s : Dev) (v : BitVec 96) (beat : Bool := false) : Dev :=
  s.reHold false beat fun s => s.onPower fun p => { p with frst := v }

/-- Functions whose hold bit exists (16 R471): not 0, not 92 to 95, not 90 in Quad-SPI attachment. -/
def Dev.frstMask (s : Dev) : BitVec 96 :=
  if s.regs.attach then 0x0BFFFFFFFFFFFFFFFFFFFFFE else 0x0FFFFFFFFFFFFFFFFFFFFFFE

/-! ## Enables (19 R523) -/

/-- Functions whose enable may be written (19 R523): 2 to 5, 16 to 54, 58 to 89, 91. -/
def fenMask : BitVec 96 := 0x0BFFFFFFFC7FFFFFFFFF003C

/-- A function's enable is cleared: it is held and released, and left not enabled; what ran does not run again until its start
descriptor (19 R523). -/
def Dev.disable (s : Dev) (f : Nat) : Dev :=
  let s := s.onPower fun p => { p with fen := p.fen &&& ~~~ (1#96 <<< f) }
  let s := if s.held f then s
    else
      let s := (((s.holdOne f).flushFunc f).endFunc f).fresetEvent f true false false
      let s := if 3 ≤ f ∧ f ≤ 5 then s.refEvent (ix 2 (f - 3)) else s
      (s.fresetEvent f false false false).loopSources
  if 3 ≤ f ∧ f ≤ 5 then s.onConv (ix 2 (f - 3)) fun v => { v with run := false, startOnRef := false }
  else if 16 ≤ f ∧ f ≤ 21 then
    (List.range 8).foldl (fun s i => s.onPwm (ix 47 (8 * (f - 16) + i)) fun p => { p with en := false }) s
  else if 30 ≤ f ∧ f ≤ 41 then s.onFan (ix 11 (f - 30)) fun x => { x with wasEn := false }
  else if 42 ≤ f ∧ f ≤ 53 then s.onDm (ix 11 (f - 42)) fun x => { x with wasEn := false }
  else s

/-- The enables are set to a value (19 R523): the timebase starts when its enable is set (03 R549), and the panel scans from row 0 once it
is enabled (10 R285, R301). -/
def Dev.setFen (s : Dev) (v : BitVec 96) : Dev :=
  let v := v &&& fenMask
  let old := s.power.fen
  let s := (List.range 92).foldl (fun s f => if old.getLsbD f && !v.getLsbD f then s.disable f else s) s
  let s := s.onPower fun p => { p with fen := v }
  let s := if v.getLsbD 2 && !old.getLsbD 2 then s.tbStart else s
  if v.getLsbD 54 && !old.getLsbD 54 && s.active 54 then s.panelRelease else s

/-! ## Power states (16 R457 to R461, R478) -/

/-- EV_PWR_STATE and LG_PWR_STATE (16 R478). -/
def Dev.pwrEvent (s : Dev) (new old : Nat) (src : Nat) : Dev :=
  let arg := mkWord [(0, 2, new), (4, 2, old), (8, 8, src)]
  (s.note .info 0 LG_PWR_STATE arg).raise EV_PWR_STATE 0 hCtl arg

/-- The state changes. -/
def Dev.pwrGo (s : Dev) (new src : Nat) : Dev :=
  let old := s.power.state
  (s.onPower fun p => { p with state := new }).pwrEvent new old src

/-- The idle timer restarts (16 R458). -/
def Dev.idleRestart (s : Dev) : Dev := s.onPower fun p => { p with idleAt := s.now }

/-- A loop declared faster than 100 Hz (16 R459). -/
def Loop.fastDeclared (l : Loop) : Bool := l.state != .disabled && 100 * l.rate.2 < l.rate.1

/-- ECO is entered, or refused; the flag says that it was entered (16 R458 to R460). -/
def Dev.tryEco (s : Dev) : Dev × Bool :=
  match (List.finRange 144).find? fun n => (s.loops[n.val]).fastDeclared with
  | some n =>
    (((s.onPower fun p => { p with ecoRefused := true }).note .info 0 LG_ECO_REFUSED (mkWord [(0, 8, n.val)])).idleRestart, false)
  | none => (((s.pwrGo 1 0).convEco 0).convEco 1, true)

/-- ECO ends (16 R461): FA0 and FA1 restart at their delay of the wake table. -/
def Dev.ecoEnd (s : Dev) : Dev :=
  if s.power.state ≠ 1 then s else ((s.pwrGo 0 0).onPower fun p => { p with faBack := true }).idleRestart

/-- IDLE_TIMER_EXPIRY (16 R458). Where the timer restarts at the same moment, the restart counts (R479). -/
def Dev.idleExpiry (s : Dev) : Dev :=
  if s.power.state = 0 ∧ s.power.idleS ≠ 0 ∧ s.power.sleep = SleepStep.none ∧ s.power.idleAt ≠ s.now then s.tryEco.1 else s

/-! ## SLEEP (16 R462 to R468) -/

/-- Steps 2 and 3 of the SLEEP sequence: what is dispatched completes with ST_FLUSHED, but for an NV write and the request itself;
every output goes inert, converters, ports, loops and engines stop. -/
def Dev.sleepStop (s : Dev) : Dev :=
  if s.power.sleepStopped then s
  else
    let live (f : Nat) (g : Dev → Dev) (s : Dev) : Dev := if s.held f then s else g s
    let s := live 2 Dev.tbHold s
    let s := (List.finRange 3).foldl (fun s c => live (convFunc c) (fun s => s.convStop c) s) s
    let s := (List.finRange 48).foldl (fun s c => live (pwmFunc c) (fun s => s.pwmSleep c) s) s
    let s := live 91 Dev.tripHold s
    let s := (List.finRange 8).foldl (fun s k => live (pairFunc k) (fun s => s.pairHold k) s) s
    let s := (List.finRange 12).foldl (fun s n => live (dmFunc n) (fun s => s.dmHold n) (live (fanFunc n) (fun s => s.fanHold n) s)) s
    let s := live 54 Dev.panelHold s
    let s := (List.finRange 8).foldl (fun s p => live (sbFunc p) (fun s => s.sbSleep p) (live (bbFunc p) (fun s => s.bbSleep p) s)) s
    let s := (List.finRange 16).foldl (fun s p => live (valeFunc p) (fun s => s.vSleep p) s) s
    let s := s.flushStaged
    let keep (q : QDesc) : Bool := [0xD0, 0xF0, 0xF3, 0xF4, 0x95].contains q.op && s.waits.contains q
    let s := s.flushWhere fun q => !keep q
    { s with
      loops := s.loops.map fun l => { l with due := false }
      power := { s.power with sleepStopped := true, groups := 0xFE, groupsDue := 0, faBack := false } }

/-- The engines run again from retained memories: loops go on, zones rewrite their outputs; the groups' delays begin (16 R466). -/
def Dev.coreBack (s : Dev) : Dev :=
  let s := s.onPower fun p => { p with sleep := .none, sleepStopped := false }
  (Dev.zonesRestart { s with loops := s.loops.map fun l => { l with lastRun := none } })

/-- A wake source is recorded (16 R464), with the request that it ends, if it ends one. -/
def Dev.recordWake (s : Dev) (code : Nat) (d : Option Desc) : Dev :=
  s.onPower fun p => { p with wakeSrc := BitVec.ofNat 8 code, woke := some (s.now, code, d) }

/-- What the records, events and completion of a wake say of its source (16 R464, R465, R478): ARG of LG_SLEEP_ABORT, ARG of LG_PWR_STATE and
EV_PWR_STATE, RESULT. -/
def abortArg (code : Nat) : Word := mkWord [(0, 8, code)]
def wakeArg (code : Nat) : Word := mkWord [(0, 2, 0), (4, 2, 2), (8, 8, code)]
def wakeRes (code : Nat) : DWord := mkRes [(8, 0, 8, code)]

/-- A source of a lower code fires on the OCLK of the wake that has just been recorded: the lowest code is the one recorded and reported (16
R464). DEDUCED: moments on one cycle of a slower clock are moments of one TCLK here (log entry 238). -/
def Dev.rewake (s : Dev) (code : Nat) : Dev :=
  match s.power.woke with
  | none => s
  | some (at_, old, d) =>
    if at_ ≠ s.now ∨ old ≤ code then s
    else
      let s := s.recordWake code d
      { s with
        done := s.done.map fun x =>
          if d.any (fun q => x.sq == q.sq && x.tag == q.tag && x.handle == hCtl) && x.result == wakeRes old then
            { x with result := wakeRes code } else x
        raised := s.raised.map fun e => if e.code = EV_PWR_STATE ∧ e.arg = wakeArg old then { e with arg := wakeArg code } else e
        log := { s.log with recs := s.log.recs.map fun r =>
          if r.time ≠ s.tick ∨ r.src ≠ 0 then r
          else if r.code = LG_SLEEP_ABORT ∧ r.arg = abortArg old then { r with arg := abortArg code }
          else if r.code = LG_PWR_STATE ∧ r.arg = wakeArg old then { r with arg := wakeArg code } else r } }

/-- An enabled wake source aborts the SLEEP sequence (16 R465). DEDUCED: a request made in ECO has ended ECO (16 R461), so its abort
leaves RUN (log entry 220). -/
def Dev.sleepAborted (s : Dev) (d : Desc) (code : Nat) : Dev :=
  let s := ((s.recordWake code (some d)).onPower fun p => { p with sleepAbort := true }).note .info 0 LG_SLEEP_ABORT (abortArg code)
  let stopped := s.power.sleepStopped
  let s := if stopped then s.coreBack else s.onPower fun p => { p with sleep := .none }
  let s := if s.power.state = 1 then (s.pwrGo 0 0).onPower fun p => { p with faBack := !stopped } else s
  (s.finish 0xD0 d .conflict (wakeRes code)).idleRestart

/-- A wake from SLEEP (16 R462, R465, R466). -/
def Dev.woken (s : Dev) (d : Desc) (code : Nat) : Dev :=
  let s := (((s.recordWake code (some d)).onPower fun p => { p with wdtAt := s.now }).pwrGo 0 code).coreBack
  (s.finish 0xD0 d .ok (wakeRes code)).idleRestart

/-- A wake source of 16 R464 is enabled by PWR_WAKE_CONFIG. -/
def Power.wakeEnabled (p : Power) (code : Nat) : Bool :=
  if 1 ≤ code ∧ code ≤ 4 then p.wakePins.getLsbD (code - 1)
  else if code = 5 then p.wakeKeys
  else if code = 6 ∨ code = 7 then p.wakeAlarm
  else if code = 8 then p.wakePer
  else if code = 9 then p.wakeHost
  else 16 ≤ code && code < 32 && p.wakeVale.getLsbD (code - 16)

/-- A wake source is enabled in Hollow's own copy (15 R449). -/
def Hollow.wakeEnabled (h : Hollow) (code : Nat) : Bool :=
  if 1 ≤ code ∧ code ≤ 4 then h.pinEn.getLsbD (code - 1) else if code = 6 ∨ code = 7 then h.alarmEn else code == 8 && h.perEn

/-- SV and its domain work: not in HIBERNATE, and not while VMAIN holds the device in reset (01 R28, 20 R537). -/
def Dev.svOn (s : Dev) : Bool := !s.power.vmainHold && (match s.power.sleep with
  | .hibernating | .off => false
  | _ => true)

/-- Hollow's part of a wake (15 R449): with PWRON off or a release pending it drives PWRON on and records the source, for SV at once where
it works, else for the start-up (16 R468). -/
def Dev.hollowWake (s : Dev) (code : Nat) : Dev :=
  let h := s.hollow
  if h.wakeEnabled code ∧ (!h.pwron ∨ h.release.isSome) then
    let s := s.onHollow fun h => { h with pwron := true, release := none, wakeSrc := if s.svOn then h.wakeSrc else some (BitVec.ofNat 8 code) }
    if s.svOn then s.recordWake code none else s
  else s

/-- A wake source fires (16 R464, R465): it aborts a request, or ends SLEEP; the flag says that HIBERNATE ends (16 R468). -/
def Dev.wakeBy (s : Dev) (code : Nat) : Dev × Bool :=
  let was := s.hollow.pwron && s.hollow.release.isNone
  let s := if s.power.wakeEnabled code ∨ s.hollow.wakeEnabled code then (s.rewake code).hollowWake code else s
  match s.power.sleep with
  | .none => (s, false)
  | .requested d => (if s.power.wakeEnabled code then s.sleepAborted d code else s, false)
  | .asleep d => (if s.power.wakeEnabled code then s.woken d code else s, false)
  | .hibernating | .off => (s, !was && s.hollow.pwron && s.hollow.release.isNone && s.hollow.wakeSrc.isSome)

/-- The functions of a wake-table group (16 R467). -/
def groupFuncs (g : Fin 8) : List Nat := (List.range 92).filter fun f => groupOf f == g.val

/-- A group starts (16 R466): its functions leave SLEEP, or the hold of a clock that failed (01 R27). -/
def Dev.groupGo (s : Dev) (g : Fin 8) : Dev :=
  let bit : BitVec 8 := 1#8 <<< g.val
  let slept := s.power.groups.getLsbD g.val
  let s := s.onPower fun p => { p with groups := p.groups &&& ~~~ bit, groupsDue := p.groupsDue &&& ~~~ bit }
  let t := s.reHold true false fun s => s.onPower fun p => { p with clkHeld := p.clkHeld &&& ~~~ bit }
  let t := if slept then (groupFuncs g).foldl (fun t f => if s.held f then t else t.startOne f true) t else t
  if g = 2 ∧ t.power.faBack then
    let t := t.onPower fun p => { p with faBack := false }
    (List.finRange 2).foldl (fun t c => if t.active (3 + c.val) then t.convWake (ix 2 c.val) else t) t
  else t

/-- WAKE_GROUP_START (16 R466): a group whose functions run on PLL-B's clocks waits for its lock; group 0 needs no clock. -/
def Dev.groupStart (s : Dev) (g : Fin 8) : Dev :=
  let due := s.power.groups.getLsbD g.val || s.power.clkHeld.getLsbD g.val || (g == 2 && s.power.faBack)
  if !due ∨ (s.power.sleep ≠ SleepStep.none ∧ s.asleep) ∨ (g ≠ 0 ∧ (s.power.pllbDown ∨ s.power.xclkDown)) then s
  else if g ≠ 0 ∧ !s.power.pllbLock then s.onPower fun p => { p with groupsDue := p.groupsDue ||| (1#8 <<< g.val) }
  else s.groupGo g

/-- PLL-B has locked: the groups that wait for it start, in group order (16 R466). -/
def Dev.groupsLocked (s : Dev) : Dev :=
  (List.finRange 8).foldl (fun s g => if s.power.groupsDue.getLsbD g.val then s.groupGo g else s) s

/-- PLL_LOCK (16 R466, 19 R524): not once the switches of SLEEP are open, where both PLLs and XCLK are off (01 R25). -/
def Dev.pllLocked (s : Dev) (c : Clk) : Dev :=
  if s.dark then s
  else match c with
  | .xclk => s.onPower fun p => { p with xclkOk := p.xclkOk || !p.xclkDown }
  | .pllA => s.onPower fun p => { p with pllaLock := p.pllaLock || !(p.pllaDown || p.xclkDown) }
  | .pllB =>
    if s.power.pllbDown ∨ s.power.xclkDown then s else (s.onPower fun p => { p with pllbLock := true }).groupsLocked

/-! ## Clock failures (01 R27) -/

/-- The clocks run and SV watches them: not once the switches of SLEEP are open (16 R462). -/
def Dev.clocksOn (s : Dev) : Bool := !s.dark

/-- PLL-B's functions are treated as held (01 R27): wake-table groups 1 to 7. -/
def Dev.clkHold (s : Dev) : Dev :=
  (s.reHold true false fun s => s.onPower fun p => { p with clkHeld := 0xFE, groupsDue := 0 })

/-- CLOCK_FAIL (01 R27). DEDUCED: a failure of XCLK makes one record and sets XCLK_FAIL alone of the three FAIL bits (log entry 65). -/
def Dev.clockFail (s : Dev) (c : Clk) : Dev :=
  let p := s.power
  let again : Bool := match c with
    | .xclk => p.xclkDown
    | .pllA => p.pllaDown || p.xclkDown
    | .pllB => p.pllbDown || p.xclkDown
  if again ∨ !s.clocksOn then s
  else
    let s := s.onPower fun p => { p with clkFails := p.clkFails + 1 }
    match c with
    | .pllA =>
      ((s.onPower fun p => { p with pllaFail := true, pllaLock := false, pllaDown := true }).reportOpen (hFunc 0) 0 .fault LG_CLK_PLLA).ecoEnd
    | .pllB =>
      (((s.onPower fun p => { p with pllbFail := true, pllbLock := false, pllbDown := true }).reportOpen (hFunc 0) 0 .alarm
        LG_CLK_PLLB).ecoEnd).clkHold
    | .xclk =>
      ((((s.onPower fun p => { p with xclkFail := true, xclkOk := false, pllaLock := false, pllbLock := false, xclkDown := true }).reportOpen
        (hFunc 0) 0 .alarm LG_CLK_XCLK).ecoEnd).nvClock).clkHold

/-- CLOCK_RETRY (01 R27): SV retries the lock of a failed PLL, which is off in SLEEP (R25). -/
def Dev.clockRetry (s : Dev) (c : Clk) (locked : Bool) : Dev :=
  if !s.clocksOn then s
  else match c with
  | .pllA => if s.power.pllaDown ∧ !s.power.xclkDown then s.onPower fun p => { p with pllaLock := locked } else s
  | .pllB => if s.power.pllbDown ∧ !s.power.xclkDown then s.onPower fun p => { p with pllbLock := locked } else s
  | .xclk => s

/-- CLOCK_RESTORED (01 R27): the clock has held; PLL-B's functions now return in wake-table order. In SLEEP the clocks are off (R25). -/
def Dev.clockRestored (s : Dev) (c : Clk) : Dev :=
  let p := s.power
  if !s.clocksOn then s
  else match c with
  | .pllA =>
    if p.pllaDown ∧ !p.xclkDown then
      (s.onPower fun p => { p with pllaDown := false, pllaLock := true }).noteOpen .info 0 LG_CLK_RESTORED
    else s
  | .pllB =>
    if p.pllbDown ∧ !p.xclkDown then
      (s.onPower fun p => { p with pllbDown := false, pllbLock := true }).noteOpen .info 0 LG_CLK_RESTORED
    else s
  | .xclk =>
    if p.xclkDown then
      (s.onPower fun p => { p with xclkDown := false, xclkOk := true, pllaDown := false, pllaLock := true, pllbDown := false
                                   pllbLock := true }).noteOpen .info 0 LG_CLK_RESTORED
    else s

/-! ## Host loss (16 R473 to R475) -/

/-- The policy ends (16 R475). -/
def Dev.policyEnd (s : Dev) : Dev :=
  if !s.power.policy then s
  else
    let s := s.onPower fun p => { p with policy := false, valveFail := p.valveFail && !p.polNoHold }
    (((s.noteOpen .info 0 LG_HOST_BACK).raise EV_HOST_LOSS 0 hCtl 0)).endErrOf (hFunc 0) [LG_HOST_LOSS]

/-- Host activity (16 R473): the watchdog restarts and the policy ends; with an accepted col write the idle timer restarts too. -/
def Dev.hostActive (s : Dev) (col : Bool) : Dev :=
  let s := s.onPower fun p => { p with wdtAt := s.now, idleAt := if col then s.now else p.idleAt }
  s.policyEnd

/-- The host-loss policy applies (16 R474): `link` a link event caused it, `hold` the device is in host hold. An expiry at the moment at which
the timer restarts does not apply it (R479). -/
def Dev.policyGo (s : Dev) (link hold : Bool) : Dev :=
  if s.power.policy ∨ !s.power.wdtEn ∨ s.dark ∨ (!link ∧ s.power.wdtAt = s.now) then s
  else
    let arg := mkWord [(0, 1, 1), (1, 1, link.toNat)]
    let s := (s.onPower fun p => { p with policy := true, polNoHold := !hold, valveFail := true }).reportEv (hFunc 0) 0 .alarm
      LG_HOST_LOSS arg EV_HOST_LOSS hCtl arg
    (List.range 32).foldl (fun s i => s.policyOne (22 + i)) s

/-! ## Descriptors (14 R435) -/

/-- PWR_STATE's row. -/
def opPwrState : OpInfo where
  op := 0xD0
  accepts := .controller
  fields := [(8, 0, 2)]

/-- PWR_STATE (16 R458, R461, R462): host hold begins in the host attachment. -/
def doPwrState (d : Desc) (_ : Obj) (s : Dev) : Dev × Res :=
  let s := s.idleRestart
  match d.bits 8 0 2 with
  | 0 => (s.ecoEnd, .ok)
  | 1 =>
    if s.power.state = 1 then (s, .ok)
    else
      let r := s.tryEco
      if r.2 then (r.1, .ok) else (r.1, .done .busy)
  | _ =>
    if s.power.sleep ≠ SleepStep.none then refuse s .flushed
    else (s.onPower fun p => { p with sleep := .requested d, sleepAt := s.now, sleepStopped := false }, .wait)

/-- PWR_IDLE_CONFIG's row. -/
def opPwrIdleConfig : OpInfo where
  op := 0xD1
  accepts := .controller
  fields := [(8, 0, 16)]

/-- PWR_IDLE_CONFIG (14 R435): the timer starts where it was off, and nothing else here restarts it (16 R458). -/
def doPwrIdleConfig (d : Desc) (_ : Obj) (s : Dev) : Dev × Res :=
  if 3600 < d.bits 8 0 16 then refuse s .range
  else
    let t := s.onPower fun p => { p with idleS := d.bits 8 0 16 }
    (if s.power.idleS = 0 then t.idleRestart else t, .done .ok (mkRes [(8, 0, 16, s.power.idleS)]))

/-- PWR_WAKE_CONFIG's row. -/
def opPwrWakeConfig : OpInfo where
  op := 0xD2
  accepts := .controller
  fields := [(8, 0, 8), (12, 0, 16)]

/-- PWR_WAKE_CONFIG (14 R435), with Hollow's copy of its enables (15 R449), which lockout keeps (15 R452). -/
def doPwrWakeConfig (d : Desc) (_ : Obj) (s : Dev) : Dev × Res :=
  let pins := BitVec.ofNat 4 (d.bits 8 0 4)
  let s := s.onPower fun p =>
    { p with wakePins := pins, wakeKeys := d.flag 8 4, wakeAlarm := d.flag 8 5, wakePer := d.flag 8 6, wakeHost := d.flag 8 7
             wakeVale := BitVec.ofNat 16 (d.bits 12 0 16) }
  (if s.hollow.lockout then s
   else s.onHollow fun h => { h with pinEn := pins, alarmEn := d.flag 8 5, perEn := d.flag 8 6 }, .ok)

/-- PWR_FRESET's row: its function is SV (14 R436). -/
def opPwrFreset : OpInfo where
  op := 0xD3
  accepts := .function
  func := some 0
  fields := [(8, 0, 1)]

/-- PWR_FRESET (14 R435, 16 R470, R471). -/
def doPwrFreset (d : Desc) (o : Obj) (s : Dev) : Dev × Res :=
  match o with
  | .function f =>
    let hold := d.flag 8 0
    if f.val = 0 then refuse s .range
    else if f.val = 1 ∨ (f.val = 90 ∧ s.regs.attach) then refuse s .conflict
    else
      let bit : BitVec 96 := 1#96 <<< f.val
      let same := s.held f.val == hold
      (s.setFrst (if hold then s.power.frst ||| bit else s.power.frst &&& ~~~ bit), .done .ok (mkRes [(8, 0, 8, same.toNat)]))
  | _ => refuse s .badHandle

/-- PWR_WATCHDOG's row. -/
def opPwrWatchdog : OpInfo where
  op := 0xD4
  accepts := .controller
  fields := [(8, 0, 1), (12, 0, 32)]

/-- PWR_WATCHDOG (14 R435, 16 R473). -/
def doPwrWatchdog (d : Desc) (_ : Obj) (s : Dev) : Dev × Res :=
  let t := d.bits 12 0 32
  if t < 100 ∨ 600000 < t then refuse s .range
  else
    let old := s.power.timeout
    ((s.onPower fun p => { p with wdtEn := d.flag 8 0, timeout := d.word 12 }).hostActive false, .done .ok (mkRes [(8, 0, 32, old.toNat)]))

/-- PWR_STATUS_GET's row. -/
def opPwrStatusGet : OpInfo where
  op := 0xD5
  accepts := .controller

/-- What is left of the idle timer in ms, rounded up; 0 while it does not run (14 R435). -/
def Dev.idleLeft (s : Dev) : Nat :=
  let p := s.power
  if p.state = 0 ∧ p.idleS ≠ 0 then (p.idleAt + p.idleS * 400000000 - s.now + 399999) / 400000 else 0

/-- PWR_STATUS_GET (14 R435). -/
def doPwrStatusGet (_ : Desc) (_ : Obj) (s : Dev) : Dev × Res :=
  (s, .done .ok (mkRes [(8, 0, 8, s.power.state), (9, 0, 8, s.power.wakeSrc.toNat), (10, 0, 1, s.power.policy.toNat),
                        (12, 0, 32, s.idleLeft)]))

/-! ## Registers -/

/-- PWR_STATUS (16 R477). -/
def Power.status (p : Power) : Word :=
  mkWord [(0, 2, p.state), (2, 1, p.policy.toNat), (3, 1, p.wdtEn.toNat), (4, 1, p.sleepAbort.toNat), (5, 1, p.ecoRefused.toNat),
          (8, 8, p.wakeSrc.toNat)]

/-- CLK_STATUS (19 R524): FCLK and ECLK are at 50 MHz in ECO, unless they run on OCLK. -/
def Dev.clkStatus (s : Dev) : Word :=
  let p := s.power
  mkWord [(0, 1, p.xclkOk.toNat), (1, 1, p.pllaLock.toNat), (2, 1, p.pllbLock.toNat), (3, 1, s.fallback.toNat),
          (4, 1, (p.state == 1 && !s.fallback).toNat), (5, 1, p.pllaFail.toNat), (6, 1, p.pllbFail.toNat), (7, 1, p.xclkFail.toNat)]

/-! ## The commands -/

/-- PWR_IDLE_CONFIG (opcode 0xD1, 14 R435). -/
def execPwrIdleConfig (d : Desc) (s : State) : Host.Outcome State Fault Refusal := .next (s.desc opPwrIdleConfig d (doPwrIdleConfig d))

/-- PWR_WAKE_CONFIG (opcode 0xD2, 14 R435). -/
def execPwrWakeConfig (d : Desc) (s : State) : Host.Outcome State Fault Refusal := .next (s.desc opPwrWakeConfig d (doPwrWakeConfig d))

/-- PWR_FRESET (opcode 0xD3, 14 R435, R436). -/
def execPwrFreset (d : Desc) (s : State) : Host.Outcome State Fault Refusal := .next (s.desc opPwrFreset d (doPwrFreset d))

/-- PWR_WATCHDOG (opcode 0xD4, 14 R435). -/
def execPwrWatchdog (d : Desc) (s : State) : Host.Outcome State Fault Refusal := .next (s.desc opPwrWatchdog d (doPwrWatchdog d))

/-- PWR_STATUS_GET (opcode 0xD5, 14 R435). -/
def execPwrStatusGet (d : Desc) (s : State) : Host.Outcome State Fault Refusal := .next (s.desc opPwrStatusGet d (doPwrStatusGet d))

/-- IDLE_TIMER_EXPIRY (16 R458). -/
def execIdleTimerExpiry (s : State) : Host.Outcome State Fault Refusal := .next (s.onDev Dev.idleExpiry)

/-- WAKE_GROUP_START (16 R466). -/
def execWakeGroupStart (g : Fin 8) (s : State) : Host.Outcome State Fault Refusal := .next (s.onDev fun v => v.groupStart g)

/-- PLL_LOCK (16 R466). -/
def execPllLock (c : Clk) (s : State) : Host.Outcome State Fault Refusal := .next (s.onDev fun v => v.pllLocked c)

/-- CLOCK_FAIL (01 R27). -/
def execClockFail (c : Clk) (s : State) : Host.Outcome State Fault Refusal := .next (s.onDev fun v => v.clockFail c)

/-- CLOCK_RETRY (01 R27). -/
def execClockRetry (c : Clk) (locked : Bool) (s : State) : Host.Outcome State Fault Refusal :=
  .next (s.onDev fun v => v.clockRetry c locked)

/-- CLOCK_RESTORED (01 R27). -/
def execClockRestored (c : Clk) (s : State) : Host.Outcome State Fault Refusal := .next (s.onDev fun v => v.clockRestored c)

end Sys2Proof.Machine
end

