-- ==== Sys2Proof/Machine/Sys.lean ====
section
/-! DEFINITION. The opcodes of class 0x0 (14 R423). -/

namespace Sys2Proof.Machine

/-- SYS_NOP's row. -/
def opSysNop : OpInfo where
  op := 0x00
  accepts := .controller
  fields := [(8, 0, 64)]

/-- SYS_NOP: RESULT is payload bytes 8 to 15 (14 R423). -/
def doSysNop (d : Desc) (_ : Obj) (s : Dev) : Dev × Res := (s, .done .ok (BitVec.ofNat 64 (d.bits 8 0 64)))

/-- SYS_INFO_GET's row. -/
def opSysInfoGet : OpInfo where
  op := 0x01
  accepts := .controller
  fields := [(8, 0, 2)]

/-- The running slot; none in recovery. -/
def Nv.running (n : Nv) : Option FwSlot := if h : n.slot < 2 then some n.slots[n.slot] else none

/-- SYS_INFO_GET (14 R423). -/
def doSysInfoGet (d : Desc) (_ : Obj) (s : Dev) : Dev × Res :=
  let n := s.nv
  let r := n.running
  match d.bits 8 0 2 with
  | 0 => (s, .done .ok n.uid)
  | 1 =>
    (s, .done .ok (mkRes [(8, 0, 16, 0x0100), (10, 0, 16, (r.map fun x => x.version.toNat).getD 0),
                          (12, 0, 8, if n.slot < 2 then n.slot else 0xFF), (13, 0, 8, if n.bank < 2 then n.bank else 0xFF)]))
  | 2 =>
    let c := match n.activeBank with
      | some k => n.banks[k.val].seq.toNat
      | none => 0
    (s, .done .ok (mkRes [(8, 0, 32, (r.map fun x => x.seq.toNat).getD 0), (12, 0, 32, c)]))
  | _ => refuse s .range

/-- SYS_COUNTERS_GET's row. -/
def opSysCountersGet : OpInfo where
  op := 0x02
  accepts := .controller
  fields := [(8, 0, 1)]

/-- SYS_COUNTERS_GET (14 R423). -/
def doSysCountersGet (d : Desc) (_ : Obj) (s : Dev) : Dev × Res :=
  let p := s.power
  if d.flag 8 0 then (s, .done .ok (mkRes [(8, 0, 32, p.netDrop.toNat), (12, 0, 32, p.clkFails.toNat)]))
  else (s, .done .ok (mkRes [(8, 0, 32, p.memCe.toList.foldl (fun a w => a + w.toNat) 0), (12, 0, 32, p.memUe.toNat)]))

/-- SYS_RING_RESYNC's row, as an SQ may hold it (02 R73, 14 R423). -/
def opSysRingResync : OpInfo where
  op := 0x0F
  accepts := .controller
  fields := [(8, 0, 8), (9, 0, 4)]

/-- SYS_NOP (opcode 0x00, 14 R423). -/
def execSysNop (d : Desc) (s : State) : Host.Outcome State Fault Refusal := .next (s.desc opSysNop d (doSysNop d))

/-- SYS_INFO_GET (opcode 0x01, 14 R423). -/
def execSysInfoGet (d : Desc) (s : State) : Host.Outcome State Fault Refusal := .next (s.desc opSysInfoGet d (doSysInfoGet d))

/-- SYS_COUNTERS_GET (opcode 0x02, 14 R423). -/
def execSysCountersGet (d : Desc) (s : State) : Host.Outcome State Fault Refusal :=
  .next (s.desc opSysCountersGet d (doSysCountersGet d))

end Sys2Proof.Machine
end

