-- ==== Sys2Proof/Machine/Catalog.lean ====
section
/-! DEFINITION. The descriptor catalogue (14): the row of every assigned opcode, for the checks at dispatch (01 R32), and the bodies of
the opcodes that a configuration image may hold (18 R506). -/

namespace Sys2Proof.Machine

/-- Class 0x0 (14). -/
def rows0 : List OpInfo :=
  [opSysNop, opSysInfoGet, opSysCountersGet, opSysRingResync]

/-- Class 0x1 (14). -/
def rows1 : List OpInfo :=
  [opTbConfig, opTbStatusGet, opTbEventSet, opTbEventClear]

/-- Class 0x2 (14). -/
def rows2 : List OpInfo :=
  [opAdcConfig, opAdcSeqWrite, opAdcRun, opAdcUrgent, opAdcRead, opAdcCal]

/-- Class 0x3 (14). -/
def rows3 : List OpInfo :=
  [opLoopBind, opLoopScale, opLoopGains, opLoopLimits, opLoopProfile, opLoopSupervise, opLoopSet, opLoopCtrl, opLoopStatusGet]

/-- Class 0x4 (14). -/
def rows4 : List OpInfo :=
  [opZoneConfig, opZoneSetpoints, opZoneInput, opZoneOutput, opZoneOverride, opZoneStatusGet, opSchedWrite, opSchedExcept]

/-- Class 0x5 (14). -/
def rows5 : List OpInfo :=
  [opPwmChConfig, opPwmSet, opPwmField, opPwmCommit, opPwmCtrl, opPwmTripConfig, opPwmTripClear, opPwmStatusGet]

/-- Class 0x6 (14). -/
def rows6 : List OpInfo :=
  [opValveConfig, opValveProfile, opValveCmd, opValvePropSet, opSaddleConfig, opValveAck, opValveStatusGet]

/-- Class 0x7 (14). -/
def rows7 : List OpInfo :=
  [opFanConfig, opFanBands, opFanSet, opFanCtrl, opFanStatusGet, opDamperConfig, opDamperSet, opDamperCtrl, opDamperCal,
   opDamperStatusGet]

/-- Class 0x8 (14). -/
def rows8 : List OpInfo :=
  [opPanelConfig, opPanelLadder, opPanelLed, opEncConfig, opEncRead, opPanelStatusGet]

/-- Class 0x9 (14). -/
def rows9 : List OpInfo :=
  [opValePortConfig, opValePortCtrl, opValePortStatusGet, opValeConvConfig, opValeDiscover, opValeKeySet, opValeRead,
   opValeWrite, opValeBulkOpen, opValeBulkAbort, opValeSatCtrl, opValeSatStatusGet, opValeItemWatch]

/-- Class 0xA (14). -/
def rowsA : List OpInfo :=
  [opBbConfig, opBbMstpConfig, opBbCtrl, opBbSend, opBbRecv, opBbSegSend, opBbPollWrite, opBbMbReq, opBbSlaveImage, opBbRead,
   opBbStatusGet]

/-- Class 0xB (14). -/
def rowsB : List OpInfo :=
  [opSbConfig, opSbPollWrite, opSbXfer, opSbCtrl, opSbRead, opSbStatusGet]

/-- Class 0xC (14). -/
def rowsC : List OpInfo :=
  [opHollowTimeGet, opHollowCalGet, opHollowTimeSet, opHollowAlarmSet, opHollowWakeSet, opHollowTrim, opHollowBackupRead,
   opHollowBackupWrite, opHollowPwron, opHollowOsfClear]

/-- Class 0xD (14). -/
def rowsD : List OpInfo :=
  [opPwrState, opPwrIdleConfig, opPwrWakeConfig, opPwrFreset, opPwrWatchdog, opPwrStatusGet]

/-- Class 0xE (14). -/
def rowsE : List OpInfo :=
  [opLogRead, opLogConfig, opLogAck, opLogStatsGet, opLogMark, opDiagEngineGet]

/-- Class 0xF (14). -/
def rowsF : List OpInfo :=
  [opNvConfigWrite, opNvConfigRead, opNvStatusGet, opFwWrite, opNvInvalidate]

/-- The row of an opcode; none: it is not assigned (14 R419). -/
def opInfo (op : Nat) : Option OpInfo :=
  (rows0 ++ rows1 ++ rows2 ++ rows3 ++ rows4 ++ rows5 ++ rows6 ++ rows7 ++ rows8 ++ rows9 ++ rowsA ++ rowsB ++ rowsC ++ rowsD
    ++ rowsE ++ rowsF).find? fun i => i.op == op

/-- An opcode that an image may hold, with its body. -/
structure ImgRow where
  info : OpInfo
  body : Desc → Obj → Dev → Dev × Res

/-- Class 0x1 in an image (18 R506). -/
def img1 : List ImgRow :=
  [⟨opTbConfig, fun d => doTbConfig d⟩,
   ⟨opTbStatusGet, fun _ => doTbStatusGet⟩,
   ⟨opTbEventSet, fun d => onEventObj (doTbEventSet d)⟩,
   ⟨opTbEventClear, fun _ => onEventObj doTbEventClear⟩]

/-- Class 0x2 in an image (18 R506). -/
def img2 : List ImgRow :=
  [⟨opAdcConfig, fun d => onConvFunc (doAdcConfig d)⟩,
   ⟨opAdcSeqWrite, fun d => onConvFunc (doAdcSeqWrite d)⟩,
   ⟨opAdcRun, fun d => onConvFunc (doAdcRun d)⟩,
   ⟨opAdcUrgent, fun d => onConvObj (doAdcUrgent d)⟩,
   ⟨opAdcRead, fun _ => onConvObj doAdcRead⟩,
   ⟨opAdcCal, fun d => onConvObj (doAdcCal d)⟩]

/-- Class 0x3 in an image (18 R506). -/
def img3 : List ImgRow :=
  [⟨opLoopBind, fun d => onLoopObj (doLoopBind d)⟩,
   ⟨opLoopScale, fun d => onLoopObj (doLoopScale d)⟩,
   ⟨opLoopGains, fun d => onLoopObj (doLoopGains d)⟩,
   ⟨opLoopLimits, fun d => onLoopObj (doLoopLimits d)⟩,
   ⟨opLoopProfile, fun d => onLoopObj (doLoopProfile d)⟩,
   ⟨opLoopSupervise, fun d => onLoopObj (doLoopSupervise d)⟩,
   ⟨opLoopSet, fun d => onLoopObj (doLoopSet d)⟩,
   ⟨opLoopCtrl, fun d => onLoopObj (doLoopCtrl d)⟩,
   ⟨opLoopStatusGet, fun d => onLoopObj (doLoopStatusGet d)⟩]

/-- Class 0x4 in an image (18 R506). -/
def img4 : List ImgRow :=
  [⟨opZoneConfig, fun d => onZoneObj (doZoneConfig d)⟩,
   ⟨opZoneSetpoints, fun d => onZoneObj (doZoneSetpoints d)⟩,
   ⟨opZoneInput, fun d => onZoneObj (doZoneInput d)⟩,
   ⟨opZoneOutput, fun d => onZoneObj (doZoneOutput d)⟩,
   ⟨opZoneOverride, fun d => onZoneObj (doZoneOverride d)⟩,
   ⟨opZoneStatusGet, fun _ => onZoneObj doZoneStatusGet⟩,
   ⟨opSchedWrite, fun d => onZoneObj (doSchedWrite d)⟩,
   ⟨opSchedExcept, fun d => onDateObj (doSchedExcept d)⟩]

/-- Class 0x5 in an image (18 R506). -/
def img5 : List ImgRow :=
  [⟨opPwmChConfig, fun d => onPwmObj (doPwmChConfig d)⟩,
   ⟨opPwmSet, fun d => onPwmObj (doPwmSet d)⟩,
   ⟨opPwmField, fun d => onPwmObj (doPwmField d)⟩,
   ⟨opPwmCommit, fun d => onBankObj (doPwmCommit d)⟩,
   ⟨opPwmCtrl, fun d => onBankObj (doPwmCtrl d)⟩,
   ⟨opPwmTripConfig, fun d => onTripObj (doPwmTripConfig d)⟩,
   ⟨opPwmTripClear, fun _ => onPwmObj doPwmTripClear⟩,
   ⟨opPwmStatusGet, fun d => onPwmObj (doPwmStatusGet d)⟩]

/-- Class 0x6 in an image (18 R506). -/
def img6 : List ImgRow :=
  [⟨opValveConfig, fun d => onValveObj (doValveConfig d)⟩,
   ⟨opValveProfile, fun d => onValveObj (doValveProfile d)⟩,
   ⟨opValveCmd, fun d => onValveObj (doValveCmd d)⟩,
   ⟨opValvePropSet, fun d => onValveObj (doValvePropSet d)⟩,
   ⟨opSaddleConfig, fun d => onPairObj (doSaddleConfig d)⟩,
   ⟨opValveAck, fun _ => onValveObj doValveAck⟩,
   ⟨opValveStatusGet, fun _ => onValveObj doValveStatusGet⟩]

/-- Class 0x7 in an image (18 R506). -/
def img7 : List ImgRow :=
  [⟨opFanConfig, fun d => onFanObj (doFanConfig d)⟩,
   ⟨opFanBands, fun d => onFanObj (doFanBands d)⟩,
   ⟨opFanSet, fun d => onFanObj (doFanSet d)⟩,
   ⟨opFanCtrl, fun d => onFanObj (doFanCtrl d)⟩,
   ⟨opFanStatusGet, fun _ => onFanObj doFanStatusGet⟩,
   ⟨opDamperConfig, fun d => onDamperObj (doDamperConfig d)⟩,
   ⟨opDamperSet, fun d => onDamperObj (doDamperSet d)⟩,
   ⟨opDamperCtrl, fun d => onDamperObj (doDamperCtrl d)⟩,
   ⟨opDamperCal, fun d => onDamperObj (doDamperCal d)⟩,
   ⟨opDamperStatusGet, fun _ => onDamperObj doDamperStatusGet⟩]

/-- Class 0x8 in an image (18 R506). -/
def img8 : List ImgRow :=
  [⟨opPanelConfig, fun d _ => doPanelConfig d⟩,
   ⟨opPanelLadder, fun d _ => doPanelLadder d⟩,
   ⟨opPanelLed, fun d _ => doPanelLed d⟩,
   ⟨opEncConfig, fun d => onEncObj (doEncConfig d)⟩,
   ⟨opEncRead, fun _ => onEncObj doEncRead⟩,
   ⟨opPanelStatusGet, fun d _ => doPanelStatusGet d⟩]

/-- Class 0x9 in an image (18 R506). -/
def img9 : List ImgRow :=
  [⟨opValePortConfig, fun d => onValeObj (doValePortConfig d)⟩,
   ⟨opValePortCtrl, fun d => onValeObj (doValePortCtrl d)⟩,
   ⟨opValePortStatusGet, fun _ => onValeObj doValePortStatusGet⟩,
   ⟨opValeConvConfig, fun d => onValeObj (doValeConvConfig d)⟩,
   ⟨opValeDiscover, fun d => onValeObj (doValeDiscover d)⟩,
   ⟨opValeRead, fun d => onItemObj (doValeTxn false d)⟩,
   ⟨opValeWrite, fun d => onItemObj (doValeTxn true d)⟩,
   ⟨opValeBulkAbort, fun d => onSatObj (doValeBulkAbort d)⟩,
   ⟨opValeSatCtrl, fun d => onSatObj (doValeSatCtrl d)⟩,
   ⟨opValeSatStatusGet, fun d => onSatObj (doValeSatStatusGet d)⟩,
   ⟨opValeItemWatch, fun d => onItemObj (doValeItemWatch d)⟩]

/-- Class 0xA in an image (18 R506). -/
def imgA : List ImgRow :=
  [⟨opBbConfig, fun d => onBbObj (doBbConfig d)⟩,
   ⟨opBbMstpConfig, fun d => onBbObj (doBbMstpConfig d)⟩,
   ⟨opBbCtrl, fun d => onBbObj (doBbCtrl d)⟩,
   ⟨opBbPollWrite, fun d => onBbValObj (doBbPollWrite d)⟩,
   ⟨opBbRead, fun _ => onBbValObj doBbRead⟩,
   ⟨opBbStatusGet, fun _ => onBbObj doBbStatusGet⟩]

/-- Class 0xB in an image (18 R506). -/
def imgB : List ImgRow :=
  [⟨opSbConfig, fun d => onSbObj (doSbConfig d)⟩,
   ⟨opSbPollWrite, fun d => onSbValObj (doSbPollWrite d)⟩,
   ⟨opSbCtrl, fun d => onSbObj (doSbCtrl d)⟩,
   ⟨opSbRead, fun _ => onSbValObj doSbRead⟩,
   ⟨opSbStatusGet, fun _ => onSbObj doSbStatusGet⟩]

/-- Class 0xC in an image (18 R506). -/
def imgC : List ImgRow :=
  [⟨opHollowAlarmSet, fun d _ => doHollowAlarmSet d⟩,
   ⟨opHollowWakeSet, fun d _ => doHollowWakeSet d⟩,
   ⟨opHollowTrim, fun d _ => doHollowTrim d⟩]

/-- Class 0xD in an image (18 R506). -/
def imgD : List ImgRow :=
  [⟨opPwrIdleConfig, fun d => doPwrIdleConfig d⟩,
   ⟨opPwrWakeConfig, fun d => doPwrWakeConfig d⟩,
   ⟨opPwrWatchdog, fun d => doPwrWatchdog d⟩]

/-- Class 0xE in an image (18 R506). -/
def imgE : List ImgRow :=
  [⟨opLogConfig, fun d => doLogConfig d⟩]

/-- The row and body of an opcode in an image. -/
def imgRow (op : Nat) : Option ImgRow :=
  (img1 ++ img2 ++ img3 ++ img4 ++ img5 ++ img6 ++ img7 ++ img8 ++ img9 ++ imgA ++ imgB ++ imgC ++ imgD ++ imgE).find? fun r => r.info.op == op

end Sys2Proof.Machine
end

