-- ==== Sys2Proof/Machine/Rings.lean ====
section
/-! DEFINITION. The host attachment: rings, descriptors on their way to the functions, records, vectors, host hold and resync
(02_host_rings.md). -/

namespace Sys2Proof.Machine

/-! ## Access -/

/-- A change of the host attachment alone. -/
def State.onRing (s : State) (f : Rings → Rings) : State := { s with ring := f s.ring }

/-- A change of one SQ. -/
def State.onSq (s : State) (n : Fin 16) (f : Sq → Sq) : State := s.onRing fun r => { r with sqs := vmod r.sqs n f }

/-- A change of one CQ. -/
def State.onCq (s : State) (n : Fin 16) (f : Cq → Cq) : State := s.onRing fun r => { r with cqs := vmod r.cqs n f }

/-- A ring that requests a vector. -/
def Rings.ringOf (r : Rings) : IrqRing → Ring
  | .cq n => r.cqs[n.val].ring
  | .eq => r.eq
  | .lq => r.lq

/-- That ring changed. -/
def Rings.setRing (r : Rings) (i : IrqRing) (f : Ring → Ring) : Rings :=
  match i with
  | .cq n => { r with cqs := vmod r.cqs n fun c => { c with ring := f c.ring } }
  | .eq => { r with eq := f r.eq }
  | .lq => { r with lq := f r.lq }

/-- A change of such a ring. -/
def State.onIrqRing (s : State) (i : IrqRing) (f : Ring → Ring) : State := s.onRing fun r => r.setRing i f

/-- The rings that request vectors. -/
def irqRings : List IrqRing := (List.finRange 16).map IrqRing.cq ++ [IrqRing.eq, IrqRing.lq]

/-- The index of a ring in its handle (01 R31). -/
def ringIndex : IrqRing → Nat
  | .cq n => 16 + n.val
  | .eq => 32
  | .lq => 33

/-- The handle of a ring (01 R31). -/
def hRing (i : Nat) : Word := mkHandle 5 4 i

/-- The handle of HE and ring state, function 1, the source of the rings' errors (17 R481). -/
abbrev hHe : Word := 0x50200001

/-- The host attachment is Quad-SPI (02 R35). -/
def State.qspi (s : State) : Bool := s.dev.regs.attach

/-- The host reaches the device: not in SLEEP, and in PCI Express attachment through BARs that are enabled, not in D3hot (02 R36, R40,
19 R529). PRESUMED: in D3hot, where R40 has the device behave as in host hold, its BARs answer nothing, as the PCI Express standard has it
(log entry 224). -/
def State.reach (s : State) : Bool := !s.dev.dark && (s.qspi || (!s.ring.d3hot && s.ring.cfg.memSpace))

/-- The host's access has come over the link, which is therefore up and not in L1 (log entry 43). In Quad-SPI attachment there is no
link (02 R35). -/
def State.touched (s : State) : State := if s.qspi then s else s.onRing fun r => { r with linkUp := true, l1 := false }

/-- The device writes and reads nothing at the host: host hold (02 R72), or bus mastering not enabled (02 R74's procedure). DESIGN CHOICE: while it
is not enabled, records stay in their caches though the link is up and there is no host hold (log entry 226). -/
def Rings.quiet (r : Rings) : Bool := r.hold || !r.cfg.busMaster

/-- Entries of a ring. -/
def ringSize (log2 : Nat) : Nat := 2 ^ log2

/-- The fill of a ring (02 R47). -/
def ringFill (prod cons : BitVec 16) : Nat := (prod - cons).toNat

/-- PHASE at an index (02 R49): NOT bit k. -/
def phaseOf (log2 : Nat) (i : BitVec 16) : Bool := !i.getLsbD log2

/-- The fill of a CQ, EQ or LQ. -/
def Ring.fill (r : Ring) : Nat := ringFill r.prod r.cons

/-- It has no free entry. -/
def Ring.full (r : Ring) : Bool := ringSize r.log2 ≤ r.fill

/-! ## Reports of the rings; their ARGs are not given (log entry 44) -/

/-- An error of HE. -/
def Dev.ringError (s : Dev) (sev : Sev) (code : BitVec 11) : Dev := s.reportOpen hHe 1 sev code

/-- An error of HE with an event that carries the ring's handle. -/
def Dev.ringErrorEv (s : Dev) (sev : Sev) (code : BitVec 11) (ev : BitVec 16) (i : Nat) : Dev :=
  let a := s.draw
  let b := a.2.draw
  b.2.reportEv hHe 1 sev code (Config.openArg a.1) ev (hRing i) (Config.openArg b.1)

/-! ## Memory and vectors -/

/-- Bytes that the device writes toward the host (02 R42, R53): host memory, over a link that leaves L1 for it, or the ring window and
nothing outside it. -/
def State.store (s : State) (a : Nat) (bs : List Byte) : State :=
  if s.qspi then
    if 0x020000 ≤ a ∧ a + bs.length ≤ 0x040000 then { s with mem := { s.mem with win := memWriteBytes s.mem.win a bs } } else s
  else { s with mem := { s.mem with host := memWriteBytes s.mem.host a bs }, ring := { s.ring with l1 := false } }

/-- A message may leave (02 R68, R72): no host hold, bus mastering and MSI-X enabled, neither the function nor the vector masked. -/
def Rings.canSend (r : Rings) (v : Fin 32) : Bool := !r.quiet && r.msixEn && !r.fnMask && !r.msix[v.val].mask

/-- The MSI-X message of a vector: a write of DATA at its address (19 R528). -/
def State.message (s : State) (v : Fin 32) : State :=
  let e := s.ring.msix[v.val]
  s.store (e.addrLo.toNat + e.addrHi.toNat * 4294967296) (bytesLE 4 e.data.toNat)

/-- Pending messages that may now leave are sent (02 R68). -/
def State.sendPending (s : State) : State :=
  (List.finRange 32).foldl (fun s v =>
    if s.ring.msix[v.val].pending ∧ s.ring.canSend v then
      (s.onRing fun r => { r with msix := vmod r.msix v fun e => { e with pending := false } }).message v
    else s) s

/-- A ring on vector `v` clears its count and stops its timer (02 R67). -/
def Ring.fired (r : Ring) (v : Fin 32) : Ring :=
  if r.vec == v then { r with count := 0, timer := false, want := false } else r

/-- A vector fires (02 R67, R68). -/
def State.fire (s : State) (v : Fin 32) : State :=
  let s := s.onRing fun r =>
    { r with cqs := r.cqs.map fun c => { c with ring := c.ring.fired v }, eq := r.eq.fired v, lq := r.lq.fired v }
  if s.qspi then s.onRing fun r => { r with irqPend := r.irqPend ||| (1#32 <<< v.val) }
  else if s.ring.canSend v then s.message v
  else s.onRing fun r => { r with msix := vmod r.msix v fun e => { e with pending := true } }

/-- A ring requests its vector (02 R66, R72): in host hold, or without bus mastering, it fires when that ends. -/
def State.request (s : State) (i : IrqRing) : State :=
  let r := s.ring.ringOf i
  if !r.ie then s
  else if s.ring.quiet then s.onIrqRing i fun r => { r with want := true }
  else s.fire r.vec

/-- A record has been written to a ring (02 R47, R67): its producer index advances, it is counted, and its vector may be due. -/
def State.counted (s : State) (i : IrqRing) (notify : Bool) : State :=
  let s := s.onIrqRing i fun r => { r with prod := r.prod + 1, count := r.count + 1, timer := r.timer || r.modTime != 0 }
  let r := s.ring.ringOf i
  if notify ∨ r.modCount ≤ r.count then s.request i else s

/-- A record is written at a ring's producer index. -/
def State.record (s : State) (i : IrqRing) (bytes : Bool → List Byte) (notify : Bool) : State :=
  let r := s.ring.ringOf i
  let slot := r.prod.toNat % ringSize r.log2
  (s.store (r.base.toNat + 16 * slot) (bytes (phaseOf r.log2 r.prod))).counted i notify

/-! ## Submission (02 R58 to R63) -/

/-- The longest chain of an SQ (02 R62). -/
def Sq.limit (q : Sq) : Nat := min 64 (ringSize q.log2 - 1)

/-- A flag of a descriptor's FLAGS byte (02 R52). -/
def rawFlag (d : RawDesc) (b : Nat) : Bool := d.getLsbD (8 + b)

/-- FENCE, CHAIN, URGENT. -/
abbrev rawFence (d : RawDesc) : Bool := rawFlag d 0
abbrev rawChain (d : RawDesc) : Bool := rawFlag d 2
abbrev rawUrgent (d : RawDesc) : Bool := rawFlag d 3

/-- A descriptor as its function sees it. -/
def descOf (sq : Fin 16) (d : RawDesc) (member : Bool) : Desc where
  sq     := sq
  flags  := d.extractLsb' 8 8
  tag    := d.extractLsb' 16 16
  handle := d.extractLsb' 32 32
  pay    := d.extractLsb' 64 192
  member := member

/-- The run that is open after one more descriptor: `k` members so far, 0 for none (02 R62). -/
def runStep (limit k : Nat) (d : RawDesc) : Nat := if rawChain d && k + 1 < limit then k + 1 else 0

/-- The members of the chain that is open at the end of the fetched descriptors (02 R62). -/
def Sq.openRun (q : Sq) : Nat := q.fetched.foldl (runStep q.limit) 0

/-- Fetched descriptors that count as in flight: not the members of chains (02 R58). -/
def ordinary (limit : Nat) : Nat → List RawDesc → Nat
  | _, [] => 0
  | k, d :: ds => (if k = 0 ∧ !rawChain d then 1 else 0) + ordinary limit (runStep limit k d) ds

/-- Descriptors in flight (02 R58). -/
def Sq.inFlight (q : Sq) : Nat := ordinary q.limit 0 q.fetched + q.disp

/-- CQ entries that the descriptors of an SQ have reserved, among them those of the read that is outstanding (02 R63). -/
def Sq.reserved (q : Sq) : Nat := q.inFlight + (if q.openRun = 0 then q.reading.getD 0 else 0)

/-- U of a CQ: free entries that are not reserved (02 R63). -/
def Rings.unreserved (r : Rings) (c : Fin 16) : Nat :=
  let q := r.cqs[c.val]
  if !q.ring.en then 0
  else ringSize q.ring.log2 - q.ring.fill - q.cache.countP (·.resync)
    - (r.sqs.toList.map fun x => if x.cq == c && x.phase != .disabled then x.reserved else 0).sum

/-- The address of the next read of an SQ: the slot of its consumer index (02 R47). -/
def Sq.nextAddr (q : Sq) : Nat := q.base.toNat + 32 * (q.cons.toNat % ringSize q.log2)

/-- The descriptors that one request over PCI Express may ask for at an address (02 R38): at most 256 bytes and Max_Read_Request_Size, and
none beyond the next 4 KB boundary, which no slot crosses (02 R46). -/
def Rings.requestMax (r : Rings) (a : Nat) : Nat := min (min 8 (4 * 2 ^ r.cfg.maxRead)) (max 1 ((4096 - a % 4096) / 32))

/-- How many descriptors the next read of an SQ may bring, 0 for none (02 R58, R62, R63). -/
def Rings.fetchRoom (r : Rings) (n : Fin 16) : Nat :=
  let q := r.sqs[n.val]
  if q.phase ≠ .active ∨ r.quiet ∨ q.reading.isSome ∨ q.retryWait then 0
  else
    let k := min 8 (min (ringFill q.prod q.cons) (ringSize q.log2 - q.cons.toNat % ringSize q.log2))
    if q.openRun = 0 then min k (min (32 - q.inFlight) (r.unreserved q.cq)) else min k (q.limit - q.openRun)

/-- A read for an SQ leaves the device (02 R38, R47, R58). -/
def State.fetch (s : State) (n : Fin 16) : State :=
  let a := (s.ring.sqs[n.val]).nextAddr
  let k := if s.qspi then s.ring.fetchRoom n else min (s.ring.fetchRoom n) (s.ring.requestMax a)
  if k = 0 ∨ s.dev.dark then s
  else (s.onSq n fun q => { q with reading := some k, readAddr := a }).onRing fun r => { r with l1 := false }

/-- Fetched descriptors enter the device, each while it finds its place (02 R48, R58, R62, R63). -/
def State.takeIn (s : State) (n : Fin 16) : List RawDesc → State
  | [] => s
  | d :: ds =>
    let q := s.ring.sqs[n.val]
    let free := q.openRun = 0 ∧ !rawChain d
    if free ∧ (32 ≤ q.inFlight ∨ s.ring.unreserved q.cq = 0) then s
    else (s.onSq n fun q => { q with fetched := q.fetched ++ [d], cons := q.cons + 1 }).takeIn n ds

/-- The bit of Uncorrectable Error Status for a read that ended so; none: a completion timeout (02 R75; PRESUMED, log entry 189). -/
def aerBit : Option DmaEnd → Nat
  | none => 14
  | some .poisoned => 12
  | some .ca => 15
  | some _ => 20

/-- AER reports a failed read (02 R37, R75): its status bit is set, and the first unmasked error fills the pointer and the header log. One
whose severity is non-fatal is reported as correctable too, as an advisory error (PRESUMED, log entry 189). -/
def State.aerReport (s : State) (e : Option DmaEnd) : State :=
  let bit : Word := 1#32 <<< aerBit e
  let s := if s.ring.aer.uncSev &&& bit = 0 then s.onRing fun r => { r with aer := { r.aer with cor := r.aer.cor ||| 0x2000 } } else s
  let a := s.ring.aer
  if a.uncMask &&& bit ≠ 0 ∨ a.unc &&& ~~~ a.uncMask ≠ 0 then s.onRing fun r => { r with aer := { r.aer with unc := r.aer.unc ||| bit } }
  else
    let v := s.dev.draw
    ({ s with dev := v.2 } : State).onRing fun r =>
      { r with aer := { r.aer with unc := r.aer.unc ||| bit, first := aerBit e, header := some v.1 } }

/-- A descriptor fetch fails (02 R75): three retries, then ERROR; `e` is how it ended, none a completion timeout. -/
def State.fetchFailed (s : State) (n : Fin 16) (e : Option DmaEnd) : State :=
  let q := s.ring.sqs[n.val]
  let s := (s.aerReport e).onSq n fun q => { q with reading := none }
  if q.retries < 3 then s.onSq n fun q => { q with retries := q.retries + 1, retryWait := true }
  else
    (s.onSq n fun q => { q with phase := if q.phase = .active then .error else q.phase, retries := 0 }).onDev fun v =>
      v.ringErrorEv .fault LG_RING_DMA EV_RING_ERROR n.val

/-- The 32-byte descriptors at the address of an SQ's read in the ring window, which does not pass the end of the ring (02 R47, R58). -/
def State.windowDescs (s : State) (q : Sq) (k : Nat) : List RawDesc :=
  (List.range k).map fun i =>
    BitVec.ofNat 256 (ofBytesLE (memReadBytes s.mem.win (q.readAddr + 32 * i) 32))

/-- A descriptor read ends (02 R58, R75): in Quad-SPI attachment it brings what the ring window holds. -/
def State.fetched (s : State) (n : Fin 16) (e : DmaEnd) (data : List RawDesc) : State :=
  let q := s.ring.sqs[n.val]
  match q.reading with
  | none => s
  | some k =>
    let data := if s.qspi then s.windowDescs q k else data
    if e = .ok ∨ s.qspi then
      if data.length < k then s
      else (s.onSq n fun q => { q with reading := none, retries := 0 }).takeIn n (data.take k)
    else s.fetchFailed n (some e)

/-- The members of the chain at the head of the fetched descriptors: none while its end is not fetched; with the flag, it is
overlong (02 R62). -/
def headRun (limit : Nat) : Nat → List RawDesc → Option (Nat × Bool)
  | _, [] => none
  | k, d :: ds =>
    if !rawChain d then some (k + 1, false) else if k + 1 = limit then some (k + 1, true) else headRun limit (k + 1) ds

/-- A member of a chain finds its place under 32 in flight and an unreserved CQ entry (02 R58, R62, R63). -/
def Rings.place (r : Rings) (n : Fin 16) : Bool :=
  let q := r.sqs[n.val]
  q.inFlight < 32 && 0 < r.unreserved q.cq

/-- The next descriptor of an SQ. -/
def Sq.next (q : Sq) : Option RawDesc := q.chain.head?.or q.fetched.head?

/-- A FENCE holds until every earlier descriptor of the SQ has its completion written (02 R61). -/
def Sq.fenced (q : Sq) (d : RawDesc) : Bool := rawFence d && q.disp != 0

/-- The next descriptor of an SQ can be dispatched (02 R58 to R63). -/
def Rings.ready (r : Rings) (n : Fin 16) : Bool :=
  let q := r.sqs[n.val]
  if r.hold ∨ (q.phase ≠ .active ∧ q.phase ≠ .error) then false
  else match q.chain with
    | m :: _ => (q.chainEnd.isSome || (!q.chainBusy && !q.fenced m)) && r.place n
    | [] => match q.fetched with
      | [] => false
      | d :: _ => !q.fenced d && (!rawChain d || ((headRun q.limit 0 q.fetched).isSome && r.place n))

/-- The members that wait in a chain complete without executing, while they find their places (02 R62). -/
def State.flushChain (s : State) (n : Fin 16) : List RawDesc → State
  | [] => s
  | m :: ms =>
    match s.ring.sqs[n.val].chainEnd with
    | none => s
    | some st =>
      if !s.ring.place n then s
      else
        ((s.onSq n fun q => { q with chain := ms, disp := q.disp + 1, chainEnd := if ms.isEmpty then none else q.chainEnd }).onDev
          fun v => v.complete (descOf n m false) st 0).flushChain n ms

/-- A descriptor enters the queue of its function (02 R59, R60): an URGENT one ahead of those of other SQs, but behind its own SQ's
and behind earlier URGENT ones. -/
def Dev.enqueue (s : Dev) (x : QDesc) : Dev :=
  let f := queueFunc x.op x.d.handle
  let blocks (q : QDesc) : Bool := queueFunc q.op q.d.handle == f && (q.d.sq == x.d.sq || q.d.flags.getLsbD 3)
  if x.d.flags.getLsbD 3 then
    let tail := (s.fq.reverse.takeWhile fun q => !blocks q).reverse
    { s with fq := s.fq.take (s.fq.length - tail.length) ++ x :: tail }
  else { s with fq := s.fq ++ [x] }

/-- A descriptor is dispatched (01 R32 checks 1 to 4; 14 R423): to its function, or to its completion. -/
def Dev.launch (s : Dev) (op : Nat) (d : Desc) (ghost : Bool) : Dev :=
  let fail (st : Status) : Dev := if ghost then s else s.complete d st 0
  match opInfo op with
  | none => fail .badOpcode
  | some i =>
    match s.opCheck { i with needsEn := false } d with
    | .error st => fail st
    | .ok _ => if op = 0x0F then fail .conflict else (s.enqueue { op, d, ghost }).mbHold op d

/-- OPCODE of a raw descriptor. -/
def rawOp (d : RawDesc) : Nat := (d.extractLsb' 0 8).toNat

/-- The next descriptor of an SQ, or the next member of its chain, is dispatched (02 R59, R62). -/
def State.dispatchSq (s : State) (n : Fin 16) : State :=
  let q := s.ring.sqs[n.val]
  match q.chain with
  | m :: ms =>
    if q.chainEnd.isSome then s.flushChain n q.chain
    else
      let more := !ms.isEmpty
      (s.onSq n fun q => { q with chain := ms, chainBusy := more, disp := q.disp + 1 }).onDev fun v =>
        v.launch (rawOp m) (descOf n m more) false
  | [] =>
    match q.fetched with
    | [] => s
    | d :: ds =>
      if !rawChain d then
        (s.onSq n fun q => { q with fetched := ds, disp := q.disp + 1 }).onDev fun v => v.launch (rawOp d) (descOf n d false) false
      else match headRun q.limit 0 q.fetched with
        | none => s
        | some (k, overlong) =>
          let run := q.fetched.take k
          if overlong then
            (s.onSq n fun q => { q with fetched := q.fetched.drop k, chain := run, chainEnd := some .range }).flushChain n run
          else
            (s.onSq n fun q => { q with fetched := q.fetched.drop k, chain := run.tail, chainBusy := true, disp := q.disp + 1 }).onDev
              fun v => v.launch (rawOp d) (descOf n d true) false

/-- The next SQ to serve (02 R59): URGENT first, then the rest of a chain that has started, then by weighted round-robin; with the
state of the round-robin after it. -/
def Rings.choose (r : Rings) : Option (Fin 16 × Fin 16 × Nat) :=
  let keep (n : Fin 16) := (n, r.wrrSq, r.wrrLeft)
  let urgent (n : Fin 16) : Bool := r.ready n && ((r.sqs[n.val]).next.any fun d => rawUrgent d)
  match (List.finRange 16).find? urgent with
  | some n => some (keep n)
  | none =>
    match (List.finRange 16).find? fun n => r.ready n && !(r.sqs[n.val]).chain.isEmpty with
    | some n => some (keep n)
    | none =>
      if r.ready r.wrrSq && 0 < r.wrrLeft then some (r.wrrSq, r.wrrSq, r.wrrLeft - 1)
      else ((List.range 16).map fun i => ix 15 (r.wrrSq.val + 1 + i)).find? r.ready |>.map fun n => (n, n, (r.sqs[n.val]).weight)

/-- HE dispatches once (02 R59). -/
def State.dispatch (s : State) : State :=
  if s.dev.asleep then s
  else match s.ring.choose with
    | none => s
    | some (n, turn, left) => (s.onRing fun r => { r with wrrSq := turn, wrrLeft := left }).dispatchSq n

/-! ## Completions (02 R54, R55, R63) -/

/-- The numbers of 14 R420. -/
def Status.num : Status → Nat
  | .ok => 0 | .flushed => 1 | .badOpcode => 2 | .badHandle => 3 | .disabled => 4 | .busy => 5 | .range => 6 | .timeout => 7
  | .peerError => 8 | .dropped => 9 | .authFail => 10 | .nvFail => 11 | .late => 12 | .conflict => 13 | .inReset => 14

/-- A completion's 16 bytes (02 R54). -/
def Completion.bytes (c : Completion) (phase : Bool) : List Byte :=
  bytesLE 2 c.tag.toNat ++ [BitVec.ofNat 8 c.status.num, BitVec.ofNat 8 (fieldsOf [(0, 4, c.sq.val), (7, 1, phase.toNat)])]
    ++ bytesLE 4 c.handle.toNat ++ bytesLE 8 c.result.toNat

/-- An SQ that drains is disabled when its last completion has been written (02 R62's table). -/
def Sq.settle (q : Sq) : Sq := if q.phase = .draining ∧ q.disp = 0 then { q with phase := .disabled } else q

/-- A completion is written: its bulk data first, then its record (02 R55); its descriptor is no longer in flight. -/
def State.writeCq (s : State) (n : Fin 16) (c : Completion) : State :=
  let s := c.bulk.foldl (fun s b => s.store b.1 b.2) s
  let s := s.record (.cq n) c.bytes c.notify
  if c.resync then s else s.onSq c.sq fun q => ({ q with disp := q.disp - 1 } : Sq).settle

/-- A completion goes to its CQ, or to the completion cache while it cannot be written (02 R63). -/
def State.putCq (s : State) (n : Fin 16) (c : Completion) : State :=
  if s.ring.quiet ∨ s.ring.cqs[n.val].ring.full then s.onCq n fun q => { q with cache := q.cache ++ [c] } else s.writeCq n c

/-- The completion cache of a CQ is written out while the CQ has room. -/
def State.drainCq (s : State) (n : Fin 16) : List Completion → State
  | [] => s
  | c :: cs =>
    if s.ring.quiet ∨ s.ring.cqs[n.val].ring.full then s
    else ((s.onCq n fun q => { q with cache := cs }).writeCq n c).drainCq n cs

/-- A member of a chain has completed (02 R62): the next member may follow, or all later ones are flushed. -/
def State.memberDone (s : State) (c : Completion) : State :=
  if !c.member ∨ !(s.ring.sqs[c.sq.val]).chainBusy then s
  else
    let s := s.onSq c.sq fun q =>
      { q with chainBusy := false, chainEnd := if c.status ≠ .ok ∧ !q.chain.isEmpty then some .flushed else q.chainEnd }
    s.flushChain c.sq (s.ring.sqs[c.sq.val]).chain

/-- Bulk data without a completion go out, or wait while nothing may be written at the host (02 R72, R74, R76). -/
def State.writeOrphans (s : State) (bulk : List (Nat × List Byte)) : State :=
  if s.ring.quiet then s.onRing fun r => { r with orphans := r.orphans ++ bulk } else bulk.foldl (fun s b => s.store b.1 b.2) s

/-- The oldest completion that has come about is written, or cached in host hold (02 R55, R63). -/
def State.completionWrite (s : State) : State :=
  match s.dev.done with
  | [] => s
  | c :: cs =>
    if c.discard then (s.onDev fun v => { v with done := cs }).writeOrphans c.bulk
    else ((s.onDev fun v => { v with done := cs }).putCq (s.ring.sqs[c.sq.val]).cq c).memberDone c

/-- A CQ has been full for 100 ms (02 R63): once for each stall. -/
def State.stall (s : State) (n : Fin 16) : State :=
  let q := s.ring.cqs[n.val]
  if !q.ring.en ∨ !q.ring.full ∨ q.stallSeen then s
  else
    (s.onCq n fun q => { q with stallSeen := true, ring := { q.ring with stall := true } }).onDev fun v =>
      v.ringErrorEv .warn LG_RING_STALL EV_RING_STALL (16 + n.val)

/-! ## Events (02 R56, R64) -/

/-- An event's 16 bytes (02 R56). -/
def Event.bytes (e : Event) (phase : Bool) : List Byte :=
  bytesLE 2 e.code.toNat ++ [BitVec.ofNat 8 (min 255 e.lost), BitVec.ofNat 8 (fieldsOf [(0, 7, e.src), (7, 1, phase.toNat)])]
    ++ bytesLE 4 e.handle.toNat ++ bytesLE 4 e.arg.toNat ++ bytesLE 4 e.time.toNat

/-- The events of the EQ cache are written while EQ takes them (02 R64). -/
def State.drainEq (s : State) : List Event → State
  | [] => s
  | e :: es =>
    if s.ring.quiet ∨ !s.ring.eq.en ∨ s.ring.eq.full then s
    else ((s.onRing fun r => { r with eqCache := es }).record .eq e.bytes false).drainEq es

/-- The cache written out. -/
def State.drainEvents (s : State) : State := s.drainEq s.ring.eqCache

/-- An event is accepted, or dropped and counted (02 R64). -/
def State.acceptEvent (s : State) (e : Event) : State :=
  if 256 ≤ s.ring.eqCache.length then
    s.onRing fun r => { r with eqDrop := r.eqDrop + 1, eqLost := r.eqLost + 1, eq := { r.eq with dropWrap := r.eq.dropWrap || r.eqDrop == 0xFFFFFFFF } }
  else s.onRing fun r => { r with eqCache := r.eqCache ++ [{ e with lost := r.eqLost + e.lost }], eqLost := 0 }

/-- The oldest event raised goes to EQ or its cache (02 R64). -/
def State.eventWrite (s : State) : State :=
  let s := s.drainEvents
  match s.dev.raised with
  | [] => s
  | e :: es => ((s.onDev fun v => { v with raised := es }).acceptEvent e).drainEvents

/-! ## The log's mirror (02 R65, 17 R487) -/

/-- Mirroring may write a record: LQ enabled with room, no host hold, function 56 not held (02 R65, R72, 17 R494). -/
def State.canMirror (s : State) : Bool :=
  !s.ring.quiet && s.ring.lq.en && !s.ring.lq.full && !s.dev.held 56 && !s.dev.asleep

/-- The next record or closing copy is copied to LQ; a record overwritten before it could be mirrored counts in LQ_SKIP, and a closing
copy whose record is gone is passed over (02 R65, 17 R487). DESIGN CHOICE: LQ_SKIP counts an overwritten record when mirroring comes to its
place, and never one whose place a restart of LQ has taken away (log entry 225). -/
def State.mirror (s : State) : List (Nat × Bool) → State
  | [] => s
  | (num, copy) :: rest =>
    let s := s.onDev fun v => v.onLog fun g => { g with mirrorQ := rest }
    match s.dev.log.recs.find? fun r => r.num == num with
    | some r => (s.onRing fun x => { x with lqNums := x.lqNums ++ [num] }).record .lq r.bytes false
    | none => (if copy then s else s.onRing fun r => { r with lqSkip := r.lqSkip + 1 }).mirror rest

/-- LQ_MIRROR. -/
def State.lqMirror (s : State) : State := if s.canMirror then s.mirror s.dev.log.mirrorQ else s

/-- Mirroring starts over with the oldest record in log RAM (02 R65, R74). -/
def State.lqRestart (s : State) : State :=
  (s.onRing fun r => { r with lqNums := [] }).onDev fun v => v.onLog fun g =>
    { g with mirrorQ := (g.recs.filter (·.mirrored)).map fun r => (r.num, false) }

/-! ## Cols (02 R50, R51) -/

/-- An accepted SQ producer col write cancels AUTORUN (18 R508). -/
def Dev.cancelAutorun (s : Dev) : Dev :=
  if !s.nv.autoPend then s
  else (s.onNv fun n => { n with autoPend := false, autoCancel := true }).note .info 57 LG_AUTORUN 0

/-- A producer col write (02 R51). -/
def State.sqCol (s : State) (n : Fin 16) (v : Word) : State :=
  if !s.reach then s
  else
    let s := s.touched.onSq n fun q => { q with col := v }
    let q := s.ring.sqs[n.val]
    let prod := v.setWidth 16
    if q.phase = .disabled ∨ q.phase = .draining then s.onSq n fun q => { q with rejects := q.rejects + 1 }
    else if ringSize q.log2 < ringFill prod q.cons then
      (s.onSq n fun q => { q with phase := .error }).onDev fun v => v.ringErrorEv .fault LG_RING_PROD EV_RING_ERROR n.val
    else (s.onSq n fun q => { q with prod := prod }).onDev fun v => (v.hostActive true).cancelAutorun

/-- The timer condition of a consumer col write (02 R67, last row). -/
def State.colTimer (s : State) (i : IrqRing) : State :=
  let r := s.ring.ringOf i
  if r.cons = r.prod ∨ r.timer then s
  else if r.modTime = 0 then s.request i
  else s.onIrqRing i fun r => { r with timer := true }

/-- A consumer col write (02 R51, R67); the flag says that it was accepted. -/
def State.consCol (s : State) (i : IrqRing) (v : Word) : State × Bool :=
  if !s.reach then (s, false)
  else
    let s := s.touched.onIrqRing i fun r => { r with col := v }
    let r := s.ring.ringOf i
    let cons := v.setWidth 16
    if !r.en then (s.onIrqRing i fun r => { r with rejects := r.rejects + 1 }, false)
    else if r.fill < ringFill cons r.cons then (s.onDev fun v => v.ringError .warn LG_RING_CONS, false)
    else (((s.onIrqRing i fun r => { r with cons := cons }).onDev fun v => v.hostActive true).colTimer i, true)

/-- A CQ consumer col write: entries are freed. -/
def State.cqCol (s : State) (n : Fin 16) (v : Word) : State :=
  let r := s.consCol (.cq n) v
  if !r.2 then r.1
  else
    let s := if r.1.ring.cqs[n.val].ring.full then r.1 else r.1.onCq n fun q => { q with stallSeen := false }
    s.drainCq n s.ring.cqs[n.val].cache

/-- An EQ consumer col write: cached events follow. -/
def State.eqCol (s : State) (v : Word) : State :=
  let r := s.consCol .eq v
  if r.2 then r.1.drainEvents else r.1

/-- An LQ consumer col write: the records consumed are delivered (17 R488). -/
def State.lqCol (s : State) (v : Word) : State :=
  let old := s.ring.lq.cons
  let r := s.consCol .lq v
  if !r.2 then r.1
  else
    let k := ringFill (v.setWidth 16) old
    let nums := r.1.ring.lqNums.take k
    (r.1.onRing fun x => { x with lqNums := x.lqNums.drop k }).onDev fun v => v.onLog fun g => nums.foldl Log.deliver g

/-! ## Enabling and disabling (02 R69 to R71) -/

/-- The runs of addresses of the enabled rings but for the one with index `i` (01 R31). -/
def Rings.spans (r : Rings) (i : Nat) : List (Nat × Nat) :=
  let sq := (List.finRange 16).filterMap fun n =>
    let q := r.sqs[n.val]
    if n.val ≠ i ∧ (q.phase = .active ∨ q.phase = .error) then some (q.base.toNat, 32 * ringSize q.log2) else none
  let irq := irqRings.filterMap fun k =>
    let x := r.ringOf k
    if ringIndex k ≠ i ∧ x.en then some (x.base.toNat, 16 * ringSize x.log2) else none
  sq ++ irq

/-- A ring in Quad-SPI attachment lies wholly in the ring window and overlaps no enabled ring (02 R70). -/
def State.ringFits (s : State) (i base len : Nat) : Bool :=
  !s.qspi || (0x020000 ≤ base && base + len ≤ 0x040000
    && (s.ring.spans i).all fun x => x.1 + x.2 ≤ base || base + len ≤ x.1)

/-- LOG2SIZE as written: a ring that is enabled keeps it, but for host hold (02 R70, R72). -/
def newLog2 (old : Nat) (v : Word) (free : Bool) : Nat := if free then bitsOf v.toNat 0 4 else old

/-- A write of CFG holds a reserved LOG2SIZE, in a field that the write reaches: the write has no effect (00 R6, 02 R46, R70). -/
def badLog2 (v : Word) (free : Bool) : Bool := free && (bitsOf v.toNat 0 4 < 4 || 12 < bitsOf v.toNat 0 4)

/-- The fetched descriptors of an SQ that is disabled complete with ST_FLUSHED (02 R71). -/
def State.sqStop (s : State) (n : Fin 16) : State :=
  let q := s.ring.sqs[n.val]
  let out := q.chain ++ q.fetched
  let s := s.onSq n fun q =>
    ({ q with phase := .draining, fetched := [], chain := [], chainBusy := false, chainEnd := none, reading := none, retries := 0
              retryWait := false, disp := q.disp + out.length } : Sq).settle
  out.foldl (fun s d => s.onDev fun v => v.complete (descOf n d false) .flushed 0) s

/-- An SQ starts with its indices 0 (02 R70). -/
def State.sqStart (s : State) (n : Fin 16) : State :=
  s.onSq n fun q =>
    { q with phase := .active, prod := 0, cons := 0, fetched := [], chain := [], chainBusy := false, chainEnd := none, reading := none
             retries := 0, retryWait := false }

/-- SQn_CFG is written (02 R69 to R71). While function 1 is held no ring can be enabled (log entry 45), and an SQ that drains is not
enabled before it is DISABLED (log entry 190). -/
def State.sqCfg (s : State) (n : Fin 16) (v : Word) : State :=
  let on := (s.ring.sqs[n.val]).phase == .active || (s.ring.sqs[n.val]).phase == .error
  let free := !on || s.ring.hold
  if badLog2 v free then s
  else
  let s := s.onSq n fun q => { q with log2 := newLog2 q.log2 v free, cq := ix 15 (bitsOf v.toNat 4 4), weight := bitsOf v.toNat 8 4 }
  let q := s.ring.sqs[n.val]
  if v.getLsbD 31 then
    if on ∨ q.phase = .draining ∨ s.dev.held 1 then s
    else if !(s.ring.cqs[q.cq.val]).ring.en ∨ !s.ringFits n.val q.base.toNat (32 * ringSize q.log2) then
      s.onSq n fun q => { q with cfgErr := true }
    else s.sqStart n
  else if on then s.sqStop n
  else s

/-- The CFG of a CQ, EQ or LQ without its EN (02 R69). -/
def Ring.cfg (r : Ring) (v : Word) (hold : Bool) : Ring :=
  { r with log2 := newLog2 r.log2 v (!r.en || hold), vec := ix 31 (bitsOf v.toNat 4 5), ie := v.getLsbD 9 }

/-- A ring starts with its indices 0 and PHASE 1 (02 R70). -/
def Ring.start (r : Ring) : Ring := { r with en := true, prod := 0, cons := 0, count := 0, timer := false, want := false }

/-- An SQ mapped to this CQ is not DISABLED (02 R71). -/
def Rings.mapped (r : Rings) (i : IrqRing) : Bool :=
  match i with
  | .cq n => r.sqs.toList.any fun q => q.cq == n && q.phase != .disabled
  | _ => false

/-- CQn_CFG, EQ_CFG or LQ_CFG is written (02 R69 to R71): not one with EN 0 of an enabled CQ to which an SQ that is not DISABLED is mapped. -/
def State.ringCfg (s : State) (i : IrqRing) (v : Word) : State :=
  let old := s.ring.ringOf i
  if badLog2 v (!old.en || s.ring.hold) ∨ (old.en ∧ !v.getLsbD 31 ∧ s.ring.mapped i) then s
  else
  let s := s.onIrqRing i fun r => r.cfg v s.ring.hold
  let r := s.ring.ringOf i
  if v.getLsbD 31 then
    if r.en ∨ s.dev.held 1 then s
    else if !s.ringFits (ringIndex i) r.base.toNat (16 * ringSize r.log2) then s.onDev fun v => v.ringError .warn LG_RING_CFG
    else
      let s := s.onIrqRing i Ring.start
      match i with
      | .cq n => s.onCq n fun q => { q with cache := [], stallSeen := false }
      | .eq => s.drainEvents
      | .lq => s.lqRestart
  else if !r.en then s
  else match i with
    | .cq n => s.onCq n fun q => { q with cache := [], stallSeen := false, ring := { q.ring with en := false, timer := false, want := false } }
    | .eq => s.onRing fun r => { r with eqCache := [], eq := { r.eq with en := false, timer := false, want := false } }
    | .lq => s.onRing fun r => { r with lqNums := [], lq := { r.lq with en := false, timer := false, want := false } }

/-- EN of a CFG value. -/
abbrev cfgEn : Word := 0x80000000

/-- A ring register's write by the host, when it reaches the device. -/
def State.hostWrite (s : State) (f : State → State) : State := if s.reach then f s.touched else s

/-! ## Host hold (02 R39, R40, R72, R75) -/

/-- LOG2SIZE of the enabled rings: SQ0 to SQ15, CQ0 to CQ15, EQ, LQ. -/
def Rings.sizes (r : Rings) : List (Option Nat) :=
  (r.sqs.toList.map fun q => if q.phase = .active ∨ q.phase = .error then some q.log2 else none)
    ++ (r.cqs.toList.map fun c => if c.ring.en then some c.ring.log2 else none)
    ++ [if r.eq.en then some r.eq.log2 else none, if r.lq.en then some r.lq.log2 else none]

/-- The device enters host hold (02 R72). -/
def State.enterHold (s : State) : State := s.onRing fun r => if r.hold then r else { r with hold := true, holdSizes := r.sizes }

/-- Transfers that the link's loss abandons (02 R75): descriptor fetches; bulk reads, and bulk writes that were being sent, whose
descriptors complete with ST_TIMEOUT. With `sending` false the device was in host hold, and no write was being sent (02 R72). DESIGN
CHOICE: of an abandoned write no byte has reached the host buffer (log entry 50). -/
def State.abandon (s : State) (sending : Bool) : State :=
  let s := s.onRing fun r => { r with sqs := r.sqs.map fun q => { q with reading := none, retryWait := false } }
  s.onDev fun v =>
    let v : Dev := if !sending then v else
      { v with done := (v.done.filter fun c => !c.discard).map fun c =>
                 if c.bulk.isEmpty then c else { c with status := .timeout, result := 0, bulk := [] } }
    v.bulk.foldl (fun v q => (if q.ghost then v else v.complete q.d .timeout 0).mbDropHold q.op q.d) { v with bulk := [] }

/-- The configuration space is reset and the MSI-X entries are left masked (02 R39); what the standard calls sticky, AER's registers,
stays (log entry 189). -/
def Rings.configReset (r : Rings) : Rings :=
  { r with
    cfg := { memSpace := false, busMaster := false }
    d3hot := false, aspmL1 := false, l1 := false, fnMask := false, msixEn := false, msix := r.msix.map fun e => { e with mask := true } }

/-- The link goes down, or it is reset (02 R39, R72, R75; 16 R473). -/
def State.linkReset (s : State) (down : Bool) : State :=
  if s.qspi ∨ s.dev.dark then s
  else
    let sending := !s.ring.quiet
    let s := s.onRing Rings.configReset
    let s := if down then s.onRing fun r => { r with linkUp := false, linkLost := r.linkLost || !r.hold } else s
    (s.enterHold.abandon sending).onDev fun v => v.policyGo true true

/-- Entry to D3hot (02 R40). -/
def State.d3hot (s : State) : State :=
  if s.qspi ∨ s.dev.dark then s else (s.onRing fun r => { r with d3hot := true }).enterHold

/-- A reset of function 1 (02 R76): every ring disabled, caches and completions in flight discarded, ring registers, RING_CTL and
IRQ_PEND at their reset values; descriptors already dispatched take effect, their bulk data with them, without a completion. DESIGN CHOICE:
the bulk data of a completion in a cache are discarded with it (log entry 237). -/
def State.ringReset (s : State) : State :=
  let r := s.ring
  let z := Rings.reset
  { s with
    ring := { r with
      sqs := Vector.ofFn fun n => { z.sqs[n.val] with col := (r.sqs[n.val]).col, rejects := (r.sqs[n.val]).rejects }
      cqs := Vector.ofFn fun n =>
        { z.cqs[n.val] with ring := { (z.cqs[n.val]).ring with col := (r.cqs[n.val]).ring.col, rejects := (r.cqs[n.val]).ring.rejects } }
      eq := { z.eq with col := r.eq.col, rejects := r.eq.rejects }
      lq := { z.lq with col := r.lq.col, rejects := r.lq.rejects }
      eqCache := [], eqLost := 0, eqDrop := 0, lqSkip := 0, lqNums := [], hold := false, linkLost := false, holdSizes := []
      wrrSq := z.wrrSq, wrrLeft := 0, irqPend := 0 }
    dev := { s.dev with
      done := (s.dev.done.filter fun c => !c.bulk.isEmpty).map fun c => { c with discard := true }
      fq := s.dev.fq.map fun q => { q with ghost := true }
      waits := s.dev.waits.map fun q => { q with ghost := true }
      bulk := s.dev.bulk.map fun q => { q with ghost := true } } }

/-! ## Resync (02 R73, R74) -/

/-- Everything that has come about stands in the caches, as in host hold it does (02 R72). -/
def State.settleHold (s : State) : State :=
  let s := s.dev.done.foldl (fun s _ => s.completionWrite) s
  s.dev.raised.foldl (fun s _ => s.eventWrite) s

/-- The checks of a resync descriptor (02 R73). -/
def State.resyncStatus (s : State) (d : RawDesc) : Status :=
  let mode := (d.extractLsb' 64 8).toNat
  if rawOp d ≠ 0x0F then .badOpcode
  else if d.extractLsb' 8 8 ≠ 0 ∨ 1 < mode ∨ d.extractLsb' 76 180 ≠ 0 then .range
  else if d.extractLsb' 32 32 ≠ hCtl then .badHandle
  else if !(s.ring.cqs[(d.extractLsb' 72 4).toNat % 16]'(Nat.mod_lt _ (by decide))).ring.en then .disabled
  else if mode = 0 ∧ (s.ring.holdSizes.zip s.ring.sizes).any (fun x => x.1.isSome && x.2.isSome && x.1 != x.2) then .conflict
  else .ok

/-- The fetched descriptors that are in flight: not the members of chains (02 R58). -/
def ordinaryOf (limit : Nat) : Nat → List RawDesc → List RawDesc
  | _, [] => []
  | k, d :: ds => (if k = 0 ∧ !rawChain d then [d] else []) ++ ordinaryOf limit (runStep limit k d) ds

/-- FLUSH (02 R74): held completions and events are discarded; descriptors in flight execute, and their completions are discarded;
every enabled ring starts over. -/
def State.flushRings (s : State) : State :=
  let mark (q : QDesc) : QDesc := { q with ghost := true }
  let s := s.onDev fun v => { v with done := [], fq := v.fq.map mark, waits := v.waits.map mark, bulk := v.bulk.map mark }
  let s := (List.finRange 16).foldl (fun s n =>
    (ordinaryOf (s.ring.sqs[n.val]).limit 0 (s.ring.sqs[n.val]).fetched).foldl
      (fun s d => s.onDev fun v => v.launch (rawOp d) (descOf n d false) true) s) s
  let s := s.onRing fun r =>
    { r with
      sqs := r.sqs.map fun q =>
        let q : Sq := { q with fetched := [], chain := [], chainBusy := false, chainEnd := none, reading := none, retries := 0
                               retryWait := false, disp := 0 }
        if q.phase = .active ∨ q.phase = .error then { q with prod := 0, cons := 0 } else q.settle
      cqs := r.cqs.map fun c => if c.ring.en then { c with cache := [], stallSeen := false, ring := c.ring.start } else c
      eq := if r.eq.en then r.eq.start else r.eq
      lq := if r.lq.en then r.lq.start else r.lq
      eqCache := [] }
  s.lqRestart

/-- What waited in the device for the end of host hold, or for bus mastering, goes out: cached completions, then cached events (02 R74). -/
def State.drainAll (s : State) : State :=
  let s := (s.onRing fun r => { r with orphans := [] }).writeOrphans s.ring.orphans
  ((List.finRange 16).foldl (fun s n => s.drainCq n s.ring.cqs[n.val].cache) s).drainEvents

/-- The vectors that were requested meanwhile fire, and pending messages leave (02 R67, R68, R72). -/
def State.sendWanted (s : State) : State :=
  if s.ring.quiet then s
  else
    ((irqRings.filter fun i => (s.ring.ringOf i).want).foldl
      (fun s i => if (s.ring.ringOf i).want then s.fire (s.ring.ringOf i).vec else s) s).sendPending

/-- A resync ends host hold (02 R74): what is held is written out, or discarded, then the resync's completion, then the vectors that
were requested. -/
def State.resyncGo (s : State) (d : RawDesc) : State :=
  let cq := ix 15 (d.extractLsb' 72 4).toNat
  let nc := (s.ring.cqs.toList.map fun c => c.cache.length).sum
  let ne := s.ring.eqCache.length
  let s := if d.extractLsb' 64 8 = 1 then s.flushRings else s
  let s := (s.onRing fun r => { r with hold := false, holdSizes := [] }).drainAll
  let s := s.putCq cq
    { sq := 0, tag := d.extractLsb' 16 16, status := .ok, handle := hCtl, result := mkRes [(8, 0, 16, nc), (10, 0, 16, ne)]
      notify := false, resync := true }
  s.sendWanted.onDev fun v => v.onPower fun p => { p with valveFail := p.valveFail && p.policy && p.polNoHold }

/-- A resync descriptor written to the resync slot (02 R73). -/
def State.resync (s : State) (d : RawDesc) : State :=
  if !s.reach then s
  else
    let s := (s.touched.onRing fun r => { r with slot := d }).onDev fun v => v.hostActive false
    if !s.ring.hold then s.onDev fun v => v.ringError .warn LG_RESYNC_IGNORED
    else
      let s := s.settleHold
      let st := s.resyncStatus d
      let s := s.onRing fun r => { r with resyncSt := BitVec.ofNat 8 st.num, resyncSeen := true }
      if st = .ok then s.resyncGo d
      else s.onDev fun v => (v.report hHe 1 .warn LG_RESYNC_IGNORED (mkWord [(0, 8, st.num)])).1

/-! ## Bulk reads (02 R53, R75) -/

/-- What an opcode does with the bulk data that it has read. -/
def bulkBody (op : Nat) (d : Desc) (data : List Byte) (v : Dev) : Dev × Res :=
  match op, objOf d.handle with
  | 0x98, some (.satellite p k) => valeOpen d data p k v
  | 0xA3, some (.bbPort p) => bbSendData d data p v
  | 0xA5, some (.bbPort p) => bbSegData d data p v
  | 0xA7, some (.bbPort p) => bbMbReqData d data p v
  | 0xA8, some (.bbPort p) => bbImageData d data p v
  | 0xB2, some (.sbPort p) => sbXferData d data p v
  | 0xF0, _ => nvConfigData d data v
  | 0xF3, _ => fwData d data v
  | _, _ => refuse v .badHandle

/-- The oldest bulk read fails (02 R75). -/
def Dev.bulkFail (s : Dev) (st : Status) : Dev :=
  match s.bulk with
  | [] => s
  | q :: qs =>
    let s : Dev := { s with bulk := qs }
    (if q.ghost then s else s.complete q.d st 0).mbDropHold q.op q.d

/-- The oldest bulk read brings its data (02 R75). -/
def Dev.bulkDone (s : Dev) (data : List Byte) : Dev :=
  match s.bulk with
  | [] => s
  | q :: qs =>
    let r := bulkBody q.op q.d data { s with bulk := qs }
    match r.2 with
    | .done st res bulk => r.1.conclude q.ghost q.d st res bulk
    | _ => { r.1 with waits := r.1.waits ++ [q] }

/-- The bytes that a descriptor's bulk read brings: LEN of the bulk form, or WLEN of SB_XFER (02 R53, 13 R412). -/
def bulkNeed (q : QDesc) : Nat := if q.op = 0xB2 then q.d.bits 22 0 16 else bulkLen q.d

/-- A bulk read ends (02 R75): in Quad-SPI attachment it brings what the ring window holds. -/
def State.bulkRead (s : State) (e : DmaEnd) (bytes : List Byte) : State :=
  match s.dev.bulk with
  | [] => s
  | q :: _ =>
    let n := bulkNeed q
    if s.qspi then s.onDev fun v => v.bulkDone (memReadBytes s.mem.win (bulkAddr q.d) n)
    else if e ≠ .ok then (s.aerReport (some e)).onDev fun v => v.bulkFail .peerError
    else if bytes.length < n then s
    else s.onDev fun v => v.bulkDone (bytes.take n)

/-- A read draws no completion within 20 ms (02 R38, R75): a fetch of an SQ, or the oldest bulk read. -/
def State.readTimeout (s : State) (n : Option (Fin 16)) : State :=
  if s.qspi then s
  else match n with
    | some n => if (s.ring.sqs[n.val]).reading.isSome then s.fetchFailed n none else s
    | none => if s.dev.bulk.isEmpty then s else (s.aerReport none).onDev fun v => v.bulkFail .timeout

/-! ## Registers (02 R69) -/

/-- STATE of an SQ (02 R62's table). -/
def Rings.sqState (r : Rings) (n : Fin 16) : Nat :=
  let q := r.sqs[n.val]
  match q.phase with
  | .disabled => 0
  | .draining => 7
  | p =>
    if r.hold then 5
    else if p = .error then 6
    else
      let parked : Bool := q.cons != q.prod && q.reading.isNone && q.openRun == 0 && q.inFlight < 32 && r.unreserved q.cq == 0
      match q.next with
      | none => if parked then 2 else 1
      | some d =>
        if q.chain.isEmpty then
          if q.fenced d then 3
          else if rawChain d && (headRun q.limit 0 q.fetched).isNone then 4
          else if (rawChain d && r.unreserved q.cq == 0) || parked then 2
          else 1
        else if q.chainEnd.isNone && q.chainBusy then 1
        else if q.chainEnd.isNone && q.fenced d then 3
        else if r.unreserved q.cq == 0 then 2
        else 1

/-- SQn_CFG. -/
def Sq.cfgWord (q : Sq) : Word :=
  mkWord [(0, 4, q.log2), (4, 4, q.cq.val), (8, 4, q.weight), (31, 1, (q.phase == .active || q.phase == .error).toNat)]

/-- SQn_STATUS. -/
def Rings.sqStatus (r : Rings) (n : Fin 16) : Word :=
  let q := r.sqs[n.val]
  mkWord [(0, 16, q.cons.toNat), (16, 3, r.sqState n), (19, 1, q.cfgErr.toNat), (20, 6, min 32 q.inFlight)]

/-- CQn_CFG, EQ_CFG, LQ_CFG. -/
def Ring.cfgWord (r : Ring) : Word := mkWord [(0, 4, r.log2), (4, 5, r.vec.val), (9, 1, r.ie.toNat), (31, 1, r.en.toNat)]

/-- CQn_MOD, EQ_MOD, LQ_MOD. -/
def Ring.modWord (r : Ring) : Word := mkWord [(0, 8, r.modCount), (16, 16, r.modTime)]

/-- CQn_STATUS, EQ_STATUS, LQ_STATUS. -/
def Ring.statusWord (r : Ring) : Word :=
  mkWord [(0, 16, r.prod.toNat), (16, 1, (phaseOf r.log2 r.prod).toNat), (17, 1, r.full.toNat), (18, 1, r.stall.toNat),
          (19, 1, r.dropWrap.toNat)]

/-- MOD is written: with COUNT 0, which is reserved, the write has no effect (02 R69, 00 R6); TIME 0 disables the timer, and another
TIME counts from the first record counted (02 R67, R69). -/
def Ring.setMod (r : Ring) (v : Word) : Ring :=
  let c := bitsOf v.toNat 0 8
  let t := bitsOf v.toNat 16 16
  if c = 0 then r else { r with modCount := c, modTime := t, timer := (r.timer || r.count != 0) && t != 0 }

/-- Half a base address is written: bits [5:0] are reserved (02 R69). -/
def setBase (old : DWord) (hi : Bool) (v : Word) : DWord :=
  if hi then (v.setWidth 64 <<< 32) ||| (old &&& 0xFFFFFFFF) else (old &&& 0xFFFFFFFF00000000) ||| (v &&& 0xFFFFFFC0).setWidth 64

/-! ## Configuration space (02 R36, R37). The offsets, identifiers and places of bits are the PCI Express standard's: PRESUMED (log entry 189). -/

/-- The Device Serial Number capability returns the UID (02 R37). -/
def State.serialNumber (s : State) : DWord := s.dev.nv.uid

/-- The Header Log of AER (02 R37): the header of the packet that its first error concerned, a free value. -/
def State.headerLog (s : State) : BitVec 128 := (s.ring.aer.header.map Config.aerHeader).getD 0

/-- The read requests that are outstanding (02 R37): one for each SQ and one for the oldest bulk read, so never 32. -/
def State.requests (s : State) : Nat := s.ring.sqs.toList.countP (·.reading.isSome) + (if s.dev.bulk.isEmpty then 0 else 1)

/-- A word of the power management capability (02 R37): D0 and D3hot, No_Soft_Reset. -/
def State.pmWord (s : State) : Nat → Word
  | 0 => mkWord [(0, 8, 0x01), (8, 8, Config.capAt 1), (16, 3, 3)]
  | 4 => mkWord [(0, 2, if s.ring.d3hot then 3 else 0), (3, 1, 1)]
  | _ => 0

/-- A word of the MSI-X capability (02 R37): 32 vectors, table and PBA in BAR0. -/
def State.msixCapWord (s : State) : Nat → Word
  | 0 => mkWord [(0, 8, 0x11), (8, 8, Config.capAt 2), (16, 11, 31), (30, 1, s.ring.fnMask.toNat), (31, 1, s.ring.msixEn.toNat)]
  | 4 => 0x3000
  | 8 => 0x3800
  | _ => 0

/-- A word of the PCI Express capability (02 R37, R38): payloads of 256 bytes, 8-bit tags, no function level reset; Gen 2 and Gen 1, x1, L0s
left in 512 ns to 1 µs and L1 in 8 µs to 16 µs; Relaxed Ordering and No Snoop never set, and no completion timeout to program. -/
def State.pcieCapWord (s : State) : Nat → Word
  | 0x00 => mkWord [(0, 8, 0x10), (16, 4, 2)]
  | 0x04 => mkWord [(0, 3, 1), (5, 1, 1), (15, 1, 1)]
  | 0x08 => mkWord [(5, 3, s.ring.cfg.maxPayload), (8, 1, 1), (12, 3, s.ring.cfg.maxRead)]
  | 0x0C => mkWord [(0, 4, 2), (4, 6, 1), (10, 2, 3), (12, 3, 4), (15, 3, 4)]
  | 0x10 => mkWord [(0, 1, s.ring.cfg.aspmL0s.toNat), (1, 1, s.ring.aspmL1.toNat), (16, 4, if Config.linkGen2 then 2 else 1), (20, 6, 1)]
  | 0x30 => mkWord [(0, 4, 2)]
  | _ => 0

/-- A word of Advanced Error Reporting, which the extended space begins with (02 R37). -/
def State.aerWord (s : State) (off : Nat) : Word :=
  let a := s.ring.aer
  match off with
  | 0x00 => mkWord [(0, 16, 0x0001), (16, 4, 1), (20, 12, Config.serialAt)]
  | 0x04 => a.unc
  | 0x08 => a.uncMask
  | 0x0C => a.uncSev
  | 0x10 => a.cor
  | 0x14 => a.corMask
  | 0x18 => mkWord [(0, 5, a.first)]
  | 0x1C => (s.headerLog >>> 96).setWidth 32
  | 0x20 => (s.headerLog >>> 64).setWidth 32
  | 0x24 => (s.headerLog >>> 32).setWidth 32
  | 0x28 => s.headerLog.setWidth 32
  | _ => 0

/-- A word of the Device Serial Number capability (02 R37). -/
def State.serialWord (s : State) : Nat → Word
  | 0 => mkWord [(0, 16, 0x0003), (16, 4, 1)]
  | 4 => s.serialNumber.setWidth 32
  | 8 => (s.serialNumber >>> 32).setWidth 32
  | _ => 0

/-- The word of a capability structure of `n` bytes from `at_`, if the offset lies in it. -/
def capWord (at_ n off : Nat) (w : Nat → Word) : Option Word := if at_ ≤ off ∧ off < at_ + n then some (w (off - at_)) else none

/-- A word of the capability structures: no other is present (02 R37). -/
def State.capsWord (s : State) (off : Nat) : Word :=
  ((capWord (Config.capAt 0) 8 off s.pmWord).or <| (capWord (Config.capAt 1) 12 off s.msixCapWord).or <|
    (capWord (Config.capAt 2) 0x3C off s.pcieCapWord).or <| (capWord 0x100 0x2C off s.aerWord).or <|
    capWord Config.serialAt 12 off s.serialWord).getD 0

/-- A word of the endpoint's type 0 configuration header (02 R36): identity, class, BARs of 16 KB and 4 KB, no other BAR, no ROM, no INTx;
Command with its two enables; behind it, the capability structures. -/
def State.configWord (s : State) (off : Nat) : Word :=
  let c := s.ring.cfg
  match off with
  | 0x00 => 0x48161F6B
  | 0x04 => mkWord [(1, 1, c.memSpace.toNat), (2, 1, c.busMaster.toNat), (20, 1, 1)]
  | 0x08 => 0x11800000
  | 0x10 => c.bar0.setWidth 32 ||| 4
  | 0x14 => (c.bar0 >>> 32).setWidth 32
  | 0x18 => c.bar2.setWidth 32 ||| 4
  | 0x1C => (c.bar2 >>> 32).setWidth 32
  | 0x2C => 0x48161F6B
  | 0x34 => mkWord [(0, 8, Config.capAt 0)]
  | _ => if off < 0x40 then 0 else s.capsWord off

/-- The answer to a configuration read; none is Configuration Request Retry Status, until READY (18 R513). -/
def State.configRead (s : State) (off : Nat) : Option Word := if s.dev.regs.ready then some (s.configWord off) else none

/-! ## The commands -/

/-- SYS_RING_RESYNC (02 R73, R74). -/
def execSysRingResync (raw : RawDesc) (s : State) : Host.Outcome State Fault Refusal := .next (s.resync raw)

/-- SQ_PRODUCER_COL (02 R51). -/
def execSqProducerCol (n : Fin 16) (v : Word) (s : State) : Host.Outcome State Fault Refusal := .next (s.sqCol n v)

/-- CQ_CONSUMER_COL (02 R51, R67). -/
def execCqConsumerCol (n : Fin 16) (v : Word) (s : State) : Host.Outcome State Fault Refusal := .next (s.cqCol n v)

/-- EQ_CONSUMER_COL (02 R51, R67). -/
def execEqConsumerCol (v : Word) (s : State) : Host.Outcome State Fault Refusal := .next (s.eqCol v)

/-- LQ_CONSUMER_COL (02 R51, R67, 17 R488). -/
def execLqConsumerCol (v : Word) (s : State) : Host.Outcome State Fault Refusal := .next (s.lqCol v)

/-- DESCRIPTOR_FETCH (02 R58). -/
def execDescriptorFetch (n : Fin 16) (s : State) : Host.Outcome State Fault Refusal := .next (s.fetch n)

/-- FETCH_COMPLETION (02 R58, R75). -/
def execFetchCompletion (n : Fin 16) (e : DmaEnd) (data : List RawDesc) (s : State) : Host.Outcome State Fault Refusal :=
  .next (s.fetched n e data)

/-- FETCH_RETRY_TIMER (02 R75). -/
def execFetchRetryTimer (n : Fin 16) (s : State) : Host.Outcome State Fault Refusal :=
  .next (if (s.ring.sqs[n.val]).retryWait then (s.onSq n fun q => { q with retryWait := false }).fetch n else s)

/-- DESCRIPTOR_DISPATCH (02 R59 to R62, 01 R32). -/
def execDescriptorDispatch (s : State) : Host.Outcome State Fault Refusal := .next s.dispatch

/-- COMPLETION_WRITE (02 R55, R63). -/
def execCompletionWrite (s : State) : Host.Outcome State Fault Refusal := .next s.completionWrite

/-- EVENT_WRITE (02 R56, R64). -/
def execEventWrite (s : State) : Host.Outcome State Fault Refusal := .next s.eventWrite

/-- LQ_MIRROR (02 R65). -/
def execLqMirror (s : State) : Host.Outcome State Fault Refusal := .next s.lqMirror

/-- MOD_TIME_EXPIRY (02 R67): in host hold the timer stays due. -/
def execModTimeExpiry (r : IrqRing) (s : State) : Host.Outcome State Fault Refusal :=
  .next (if (s.ring.ringOf r).timer ∧ !s.ring.quiet then (s.onIrqRing r fun x => { x with timer := false }).request r else s)

/-- RING_STALL (02 R63). -/
def execRingStall (n : Fin 16) (s : State) : Host.Outcome State Fault Refusal := .next (s.stall n)

/-- SQ_ENABLE (02 R70). -/
def execSqEnable (n : Fin 16) (v : Word) (s : State) : Host.Outcome State Fault Refusal :=
  .next (s.hostWrite fun s => s.sqCfg n (v ||| cfgEn))

/-- SQ_DISABLE (02 R71). -/
def execSqDisable (n : Fin 16) (v : Word) (s : State) : Host.Outcome State Fault Refusal :=
  .next (s.hostWrite fun s => s.sqCfg n (v &&& ~~~ cfgEn))

/-- CQ_ENABLE (02 R70). -/
def execCqEnable (n : Fin 16) (v : Word) (s : State) : Host.Outcome State Fault Refusal :=
  .next (s.hostWrite fun s => s.ringCfg (.cq n) (v ||| cfgEn))

/-- CQ_DISABLE (02 R71). -/
def execCqDisable (n : Fin 16) (v : Word) (s : State) : Host.Outcome State Fault Refusal :=
  .next (s.hostWrite fun s => s.ringCfg (.cq n) (v &&& ~~~ cfgEn))

/-- EQ_ENABLE (02 R64, R70). -/
def execEqEnable (v : Word) (s : State) : Host.Outcome State Fault Refusal :=
  .next (s.hostWrite fun s => s.ringCfg .eq (v ||| cfgEn))

/-- EQ_DISABLE (02 R71). -/
def execEqDisable (v : Word) (s : State) : Host.Outcome State Fault Refusal :=
  .next (s.hostWrite fun s => s.ringCfg .eq (v &&& ~~~ cfgEn))

/-- LQ_ENABLE (02 R65, R70). -/
def execLqEnable (v : Word) (s : State) : Host.Outcome State Fault Refusal :=
  .next (s.hostWrite fun s => s.ringCfg .lq (v ||| cfgEn))

/-- LQ_DISABLE (02 R71). -/
def execLqDisable (v : Word) (s : State) : Host.Outcome State Fault Refusal :=
  .next (s.hostWrite fun s => s.ringCfg .lq (v &&& ~~~ cfgEn))

/-- RING_CTL_HOLD (02 R72). -/
def execRingCtlHold (s : State) : Host.Outcome State Fault Refusal := .next (s.hostWrite State.enterHold)

/-- DL_DOWN (02 R72, R75). -/
def execDlDown (s : State) : Host.Outcome State Fault Refusal := .next (s.linkReset true)

/-- HOT_RESET (02 R39). -/
def execHotReset (s : State) : Host.Outcome State Fault Refusal := .next (s.linkReset false)

/-- D3HOT_ENTRY (02 R40). -/
def execD3hotEntry (s : State) : Host.Outcome State Fault Refusal := .next s.d3hot

/-- PCIE_COMPLETION_TIMEOUT (02 R38, R75). -/
def execPcieCompletionTimeout (n : Option (Fin 16)) (s : State) : Host.Outcome State Fault Refusal := .next (s.readTimeout n)

/-- BULK_READ_COMPLETION (02 R75). -/
def execBulkReadCompletion (e : DmaEnd) (bytes : List Byte) (s : State) : Host.Outcome State Fault Refusal := .next (s.bulkRead e bytes)

/-- MSIX_VECTOR_UNMASK (02 R68). -/
def execMsixVectorUnmask (v : Fin 32) (s : State) : Host.Outcome State Fault Refusal :=
  .next (if s.qspi then s else s.hostWrite fun s =>
    (s.onRing fun r => { r with msix := vmod r.msix v fun e => { e with mask := false } }).sendPending)

/-- The Command register is written (02 R36, R74's procedure): what waited for bus mastering goes out. -/
def State.command (s : State) (memSpace busMaster : Bool) : State :=
  let was := s.ring.quiet
  let s := s.onRing fun r => { r with cfg := { r.cfg with memSpace, busMaster } }
  if was && !s.ring.quiet then s.drainAll.sendWanted else s

/-- A configuration write (02 R36 to R40, R68): Max_Payload_Size is at most the 256 bytes supported (R37), and a reserved
Max_Read_Request_Size changes nothing. Until READY the device answers it with Configuration Request Retry Status (18 R513). -/
def State.configWrite (s : State) (w : CfgWrite) : State :=
  if s.qspi ∨ s.dev.dark then s
  else if !s.dev.regs.ready then s.touched
  else
    let s := s.touched
    let cfg (f : PciCfg → PciCfg) : State := s.onRing fun r => { r with cfg := f r.cfg }
    let aer (f : Aer → Aer) : State := s.onRing fun r => { r with aer := f r.aer }
    match w with
    | .command m b => s.command m b
    | .bar0 v => cfg fun c => { c with bar0 := v &&& ~~~ 0x3FFF }
    | .bar2 v => cfg fun c => { c with bar2 := v &&& ~~~ 0xFFF }
    | .maxPayloadSize k => cfg fun c => { c with maxPayload := min 1 k.val }
    | .maxReadRequestSize k => cfg fun c => { c with maxRead := if k.val ≤ 5 then k.val else c.maxRead }
    | .aspmL0s on => cfg fun c => { c with aspmL0s := on }
    | .aerUncStatus v => aer fun a => { a with unc := a.unc &&& ~~~ v }
    | .aerUncMask v => aer fun a => { a with uncMask := v }
    | .aerUncSeverity v => aer fun a => { a with uncSev := v }
    | .aerCorStatus v => aer fun a => { a with cor := a.cor &&& ~~~ v }
    | .aerCorMask v => aer fun a => { a with corMask := v }
    | .msixFunctionMask m => (s.onRing fun r => { r with fnMask := m }).sendPending
    | .msixEnable on => (s.onRing fun r => { r with msixEn := on }).sendPending
    | .powerStateD0 => s.onRing fun r => { r with d3hot := false }
    | .powerStateD3hot => s.d3hot
    | .aspmL1 on => s.onRing fun r => { r with aspmL1 := on }

/-- PCIE_CONFIG_WRITE (02 R40, R68). -/
def execPcieConfigWrite (w : CfgWrite) (s : State) : Host.Outcome State Fault Refusal := .next (s.configWrite w)

/-- ASPM_L1_REQUEST (16 R460). -/
def execAspmL1Request (s : State) : Host.Outcome State Fault Refusal :=
  .next (if !s.qspi ∧ !s.dev.dark ∧ s.ring.linkUp ∧ s.ring.aspmL1 ∧ s.dev.power.state = 1 then s.onRing fun r => { r with l1 := true } else s)

end Sys2Proof.Machine
end

