-- ==== Sys2Proof/Machine/Boot.lean ====
section
/-! DEFINITION. Device resets and start-up, loading a bank, AUTORUN (18 R507 to R513); sleep and wakes (16 R462 to R468); supplies
(15 R452, R453, 20 R537); Hollow's commits and alarms (15 R446 to R448); heartbeats (16 R472), SRAM errors (01 R19), JTAG (19 R527). -/

namespace Sys2Proof.Machine

/-! ## Device reset -/

/-- What a reset is caused by: RST_CAUSE (19 R521), and what it leaves: DEVRST and the SV watchdog keep HOST_SEL's sample and the log RAM;
the loss of VCORE or of VMAIN, and HIBERNATE, lose every SRAM. -/
inductive Cause where
  | porst | devrst | svWatchdog | hibernate | powerLoss
  deriving DecidableEq, Repr

/-- RST_CAUSE (19 R521). -/
def Cause.num : Cause → Nat
  | .porst | .powerLoss => 0
  | .devrst => 1
  | .svWatchdog => 2
  | .hibernate => 3

/-- The attachment and the log outlive the reset (16 R471, 19 R518). -/
def Cause.warm : Cause → Bool
  | .devrst | .svWatchdog => true
  | _ => false

/-- The log after a reset (17 R494): kept after a warm one if its check passes, with no window open and no error handled. -/
def Log.afterReset (g : Log) (warm : Bool) : Log :=
  if warm then
    let z : Log := { Log.reset with drops := g.drops, wrap := g.wrap }
    if g.bad then z else { z with recs := g.recs.map fun r => { r with open_ := false }, count := g.count }
  else Log.reset

/-- The device as a reset leaves it, before its start-up: what is stored in the NV store and Hollow stays, and the levels at its
balls. An NV write that ran leaves its target invalid (18 R503), and a key's entry where the write has come (R512). -/
def Dev.deviceReset (s : Dev) (c : Cause) : Dev :=
  let z := Dev.reset
  let s := s.nvTear
  { z with
    now := s.now
    fresh := s.fresh
    vboost := s.vboost
    vboostAt := s.vboostAt
    hollow := { s.hollow with stageQ := [], committed := [] }
    log := s.log.afterReset c.warm
    nv := { z.nv with
      slots := s.nv.slots, banks := s.nv.banks, keyA := s.nv.keyA, keyB := s.nv.keyB
      uid := s.nv.uid, pkh := s.nv.pkh, dbgLock := s.nv.dbgLock, trims := s.nv.trims }
    power := { z.power with vmainHold := s.power.vmainHold }
    regs := { z.regs with
      attach := if c.warm then s.regs.attach else s.regs.hostSel
      hostSel := s.regs.hostSel
      porstN := s.regs.porstN
      bankOff := s.regs.bankOff
      rstCause := c.num } }

/-! ## Loading a bank (18 R507) -/

/-- A slot record becomes a satellite's record in LOST with EPOCH 0. -/
def Dev.loadSlot (s : Dev) (r : SlotRec) : Dev :=
  let x : VSlot := { VSlot.blank with uid := some r.uid, state := .lost, caps := r.caps, items := r.items.toNat, maxsess := r.maxsess.toNat }
  { s with vports := vmod s.vports r.port fun v => { v with slots := v.slots.set r.slot.val x } }

/-- A descriptor of an image: its opcode and fields (02 R52). -/
def imgDesc (b : List Byte) : Nat × Desc :=
  (leAt b 0 1, { sq := 0, flags := BitVec.ofNat 8 (leAt b 1 1), tag := BitVec.ofNat 16 (leAt b 2 2), handle := BitVec.ofNat 32 (leAt b 4 4)
                 pay := BitVec.ofNat 192 (leAt b 8 24) })

/-- A descriptor of an image, the `i`th of its section, executes as from an SQ; its completion is discarded. The flag says that it was
ST_OK or waits; of one that waits the end is logged when it comes (`Dev.ends`). -/
def Dev.runImage (s : Dev) (bank i : Nat) (b : List Byte) : Dev × Bool :=
  let x := imgDesc b
  match imgRow x.1 with
  | none => (s, false)
  | some row =>
    match s.opCheck row.info x.2 with
    | .error _ => (s, false)
    | .ok o =>
      let r := row.body x.2 o s
      match r.2 with
      | .done st _ _ => (r.1, st == .ok)
      | _ => ({ r.1 with waits := r.1.waits ++ [{ op := x.1, d := x.2, ghost := true, img := some (bank, i) }] }, true)

/-- A section of an image executes: each descriptor that fails is logged (18 R507, R516), and those refused at once are counted. -/
def Dev.runSection (s : Dev) (bank : Nat) : List (List Byte) → Nat → Nat → Dev × Nat
  | [], _, bad => (s, bad)
  | b :: bs, i, bad =>
    let r := s.runImage bank i b
    if r.2 then r.1.runSection bank bs (i + 1) bad
    else (r.1.imageBad bank i).runSection bank bs (i + 1) (bad + 1)

/-- The active bank is loaded (18 R507). -/
def Dev.loadBank (s : Dev) : Dev :=
  match s.nv.activeBank with
  | none => s
  | some k =>
    let image := s.nv.banks[k.val].image
    let s := (imgSlots image).foldl Dev.loadSlot s
    let r := Dev.runSection { s with loading := true } k.val (imgCfg image) 0 0
    { r.1 with loading := false }

/-! ## Start-up (18 R513) -/

/-- A firmware slot that does not verify is reported (18 R511). -/
def Dev.slotBad (s : Dev) (k : Fin 2) : Dev := (s.report hNv 57 .alarm LG_FW_SIG_FAIL (mkWord [(0, 1, k.val)])).1

/-- A firmware slot runs (18 R510, R511). -/
def Dev.slotRuns (s : Dev) (k : Fin 2) : Dev :=
  let x := s.nv.slots[k.val]
  let s := s.onNv fun n => { n with slot := k.val, slots := vmod n.slots k fun x => { x with ran := true } }
  if x.ran then s else s.note .info 57 LG_FW_UPDATED (mkWord [(0, 16, x.version.toNat)])

/-- The image of a slot verifies (18 R509, R511): the boot ROM checks it at each start-up. -/
def Dev.slotVerifies (s : Dev) (k : Fin 2) : Bool := s.nv.slots[k.val].verifies s.nv.pkh

/-- The firmware slot is chosen (18 R511): the newest valid one that verifies, the other one, or recovery. -/
def Dev.chooseSlot (s : Dev) : Dev :=
  let recover (s : Dev) : Dev := { s with regs := { s.regs with recovery := true } }
  match s.nv.newestSlot with
  | none => recover s
  | some k =>
    if s.slotVerifies k then s.slotRuns k
    else
      let s := s.slotBad k
      let o := otherOf k
      if !s.nv.slots[o.val].valid then recover s
      else if s.slotVerifies o then s.slotRuns o
      else recover (s.slotBad o)

/-- A bank whose MAGIC stands and which is not valid is logged (18 R501, R516): its LEN (1) or its CRC (2). -/
def Dev.bankBad (s : Dev) (k : Fin 2) : Dev :=
  let b := s.nv.banks[k.val]
  if b.magic ≠ bankMagic ∨ b.valid then s
  else (s.report hNv 57 .warn LG_NV_BANK_BAD (mkWord [(0, 1, k.val), (8, 8, if b.lenOk then 2 else 1)])).1

/-- Steps 2 to 6 of the start-up (18 R513): clocks, firmware, key area, banks, OSF, READY. A wake source that Hollow recorded is taken up (16 R468). -/
def Dev.startUp (s : Dev) : Dev :=
  let s := s.onPower fun p => { p with xclkOk := true, pllaLock := true, pllbLock := true, wakeSrc := s.hollow.wakeSrc.getD 0x40 }
  let s := s.onHollow fun h => { h with wakeSrc := none }
  let s := s.chooseSlot.onNv Nv.checkKeys
  let s := ((s.bankBad 0).bankBad 1).onNv Nv.withBank
  let s := if s.regs.recovery then s else s.loadBank
  let osf := mkWord [(0, 1, s.hollow.osfReset.toNat)]
  let s := if s.hollow.osf then s.reportEv (hFunc 55) 55 .warn LG_HOLLOW_OSF osf EV_HOLLOW_OSF (hFunc 55) osf else s
  let s := if s.hollow.lockLog then s.note .info 55 LG_HOLLOW_LOCKOUT 1 else s
  let s := s.onHollow fun h => { h with lockLog := false, lockout := h.vmainBad }
  let v := s.draw
  let s : Dev := { v.2 with regs := { s.regs with ready := true, v18 := Config.bankV18 v.1 } }
  let s := if s.nv.activeBank.isNone then
      (s.onNv fun n => { n with empty := true }).reportEv hNv 57 .warn LG_NV_EMPTY 0 EV_NV_EMPTY hNv 0
    else s
  s.onNv fun n => { n with autoPend := n.autorun && !s.regs.recovery, autoCancel := false }

/-- A device reset with its start-up; while VMAIN is not qualified or PORST_N is low the device stays in reset (20 R537). -/
def State.deviceReset (s : State) (c : Cause) : State :=
  let dev := s.dev.deviceReset c
  { s with
    dev := if dev.power.vmainHold then dev else dev.startUp
    ring := Rings.after dev.regs.attach
    mem := { s.mem with win := if c.warm ∨ c = .porst then s.mem.win else [] } }

/-! ## AUTORUN (18 R508) -/

/-- AUTORUN's moment: the enables of the enable record are set and the run section executes. -/
def Dev.autorun (s : Dev) : Dev :=
  match s.nv.activeBank with
  | some k =>
    if !s.nv.autoPend ∨ !s.regs.ready ∨ s.dark then s
    else
      let image := s.nv.banks[k.val].image
      let s := s.onNv fun n => { n with autoPend := false }
      let s := s.setFen (s.power.fen ||| imgEnable image)
      let r := s.runSection k.val (imgRun image) 0 0
      let arg := mkWord [(0, 1, 1), (8, 8, min 255 r.2)]
      (r.1.note .info 57 LG_AUTORUN arg).raise EV_AUTORUN 57 hNv arg
  | none => s

/-! ## Sleep and wakes (16 R462 to R468) -/

/-- A key joins a primary KR line to a primary KC line, which key wake needs (19 R526, 10 R301). -/
def Dev.keyLines (s : Dev) : Bool :=
  let own := fun (b : Nat) => ballSel (s.regs.pinmux0, s.regs.pinmux1) b == 0
  (List.range 8).any own && (List.range 12).any fun c => own (8 + c)

/-- The enabled wake sources that have a level (16 R464): WAKE pins, keys in shared-scan mode, the host and the Vale ports. -/
def Dev.wakeLevels (s : Dev) : List Nat :=
  ((List.range 32).filter fun c => (1 ≤ c && c ≤ 5) || c == 9 || 16 ≤ c).filter fun c =>
    s.power.wakeEnabled c && (c != 5 || (s.panel.mode == 1 && s.keyLines))

/-- Step 1 of the SLEEP sequence (16 R465): an enabled source that is already asserted aborts the request, the lowest code of several (R464).
The levels are inputs without a command, so they are free values (log entry 239). -/
def Dev.wakeAsserted (s : Dev) (d : Desc) : Dev :=
  if s.wakeLevels.isEmpty then s
  else
    let k := s.draw
    match s.wakeLevels.find? fun c => (Config.wakeAsserted k.1).getLsbD c with
    | some c => k.2.sleepAborted d c
    | none => k.2

/-- PWR_STATE: a request for SLEEP or HIBERNATE begins with host hold (16 R462 step 1), and a wake source that is asserted aborts it (R465). -/
def State.pwrState (s : State) (d : Desc) : State :=
  let t := s.desc opPwrState d (doPwrState d)
  if s.dev.power.sleep = SleepStep.none ∧ t.dev.power.sleep ≠ SleepStep.none then t.enterHold.onDev fun v => v.wakeAsserted d else t

/-- The link is lost with its PHY's power (16 R462, 01 R28). -/
def State.phyOff (s : State) : State :=
  let s := s.onRing fun r => { r with sqs := r.sqs.map fun q => { q with reading := none, retryWait := false } }
  if s.qspi then s else s.onRing fun r => { r.configReset with linkUp := false }

/-- The HIBERNATE completion, which host hold does not keep back (16 R468). -/
def State.hibernateDone (s : State) (d : Desc) : State :=
  let q : QDesc := { op := 0xD0, d }
  let ghost := s.dev.waits.any fun x => x.op == q.op && x.d == d && x.ghost
  let s := s.onDev fun v => { v with waits := v.waits.filter fun x => !(x.op == q.op && x.d == d) }
  if ghost then s
  else
    let c : Completion := { sq := d.sq, tag := d.tag, status := .ok, handle := d.handle, result := 0, notify := d.flags.getLsbD 1 }
    let s := (s.onRing fun r => { r with hold := false }).writeCq (s.ring.sqs[d.sq.val]).cq c
    s.onRing fun r => { r with hold := true }

/-- Steps 4 to 6 of the SLEEP sequence (16 R462, R468): once no NV write runs, the state changes and the switches open. -/
def State.sleepCommit (s : State) : State :=
  match s.dev.power.sleep with
  | .requested d =>
    if s.dev.nv.busy.isSome then s
    else
      let s := s.onDev Dev.sleepStop
      let off (s : State) : State :=
        (s.onDev fun v => (v.onPower fun p => { p with xclkOk := false, pllaLock := false, pllbLock := false, groups := 0xFF }).anaSwitchOff).phyOff
      if d.bits 8 0 2 = 2 then
        off (s.onDev fun v => (v.pwrGo 2 0).onPower fun p => { p with sleep := .asleep d })
      else
        let s := s.onDev fun v => v.pwrGo 3 0
        off ((s.hibernateDone d).onDev fun v =>
          { v with power := { v.power with sleep := .hibernating }, hollow := { v.hollow with release := some 32 } })
  | _ => s

/-- A wake source fires (16 R464, R465): the end of HIBERNATE is a device reset with a start-up, which reports it (R468). -/
def State.wake (s : State) (code : Nat) : State :=
  let r := s.dev.wakeBy code
  let s : State := { s with dev := r.1 }
  if r.2 then (s.deviceReset .hibernate).onDev fun v => v.recordWake code none else s

/-- The host wakes the device (16 R464); in RUN and ECO it does not. -/
def State.hostWake (s : State) : State := s.wake 9

/-! ## Hollow's moments (15 R446 to R448) -/

/-- The core works, so that Hollow's events are raised: not in HIBERNATE and not in reset (16 R468, 20 R537). -/
def Dev.coreOn (s : Dev) : Bool := s.hollowUp && s.svOn

/-- An alarm that the counter has passed fires (15 R447); alarm 0 goes before alarm 1 (15 R448). -/
def State.alarmFire (s : State) (second : Bool) : State :=
  let a := s.dev.hollow.alarm second
  if !a.armed ∨ !a.due ∨ (second ∧ s.dev.hollow.alarm0.due) then s
  else
    let n := second.toNat
    let s := s.onDev fun v => v.onHollow fun h => h.setAlarm second { a with armed := false, hit := true, due := false }
    let s := s.onDev fun v =>
      if v.coreOn then
        (v.note .info 55 LG_HOLLOW_ALARM (mkWord [(0, 1, n)])).raise EV_HOLLOW_ALARM 55 (hFunc 55) (mkWord [(0, 1, n)])
      else v
    s.wake (6 + n)

/-- The periodic wake fires, once for each multiple that counting has reached, after the alarms of its tick (15 R448). -/
def State.periodicWake (s : State) : State :=
  let h := s.dev.hollow
  if !h.wakeEn ∨ !h.perDue ∨ h.alarm0.due ∨ h.alarm1.due then s
  else
    let s := s.onDev fun v => v.onHollow fun h => { h with perDue := false }
    (s.onDev fun v => if v.coreOn then v.raise EV_HOLLOW_WAKE 55 (hFunc 55) (mkWord [(0, 5, h.wakeExp)]) else v).wake 8

/-- The next HOLLOW_TIME_SET that waits stages its values; one that is out of range completes (15 R446, 14 R434). -/
def Dev.stageNext (s : Dev) : List Desc → Dev
  | [] => s.onHollow fun h => { h with stageQ := [] }
  | d :: ds =>
    if timeSetBad d then (s.finish 0xC2 d .range 0).stageNext ds
    else s.onHollow fun h => { h with staged := some (timeSetValues d), stageQ := ds }

/-- STAGED_COMMIT (15 R446): staged values that no tick has committed are committed now, and what has been committed completes. -/
def State.stagedCommit (s : State) : State :=
  if s.dev.hollow.staged.isNone ∧ s.dev.hollow.committed.isEmpty then s
  else
    let set := s.dev.hollow.staged.any fun g => g.cnt.isSome
    let s := s.onDev fun v => v.onHollow Hollow.commit
    let s := if set then (s.alarmFire false).alarmFire true else s
    s.onDev fun v => let v := v.completeSets; v.stageNext v.hollow.stageQ

/-! ## Supplies (15 R452, R453, 20 R537) -/

/-- VMAIN fails: Hollow locks out, what is staged is discarded, and the rest of the device is held in reset. -/
def State.vmainFail (s : State) : State :=
  if s.dev.hollow.vmainBad then s
  else
    let s := s.onDev fun v =>
      { v with
        hollow := { v.hollow with vmainBad := true, lockout := true, lockSeen := true, staged := none, stageQ := [], committed := [], wasReset := false }
        power := { v.power with vmainHold := true } }
    s.deviceReset .powerLoss

/-- VMAIN has qualified (15 R453): Hollow returns to it, which ends its reset, and the device starts up if PORST_N is high (20 R537). -/
def State.vmainQualified (s : State) : State :=
  if !s.dev.hollow.vmainBad then s
  else
    let s := s.onDev fun v =>
      { v with
        hollow := { v.hollow with vmainBad := false, inReset := false, lockLog := !v.hollow.wasReset }
        power := { v.power with vmainHold := !v.regs.porstN } }
    s.deviceReset .powerLoss

/-! ## Supervision -/

/-- An engine's heartbeat has stopped for 10 ms (16 R472): it is held and released as its function. -/
def State.heartbeat (s : State) (e : Fin 12) : State :=
  let f := engineFunc e.val
  if e.val = 1 ∨ s.dev.power.halted.getLsbD e.val ∨ s.dev.frstBit f ∨ s.dev.asleep ∨ s.dev.power.vmainHold then s
  else
    let bit : BitVec 96 := 1#96 <<< f
    let s := s.onDev fun v => v.setFrst (v.power.frst ||| bit) true
    let s := if f = 1 then s.ringReset else s
    s.onDev fun v => v.setFrst (v.power.frst &&& ~~~ bit) true

/-- The SRAM's place in SYS_COUNTERS_GET's sum, and the function that owns it (01 R19; log entry 74). -/
def Sram.place : Sram → Fin 16 × Nat
  | .engine e => (⟨e.val, by omega⟩, engineFunc e.val)
  | .plain => (12, 1)
  | .logRam => (13, 56)
  | .results => (14, 3)
  | .eventRam => (15, 2)

/-- The domain of an SRAM is on (01 R28): in SLEEP only SV's local memory is read. -/
def Dev.sramOn (s : Dev) (m : Sram) : Bool := !s.dark || (s.svOn && m == .engine 1)

/-- A SECDED error (01 R19): corrected and logged, or reported to the owning function; a record of function 56 is no error (17 R480). -/
def Dev.eccError (s : Dev) (m : Sram) (double : Bool) : Dev :=
  let p := Sram.place m
  let a := s.draw
  if !s.sramOn m then s
  else if double then
    let s := a.2.onPower fun x => { x with memUe := x.memUe + 1 }
    let s := if m = .logRam then s.onLog fun g => { g with bad := true } else s
    if p.2 = 56 then (s.logPut { code := LG_MEM_UE, sev := .fault, src := 56, arg := Config.openArg a.1 }).1
    else (s.report (hFunc p.2) p.2 .fault LG_MEM_UE (Config.openArg a.1)).1
  else (a.2.onPower fun x => { x with memCe := vmod x.memCe p.1 (· + 1) }).note .info p.2 LG_MEM_CE (Config.openArg a.1)

/-- A JTAG access (19 R527, 18 R512): with DBG_LOCK blown no engine can be halted. JCLK is off in SLEEP (01 R25). DESIGN CHOICE: it carries no
read or write of a memory (log entry 257). -/
def Dev.jtag (s : Dev) (j : Jtag) : Dev :=
  let seen (s : Dev) : Dev := { s with regs := { s.regs with tapSeen := true } }
  if s.dark then s
  else match j with
  | .leaveReset => seen s
  | .halt e => seen (if s.nv.dbgLock then s else s.onPower fun p => { p with halted := p.halted ||| (1#12 <<< e.val) })
  | .resume e => seen (if s.nv.dbgLock then s else s.onPower fun p => { p with halted := p.halted &&& ~~~ (1#12 <<< e.val) })

/-! ## The commands -/

/-- STAGED_COMMIT (15 R446). -/
def execStagedCommit (s : State) : Host.Outcome State Fault Refusal := .next s.stagedCommit

/-- ALARM_FIRE (15 R447): counting passes the value. -/
def execAlarmFire (a : Fin 2) (s : State) : Host.Outcome State Fault Refusal := .next (s.alarmFire (a.val == 1))

/-- PERIODIC_WAKE (15 R448). -/
def execPeriodicWake (s : State) : Host.Outcome State Fault Refusal := .next s.periodicWake

/-- VMAIN_FAIL (15 R452, 20 R537). -/
def execVmainFail (s : State) : Host.Outcome State Fault Refusal := .next s.vmainFail

/-- VMAIN_QUALIFIED (15 R453, 20 R537). -/
def execVmainQualified (s : State) : Host.Outcome State Fault Refusal := .next s.vmainQualified

/-- PWR_STATE (opcode 0xD0, 16 R457 to R462). -/
def execPwrState (d : Desc) (s : State) : Host.Outcome State Fault Refusal := .next (s.pwrState d)

/-- SLEEP_COMMIT (16 R462, R468). -/
def execSleepCommit (s : State) : Host.Outcome State Fault Refusal := .next s.sleepCommit

/-- WAKE_PIN_EDGE (16 R464). -/
def execWakePinEdge (w : Fin 4) (s : State) : Host.Outcome State Fault Refusal := .next (s.wake (1 + w.val))

/-- KEY_WAKE (16 R464, 10 R301): in shared-scan mode. -/
def execKeyWake (s : State) : Host.Outcome State Fault Refusal :=
  .next (if s.dev.panel.mode = 1 && s.dev.keyLines then s.wake 5 else s)

/-- HOST_WAKE (16 R464). -/
def execHostWake (s : State) : Host.Outcome State Fault Refusal := .next s.hostWake

/-- VALE_WAKE (11 R327, 16 R464). -/
def execValeWake (p : Fin 16) (s : State) : Host.Outcome State Fault Refusal := .next (s.wake (16 + p.val))

/-- HEARTBEAT_TIMEOUT (16 R472). -/
def execHeartbeatTimeout (e : Fin 12) (s : State) : Host.Outcome State Fault Refusal := .next (s.heartbeat e)

/-- SV_WATCHDOG_RESET (16 R472): SV and WCLK are off in HIBERNATE (01 R28). -/
def execSvWatchdogReset (s : State) : Host.Outcome State Fault Refusal := .next (if s.dev.svOn then s.deviceReset .svWatchdog else s)

/-- HOST_LOSS_TIMEOUT (16 R473, R474). -/
def execHostLossTimeout (s : State) : Host.Outcome State Fault Refusal := .next (s.onDev fun v => v.policyGo false s.ring.hold)

/-- PORST (18 R513, 02 R35): PORST_N rises with HOST_SEL at a level. The device starts up if VMAIN has qualified (20 R537). -/
def execPorst (hostSel : Bool) (s : State) : Host.Outcome State Fault Refusal :=
  .next ((s.onDev fun v =>
    { v with regs := { v.regs with hostSel, porstN := true }, power := { v.power with vmainHold := v.hollow.vmainBad } }).deviceReset .porst)

/-- VCORE_BROWN_OUT (20 R536, R537). -/
def execVcoreBrownOut (s : State) : Host.Outcome State Fault Refusal := .next (s.deviceReset .powerLoss)

/-- AUTORUN (18 R508). -/
def execAutorun (s : State) : Host.Outcome State Fault Refusal := .next (s.onDev Dev.autorun)

/-- SRAM_ECC_ERROR (01 R19). -/
def execSramEccError (m : Sram) (double : Bool) (s : State) : Host.Outcome State Fault Refusal := .next (s.onDev fun v => v.eccError m double)

/-- JTAG_TAP_ACCESS (19 R527). -/
def execJtagTapAccess (j : Jtag) (s : State) : Host.Outcome State Fault Refusal := .next (s.onDev fun v => v.jtag j)

end Sys2Proof.Machine
end

