-- ==== Sys2Proof/Machine/Flags.lean ====
section
/-! DEFINITION. The setup registers (19_setup_registers.md): what each reads as, what a write does, status flags cleared by writing 1, and
the map of 19 R519. -/

namespace Sys2Proof.Machine

/-! ## Reading: identity, system state, pins (19 R520 to R528) -/

/-- SYS_STATUS (19 R521). -/
def State.sysStatus (s : State) : Word :=
  let r := s.dev.regs
  mkWord [(0, 1, r.ready.toNat), (1, 1, r.attach.toNat), (2, 1, r.recovery.toNat), (3, 1, s.dev.nv.empty.toNat), (4, 2, r.rstCause),
          (8, 8, s.ring.resyncSt.toNat), (16, 1, s.ring.resyncSeen.toNat), (17, 1, r.lock.toNat), (18, 1, r.lockWr.toNat)]

/-- DBG_STATUS (19 R527). -/
def Dev.dbgStatus (s : Dev) : Word :=
  mkWord [(0, 1, s.nv.dbgLock.toNat), (1, 1, s.regs.tapSeen.toNat), (2, 1, (!s.nv.dbgLock && s.power.halted != 0).toNat)]

/-- FENk (19 R523). -/
def Dev.fenWord (s : Dev) (k : Nat) : Word :=
  (List.range 32).foldl (fun w b => if 32 * k + b < 92 && s.enabled (32 * k + b) then w ||| (1#32 <<< b) else w) 0

/-- A field of 32 bits of the 96 of FEN or FRST. -/
def word96 (x : BitVec 96) (k : Nat) : Word := (x >>> (32 * k)).setWidth 32

/-- Those 96 bits with one word replaced. -/
def setWord96 (x : BitVec 96) (k : Nat) (v : Word) : BitVec 96 :=
  (x &&& ~~~ (0xFFFFFFFF#96 <<< (32 * k))) ||| (v.setWidth 96 <<< (32 * k))

/-! ## Reading: the blocks -/

/-- TB_STATUS (03 R98). -/
def Tb.status (t : Tb) : Word :=
  mkWord [(0, 3, t.state.num), (3, 1, t.valid.toNat), (4, 1, t.slewing.toNat), (5, 4, t.misses), (9, 1, t.rangeErr.toNat),
          (10, 1, t.unlockSeen.toNat), (16, 16, t.unlocks.toNat)]

/-- PHASE of a converter (04 R128). -/
def Conv.phaseNum (v : Conv) : Nat :=
  if v.urgent.isSome then 5
  else match v.phase with
    | .stopped => 0 | .settle => 1 | .convert => 2 | .postDelay => 3 | .wait => 4

/-- c_STATUS (04 R128). -/
def Conv.status (v : Conv) : Word :=
  mkWord [(0, 1, v.run.toNat), (1, 1, v.refOk.toNat), (2, 5, v.entry), (7, 3, v.phaseNum), (10, 1, v.ovrSeen.toNat),
          (11, 1, v.openSeen.toNat), (12, 1, v.refLost.toNat)]

/-- c_STATUS, c_URGENT_DROP, c_WAITS, c_TIMING (04 R128). -/
def Conv.reg (v : Conv) (k : Nat) : Word :=
  match k with
  | 0 => v.status
  | 1 => v.urgentDrop
  | 2 => mkWord [(0, 16, v.timeouts.toNat), (16, 16, v.released.toNat)]
  | _ => mkWord [(0, 16, v.lateStart.toNat), (16, 16, v.strobeIgn.toNat)]

/-- LEn_LOAD (05 R168): DECLARED in whole percent. -/
def Dev.leReg (s : Dev) (e : Fin 6) : Word :=
  let w := s.leLoad e.val none
  mkWord [(0, 8, w.1 / (w.2 * 4000000)), (8, 8, (s.lePeak[e.val].map busySecond).getD 0)]

/-- LOOP_FAULTm (05 R168). -/
def Dev.loopFault (s : Dev) (m : Nat) : Word :=
  (List.range 32).foldl (fun w b =>
    if 32 * m + b < 144 && (s.loops[(ix 143 (32 * m + b)).val]).state.faulty then w ||| (1#32 <<< b) else w) 0

/-- PWMc_STATUS (07 R224). -/
def Dev.pwmReg (s : Dev) (c : Fin 48) : Word :=
  let p := s.pwms[c.val]
  let st := if !p.en then 0 else if s.pwmRuns c then 1 else 2
  mkWord [(0, 2, st), (2, 1, p.staging.any.toNat), (3, 1, p.shadow.isSome.toNat), (4, 1, p.clamp.toNat), (5, 1, p.stale.toNat),
          (6, 1, p.angleLost.toNat), (7, 1, p.narrow.toNat), (8, 1, p.refCut.toNat), (9, 1, p.force.toNat), (10, 1, p.latched.toNat),
          (16, 16, p.late.toNat)]

/-- TRIP_STATUS (07 R224). -/
def Dev.tripStatus (s : Dev) : Word :=
  (List.range 8).foldl (fun w t =>
    let x := s.trips[(ix 7 t).val]
    let w := if x.active then w ||| (1#32 <<< t) else w
    if x.seen then w ||| (1#32 <<< (8 + t)) else w) 0

/-- SP_STATUS (08 R251), with VBOOST as last compared. -/
def Dev.spStatus (s : Dev) : Word :=
  mkWord ((List.finRange 8).flatMap fun k =>
    let p := s.pairs[k.val]
    [(4 * k.val, 2, if p.bg then 2 else if p.hsg then 1 else 0), (4 * k.val + 2, 1, p.rail.isSome.toNat),
     (4 * k.val + 3, 1, (decide (p.boostReady ≤ s.vboost)).toNat)])

/-- PANEL_STATUS (10 R300). -/
def Panel.status (p : Panel) : Word :=
  mkWord [(0, 2, p.mode), (2, 1, (!p.blocks.isEmpty).toNat), (3, 1, p.dropped.toNat), (4, 1, p.multiSeen.toNat), (5, 7, p.queue.length)]

/-- VLn_PRESENT (12 R371). -/
def VPort.presentWord (v : VPort) : Word :=
  (List.finRange 32).foldl (fun w k => if (v.slots[k.val]).state = .present then w ||| (1#32 <<< k.val) else w) 0

/-- VLn_STATUS to VLn_CONV (11 R332, 12 R371). -/
def VPort.reg (v : VPort) (k : Nat) : Word :=
  match k with
  | 0 => v.status
  | 1 => v.excl
  | 2 => v.errors
  | 3 => v.misc
  | 4 => v.presentWord
  | 5 => mkWord [(0, 16, v.stale.toNat), (16, 16, v.authFail.toNat)]
  | _ => 0

/-- HOLLOW_STATUS (15 R455): 0 in lockout and while function 55 is held. -/
def Dev.hollowStatus (s : Dev) : Word :=
  let h := s.hollow
  if !s.hollowUp then 0
  else
    mkWord [(0, 1, h.osf.toNat), (1, 1, h.staged.isSome.toNat), (2, 1, h.freeze.isSome.toNat), (3, 1, h.oscRun.toNat),
            (4, 1, h.alarm0.armed.toNat), (5, 1, h.alarm1.armed.toNat), (6, 1, h.wakeEn.toNat), (7, 1, h.pwron.toNat),
            (8, 1, h.lockSeen.toNat), (9, 1, h.alarm0.hit.toNat), (10, 1, h.alarm1.hit.toNat), (11, 1, h.release.isSome.toNat)]

/-! ## The map (19 R519) -/

/-- A register of the first page, 0x0000 to 0x00FF. -/
def State.sysReg (s : State) (off : Nat) (levels : BitVec 28) : Word :=
  match off with
  | 0x00 => 0x48161F6B
  | 0x04 => 0x01000000
  | 0x08 => s.dev.nv.uid.setWidth 32
  | 0x0C => (s.dev.nv.uid >>> 32).setWidth 32
  | 0x10 => s.sysStatus
  | 0x14 => mkWord [(0, 1, s.dev.regs.lock.toNat)]
  | 0x18 => s.dev.dbgStatus
  | 0x1C => s.dev.clkStatus
  | 0x20 => s.dev.fenWord 0
  | 0x24 => s.dev.fenWord 1
  | 0x28 => s.dev.fenWord 2
  | 0x30 => s.dev.regs.scratch[0]
  | 0x34 => s.dev.regs.scratch[1]
  | 0x38 => s.dev.regs.scratch[2]
  | 0x3C => s.dev.regs.scratch[3]
  | 0x40 => s.dev.regs.pinmux0
  | 0x44 => s.dev.regs.pinmux1
  | 0x48 => s.dev.pinIn levels
  | 0x4C => mkWord [(0, 8, s.dev.regs.v18.toNat), (8, 8, s.dev.regs.slow.toNat)]
  | _ => 0

/-- BASE_LO, BASE_HI, CFG, MOD, STATUS of a CQ, EQ or LQ. -/
def Ring.reg (r : Ring) (k : Nat) : Word :=
  match k with
  | 0 => r.base.setWidth 32
  | 1 => (r.base >>> 32).setWidth 32
  | 2 => r.cfgWord
  | 3 => r.modWord
  | 4 => r.statusWord
  | _ => 0

/-- BASE_LO, BASE_HI, CFG, STATUS of an SQ. -/
def Rings.sqReg (r : Rings) (n : Fin 16) (k : Nat) : Word :=
  match k with
  | 0 => (r.sqs[n.val]).base.setWidth 32
  | 1 => ((r.sqs[n.val]).base >>> 32).setWidth 32
  | 2 => (r.sqs[n.val]).cfgWord
  | _ => r.sqStatus n

/-- RING_CTL (02 R69). -/
def Rings.ctl (r : Rings) : Word := mkWord [(0, 1, r.hold.toNat), (1, 1, r.linkLost.toNat)]

/-- A register of the ring pages, 0x0100 to 0x04FF. -/
def State.ringReg (s : State) (off : Nat) : Word :=
  let r := s.ring
  let w := off % 32 / 4
  if off < 0x200 then r.sqReg (ix 15 ((off - 0x100) / 16)) (off % 16 / 4)
  else if off < 0x400 then (r.cqs[(ix 15 ((off - 0x200) / 32)).val]).ring.reg w
  else if off < 0x414 then r.eq.reg w
  else if off = 0x414 then r.eqDrop
  else if 0x420 ≤ off ∧ off < 0x434 then r.lq.reg w
  else if off = 0x434 then r.lqSkip
  else if off = 0x440 then r.ctl
  else if off = 0x448 then (if s.qspi then r.irqPend else 0)
  else if off = 0x44C then (if s.qspi then r.irqMask else 0)
  else 0

/-- A register of the control pages, 0x0500 to 0x0BFF. -/
def Dev.ctlReg (s : Dev) (off : Nat) : Word :=
  if off = 0x500 then s.power.status
  else if off = 0x504 then s.power.wake0
  else if off = 0x508 then s.power.wake1
  else if off = 0x510 ∨ off = 0x514 ∨ off = 0x518 then word96 s.power.frst ((off - 0x510) / 4)
  else if off = 0x600 then s.tb.status
  else if off = 0x604 then s.tb.freq
  else if off = 0x608 then BitVec.ofNat 32 s.tb.period
  else if off = 0x60C then BitVec.ofNat 32 s.tb.fine
  else if off = 0x610 then s.tb.cycLatch.setWidth 32
  else if off = 0x614 then s.tb.pherr.setWidth 32
  else if 0x700 ≤ off ∧ off < 0x730 then (s.convs[(ix 2 ((off - 0x700) / 16)).val]).reg (off % 16 / 4)
  else if 0x800 ≤ off ∧ off < 0x818 then s.leReg (ix 5 ((off - 0x800) / 4))
  else if 0x820 ≤ off ∧ off < 0x834 then s.loopFault ((off - 0x820) / 4)
  else if 0x840 ≤ off ∧ off < 0x848 then s.zoneModeReg ((off - 0x840) / 4)
  else if 0x900 ≤ off ∧ off < 0x9C0 then s.pwmReg (ix 47 ((off - 0x900) / 4))
  else if off = 0x9C0 then s.tripStatus
  else if 0xA00 ≤ off ∧ off < 0xA40 then (s.valves[(ix 15 ((off - 0xA00) / 4)).val]).status
  else if off = 0xA40 then s.spStatus
  else if 0xA80 ≤ off ∧ off < 0xAB0 then (s.fans[(ix 11 ((off - 0xA80) / 4)).val]).status
  else if 0xAC0 ≤ off ∧ off < 0xAF0 then (s.dampers[(ix 11 ((off - 0xAC0) / 4)).val]).status
  else if off = 0xB00 then s.panel.status
  else if off = 0xB04 then s.panel.drops
  else 0

/-- A register of the port pages and above, 0x0C00 to 0x0FFF, but for Hollow's time registers. -/
def Dev.portReg (s : Dev) (off : Nat) : Word :=
  if off < 0xE00 then (s.vports[(ix 15 ((off - 0xC00) / 32)).val]).reg (off % 32 / 4)
  else if off < 0xE80 then
    let b := s.bbs[(ix 7 ((off - 0xE00) / 16)).val]
    match off % 16 / 4 with
    | 0 => b.status
    | 1 => b.counts
    | 2 => b.rxdrop
    | _ => 0
  else if off < 0xEC0 then
    let b := s.sbs[(ix 7 ((off - 0xE80) / 8)).val]
    if off % 8 = 0 then b.status else b.counts
  else if off = 0xF10 then s.hollowStatus
  else if off = 0xF40 then s.log.status
  else if off = 0xF44 then s.log.head
  else if 0xF48 ≤ off ∧ off < 0xF5C then s.log.drops[(ix 4 ((off - 0xF48) / 4)).val]
  else if 0xF60 ≤ off ∧ off < 0xF6C then s.log.handlingReg ((off - 0xF60) / 4)
  else if off = 0xF80 then s.nv.status
  else 0

/-- A register of the MSI-X table and PBA, 0x3000 to 0x3FFF (19 R528): 0 in Quad-SPI attachment (02 R42). -/
def State.msixReg (s : State) (off : Nat) : Word :=
  if s.qspi then 0
  else if off < 0x3200 then
    let e := s.ring.msix[(ix 31 ((off - 0x3000) / 16)).val]
    match off % 16 / 4 with
    | 0 => e.addrLo
    | 1 => e.addrHi
    | 2 => e.data
    | _ => mkWord [(0, 1, e.mask.toNat)]
  else if off = 0x3800 then
    (List.finRange 32).foldl (fun w v => if s.ring.msix[v.val].pending then w ||| (1#32 <<< v.val) else w) 0
  else 0

/-- A read of TB_ANGLE latches TB_CYCLE (03 R98). -/
def Dev.latchCycle (s : Dev) : Dev := s.onTb fun t => { t with cycLatch := t.cycle }

/-- An aligned 32-bit read of a setup register, with what it leaves (19 R517, R519). -/
def State.readReg (s : State) (off : Nat) : Word × State :=
  if off < 0x100 then
    if off = 0x48 then
      let v := s.dev.draw
      (s.sysReg off (Config.pinLevels v.1), { s with dev := v.2 })
    else (s.sysReg off 0, s)
  else if off < 0x500 then (s.ringReg off, s)
  else if off = 0x60C then (s.dev.ctlReg off, s.onDev Dev.latchCycle)
  else if off = 0xA40 then let t := s.onDev Dev.senseVboost; (t.dev.ctlReg off, t)
  else if off < 0xC00 then (s.dev.ctlReg off, s)
  else if 0xF00 ≤ off ∧ off < 0xF10 then
    let r := s.dev.readTime (ix 3 ((off - 0xF00) / 4))
    (r.1, { s with dev := r.2 })
  else if off < 0x1000 then (s.dev.portReg off, s)
  else if 0x3000 ≤ off ∧ off < 0x4000 then (s.msixReg off, s)
  else (0, s)

/-- A read of a width in bytes (19 R517): an aligned 64-bit one acts as two, the lower address first; one of another width returns the
bytes of the 32-bit register that contains it. DESIGN CHOICE: a read that is not aligned is one of another width, and the register that
contains its first byte answers (log entry 241). -/
def State.readWide (s : State) (off width : Nat) : DWord × State :=
  if width = 8 ∧ off % 8 = 0 then
    let a := s.readReg off
    let b := a.2.readReg (off + 4)
    ((b.1.setWidth 64 <<< 32) ||| a.1.setWidth 64, b.2)
  else
    let a := s.readReg (off - off % 4)
    (((a.1.setWidth 64) >>> (8 * (off % 4))) &&& BitVec.ofNat 64 (2 ^ (8 * width) - 1), a.2)

/-! ## Writing -/

/-- A change of the setup registers of their own. -/
def State.onRegs (s : State) (f : Regs → Regs) : State := s.onDev fun v => { v with regs := f v.regs }

/-- A write to an RWL field: ignored, and noted, once LOCK is set (19 R522). -/
def State.rwl (s : State) (f : State → State) : State :=
  if s.dev.regs.lock then s.onRegs fun r => { r with lockWr := true } else f s

/-- FENk is written (19 R523). -/
def State.writeFen (s : State) (k : Fin 3) (v : Word) : State :=
  s.onDev fun d => d.setFen (setWord96 d.power.fen k.val v)

/-- FRSTk is written (16 R469, R471, 02 R76). -/
def State.writeFrst (s : State) (k : Fin 3) (v : Word) : State :=
  if k.val = 0 ∧ v.getLsbD 0 then s.deviceReset .devrst
  else
    let old := s.dev.power.frst
    let new := setWord96 old k.val v &&& s.dev.frstMask
    let s := s.onDev fun d => d.setFrst new
    if new.getLsbD 1 ∧ !old.getLsbD 1 then s.ringReset else s

/-- A write of the first page, 0x0000 to 0x00FF. -/
def State.writeSys (s : State) (off : Nat) (v : Word) : State :=
  let b (i : Nat) (x : Bool) : Bool := x && !v.getLsbD i
  match off with
  | 0x10 => (s.onRing fun r => { r with resyncSeen := b 16 r.resyncSeen }).onRegs fun r => { r with lockWr := b 18 r.lockWr }
  | 0x14 => s.onRegs fun r => { r with lock := r.lock || v.getLsbD 0 }
  | 0x18 => s.onRegs fun r => { r with tapSeen := b 1 r.tapSeen }
  | 0x1C => s.onDev fun d => d.onPower fun p => { p with pllaFail := b 5 p.pllaFail, pllbFail := b 6 p.pllbFail, xclkFail := b 7 p.xclkFail }
  | 0x20 => s.writeFen 0 v
  | 0x24 => s.writeFen 1 v
  | 0x28 => s.writeFen 2 v
  | 0x30 => s.onRegs fun r => { r with scratch := r.scratch.set 0 v }
  | 0x34 => s.onRegs fun r => { r with scratch := r.scratch.set 1 v }
  | 0x38 => s.onRegs fun r => { r with scratch := r.scratch.set 2 v }
  | 0x3C => s.onRegs fun r => { r with scratch := r.scratch.set 3 v }
  | 0x40 => s.rwl fun s => s.onRegs fun r => { r with pinmux0 := v }
  | 0x44 => s.rwl fun s => s.onRegs fun r => { r with pinmux1 := v &&& 0x00FFFFFF }
  | 0x4C => s.rwl fun s => s.onRegs fun r => { r with slow := (v >>> 8).setWidth 8 }
  | _ => s

/-- A write to BASE_LO or BASE_HI (02 R69, R70, R72). -/
def State.writeBase (s : State) (i : IrqRing) (hi : Bool) (v : Word) : State :=
  s.onIrqRing i fun r => if r.en && !s.ring.hold then r else { r with base := setBase r.base hi v }

/-- A write to a register of a CQ, EQ or LQ (02 R69). -/
def State.writeRing (s : State) (i : IrqRing) (k : Nat) (v : Word) : State :=
  match k with
  | 0 => s.writeBase i false v
  | 1 => s.writeBase i true v
  | 2 => s.ringCfg i v
  | 3 => s.onIrqRing i fun r => r.setMod v
  | 4 => s.onIrqRing i fun r => { r with stall := r.stall && !v.getLsbD 18, dropWrap := r.dropWrap && !v.getLsbD 19 }
  | _ => s

/-- A write to a register of an SQ (02 R69). -/
def State.writeSq (s : State) (n : Fin 16) (k : Nat) (v : Word) : State :=
  let q := s.ring.sqs[n.val]
  let free := s.ring.hold || !(q.phase == .active || q.phase == .error)
  match k with
  | 0 => s.onSq n fun q => if free then { q with base := setBase q.base false v } else q
  | 1 => s.onSq n fun q => if free then { q with base := setBase q.base true v } else q
  | 2 => s.sqCfg n v
  | _ => s.onSq n fun q => { q with cfgErr := q.cfgErr && !v.getLsbD 19 }

/-- RING_CTL is written (02 R69). -/
def State.writeCtl (s : State) (v : Word) : State :=
  let s := s.onRing fun r => { r with linkLost := r.linkLost && !v.getLsbD 1 }
  if v.getLsbD 0 then s.enterHold else s

/-- A write of the ring pages, 0x0100 to 0x04FF. -/
def State.writeRings (s : State) (off : Nat) (v : Word) : State :=
  let w := off % 32 / 4
  if off < 0x200 then s.writeSq (ix 15 ((off - 0x100) / 16)) (off % 16 / 4) v
  else if off < 0x400 then s.writeRing (.cq (ix 15 ((off - 0x200) / 32))) w v
  else if off < 0x414 then s.writeRing .eq w v
  else if 0x420 ≤ off ∧ off < 0x434 then s.writeRing .lq w v
  else if off = 0x440 then s.writeCtl v
  else if off = 0x448 ∧ s.qspi then s.onRing fun r => { r with irqPend := r.irqPend &&& ~~~ v }
  else if off = 0x44C ∧ s.qspi then s.onRing fun r => { r with irqMask := v }
  else s

/-- A write of the control pages, 0x0500 to 0x0BFF. -/
def State.writeControl (s : State) (off : Nat) (v : Word) : State :=
  let b (i : Nat) (x : Bool) : Bool := x && !v.getLsbD i
  if off = 0x500 then s.onDev fun d => d.onPower fun p => { p with sleepAbort := b 4 p.sleepAbort, ecoRefused := b 5 p.ecoRefused }
  else if off = 0x504 then s.rwl fun s => s.onDev fun d => d.onPower fun p => { p with wake0 := v }
  else if off = 0x508 then s.rwl fun s => s.onDev fun d => d.onPower fun p => { p with wake1 := v }
  else if off = 0x510 ∨ off = 0x514 ∨ off = 0x518 then s.writeFrst (ix 2 ((off - 0x510) / 4)) v
  else if off = 0x600 then s.onDev fun d => d.onTb fun t => { t with rangeErr := b 9 t.rangeErr, unlockSeen := b 10 t.unlockSeen }
  else if 0x700 ≤ off ∧ off < 0x730 ∧ off % 16 = 0 then
    s.onDev fun d => d.onConv (ix 2 ((off - 0x700) / 16)) fun c =>
      { c with ovrSeen := b 10 c.ovrSeen, openSeen := b 11 c.openSeen, refLost := b 12 c.refLost }
  else if 0x800 ≤ off ∧ off < 0x818 then
    s.onDev fun d => if v.getLsbD 16 then { d with lePeak := d.lePeak.set (ix 5 ((off - 0x800) / 4)).val none } else d
  else if 0x900 ≤ off ∧ off < 0x9C0 then
    s.onDev fun d => d.onPwm (ix 47 ((off - 0x900) / 4)) fun p =>
      { p with clamp := b 4 p.clamp, stale := b 5 p.stale, angleLost := b 6 p.angleLost, narrow := b 7 p.narrow, refCut := b 8 p.refCut }
  else if off = 0x9C0 then
    s.onDev fun d => { d with trips := Vector.ofFn fun t => { d.trips[t.val] with seen := b (8 + t.val) (d.trips[t.val]).seen } }
  else if 0xA00 ≤ off ∧ off < 0xA40 then
    s.onDev fun d => d.onValve (ix 15 ((off - 0xA00) / 4)) fun x =>
      { x with notReady := b 9 x.notReady, overlap := b 10 x.overlap, subst := b 11 x.subst }
  else if 0xA80 ≤ off ∧ off < 0xAB0 then s.onDev fun d => d.onFan (ix 11 ((off - 0xA80) / 4)) fun x => { x with tachLost := b 6 x.tachLost }
  else if 0xAC0 ≤ off ∧ off < 0xAF0 then s.onDev fun d => d.onDm (ix 11 ((off - 0xAC0) / 4)) fun x => { x with range := b 5 x.range }
  else if off = 0xB00 then
    s.onDev fun d => d.onPanel fun p => { p with dropped := b 3 p.dropped, multiSeen := b 4 p.multiSeen }
  else s

/-- A write of the port pages and above, 0x0C00 to 0x0FFF. -/
def State.writePorts (s : State) (off : Nat) (v : Word) : State :=
  let b (i : Nat) (x : Bool) : Bool := x && !v.getLsbD i
  if off < 0xE00 ∧ off % 32 = 0 then
    s.onDev fun d => d.onVP (ix 15 ((off - 0xC00) / 32)) fun p =>
      { p with stuckSeen := b 5 p.stuckSeen, quietSeen := b 6 p.quietSeen, exclSeen := b 7 p.exclSeen }
  else if 0xE00 ≤ off ∧ off < 0xE80 ∧ off % 16 = 0 then
    s.onDev fun d => d.onBb (ix 7 ((off - 0xE00) / 16)) fun p =>
      { p with dupSeen := b 7 p.dupSeen, tokSeen := b 8 p.tokSeen, rxSeen := b 9 p.rxSeen }
  else if 0xE80 ≤ off ∧ off < 0xEC0 ∧ off % 8 = 0 then
    s.onDev fun d => d.onSb (ix 7 ((off - 0xE80) / 8)) fun p => { p with stuckSeen := b 3 p.stuckSeen, stretchSeen := b 4 p.stretchSeen }
  else if off = 0xF10 then
    s.onDev fun d => if !d.hollowUp then d else d.onHollow fun h =>
      { h with lockSeen := b 8 h.lockSeen, alarm0 := { h.alarm0 with hit := b 9 h.alarm0.hit }
               alarm1 := { h.alarm1 with hit := b 10 h.alarm1.hit } }
  else if off = 0xF40 then
    s.onDev fun d => d.onLog fun g => { g with wrap := Vector.ofFn fun k => b (16 + k.val) g.wrap[k.val] }
  else s

/-- A write of the MSI-X table (19 R528, 02 R68). -/
def State.writeMsix (s : State) (off : Nat) (v : Word) : State :=
  if s.qspi ∨ 0x3200 ≤ off then s
  else
    (s.onRing fun r => { r with msix := vmod r.msix (ix 31 ((off - 0x3000) / 16)) fun e =>
      match off % 16 / 4 with
      | 0 => { e with addrLo := v &&& 0xFFFFFFFC }
      | 1 => { e with addrHi := v }
      | 2 => { e with data := v }
      | _ => { e with mask := v.getLsbD 0 } }).sendPending

/-- An aligned 32-bit write of a setup register (19 R517, R519). -/
def State.writeReg (s : State) (off : Nat) (v : Word) : State :=
  if off < 0x100 then s.writeSys off v
  else if off < 0x500 then s.writeRings off v
  else if off < 0xC00 then s.writeControl off v
  else if off < 0x1000 then s.writePorts off v
  else if 0x3000 ≤ off ∧ off < 0x4000 then s.writeMsix off v
  else s

/-- A write of a width in bytes (19 R517): an aligned 64-bit one acts as two, the lower address first; other widths do nothing. -/
def State.writeWide (s : State) (off width : Nat) (v : DWord) : State :=
  if width = 8 ∧ off % 8 = 0 then (s.writeReg off (v.setWidth 32)).writeReg (off + 4) ((v >>> 32).setWidth 32)
  else if width = 4 ∧ off % 4 = 0 then s.writeReg off (v.setWidth 32)
  else s

/-! ## The commands -/

/-- REGISTER_WRITE (19 R517, 00 R9). -/
def execRegisterWrite (off : BitVec 14) (width : Fin 9) (v : DWord) (s : State) : Host.Outcome State Fault Refusal :=
  .next (s.hostWrite fun s => s.writeWide off.toNat width.val v)

/-- SETUP_LOCK (19 R522): LOCK is written with 1. -/
def execSetupLock (s : State) : Host.Outcome State Fault Refusal := .next (s.hostWrite fun s => s.writeReg 0x14 1)

/-- FEN_WRITE (19 R523). -/
def execFenWrite (k : Fin 3) (v : Word) (s : State) : Host.Outcome State Fault Refusal := .next (s.hostWrite fun s => s.writeFen k v)

/-- FRST_WRITE (16 R469, R471). -/
def execFrstWrite (k : Fin 3) (v : Word) (s : State) : Host.Outcome State Fault Refusal := .next (s.hostWrite fun s => s.writeFrst k v)

/-- DEVRST (16 R471). -/
def execDevrst (s : State) : Host.Outcome State Fault Refusal := .next (s.hostWrite fun s => s.deviceReset .devrst)

/-- TB_ANGLE_READ (03 R98). -/
def execTbAngleRead (s : State) : Host.Outcome State Fault Refusal :=
  .next (s.hostWrite fun s =>
    let r := s.readWide 0x60C 4
    r.2.onRing fun x => { x with rdata := bytesLE 4 r.1.toNat })

end Sys2Proof.Machine
end

