-- ==== Sys2Proof/Machine/Qspi.lean ====
section
/-! DEFINITION. The Quad-SPI target (02 R41 to R45): its regions, what a transfer reads and writes, what it rejects, and its status byte. -/

namespace Sys2Proof.Machine

/-- The regions of the Quad-SPI address space (02 R42). -/
inductive QRegion where
  | setup
  | col
  | window
  | other
  deriving DecidableEq, Repr

/-- The region of an address (02 R42). -/
def qRegion (a : Nat) : QRegion :=
  if a < 0x004000 then .setup
  else if 0x008000 ≤ a ∧ a < 0x009000 then .col
  else if 0x020000 ≤ a ∧ a < 0x040000 then .window
  else .other

/-- A transfer of `n` bytes at `a` is within the limits of 02 R43, but for its last word: aligned, at most 256 bytes, in one region. -/
def qFits (a n : Nat) : Bool :=
  a % 4 == 0 && decide (n ≤ 256) && (n == 0 || (qRegion a == qRegion (a + n - 1) && decide (a + n ≤ 16777216)))

/-- The value last written to a col (02 R50, R51). -/
def State.readCol (s : State) (off : Nat) : Word :=
  let r := s.ring
  if off < 0x040 then (r.sqs[(ix 15 (off / 4)).val]).col
  else if off < 0x080 then (r.cqs[(ix 15 ((off - 0x040) / 4)).val]).ring.col
  else if off = 0x080 then r.eq.col
  else if off = 0x084 then r.lq.col
  else if 0x100 ≤ off ∧ off < 0x120 then r.slot.extractLsb' (8 * (off - 0x100)) 32
  else 0

/-- The resync slot with one word replaced (02 R50). -/
def setSlotWord (d : RawDesc) (k : Nat) (v : Word) : RawDesc :=
  (d &&& ~~~ (0xFFFFFFFF#256 <<< (32 * k))) ||| (v.setWidth 256 <<< (32 * k))

/-- A col write (02 R50, R51); the write to 0x11C makes the resync slot act (02 R73). -/
def State.writeCol (s : State) (off : Nat) (v : Word) : State :=
  if off < 0x040 then s.sqCol (ix 15 (off / 4)) v
  else if off < 0x080 then s.cqCol (ix 15 ((off - 0x040) / 4)) v
  else if off = 0x080 then s.eqCol v
  else if off = 0x084 then s.lqCol v
  else if off = 0x11C then s.resync (setSlotWord s.ring.slot 7 v)
  else if 0x100 ≤ off ∧ off < 0x11C then
    (s.onRing fun r => { r with slot := setSlotWord r.slot ((off - 0x100) / 4) v }).onDev fun d => d.hostActive false
  else s

/-- One word read at a Quad-SPI address, with what the read leaves (02 R42). -/
def State.qReadWord (s : State) (a : Nat) : Word × State :=
  match qRegion a with
  | .setup => s.readReg a
  | .col => (s.readCol (a - 0x008000), s)
  | .window => (BitVec.ofNat 32 (ofBytesLE (memReadBytes s.mem.win a 4)), s)
  | .other => (0, s)

/-- One word written at a Quad-SPI address (02 R42). -/
def State.qWriteWord (s : State) (a : Nat) (v : Word) : State :=
  match qRegion a with
  | .setup => s.writeReg a v
  | .col => s.writeCol (a - 0x008000) v
  | .window => { s with mem := { s.mem with win := memWriteBytes s.mem.win a (bytesLE 4 v.toNat) } }
  | .other => s

/-- `k` words read from `a` upward, after the bytes already read. -/
def State.qReadWords (s : State) (a : Nat) (acc : List Byte) : Nat → List Byte × State
  | 0 => (acc, s)
  | k + 1 =>
    let r := s.qReadWord a
    r.2.qReadWords (a + 4) (acc ++ bytesLE 4 r.1.toNat) k

/-- `k` words read from `a` upward without a read's side effect. -/
def State.qPeek (s : State) (a k : Nat) : List Byte := (List.range k).flatMap fun i => bytesLE 4 (s.qReadWord (a + 4 * i)).1.toNat

/-- `k` words of the data written from `a` upward (02 R43). -/
def State.qWriteWords (s : State) (a : Nat) (bs : List Byte) : Nat → State
  | 0 => s
  | k + 1 => (s.qWriteWord a (BitVec.ofNat 32 (ofBytesLE (bs.take 4)))).qWriteWords (a + 4) (bs.drop 4) k

/-- ERR after a transaction: it stays set, and a rejected one sets it (02 R41). -/
def State.qErr (s : State) (bad : Bool) : State := s.onRing fun r => { r with qerr := r.qerr || bad }

/-- The bytes that the host read. -/
def State.answer (s : State) (bs : List Byte) : State := s.onRing fun r => { r with rdata := bs }

/-- A read of `n` bytes (02 R41 to R43). One that ends inside a word is rejected: it has no read side effect (19 R517, R530). In SLEEP a read returns 0, and the fall of QSPI_CS_N wakes the device
(16 R464, 19 R529). -/
def State.qRead (s : State) (a n : Nat) : State :=
  if !s.qspi then s
  else if s.dev.dark then (s.answer (List.replicate n 0)).hostWake
  else if !qFits a n then (s.answer []).qErr true
  else if n % 4 ≠ 0 then (s.answer (s.qPeek a (n / 4))).qErr true
  else
    let r := s.qReadWords a [] (n / 4)
    r.2.answer r.1

/-- A write (02 R41 to R44); in SLEEP its data are discarded (19 R529). -/
def State.qWrite (s : State) (a : Nat) (bs : List Byte) : State :=
  if !s.qspi then s
  else if s.dev.dark then s.hostWake
  else if !qFits a bs.length then s.qErr true
  else (s.qWriteWords a bs (bs.length / 4)).qErr (bs.length % 4 != 0)

/-- The status byte (02 R41). -/
def State.qStatus (s : State) : Byte :=
  (mkWord [(0, 1, s.ring.qbusy.toNat), (1, 1, s.ring.qerr.toNat), (2, 1, (s.ring.irqPend &&& ~~~ s.ring.irqMask != 0).toNat),
           (7, 1, s.dev.regs.ready.toNat)]).setWidth 8

/-- The command that a transaction's first byte picks (02 R41), with its address, the length read and the data written; none: an unlisted
command, which is ignored until QSPI_CS_N rises and leaves ERR as it is, so that it is no row of the table. -/
def qCommand (b : Byte) (a : BitVec 24) (n : Nat) (bs : List Byte) : Option Instr :=
  match b.toNat with
  | 0x03 => some (.read a n)
  | 0x0B => some (.fastRead a n)
  | 0xEB => some (.quadRead a n)
  | 0x02 => some (.write a bs)
  | 0x38 => some (.quadWrite a bs)
  | 0x05 => some .readStatus
  | _ => none

/-- READ (02 R41). -/
def execRead (a : BitVec 24) (n : Nat) (s : State) : Host.Outcome State Fault Refusal := .next (s.qRead a.toNat n)

/-- FAST_READ (02 R41). -/
def execFastRead (a : BitVec 24) (n : Nat) (s : State) : Host.Outcome State Fault Refusal := .next (s.qRead a.toNat n)

/-- QUAD_READ (02 R41). -/
def execQuadRead (a : BitVec 24) (n : Nat) (s : State) : Host.Outcome State Fault Refusal := .next (s.qRead a.toNat n)

/-- WRITE (02 R41). -/
def execWrite (a : BitVec 24) (bs : List Byte) (s : State) : Host.Outcome State Fault Refusal := .next (s.qWrite a.toNat bs)

/-- QUAD_WRITE (02 R41). -/
def execQuadWrite (a : BitVec 24) (bs : List Byte) (s : State) : Host.Outcome State Fault Refusal := .next (s.qWrite a.toNat bs)

/-- READ_STATUS (02 R41): the status byte is returned and ERR cleared. -/
def execReadStatus (s : State) : Host.Outcome State Fault Refusal :=
  .next (
    if !s.qspi then s
    else if s.dev.dark then (s.answer [0]).hostWake
    else (s.answer [s.qStatus]).onRing fun r => { r with qerr := false })

end Sys2Proof.Machine
end

