-- ==== Sys2Proof/Machine/Dispatch.lean ====
section
/-! DEFINITION. The dispatch of the commands to their meanings: one arm per row of spec/opcode_table.json. -/

namespace Sys2Proof.Machine

def exec (i : Instr) (s : State) : Host.Outcome State Fault Refusal :=
  match i with
  | .sysNop d => Sys2Proof.Machine.execSysNop d s
  | .sysInfoGet d => Sys2Proof.Machine.execSysInfoGet d s
  | .sysCountersGet d => Sys2Proof.Machine.execSysCountersGet d s
  | .sysRingResync raw => Sys2Proof.Machine.execSysRingResync raw s
  | .sqProducerCol n v => Sys2Proof.Machine.execSqProducerCol n v s
  | .cqConsumerCol n v => Sys2Proof.Machine.execCqConsumerCol n v s
  | .eqConsumerCol v => Sys2Proof.Machine.execEqConsumerCol v s
  | .lqConsumerCol v => Sys2Proof.Machine.execLqConsumerCol v s
  | .descriptorFetch n => Sys2Proof.Machine.execDescriptorFetch n s
  | .fetchCompletion n e data => Sys2Proof.Machine.execFetchCompletion n e data s
  | .fetchRetryTimer n => Sys2Proof.Machine.execFetchRetryTimer n s
  | .descriptorDispatch => Sys2Proof.Machine.execDescriptorDispatch s
  | .completionWrite => Sys2Proof.Machine.execCompletionWrite s
  | .eventWrite => Sys2Proof.Machine.execEventWrite s
  | .lqMirror => Sys2Proof.Machine.execLqMirror s
  | .modTimeExpiry r => Sys2Proof.Machine.execModTimeExpiry r s
  | .ringStall n => Sys2Proof.Machine.execRingStall n s
  | .sqEnable n v => Sys2Proof.Machine.execSqEnable n v s
  | .sqDisable n v => Sys2Proof.Machine.execSqDisable n v s
  | .cqEnable n v => Sys2Proof.Machine.execCqEnable n v s
  | .cqDisable n v => Sys2Proof.Machine.execCqDisable n v s
  | .eqEnable v => Sys2Proof.Machine.execEqEnable v s
  | .eqDisable v => Sys2Proof.Machine.execEqDisable v s
  | .lqEnable v => Sys2Proof.Machine.execLqEnable v s
  | .lqDisable v => Sys2Proof.Machine.execLqDisable v s
  | .ringCtlHold => Sys2Proof.Machine.execRingCtlHold s
  | .dlDown => Sys2Proof.Machine.execDlDown s
  | .hotReset => Sys2Proof.Machine.execHotReset s
  | .d3hotEntry => Sys2Proof.Machine.execD3hotEntry s
  | .read addr nbytes => Sys2Proof.Machine.execRead addr nbytes s
  | .fastRead addr nbytes => Sys2Proof.Machine.execFastRead addr nbytes s
  | .quadRead addr nbytes => Sys2Proof.Machine.execQuadRead addr nbytes s
  | .write addr data => Sys2Proof.Machine.execWrite addr data s
  | .quadWrite addr data => Sys2Proof.Machine.execQuadWrite addr data s
  | .readStatus => Sys2Proof.Machine.execReadStatus s
  | .registerWrite off width v => Sys2Proof.Machine.execRegisterWrite off width v s
  | .setupLock => Sys2Proof.Machine.execSetupLock s
  | .fenWrite k v => Sys2Proof.Machine.execFenWrite k v s
  | .frstWrite k v => Sys2Proof.Machine.execFrstWrite k v s
  | .devrst => Sys2Proof.Machine.execDevrst s
  | .tbAngleRead => Sys2Proof.Machine.execTbAngleRead s
  | .hollowCntLoRead => Sys2Proof.Machine.execHollowCntLoRead s
  | .hollowCntHiRead => Sys2Proof.Machine.execHollowCntHiRead s
  | .hollowCal0Read => Sys2Proof.Machine.execHollowCal0Read s
  | .hollowCal1Read => Sys2Proof.Machine.execHollowCal1Read s
  | .freezeExpiry => Sys2Proof.Machine.execFreezeExpiry s
  | .tbConfig d => Sys2Proof.Machine.execTbConfig d s
  | .tbStatusGet d => Sys2Proof.Machine.execTbStatusGet d s
  | .tbEventSet d => Sys2Proof.Machine.execTbEventSet d s
  | .tbEventClear d => Sys2Proof.Machine.execTbEventClear d s
  | .lineCrossing => Sys2Proof.Machine.execLineCrossing s
  | .cycleJudgement => Sys2Proof.Machine.execCycleJudgement s
  | .calendarEntryFire e => Sys2Proof.Machine.execCalendarEntryFire e s
  | .adcConfig d => Sys2Proof.Machine.execAdcConfig d s
  | .adcSeqWrite d => Sys2Proof.Machine.execAdcSeqWrite d s
  | .adcRun d => Sys2Proof.Machine.execAdcRun d s
  | .adcUrgent d => Sys2Proof.Machine.execAdcUrgent d s
  | .adcRead d => Sys2Proof.Machine.execAdcRead d s
  | .adcCal d => Sys2Proof.Machine.execAdcCal d s
  | .settleExpiry c => Sys2Proof.Machine.execSettleExpiry c s
  | .endOfConversion c raw overload => Sys2Proof.Machine.execEndOfConversion c raw overload s
  | .urgentConversionEnd c raw overload => Sys2Proof.Machine.execUrgentConversionEnd c raw overload s
  | .postDelayExpiry c => Sys2Proof.Machine.execPostDelayExpiry c s
  | .waitLimitExpiry c => Sys2Proof.Machine.execWaitLimitExpiry c s
  | .refOkRise c => Sys2Proof.Machine.execRefOkRise c s
  | .refLost c => Sys2Proof.Machine.execRefLost c s
  | .loopBind d => Sys2Proof.Machine.execLoopBind d s
  | .loopScale d => Sys2Proof.Machine.execLoopScale d s
  | .loopGains d => Sys2Proof.Machine.execLoopGains d s
  | .loopLimits d => Sys2Proof.Machine.execLoopLimits d s
  | .loopProfile d => Sys2Proof.Machine.execLoopProfile d s
  | .loopSupervise d => Sys2Proof.Machine.execLoopSupervise d s
  | .loopSet d => Sys2Proof.Machine.execLoopSet d s
  | .loopCtrl d => Sys2Proof.Machine.execLoopCtrl d s
  | .loopStatusGet d => Sys2Proof.Machine.execLoopStatusGet d s
  | .loopTimerExpiry n => Sys2Proof.Machine.execLoopTimerExpiry n s
  | .loopRun n => Sys2Proof.Machine.execLoopRun n s
  | .feTimeExpiry n => Sys2Proof.Machine.execFeTimeExpiry n s
  | .zoneConfig d => Sys2Proof.Machine.execZoneConfig d s
  | .zoneSetpoints d => Sys2Proof.Machine.execZoneSetpoints d s
  | .zoneInput d => Sys2Proof.Machine.execZoneInput d s
  | .zoneOutput d => Sys2Proof.Machine.execZoneOutput d s
  | .zoneOverride d => Sys2Proof.Machine.execZoneOverride d s
  | .zoneStatusGet d => Sys2Proof.Machine.execZoneStatusGet d s
  | .schedWrite d => Sys2Proof.Machine.execSchedWrite d s
  | .schedExcept d => Sys2Proof.Machine.execSchedExcept d s
  | .zoneCycle => Sys2Proof.Machine.execZoneCycle s
  | .pwmChConfig d => Sys2Proof.Machine.execPwmChConfig d s
  | .pwmSet d => Sys2Proof.Machine.execPwmSet d s
  | .pwmField d => Sys2Proof.Machine.execPwmField d s
  | .pwmCommit d => Sys2Proof.Machine.execPwmCommit d s
  | .pwmCtrl d => Sys2Proof.Machine.execPwmCtrl d s
  | .pwmTripConfig d => Sys2Proof.Machine.execPwmTripConfig d s
  | .pwmTripClear d => Sys2Proof.Machine.execPwmTripClear d s
  | .pwmStatusGet d => Sys2Proof.Machine.execPwmStatusGet d s
  | .pwmPeriodBoundary c => Sys2Proof.Machine.execPwmPeriodBoundary c s
  | .pwmCompareMatch c e => Sys2Proof.Machine.execPwmCompareMatch c e s
  | .tripActive t => Sys2Proof.Machine.execTripActive t s
  | .tripInactive t => Sys2Proof.Machine.execTripInactive t s
  | .blankWindowEnd c => Sys2Proof.Machine.execBlankWindowEnd c s
  | .valveConfig d => Sys2Proof.Machine.execValveConfig d s
  | .valveProfile d => Sys2Proof.Machine.execValveProfile d s
  | .valveCmd d => Sys2Proof.Machine.execValveCmd d s
  | .valvePropSet d => Sys2Proof.Machine.execValvePropSet d s
  | .saddleConfig d => Sys2Proof.Machine.execSaddleConfig d s
  | .valveAck d => Sys2Proof.Machine.execValveAck d s
  | .valveStatusGet d => Sys2Proof.Machine.execValveStatusGet d s
  | .thresholdCrossing c => Sys2Proof.Machine.execThresholdCrossing c s
  | .toffExpiry c => Sys2Proof.Machine.execToffExpiry c s
  | .tblankExpiry c => Sys2Proof.Machine.execTblankExpiry c s
  | .tBoostMaxExpiry c => Sys2Proof.Machine.execTBoostMaxExpiry c s
  | .tPeakExpiry c => Sys2Proof.Machine.execTPeakExpiry c s
  | .tHoldExpiry c => Sys2Proof.Machine.execTHoldExpiry c s
  | .offPhaseEnd c => Sys2Proof.Machine.execOffPhaseEnd c s
  | .openTExpiry c => Sys2Proof.Machine.execOpenTExpiry c s
  | .boostWaitExpiry c => Sys2Proof.Machine.execBoostWaitExpiry c s
  | .vboostReady k => Sys2Proof.Machine.execVboostReady k s
  | .readyWaitExpiry k => Sys2Proof.Machine.execReadyWaitExpiry k s
  | .deadTimeEnd k => Sys2Proof.Machine.execDeadTimeEnd k s
  | .ditherStep c => Sys2Proof.Machine.execDitherStep c s
  | .closingDetected c => Sys2Proof.Machine.execClosingDetected c s
  | .kinkWindowEnd c => Sys2Proof.Machine.execKinkWindowEnd c s
  | .fanConfig d => Sys2Proof.Machine.execFanConfig d s
  | .fanBands d => Sys2Proof.Machine.execFanBands d s
  | .fanSet d => Sys2Proof.Machine.execFanSet d s
  | .fanCtrl d => Sys2Proof.Machine.execFanCtrl d s
  | .fanStatusGet d => Sys2Proof.Machine.execFanStatusGet d s
  | .tachEdge n => Sys2Proof.Machine.execTachEdge n s
  | .fanEvaluation => Sys2Proof.Machine.execFanEvaluation s
  | .kickTimeout n => Sys2Proof.Machine.execKickTimeout n s
  | .tachLostTimeout n => Sys2Proof.Machine.execTachLostTimeout n s
  | .backoffEnd n => Sys2Proof.Machine.execBackoffEnd n s
  | .fanSlowTimeout n => Sys2Proof.Machine.execFanSlowTimeout n s
  | .damperConfig d => Sys2Proof.Machine.execDamperConfig d s
  | .damperSet d => Sys2Proof.Machine.execDamperSet d s
  | .damperCtrl d => Sys2Proof.Machine.execDamperCtrl d s
  | .damperCal d => Sys2Proof.Machine.execDamperCal d s
  | .damperStatusGet d => Sys2Proof.Machine.execDamperStatusGet d s
  | .learnTimeout n => Sys2Proof.Machine.execLearnTimeout n s
  | .travelTimeout n => Sys2Proof.Machine.execTravelTimeout n s
  | .panelConfig d => Sys2Proof.Machine.execPanelConfig d s
  | .panelLadder d => Sys2Proof.Machine.execPanelLadder d s
  | .panelLed d => Sys2Proof.Machine.execPanelLed d s
  | .encConfig d => Sys2Proof.Machine.execEncConfig d s
  | .encRead d => Sys2Proof.Machine.execEncRead d s
  | .panelStatusGet d => Sys2Proof.Machine.execPanelStatusGet d s
  | .keyDebounced k pressed => Sys2Proof.Machine.execKeyDebounced k pressed s
  | .encoderTransition n a b => Sys2Proof.Machine.execEncoderTransition n a b s
  | .panelQueueForward => Sys2Proof.Machine.execPanelQueueForward s
  | .valePortConfig d => Sys2Proof.Machine.execValePortConfig d s
  | .valePortCtrl d => Sys2Proof.Machine.execValePortCtrl d s
  | .valePortStatusGet d => Sys2Proof.Machine.execValePortStatusGet d s
  | .valeFrameStart p => Sys2Proof.Machine.execValeFrameStart p s
  | .valeArbitrationLost p => Sys2Proof.Machine.execValeArbitrationLost p s
  | .valeFrameSent f => Sys2Proof.Machine.execValeFrameSent f s
  | .valeFrameError p own e a viols => Sys2Proof.Machine.execValeFrameError p own e a viols s
  | .valeNoAck p => Sys2Proof.Machine.execValeNoAck p s
  | .valeRetryBackoffEnd p => Sys2Proof.Machine.execValeRetryBackoffEnd p s
  | .roundGap p => Sys2Proof.Machine.execRoundGap p s
  | .stuckDetect p => Sys2Proof.Machine.execStuckDetect p s
  | .stuckRecovery p => Sys2Proof.Machine.execStuckRecovery p s
  | .quietRecovery p => Sys2Proof.Machine.execQuietRecovery p s
  | .txfaultDetect p => Sys2Proof.Machine.execTxfaultDetect p s
  | .wakePulseSeen p => Sys2Proof.Machine.execWakePulseSeen p s
  | .startTimeout p => Sys2Proof.Machine.execStartTimeout p s
  | .valeConvConfig d => Sys2Proof.Machine.execValeConvConfig d s
  | .valeDiscover d => Sys2Proof.Machine.execValeDiscover d s
  | .valeKeySet d => Sys2Proof.Machine.execValeKeySet d s
  | .valeRead d => Sys2Proof.Machine.execValeRead d s
  | .valeWrite d => Sys2Proof.Machine.execValeWrite d s
  | .valeBulkOpen d => Sys2Proof.Machine.execValeBulkOpen d s
  | .valeBulkAbort d => Sys2Proof.Machine.execValeBulkAbort d s
  | .valeSatCtrl d => Sys2Proof.Machine.execValeSatCtrl d s
  | .valeSatStatusGet d => Sys2Proof.Machine.execValeSatStatusGet d s
  | .valeItemWatch d => Sys2Proof.Machine.execValeItemWatch d s
  | .announce p f uid caps => Sys2Proof.Machine.execAnnounce p f uid caps s
  | .annWinEnd p disturbed => Sys2Proof.Machine.execAnnWinEnd p disturbed s
  | .identRsp p f uid caps items fwver maxsess => Sys2Proof.Machine.execIdentRsp p f uid caps items fwver maxsess s
  | .prove p f ns tag => Sys2Proof.Machine.execProve p f ns tag s
  | .notify p f first values => Sys2Proof.Machine.execNotify p f first values s
  | .readRsp p f tid first values => Sys2Proof.Machine.execReadRsp p f tid first values s
  | .writeRsp p f tid first count => Sys2Proof.Machine.execWriteRsp p f tid first count s
  | .nak p f cls id code detail => Sys2Proof.Machine.execNak p f cls id code detail s
  | .openAck p f sid len => Sys2Proof.Machine.execOpenAck p f sid len s
  | .sack p f sid base map => Sys2Proof.Machine.execSack p f sid base map s
  | .data p f sid seg bytes => Sys2Proof.Machine.execData p f sid seg bytes s
  | .resumeAck p f sid => Sys2Proof.Machine.execResumeAck p f sid s
  | .closeAck p f sid result => Sys2Proof.Machine.execCloseAck p f sid result s
  | .rspTExpiry p slot => Sys2Proof.Machine.execRspTExpiry p slot s
  | .sackTExpiry p sid => Sys2Proof.Machine.execSackTExpiry p sid s
  | .aliveTExpiry p slot => Sys2Proof.Machine.execAliveTExpiry p slot s
  | .resumeTimer p sid => Sys2Proof.Machine.execResumeTimer p sid s
  | .resumeTExpiry p sid => Sys2Proof.Machine.execResumeTExpiry p sid s
  | .probeTExpiry p => Sys2Proof.Machine.execProbeTExpiry p s
  | .itemPollTimer p slot item => Sys2Proof.Machine.execItemPollTimer p slot item s
  | .maxageExpiry p slot item => Sys2Proof.Machine.execMaxageExpiry p slot item s
  | .bbConfig d => Sys2Proof.Machine.execBbConfig d s
  | .bbMstpConfig d => Sys2Proof.Machine.execBbMstpConfig d s
  | .bbCtrl d => Sys2Proof.Machine.execBbCtrl d s
  | .bbSend d => Sys2Proof.Machine.execBbSend d s
  | .bbRecv d => Sys2Proof.Machine.execBbRecv d s
  | .bbSegSend d => Sys2Proof.Machine.execBbSegSend d s
  | .bbPollWrite d => Sys2Proof.Machine.execBbPollWrite d s
  | .bbMbReq d => Sys2Proof.Machine.execBbMbReq d s
  | .bbSlaveImage d => Sys2Proof.Machine.execBbSlaveImage d s
  | .bbRead d => Sys2Proof.Machine.execBbRead d s
  | .bbStatusGet d => Sys2Proof.Machine.execBbStatusGet d s
  | .token p src dst => Sys2Proof.Machine.execToken p src dst s
  | .pollForMaster p src dst => Sys2Proof.Machine.execPollForMaster p src dst s
  | .replyToPollForMaster p src dst => Sys2Proof.Machine.execReplyToPollForMaster p src dst s
  | .testRequest p src dst bytes => Sys2Proof.Machine.execTestRequest p src dst bytes s
  | .testResponse p src dst bytes => Sys2Proof.Machine.execTestResponse p src dst bytes s
  | .bacnetDataExpectingReply p src dst bytes => Sys2Proof.Machine.execBacnetDataExpectingReply p src dst bytes s
  | .bacnetDataNotExpectingReply p src dst bytes => Sys2Proof.Machine.execBacnetDataNotExpectingReply p src dst bytes s
  | .replyPostponed p src dst => Sys2Proof.Machine.execReplyPostponed p src dst s
  | .mstpFrameError p e => Sys2Proof.Machine.execMstpFrameError p e s
  | .tnoTokenExpiry p => Sys2Proof.Machine.execTnoTokenExpiry p s
  | .tUsageExpiry p => Sys2Proof.Machine.execTUsageExpiry p s
  | .treplyTimeout p => Sys2Proof.Machine.execTreplyTimeout p s
  | .replyWaitExpiry p => Sys2Proof.Machine.execReplyWaitExpiry p s
  | .tsegExpiry p => Sys2Proof.Machine.execTsegExpiry p s
  | .tsegRxExpiry p src invoke => Sys2Proof.Machine.execTsegRxExpiry p src invoke s
  | .modbusFrame p bytes => Sys2Proof.Machine.execModbusFrame p bytes s
  | .pollEntryDue p e => Sys2Proof.Machine.execPollEntryDue p e s
  | .rspToExpiry p => Sys2Proof.Machine.execRspToExpiry p s
  | .mbTurnExpiry p => Sys2Proof.Machine.execMbTurnExpiry p s
  | .uartIdle p => Sys2Proof.Machine.execUartIdle p s
  | .sbConfig d => Sys2Proof.Machine.execSbConfig d s
  | .sbPollWrite d => Sys2Proof.Machine.execSbPollWrite d s
  | .sbXfer d => Sys2Proof.Machine.execSbXfer d s
  | .sbCtrl d => Sys2Proof.Machine.execSbCtrl d s
  | .sbRead d => Sys2Proof.Machine.execSbRead d s
  | .sbStatusGet d => Sys2Proof.Machine.execSbStatusGet d s
  | .sbEntryDue p e => Sys2Proof.Machine.execSbEntryDue p e s
  | .sbWaitExpiry p e => Sys2Proof.Machine.execSbWaitExpiry p e s
  | .sbTransactionEnd p r => Sys2Proof.Machine.execSbTransactionEnd p r s
  | .stretchTExpiry p recovered => Sys2Proof.Machine.execStretchTExpiry p recovered s
  | .sbRecoveryTimer p recovered => Sys2Proof.Machine.execSbRecoveryTimer p recovered s
  | .hollowTimeGet d => Sys2Proof.Machine.execHollowTimeGet d s
  | .hollowCalGet d => Sys2Proof.Machine.execHollowCalGet d s
  | .hollowTimeSet d => Sys2Proof.Machine.execHollowTimeSet d s
  | .hollowAlarmSet d => Sys2Proof.Machine.execHollowAlarmSet d s
  | .hollowWakeSet d => Sys2Proof.Machine.execHollowWakeSet d s
  | .hollowTrim d => Sys2Proof.Machine.execHollowTrim d s
  | .hollowBackupRead d => Sys2Proof.Machine.execHollowBackupRead d s
  | .hollowBackupWrite d => Sys2Proof.Machine.execHollowBackupWrite d s
  | .hollowPwron d => Sys2Proof.Machine.execHollowPwron d s
  | .hollowOsfClear d => Sys2Proof.Machine.execHollowOsfClear d s
  | .stagedCommit => Sys2Proof.Machine.execStagedCommit s
  | .calendarSecond => Sys2Proof.Machine.execCalendarSecond s
  | .alarmFire a => Sys2Proof.Machine.execAlarmFire a s
  | .periodicWake => Sys2Proof.Machine.execPeriodicWake s
  | .pwronRelease => Sys2Proof.Machine.execPwronRelease s
  | .oscillatorStop => Sys2Proof.Machine.execOscillatorStop s
  | .vmainFail => Sys2Proof.Machine.execVmainFail s
  | .vmainQualified => Sys2Proof.Machine.execVmainQualified s
  | .vhollowBor => Sys2Proof.Machine.execVhollowBor s
  | .pwrState d => Sys2Proof.Machine.execPwrState d s
  | .pwrIdleConfig d => Sys2Proof.Machine.execPwrIdleConfig d s
  | .pwrWakeConfig d => Sys2Proof.Machine.execPwrWakeConfig d s
  | .pwrFreset d => Sys2Proof.Machine.execPwrFreset d s
  | .pwrWatchdog d => Sys2Proof.Machine.execPwrWatchdog d s
  | .pwrStatusGet d => Sys2Proof.Machine.execPwrStatusGet d s
  | .idleTimerExpiry => Sys2Proof.Machine.execIdleTimerExpiry s
  | .sleepCommit => Sys2Proof.Machine.execSleepCommit s
  | .wakePinEdge w => Sys2Proof.Machine.execWakePinEdge w s
  | .keyWake => Sys2Proof.Machine.execKeyWake s
  | .hostWake => Sys2Proof.Machine.execHostWake s
  | .valeWake p => Sys2Proof.Machine.execValeWake p s
  | .wakeGroupStart g => Sys2Proof.Machine.execWakeGroupStart g s
  | .pllLock c => Sys2Proof.Machine.execPllLock c s
  | .heartbeatTimeout e => Sys2Proof.Machine.execHeartbeatTimeout e s
  | .svWatchdogReset => Sys2Proof.Machine.execSvWatchdogReset s
  | .hostLossTimeout => Sys2Proof.Machine.execHostLossTimeout s
  | .clockFail c => Sys2Proof.Machine.execClockFail c s
  | .clockRetry c locked => Sys2Proof.Machine.execClockRetry c locked s
  | .clockRestored c => Sys2Proof.Machine.execClockRestored c s
  | .porst hostSel => Sys2Proof.Machine.execPorst hostSel s
  | .vcoreBrownOut => Sys2Proof.Machine.execVcoreBrownOut s
  | .autorun => Sys2Proof.Machine.execAutorun s
  | .sramEccError m double => Sys2Proof.Machine.execSramEccError m double s
  | .logRead d => Sys2Proof.Machine.execLogRead d s
  | .logConfig d => Sys2Proof.Machine.execLogConfig d s
  | .logAck d => Sys2Proof.Machine.execLogAck d s
  | .logStatsGet d => Sys2Proof.Machine.execLogStatsGet d s
  | .logMark d => Sys2Proof.Machine.execLogMark d s
  | .diagEngineGet d => Sys2Proof.Machine.execDiagEngineGet d s
  | .coalesceWindowClose seq => Sys2Proof.Machine.execCoalesceWindowClose seq s
  | .logLoadEval => Sys2Proof.Machine.execLogLoadEval s
  | .summaryTimer => Sys2Proof.Machine.execSummaryTimer s
  | .warnQuietExpiry src => Sys2Proof.Machine.execWarnQuietExpiry src s
  | .nvConfigWrite d => Sys2Proof.Machine.execNvConfigWrite d s
  | .nvConfigRead d => Sys2Proof.Machine.execNvConfigRead d s
  | .nvStatusGet d => Sys2Proof.Machine.execNvStatusGet d s
  | .fwWrite d => Sys2Proof.Machine.execFwWrite d s
  | .nvInvalidate d => Sys2Proof.Machine.execNvInvalidate d s
  | .nvWriteComplete verified => Sys2Proof.Machine.execNvWriteComplete verified s
  | .pcieCompletionTimeout n => Sys2Proof.Machine.execPcieCompletionTimeout n s
  | .bulkReadCompletion e bytes => Sys2Proof.Machine.execBulkReadCompletion e bytes s
  | .msixVectorUnmask v => Sys2Proof.Machine.execMsixVectorUnmask v s
  | .pcieConfigWrite w => Sys2Proof.Machine.execPcieConfigWrite w s
  | .aspmL1Request => Sys2Proof.Machine.execAspmL1Request s
  | .refreshPulseEnd c => Sys2Proof.Machine.execRefreshPulseEnd c s
  | .scanSlot kc => Sys2Proof.Machine.execScanSlot kc s
  | .uartCharacter p b err => Sys2Proof.Machine.execUartCharacter p b err s
  | .bbTransmissionEnd p => Sys2Proof.Machine.execBbTransmissionEnd p s
  | .oscillatorRestart => Sys2Proof.Machine.execOscillatorRestart s
  | .vbatReturn => Sys2Proof.Machine.execVbatReturn s
  | .jtagTapAccess j => Sys2Proof.Machine.execJtagTapAccess j s
  | .startRecessiveSeen p => Sys2Proof.Machine.execStartRecessiveSeen p s

end Sys2Proof.Machine
end

