-- ==== Sys2Proof/Machine/Tick.lean ====
section
/-! DEFINITION. The passing of one TCLK, which is what a step is when no command waits (log entry 3): the tick counter and the calendar
of Hollow, the phase accumulator, step 3 of the SLEEP sequence, and the load measurement of the engines. -/

namespace Sys2Proof.Machine

/-- One TCLK of the timebase, while it works (03 R78, R83). -/
def Dev.tbTick (s : Dev) : Dev := if s.active 2 then s.onTb fun t => (t.endCorr s.now).tick s.now else s

/-- Step 3 of the SLEEP sequence comes 20 µs after the dispatch (16 R462). -/
def Dev.sleepTick (s : Dev) : Dev :=
  match s.power.sleep with
  | .requested _ => if s.power.sleepAt + 8000 ≤ s.now then s.sleepStop else s
  | _ => s

/-- A second of load measurement ends: its busy fraction, a free value, is the PEAK of its engine if it is the highest so far (05 R168). -/
def Dev.peakTick (s : Dev) : Dev :=
  if s.now % 400000000 = 0 ∧ !s.asleep then
    (List.finRange 6).foldl (fun s e =>
      let a := s.draw
      let top := match a.2.lePeak[e.val] with
        | some k => if busySecond a.1 ≤ busySecond k then k else a.1
        | none => a.1
      { a.2 with lePeak := a.2.lePeak.set e.val (some top) }) s
  else s

/-- One TCLK passes: what the TCLK that ends leaves to do, then what the next one brings. -/
def Dev.pass (s : Dev) : Dev :=
  let s := s.pwmTick.valveTick
  ((({ s with now := s.now + 1, hollow := s.hollow.pass } : Dev).tbTick).sleepTick).peakTick

/-- One TCLK passes for the machine. -/
def State.pass (s : State) : State := s.onDev Dev.pass

end Sys2Proof.Machine
end

