-- ==== Sys2Proof/Safety.lean ====
section
/-! DEFINITION. What counts as a safe step, and the words in which the statements speak of commands: a descriptor that its function
takes, a completion that answers it, a descriptor that goes on, what a next state leaves unchanged. -/

namespace Sys2Proof.Machine

/-- A step from `s` completes. -/
def State.steps (s : State) : Prop := ∃ t, step s = .next t

/-- A command answers a next state of which `P` holds. -/
def Answers (c : Instr) (s : State) (P : State → Prop) : Prop := ∃ t, exec c s = .next t ∧ P t

/-- Descriptor `d` of opcode `i` is the next to execute at its function, passes checks 1 to 5 of 01 R32, and names `o`; no completion
has been given up by a FLUSH resync or a reset of function 1. -/
def State.admits (s : State) (i : OpInfo) (d : Desc) (o : Obj) : Prop :=
  s.dev.behind i.op d = false ∧ (∀ q ∈ s.dev.fq, q.ghost = false) ∧ s.dev.opCheck i d = .ok o

/-- The newest completion answers `d` with a status and RESULT (02 R54). -/
def State.answered (t : State) (d : Desc) (st : Status) (res : DWord) : Prop :=
  ∃ c, t.dev.done.getLast? = some c ∧ c.sq = d.sq ∧ c.tag = d.tag ∧ c.handle = d.handle ∧ c.status = st ∧ c.result = res

/-- Some completion that waits to be written answers `d` with a status. -/
def State.ended (t : State) (d : Desc) (st : Status) : Prop :=
  ∃ c ∈ t.dev.done, c.sq = d.sq ∧ c.tag = d.tag ∧ c.handle = d.handle ∧ c.status = st

/-- `d` is answered with ST_OK and RESULT 0. -/
abbrev State.okd (t : State) (d : Desc) : Prop := t.answered d .ok 0

/-- But for the queues of descriptors and of completions, the machine is `s` with the device `v`. -/
def State.becomes (s t : State) (v : Dev) : Prop := t = { s with dev := { v with fq := t.dev.fq, done := t.dev.done } }

/-- `d` is answered and nothing else has changed. -/
def State.onlyAnswers (s t : State) (d : Desc) (st : Status) (res : DWord) : Prop := t.answered d st res ∧ s.becomes t s.dev

/-- `d` executes and waits for what ends it. -/
def State.waiting (t : State) (op : Nat) (d : Desc) : Prop := { op, d : QDesc } ∈ t.dev.waits

/-- `d` waits for the bulk data it reads (02 R53). -/
def State.reading (t : State) (op : Nat) (d : Desc) : Prop := { op, d : QDesc } ∈ t.dev.bulk

/-- The host memory and the ring window are in their canonical form. -/
def Mem.ok (m : Mem) : Prop := Memory.wf m.host ∧ Memory.wf m.win

/-- Nothing but the device has changed: the queue, the host attachment and the memories are as they were. -/
def State.onlyDev (s t : State) : Prop := t.pending = s.pending ∧ t.ring = s.ring ∧ t.mem = s.mem

/-- Nothing but the host attachment and the memories has changed. -/
def State.keepsDev (s t : State) : Prop := t.pending = s.pending ∧ t.dev = s.dev

end Sys2Proof.Machine
end

