-- ==== Sys2Proof/Certificates/Slice0/Obligations.lean ====
section
/-! DEFINITION. The statements for the provers. -/

open Sys2Proof Sys2Proof.Machine

/-! ## The machine -/

/-- A step takes the command at the front of the queue and is `exec` of it on the rest. -/
def Obligations.StepRunsFront : Prop :=
  ∀ (c : Instr) (s : State), step { s with pending := c :: s.pending } = exec c s

/-- With an empty queue a step is one TCLK (the model's choice, log entry 3): time moves on, the queue, the host attachment and the
memories stay. -/
def Obligations.IdleStepIsTick : Prop :=
  ∀ s : State, s.pending = [] →
    ∃ t, step s = .next t ∧ t.pending = [] ∧ t.ring = s.ring ∧ t.mem = s.mem ∧ t.dev.now = s.dev.now + 1

/-- Every command answers a next state in every state, and the queue of waiting commands is the step's alone. -/
def Obligations.EveryCommandCompletes : Prop :=
  ∀ (c : Instr) (s : State), ∃ t, exec c s = .next t ∧ t.pending = s.pending

/-- The memories keep their canonical form, and the EQ cache never holds more than the 256 records of 02 R64. -/
def MemAndCache (s : State) : Prop := s.mem.ok ∧ s.ring.eqCache.length ≤ 256

/-- Every step keeps that invariant. -/
def Obligations.StepKeepsMemoryAndCache : Prop :=
  ∀ s t : State, MemAndCache s → step s = .next t → MemAndCache t

/-- The state after reset has it, and holds the reset values that the manual gives: 02 R69, R71, 03 R79, R89, 05 R151, 11 R329, 13 R377,
R394, R395, R410, R415, 15 R453, 16 R477, 17 R494, 18 R515, 19 R521, R522, R527. -/
def Obligations.ResetState : Prop :=
  let v := State.reset.dev
  MemAndCache State.reset ∧ State.reset.pending = [] ∧
  (∀ n : Fin 16, (State.reset.ring.sqs[n]).phase = .disabled ∧ (State.reset.ring.cqs[n]).ring.en = false) ∧
  State.reset.ring.eq.en = false ∧ State.reset.ring.lq.en = false ∧
  (v.power.state = 0 ∧ v.power.wakeSrc = 0x40 ∧ v.power.wdtEn = false ∧ v.power.idleS = 0 ∧ v.power.frst = 0 ∧ v.power.fen = 0 ∧
    v.power.wake0 = 0x02050500 ∧ v.power.wake1 = 0x02060604) ∧
  (v.regs.ready = false ∧ v.regs.recovery = false ∧ v.regs.lock = false ∧ ∀ k : Fin 4, v.regs.scratch[k] = 0) ∧
  (v.tb.mode = 0 ∧ v.tb.state = .off ∧ v.tb.valid = false ∧ v.tb.lockCnt = 8 ∧ v.tb.holdMax = 8 ∧ v.tb.lockWin = 16 ∧
    v.tb.captureWin = 1311 ∧ v.tb.hyst = 2 ∧ v.tb.filt = 0 ∧ v.tb.bw = 3) ∧
  (∀ n : Fin 144, (v.loops[n]).state = .disabled) ∧
  (∀ p : Fin 16, (v.vports[p]).state = .stopped ∧ (v.vports[p]).rate = 0 ∧ (v.vports[p]).sp = 15 ∧ (v.vports[p]).sjw = 2 ∧
    (v.vports[p]).rxfilt = 5 ∧ (v.vports[p]).retryMax = 3) ∧
  (∀ p : Fin 8, let b := v.bbs[p]
    b.state = 0 ∧ b.mode = 0 ∧ b.rate = 0 ∧ b.deLead = 0 ∧ b.deLag = 1 ∧ b.ts = 0 ∧ b.nmaxMaster = 127 ∧ b.nmaxInfo = 1 ∧ b.tUsage = 20 ∧
    b.replyWait = 100 ∧ b.segrx = false ∧ b.rxwin = 4 ∧ b.tsegRx = 2000 ∧ b.frameErr = 0 ∧ b.tokenLost = 0 ∧ b.rxdrop = 0) ∧
  (∀ p : Fin 8, (v.sbs[p]).state = 0 ∧ (v.sbs[p]).speed = 1 ∧ (v.sbs[p]).stretchT = 25 ∧ (v.sbs[p]).fails = 0) ∧
  (v.log.recs = [] ∧ v.log.errs = [] ∧ v.log.next = 0 ∧ v.log.flood = false) ∧
  (v.hollow.cnt = 0 ∧ v.hollow.pre = 0 ∧ v.hollow.trim = 0 ∧ v.hollow.osf ∧ v.hollow.pwron ∧ v.hollow.wakeEn = false) ∧
  v.nv.bank = 3 ∧ v.nv.slot = 3

/-! ## The host attachment -/

/-- 02 R47, R51: an accepted producer or consumer col write makes the new index; of what the device rejects the index stands, a
disabled ring counts it, and a producer breach puts the SQ in ERROR. -/
def Obligations.ColWritesAndRejects : Prop :=
  ((∀ (n : Fin 16) (v : Word) (s : State), s.reach →
      (s.ring.sqs[n].phase = .active ∨ s.ring.sqs[n].phase = .error) →
      ((v.setWidth 16 : BitVec 16) - s.ring.sqs[n].cons).toNat ≤ 2 ^ s.ring.sqs[n].log2 →
      Answers (.sqProducerCol n v) s fun t =>
        t.ring.sqs[n].prod = v.setWidth 16 ∧ t.ring.sqs[n].cons = s.ring.sqs[n].cons ∧ t.ring.sqs[n].col = v ∧ t.mem = s.mem) ∧
  (∀ (n : Fin 16) (v : Word) (s : State), s.reach → s.ring.cqs[n].ring.en →
      ((v.setWidth 16 : BitVec 16) - s.ring.cqs[n].ring.cons).toNat ≤ (s.ring.cqs[n].ring.prod - s.ring.cqs[n].ring.cons).toNat →
      Answers (.cqConsumerCol n v) s fun t => t.ring.cqs[n].ring.cons = v.setWidth 16) ∧
  (∀ (v : Word) (s : State), s.reach → s.ring.eq.en →
      ((v.setWidth 16 : BitVec 16) - s.ring.eq.cons).toNat ≤ (s.ring.eq.prod - s.ring.eq.cons).toNat →
      Answers (.eqConsumerCol v) s fun t => t.ring.eq.cons = v.setWidth 16) ∧
  (∀ (v : Word) (s : State), s.reach → s.ring.lq.en →
      ((v.setWidth 16 : BitVec 16) - s.ring.lq.cons).toNat ≤ (s.ring.lq.prod - s.ring.lq.cons).toNat →
      Answers (.lqConsumerCol v) s fun t => t.ring.lq.cons = v.setWidth 16)) ∧
  ((∀ (n : Fin 16) (v : Word) (s : State), s.reach → s.ring.sqs[n].phase = .disabled →
      Answers (.sqProducerCol n v) s fun t =>
        t.ring.sqs[n].prod = s.ring.sqs[n].prod ∧ t.ring.sqs[n].rejects = s.ring.sqs[n].rejects + 1 ∧ t.dev = s.dev) ∧
  (∀ (n : Fin 16) (v : Word) (s : State), s.reach → s.ring.sqs[n].phase = .active → s.dev.held 1 = false → s.dev.handling hHe = false →
      2 ^ s.ring.sqs[n].log2 < ((v.setWidth 16 : BitVec 16) - s.ring.sqs[n].cons).toNat →
      Answers (.sqProducerCol n v) s fun t =>
        t.ring.sqs[n].prod = s.ring.sqs[n].prod ∧ t.ring.sqs[n].phase = .error ∧
        (∃ e ∈ t.dev.log.errs, e.source = hHe ∧ e.cls = .fault ∧ e.code = LG_RING_PROD) ∧
        ∃ e, t.dev.raised.getLast? = some e ∧ e.code = EV_RING_ERROR ∧ e.handle = hRing n.val) ∧
  (∀ (n : Fin 16) (v : Word) (s : State), s.reach → s.ring.cqs[n].ring.en →
      (s.ring.cqs[n].ring.prod - s.ring.cqs[n].ring.cons).toNat < ((v.setWidth 16 : BitVec 16) - s.ring.cqs[n].ring.cons).toNat →
      Answers (.cqConsumerCol n v) s fun t => t.ring.cqs[n].ring.cons = s.ring.cqs[n].ring.cons ∧ t.mem = s.mem))

/-- An SQ may send a read: it is ACTIVE with a descriptor to fetch, outside host hold and with bus mastering, no read or retry is outstanding, no chain is
open, and it has a place in flight and an unreserved CQ entry (02 R58, R63). -/
def MayFetch (s : State) (n : Fin 16) : Prop :=
  let q := s.ring.sqs[n]
  s.dev.dark = false ∧ s.ring.quiet = false ∧ q.phase = .active ∧ q.reading = none ∧ q.openRun = 0 ∧ q.cons ≠ q.prod ∧ q.inFlight < 32
    ∧ 0 < s.ring.unreserved q.cq

/-- The read of an SQ asks for 1 to 8 descriptors from the slot of its consumer index (02 R47), within the producer index and not past
the end of the ring (02 R58), and over PCI Express within what one request may ask for (02 R38). -/
def AsksFor (s t : State) (n : Fin 16) : Prop :=
  let q := s.ring.sqs[n]
  ∃ k, t.ring.sqs[n].reading = some k ∧ 1 ≤ k ∧ k ≤ 8 ∧ k ≤ (q.prod - q.cons).toNat ∧ q.cons.toNat % 2 ^ q.log2 + k ≤ 2 ^ q.log2 ∧
    t.ring.sqs[n].readAddr = q.base.toNat + 32 * (q.cons.toNat % 2 ^ q.log2) ∧
    (s.qspi = false → k ≤ s.ring.requestMax (t.ring.sqs[n].readAddr))

/-- 02 R38, R47, R58, R75: fetching; a read that fails is reported by AER. -/
def Obligations.Fetching : Prop :=
  (∀ (n : Fin 16) (s : State), MayFetch s n → s.ring.sqs[n].retryWait = false →
      Answers (.descriptorFetch n) s fun t => AsksFor s t n ∧ t.dev = s.dev ∧ t.mem = s.mem) ∧
  (∀ (n : Fin 16) (s : State), MayFetch s n → s.ring.sqs[n].retryWait = true →
      Answers (.fetchRetryTimer n) s fun t => AsksFor s t n ∧ t.ring.sqs[n].retryWait = false) ∧
  (∀ (n : Fin 16) (d : RawDesc) (s : State), s.qspi = false → s.ring.sqs[n].reading = some 1 →
      (s.ring.sqs[n].openRun ≠ 0 ∨ rawChain d ∨ (s.ring.sqs[n].inFlight < 32 ∧ 0 < s.ring.unreserved s.ring.sqs[n].cq)) →
      Answers (.fetchCompletion n .ok [d]) s fun t =>
        t.ring.sqs[n].fetched = s.ring.sqs[n].fetched ++ [d] ∧ t.ring.sqs[n].cons = s.ring.sqs[n].cons + 1 ∧
        t.ring.sqs[n].reading = none ∧ t.ring.sqs[n].retries = 0) ∧
  (∀ (n : Fin 16) (k : Nat) (s : State), s.qspi = false → s.ring.sqs[n].reading = some k → s.ring.sqs[n].retries < 3 →
      Answers (.pcieCompletionTimeout (some n)) s fun t =>
        t.ring.sqs[n].retryWait = true ∧ t.ring.sqs[n].retries = s.ring.sqs[n].retries + 1 ∧
        t.ring.sqs[n].cons = s.ring.sqs[n].cons ∧ t.ring.sqs[n].phase = s.ring.sqs[n].phase ∧
        t.ring.aer.unc = s.ring.aer.unc ||| (1#32 <<< aerBit none)) ∧
  (∀ (n : Fin 16) (k : Nat) (s : State), s.qspi = false → s.ring.sqs[n].reading = some k → s.ring.sqs[n].phase = .active →
      s.ring.sqs[n].retries = 3 → s.dev.held 1 = false → s.dev.handling hHe = false →
      Answers (.pcieCompletionTimeout (some n)) s fun t =>
        t.ring.sqs[n].phase = .error ∧ (∃ e ∈ t.dev.log.errs, e.source = hHe ∧ e.cls = .fault ∧ e.code = LG_RING_DMA) ∧
        ∃ e, t.dev.raised.getLast? = some e ∧ e.code = EV_RING_ERROR ∧ e.handle = hRing n.val)

/-- 02 R59, 01 R32: one dispatch: a descriptor that passes the checks goes to its function's queue, and one of an unknown opcode
completes with ST_BAD_OPCODE; an SQ whose next descriptor is URGENT goes before the others.
(Rests in part on log entry 9: the model's reading or choice.) -/
def Obligations.Dispatching : Prop :=
  (∀ (s : State) (n turn : Fin 16) (left : Nat) (d : RawDesc) (ds : List RawDesc),
    s.dev.asleep = false → s.ring.choose = some (n, turn, left) → s.ring.sqs[n].chain = [] → s.ring.sqs[n].fetched = d :: ds →
    rawChain d = false →
    (∀ (i : OpInfo) (o : Obj), opInfo (rawOp d) = some i → rawOp d ≠ 0x0F →
        s.dev.opCheck { i with needsEn := false } (descOf n d false) = .ok o →
        Answers .descriptorDispatch s fun t =>
          t.ring.sqs[n].fetched = ds ∧ t.ring.sqs[n].disp = s.ring.sqs[n].disp + 1 ∧ t.dev.done = s.dev.done ∧
          { op := rawOp d, d := descOf n d false : QDesc } ∈ t.dev.fq) ∧
    (opInfo (rawOp d) = none →
        Answers .descriptorDispatch s fun t => t.answered (descOf n d false) .badOpcode 0 ∧ t.dev.fq = s.dev.fq)) ∧
  (∀ (r : Rings) (m : Fin 16), r.ready m → (∃ d, r.sqs[m].next = some d ∧ rawUrgent d) →
    ∃ n, r.choose = some (n, r.wrrSq, r.wrrLeft) ∧ n ≤ m ∧ r.ready n ∧ ∃ d, r.sqs[n].next = some d ∧ rawUrgent d)

/-- 02 R47, R49, R55, R63: the oldest completion goes to the next entry of its SQ's CQ, with NOT bit k of the producer index as its
PHASE, and leaves every other byte of host memory as it was.
(Rests in part on log entry 41: the model's reading or choice.) -/
def Obligations.CompletionRecord : Prop :=
  ∀ (s : State) (c : Completion) (cs : List Completion), s.dev.done = c :: cs → s.qspi = false → s.ring.quiet = false → s.mem.ok →
    c.bulk = [] → c.member = false → c.resync = false → c.discard = false →
    let n := (s.ring.sqs[c.sq]).cq
    let r := (s.ring.cqs[n]).ring
    r.full = false → r.ie = false →
    Answers .completionWrite s fun t =>
      t.dev.done = cs ∧ (t.ring.cqs[n]).ring.prod = r.prod + 1 ∧ (t.ring.sqs[c.sq]).disp = (s.ring.sqs[c.sq]).disp - 1 ∧
      let a := r.base.toNat + 16 * (r.prod.toNat % 2 ^ r.log2)
      memReadBytes t.mem.host a 16 = c.bytes (!r.prod.getLsbD r.log2) ∧
      t.mem.win = s.mem.win ∧ ∀ b, b < a ∨ a + 16 ≤ b → memRead t.mem.host b = memRead s.mem.host b

/-- 02 R56, R64: an event goes to EQ while EQ takes it; to the cache while EQ is disabled; and is dropped and counted when the cache
is full. LOST of the accepted one is the number dropped before it. -/
def Obligations.EventRecord : Prop :=
  ∀ (s : State) (e : Event) (es : List Event), s.dev.raised = e :: es →
    (s.ring.quiet = false → s.qspi = false → s.mem.ok → s.ring.eqCache = [] → s.ring.eq.en → s.ring.eq.full = false → s.ring.eq.ie = false →
      Answers .eventWrite s fun t =>
        t.dev.raised = es ∧ t.ring.eq.prod = s.ring.eq.prod + 1 ∧ t.ring.eqCache = [] ∧ t.ring.eqLost = 0 ∧
        let a := s.ring.eq.base.toNat + 16 * (s.ring.eq.prod.toNat % 2 ^ s.ring.eq.log2)
        memReadBytes t.mem.host a 16
          = ({ e with lost := s.ring.eqLost + e.lost } : Event).bytes (!s.ring.eq.prod.getLsbD s.ring.eq.log2) ∧
        ∀ b, b < a ∨ a + 16 ≤ b → memRead t.mem.host b = memRead s.mem.host b) ∧
    (s.ring.eq.en = false → s.ring.eqCache.length < 256 →
      Answers .eventWrite s fun t =>
        t.dev.raised = es ∧ t.ring.eqCache = s.ring.eqCache ++ [{ e with lost := s.ring.eqLost + e.lost }] ∧ t.ring.eqLost = 0 ∧
        t.ring.eqDrop = s.ring.eqDrop ∧ t.mem = s.mem) ∧
    (s.ring.eq.en = false → s.ring.eqCache.length = 256 →
      Answers .eventWrite s fun t =>
        t.dev.raised = es ∧ t.ring.eqCache = s.ring.eqCache ∧ t.ring.eqDrop = s.ring.eqDrop + 1 ∧
        t.ring.eqLost = s.ring.eqLost + 1 ∧ t.ring.eq.dropWrap = (s.ring.eq.dropWrap || s.ring.eqDrop == 0xFFFFFFFF) ∧ t.mem = s.mem)

/-- 02 R65, R66, R67, R68, R63: the log's mirror; a vector of a ring that is due; a CQ that stays full.
(Rests in part on log entries 80, 225: the model's reading or choice.) -/
def Obligations.MirrorVectorsStall : Prop :=
  (∀ (s : State) (num : Nat) (copy : Bool) (rest : List (Nat × Bool)) (x : LogRec), s.ring.quiet = false → s.ring.lq.en →
      s.ring.lq.full = false → s.dev.held 56 = false → s.dev.asleep = false → s.dev.log.mirrorQ = (num, copy) :: rest →
      (s.dev.log.recs.find? fun r => r.num == num) = some x →
      Answers .lqMirror s fun t =>
        t.ring.lq.prod = s.ring.lq.prod + 1 ∧ t.dev.log.mirrorQ = rest ∧ t.ring.lqNums = s.ring.lqNums ++ [num] ∧
        t.dev.log.recs = s.dev.log.recs) ∧
  (∀ (s : State) (i : IrqRing), s.qspi → s.ring.quiet = false → (s.ring.ringOf i).timer → (s.ring.ringOf i).ie →
      Answers (.modTimeExpiry i) s fun t =>
        t.ring.irqPend = s.ring.irqPend ||| (1#32 <<< (s.ring.ringOf i).vec.val) ∧ (t.ring.ringOf i).count = 0 ∧
        (t.ring.ringOf i).timer = false ∧ t.mem = s.mem ∧ t.dev = s.dev) ∧
  (∀ (s : State) (i : IrqRing), s.qspi = false → s.ring.quiet = false → (s.ring.ringOf i).timer → (s.ring.ringOf i).ie →
      (s.ring.msix[(s.ring.ringOf i).vec]).mask →
      Answers (.modTimeExpiry i) s fun t =>
        (t.ring.msix[(s.ring.ringOf i).vec]).pending ∧ (t.ring.ringOf i).count = 0 ∧ (t.ring.ringOf i).timer = false ∧ t.mem = s.mem) ∧
  (∀ (s : State) (n : Fin 16), (s.ring.cqs[n]).ring.en → (s.ring.cqs[n]).ring.full → (s.ring.cqs[n]).stallSeen = false →
      s.dev.held 1 = false → s.dev.handling hHe = false →
      Answers (.ringStall n) s fun t =>
        (t.ring.cqs[n]).ring.stall ∧ (t.ring.cqs[n]).ring.prod = (s.ring.cqs[n]).ring.prod ∧
        (∃ e ∈ t.dev.log.errs, e.source = hHe ∧ e.cls = .warn ∧ e.code = LG_RING_STALL) ∧
        ∃ e, t.dev.raised.getLast? = some e ∧ e.code = EV_RING_STALL ∧ e.handle = hRing (16 + n.val))

/-- 02 R69, R70, R71, 00 R6: enabling and disabling rings, over PCI Express; a write that holds a reserved LOG2SIZE in a field it reaches
changes nothing.
(Rests in part on log entry 190: the model's reading or choice.) -/
def Obligations.RingEnables : Prop :=
  ∀ s : State, s.reach → s.qspi = false → s.dev.held 1 = false →
    (∀ (n : Fin 16) (v : Word), s.ring.sqs[n].phase = .disabled → badLog2 v true = false → (s.ring.cqs[ix 15 (bitsOf v.toNat 4 4)]).ring.en →
      Answers (.sqEnable n v) s fun t =>
        t.ring.sqs[n].phase = .active ∧ t.ring.sqs[n].prod = 0 ∧ t.ring.sqs[n].cons = 0 ∧ t.ring.sqs[n].weight = bitsOf v.toNat 8 4) ∧
    (∀ (n : Fin 16) (v : Word), s.ring.sqs[n].phase = .disabled → badLog2 v true →
      Answers (.sqEnable n v) s fun t => t.ring.sqs[n] = s.ring.sqs[n]) ∧
    (∀ (n : Fin 16) (v : Word), s.ring.sqs[n].phase = .disabled → badLog2 v true = false →
      (s.ring.cqs[ix 15 (bitsOf v.toNat 4 4)]).ring.en = false →
      Answers (.sqEnable n v) s fun t => t.ring.sqs[n].phase = .disabled ∧ t.ring.sqs[n].cfgErr) ∧
    (∀ (n : Fin 16) (v : Word), (s.ring.sqs[n].phase = .active ∨ s.ring.sqs[n].phase = .error) → badLog2 v s.ring.hold = false →
      s.ring.sqs[n].fetched = [] → s.ring.sqs[n].chain = [] →
      Answers (.sqDisable n v) s fun t =>
        t.ring.sqs[n].phase = (if s.ring.sqs[n].disp = 0 then .disabled else .draining) ∧ t.dev = s.dev) ∧
    (∀ (n : Fin 16) (v : Word), (s.ring.cqs[n]).ring.en = false → badLog2 v true = false →
      Answers (.cqEnable n v) s fun t => (t.ring.cqs[n]).ring.en ∧ (t.ring.cqs[n]).ring.prod = 0 ∧ (t.ring.cqs[n]).ring.cons = 0) ∧
    (∀ (n : Fin 16) (v : Word), (s.ring.cqs[n]).ring.en → badLog2 v s.ring.hold = false →
      (∀ m : Fin 16, s.ring.sqs[m].cq = n → s.ring.sqs[m].phase = .disabled) →
      Answers (.cqDisable n v) s fun t => (t.ring.cqs[n]).ring.en = false) ∧
    (∀ (n m : Fin 16) (v : Word), (s.ring.cqs[n]).ring.en → s.ring.sqs[m].cq = n → s.ring.sqs[m].phase ≠ .disabled →
      Answers (.cqDisable n v) s fun t => t.ring.cqs[n] = s.ring.cqs[n]) ∧
    (∀ v : Word, s.ring.eq.en = false → badLog2 v true = false → Answers (.eqEnable v) s fun t => t.ring.eq.en ∧ t.ring.eq.cons = 0) ∧
    (∀ v : Word, s.ring.eq.en → badLog2 v s.ring.hold = false → Answers (.eqDisable v) s fun t => t.ring.eq.en = false ∧ t.ring.eqCache = []) ∧
    (∀ v : Word, s.ring.lq.en = false → badLog2 v true = false →
      Answers (.lqEnable v) s fun t =>
        t.ring.lq.en ∧ t.ring.lq.prod = 0 ∧ t.ring.lq.cons = 0 ∧
        t.dev.log.mirrorQ = (s.dev.log.recs.filter (·.mirrored)).map fun r => (r.num, false)) ∧
    (∀ v : Word, s.ring.lq.en → badLog2 v s.ring.hold = false → Answers (.lqDisable v) s fun t => t.ring.lq.en = false ∧ t.dev.log.recs = s.dev.log.recs)

/-- 02 R39, R40, R72, R73, R74: host hold and its end.
(Rests in part on log entries 47, 49, 50: the model's reading or choice.) -/
def Obligations.HostHold : Prop :=
  ∀ s : State, s.dev.dark = false →
    (s.reach → Answers .ringCtlHold s fun t => t.ring.hold ∧ t.dev = s.dev ∧ t.mem = s.mem) ∧
    (s.qspi = false →
      Answers .dlDown s fun t =>
        t.ring.hold ∧ (s.ring.hold = false → t.ring.linkLost) ∧ (∀ v : Fin 32, (t.ring.msix[v]).mask) ∧
        (∀ n : Fin 16, t.ring.sqs[n].phase = s.ring.sqs[n].phase ∧ t.ring.sqs[n].cons = s.ring.sqs[n].cons) ∧
        (s.dev.power.wdtEn = false → t.dev.regs = s.dev.regs ∧ t.dev.power = s.dev.power)) ∧
    (s.qspi = false →
      Answers .hotReset s fun t =>
        t.ring.hold ∧ t.ring.linkLost = s.ring.linkLost ∧ (∀ v : Fin 32, (t.ring.msix[v]).mask) ∧
        (∀ n : Fin 16, t.ring.sqs[n].phase = s.ring.sqs[n].phase ∧ t.ring.sqs[n].cons = s.ring.sqs[n].cons) ∧
        (s.dev.power.wdtEn = false → t.dev.regs = s.dev.regs ∧ t.dev.power = s.dev.power)) ∧
    (s.qspi = false → Answers .d3hotEntry s fun t => t.ring.hold ∧ t.ring.d3hot ∧ t.dev = s.dev) ∧
    (∀ d : RawDesc, s.reach → s.ring.hold → s.resyncStatus d = .ok →
      Answers (.sysRingResync d) s fun t => t.ring.hold = false ∧ t.ring.resyncSt = 0 ∧ t.ring.resyncSeen) ∧
    (∀ d : RawDesc, s.reach → s.ring.hold → s.resyncStatus d ≠ .ok →
      Answers (.sysRingResync d) s fun t =>
        t.ring.hold ∧ t.ring.resyncSt = BitVec.ofNat 8 (s.resyncStatus d).num ∧ t.ring.resyncSeen ∧ t.mem = s.mem) ∧
    (∀ d : RawDesc, s.reach → s.ring.hold = false →
      Answers (.sysRingResync d) s fun t =>
        t.ring.hold = false ∧ t.ring.resyncSt = s.ring.resyncSt ∧ t.ring.sqs = s.ring.sqs ∧ t.mem = s.mem)

/-- 02 R41, R42, R43: what the Quad-SPI commands read and write in the ring window, and what they reject.
(Rests in part on log entry 54: the model's reading or choice.) -/
def Obligations.QuadSpi : Prop :=
  ∀ s : State, s.qspi → s.dev.dark = false →
    (∀ (a : BitVec 24) (n : Nat), a.toNat % 4 = 0 → n % 4 = 0 → n ≤ 256 → 0x020000 ≤ a.toNat → a.toNat + n ≤ 0x040000 →
      ∀ c ∈ [Instr.read a n, .fastRead a n, .quadRead a n],
        Answers c s fun t =>
          t.ring.rdata = memReadBytes s.mem.win a.toNat n ∧ t.ring.qerr = s.ring.qerr ∧ t.mem = s.mem ∧ t.dev = s.dev) ∧
    (∀ (a : BitVec 24) (bs : List Byte), a.toNat % 4 = 0 → bs.length % 4 = 0 → bs.length ≤ 256 → 0x020000 ≤ a.toNat →
      a.toNat + bs.length ≤ 0x040000 → s.mem.ok →
      ∀ c ∈ [Instr.write a bs, .quadWrite a bs],
        Answers c s fun t =>
          memReadBytes t.mem.win a.toNat bs.length = bs ∧ t.ring.qerr = s.ring.qerr ∧ t.dev = s.dev ∧ t.mem.host = s.mem.host ∧
          ∀ b, b < a.toNat ∨ a.toNat + bs.length ≤ b → memRead t.mem.win b = memRead s.mem.win b) ∧
    (∀ (a : BitVec 24) (bs : List Byte), (a.toNat % 4 ≠ 0 ∨ 256 < bs.length) →
      ∀ c ∈ [Instr.write a bs, .quadWrite a bs], Answers c s fun t => t.ring.qerr ∧ t.mem = s.mem ∧ t.dev = s.dev) ∧
    Answers .readStatus s fun t => t.ring.rdata = [s.qStatus] ∧ t.ring.qerr = false ∧ t.dev = s.dev ∧ t.mem = s.mem

/-- 02 R36, R38, R40, R68, 16 R460, 18 R513: Command, read size, masks and power state of the endpoint, over PCI Express; until READY a
configuration write has no effect.
(Rests in part on log entries 43, 189: the model's reading or choice.) -/
def Obligations.Endpoint : Prop :=
  ∀ s : State, s.qspi = false → s.dev.dark = false →
    (∀ v : Fin 32, s.reach →
      Answers (.msixVectorUnmask v) s fun t =>
        (t.ring.msix[v]).mask = false ∧
        (s.ring.quiet = false → s.ring.msixEn → s.ring.fnMask = false → (t.ring.msix[v]).pending = false)) ∧
    (∀ v : Fin 32, s.reach → s.mem.ok → s.ring.quiet = false → s.ring.msixEn → s.ring.fnMask = false → (s.ring.msix[v]).pending →
      (∀ u : Fin 32, u ≠ v → (s.ring.msix[u]).pending = false) →
      Answers (.msixVectorUnmask v) s fun t =>
        let a := (s.ring.msix[v]).addrLo.toNat + (s.ring.msix[v]).addrHi.toNat * 2 ^ 32
        memReadBytes t.mem.host a 4 = bytesLE 4 (s.ring.msix[v]).data.toNat ∧
        ∀ b, b < a ∨ a + 4 ≤ b → memRead t.mem.host b = memRead s.mem.host b) ∧
    (s.dev.regs.ready →
      (∀ m b : Bool,
        Answers (.pcieConfigWrite (.command m b)) s fun t => t.ring.cfg = { s.ring.cfg with memSpace := m, busMaster := b } ∧ t.dev = s.dev) ∧
      (∀ k : Fin 8, k.val ≤ 5 → Answers (.pcieConfigWrite (.maxReadRequestSize k)) s fun t => t.ring.cfg.maxRead = k.val ∧ t.dev = s.dev) ∧
      (∀ m : Bool, Answers (.pcieConfigWrite (.msixFunctionMask m)) s fun t => t.ring.fnMask = m ∧ t.dev = s.dev) ∧
      (∀ m : Bool, Answers (.pcieConfigWrite (.msixEnable m)) s fun t => t.ring.msixEn = m ∧ t.dev = s.dev) ∧
      (∀ m : Bool, Answers (.pcieConfigWrite (.aspmL1 m)) s fun t => t.ring.aspmL1 = m ∧ t.dev = s.dev) ∧
      Answers (.pcieConfigWrite .powerStateD0) s (fun t => t.ring.d3hot = false ∧ t.ring.hold = s.ring.hold ∧ t.dev = s.dev) ∧
      Answers (.pcieConfigWrite .powerStateD3hot) s (fun t => t.ring.d3hot ∧ t.ring.hold ∧ t.dev = s.dev)) ∧
    (∀ w : CfgWrite, s.dev.regs.ready = false →
      Answers (.pcieConfigWrite w) s fun t =>
        t.ring.cfg = s.ring.cfg ∧ t.ring.msix = s.ring.msix ∧ t.ring.d3hot = s.ring.d3hot ∧ t.dev = s.dev ∧ t.mem = s.mem) ∧
    (s.ring.linkUp → s.ring.aspmL1 → s.dev.power.state = 1 → Answers .aspmL1Request s fun t => t.ring.l1 ∧ t.dev = s.dev) ∧
    (s.ring.aspmL1 = false → Answers .aspmL1Request s fun t => t = s)

/-! ## The setup registers -/

/-- 19 R517, R522, R527: register writes: SCRATCH takes the value; a width that the map does not serve, or a register that is RO or
not assigned, changes nothing; LOCK ends the writes of RWL fields and each such write is noted. -/
def Obligations.RegisterWrites : Prop :=
  ∀ s : State, s.reach →
    (∀ (k : Fin 4) (v : DWord),
      Answers (.registerWrite (BitVec.ofNat 14 (0x30 + 4 * k.val)) 4 v) s fun t =>
        t.dev.regs.scratch[k] = v.setWidth 32 ∧ (∀ j : Fin 4, j ≠ k → t.dev.regs.scratch[j] = s.dev.regs.scratch[j]) ∧
        t.dev.power = s.dev.power ∧ t.mem = s.mem) ∧
    (∀ (off : BitVec 14) (w : Fin 9) (v : DWord), w ≠ 4 → w ≠ 8 → Answers (.registerWrite off w v) s fun t => t.dev = s.dev ∧ t.mem = s.mem) ∧
    (∀ (off : BitVec 14) (v : DWord),
      off.toNat ∈ [0x00, 0x04, 0x08, 0x0C, 0x2C, 0x48, 0x50, 0x414, 0x434, 0x604, 0x608, 0x60C, 0x704, 0x820, 0x840, 0xA40, 0xC04, 0xE04,
        0xF00, 0xF44, 0xF48, 0xF80, 0x1000, 0x2FFC, 0x3800] →
      Answers (.registerWrite off 4 v) s fun t => t.dev = s.dev ∧ t.mem = s.mem) ∧
    Answers .setupLock s (fun t => t.dev.regs.lock ∧ t.dev.power = s.dev.power) ∧
    (∀ (off : BitVec 14) (v : DWord), s.dev.regs.lock → off.toNat ∈ [0x40, 0x44, 0x4C, 0x504, 0x508] →
      Answers (.registerWrite off 4 v) s fun t =>
        t.dev.regs.lockWr ∧ t.dev.regs.pinmux0 = s.dev.regs.pinmux0 ∧ t.dev.regs.pinmux1 = s.dev.regs.pinmux1 ∧
        t.dev.regs.slow = s.dev.regs.slow ∧ t.dev.power = s.dev.power) ∧
    (∀ v : DWord, s.dev.regs.lock = false →
      Answers (.registerWrite 0x504 4 v) s fun t => t.dev.power.wake0 = v.setWidth 32 ∧ t.dev.regs = s.dev.regs)

/-! ## Power, clocks, resets -/

/-- 14 R435, 16 R458, R459, R461, R462, R465: PWR_STATE; a wake source that is asserted when SLEEP is requested aborts the request.
(Rests in part on log entry 239: the model's reading or choice.) -/
def Obligations.PwrState : Prop :=
  ∀ (s : State) (d : Desc) (o : Obj), s.admits opPwrState d o → s.dev.power.sleep = .none →
    (d.bits 8 0 2 = 0 → Answers (.pwrState d) s fun t => t.okd d ∧ (s.dev.power.state ≤ 1 → t.dev.power.state = 0) ∧ t.ring = s.ring) ∧
    (d.bits 8 0 2 = 1 → s.dev.power.state = 0 → (∀ n : Fin 144, (s.dev.loops[n]).fastDeclared = false) →
      Answers (.pwrState d) s fun t =>
        t.okd d ∧ t.dev.power.state = 1 ∧
        (∃ e ∈ t.dev.raised, e.code = EV_PWR_STATE ∧ e.handle = hCtl ∧ e.arg = 0x00000001) ∧ t.ring = s.ring) ∧
    (d.bits 8 0 2 = 1 → s.dev.power.state = 0 → (∃ n : Fin 144, (s.dev.loops[n]).fastDeclared) →
      Answers (.pwrState d) s fun t => t.answered d .busy 0 ∧ t.dev.power.state = 0 ∧ t.dev.power.ecoRefused) ∧
    (2 ≤ d.bits 8 0 2 → s.dev.wakeLevels = [] →
      Answers (.pwrState d) s fun t => t.ring.hold ∧ t.dev.power.sleep = .requested d ∧ t.waiting 0xD0 d ∧ t.dev.power.state = s.dev.power.state) ∧
    (2 ≤ d.bits 8 0 2 → s.dev.wakeLevels ≠ [] → (∀ q ∈ s.dev.waits, q.ghost = false) →
      Answers (.pwrState d) s fun t => t.ring.hold ∧
        ((t.dev.power.sleep = .requested d ∧ t.waiting 0xD0 d) ∨
          (t.dev.power.sleep = .none ∧ t.dev.power.sleepAbort ∧ t.dev.power.state ≠ 1 ∧
            ∃ c ∈ s.dev.wakeLevels, t.answered d .conflict (wakeRes c) ∧ t.dev.power.wakeSrc = BitVec.ofNat 8 c)))

/-- 14 R423, R435: the opcodes of class 0x0 at an SQ, and those of class 0xD that set or read the power block.
(Rests in part on log entries 72, 73: the model's reading or choice.) -/
def Obligations.SystemAndPowerDescriptors : Prop :=
  (∀ (s : State) (d : Desc) (o : Obj),
    (s.admits opSysNop d o → Answers (.sysNop d) s fun t => s.onlyAnswers t d .ok (BitVec.ofNat 64 (d.bits 8 0 64))) ∧
    (s.admits opSysInfoGet d o → d.bits 8 0 2 = 0 → Answers (.sysInfoGet d) s fun t => s.onlyAnswers t d .ok s.dev.nv.uid) ∧
    (s.admits opSysInfoGet d o → d.bits 8 0 2 = 1 →
      Answers (.sysInfoGet d) s fun t =>
        s.onlyAnswers t d .ok (mkRes [(8, 0, 16, 0x0100), (10, 0, 16, (s.dev.nv.running.map fun x => x.version.toNat).getD 0),
          (12, 0, 8, if s.dev.nv.slot < 2 then s.dev.nv.slot else 0xFF), (13, 0, 8, if s.dev.nv.bank < 2 then s.dev.nv.bank else 0xFF)])) ∧
    (s.admits opSysInfoGet d o → d.bits 8 0 2 = 2 →
      Answers (.sysInfoGet d) s fun t =>
        s.onlyAnswers t d .ok (mkRes [(8, 0, 32, (s.dev.nv.running.map fun x => x.seq.toNat).getD 0),
          (12, 0, 32, (s.dev.nv.activeBank.map fun k => (s.dev.nv.banks[k]).seq.toNat).getD 0)])) ∧
    (s.admits opSysInfoGet d o → d.bits 8 0 2 = 3 → Answers (.sysInfoGet d) s fun t => s.onlyAnswers t d .range 0) ∧
    (s.admits opSysCountersGet d o → d.flag 8 0 →
      Answers (.sysCountersGet d) s fun t =>
        s.onlyAnswers t d .ok (mkRes [(8, 0, 32, s.dev.power.netDrop.toNat), (12, 0, 32, s.dev.power.clkFails.toNat)])) ∧
    (s.admits opSysCountersGet d o → d.flag 8 0 = false →
      Answers (.sysCountersGet d) s fun t =>
        s.onlyAnswers t d .ok (mkRes [(8, 0, 32, s.dev.power.memCe.toList.foldl (fun a w => a + w.toNat) 0),
          (12, 0, 32, s.dev.power.memUe.toNat)]))) ∧
  (∀ (s : State) (d : Desc) (o : Obj),
    (s.admits opPwrIdleConfig d o → d.bits 8 0 16 ≤ 3600 →
      Answers (.pwrIdleConfig d) s fun t =>
        t.dev.power.idleS = d.bits 8 0 16 ∧
        t.dev.power.idleAt = (if s.dev.power.idleS = 0 then s.dev.now else s.dev.power.idleAt) ∧
        t.answered d .ok (mkRes [(8, 0, 16, s.dev.power.idleS)]) ∧ s.onlyDev t) ∧
    (s.admits opPwrIdleConfig d o → 3600 < d.bits 8 0 16 →
      Answers (.pwrIdleConfig d) s fun t => t.answered d .range 0 ∧ t.dev.power = s.dev.power) ∧
    (s.admits opPwrWakeConfig d o →
      Answers (.pwrWakeConfig d) s fun t =>
        t.okd d ∧ (t.dev.power.wakePins = BitVec.ofNat 4 (d.bits 8 0 4)) ∧ (t.dev.power.wakeKeys = d.flag 8 4) ∧
        (t.dev.power.wakeAlarm = d.flag 8 5) ∧ (t.dev.power.wakePer = d.flag 8 6) ∧ (t.dev.power.wakeHost = d.flag 8 7) ∧
        t.dev.power.wakeVale = BitVec.ofNat 16 (d.bits 12 0 16) ∧ s.onlyDev t) ∧
    (s.admits opPwrWatchdog d o → 100 ≤ d.bits 12 0 32 → d.bits 12 0 32 ≤ 600000 →
      Answers (.pwrWatchdog d) s fun t =>
        (t.dev.power.wdtEn = d.flag 8 0) ∧ t.dev.power.timeout = d.word 12 ∧ t.dev.power.wdtAt = s.dev.now ∧
        t.answered d .ok (mkRes [(8, 0, 32, s.dev.power.timeout.toNat)]) ∧ t.dev.power.policy = false ∧ s.onlyDev t) ∧
    (s.admits opPwrStatusGet d o →
      Answers (.pwrStatusGet d) s fun t =>
        t.dev.power = s.dev.power ∧ s.onlyDev t ∧
        t.answered d .ok (mkRes [(8, 0, 8, s.dev.power.state), (9, 0, 8, s.dev.power.wakeSrc.toNat), (10, 0, 1, s.dev.power.policy.toNat),
          (12, 0, 32, s.dev.idleLeft)])))

/-- 16 R469, R470, R471: PWR_FRESET and FRST_WRITE set and clear the same hold bits; EV_FUNC_RESET follows a change; 02 R76:
a hold of function 1 disables every ring and discards what waits.
(Rests in part on log entries 60, 237: the model's reading or choice.) -/
def Obligations.FunctionHolds : Prop :=
  (∀ (s : State) (d : Desc) (f : Fin 92), s.admits opPwrFreset d (.function f) → 1 < f.val → ¬ (f.val = 90 ∧ s.qspi) →
      Answers (.pwrFreset d) s fun t =>
        (t.dev.power.frst.getLsbD f.val = d.flag 8 0) ∧ (∀ g : Fin 92, g ≠ f → t.dev.power.frst.getLsbD g.val = s.dev.power.frst.getLsbD g.val) ∧
        ∃ c, t.dev.done.getLast? = some c ∧ c.tag = d.tag ∧ c.status = .ok) ∧
  (∀ (s : State) (d : Desc), s.admits opPwrFreset d (.function 1) →
      Answers (.pwrFreset d) s fun t => t.answered d .conflict 0 ∧ t.dev.power = s.dev.power) ∧
  (∀ (s : State) (k : Fin 3) (v : Word), s.reach → s.qspi = false → ¬ (k = 0 ∧ v.getLsbD 0) →
      Answers (.frstWrite k v) s fun t => ∀ b : Fin 32, 32 * k.val + b.val < 92 →
        (t.dev.power.frst.getLsbD (32 * k.val + b.val) = v.getLsbD b.val)) ∧
  (∀ (s : State) (k : Fin 3) (v : Word) (b : Fin 32), s.reach → ¬ (k = 0 ∧ v.getLsbD 0) → 1 < 32 * k.val + b.val → 32 * k.val + b.val < 90 →
      v.getLsbD b.val → s.dev.power.frst.getLsbD (32 * k.val + b.val) = false → s.dev.ownHeld (32 * k.val + b.val) = false →
      Answers (.frstWrite k v) s fun t =>
        ∃ e ∈ t.dev.raised, e.code = EV_FUNC_RESET ∧ e.handle = hFunc (32 * k.val + b.val) ∧
          e.arg = mkWord [(0, 7, 32 * k.val + b.val), (8, 1, 1)]) ∧
  (∀ (s : State) (v : Word), s.reach → v.getLsbD 0 = false → v.getLsbD 1 → s.dev.power.frst.getLsbD 1 = false →
    Answers (.frstWrite 0 v) s fun t =>
      (∀ n : Fin 16, t.ring.sqs[n].phase = .disabled ∧ (t.ring.cqs[n]).ring.en = false ∧ (t.ring.cqs[n]).cache = []) ∧
      t.ring.eq.en = false ∧ t.ring.lq.en = false ∧ t.ring.eqCache = [] ∧ t.ring.hold = false ∧ t.ring.irqPend = 0 ∧ (∀ c ∈ t.dev.done, c.discard) ∧
      (∀ q ∈ t.dev.fq, q.ghost) ∧ ∀ q ∈ t.dev.waits, q.ghost)

/-- 19 R523: FEN_WRITE. -/
def Obligations.FunctionEnables : Prop :=
  ∀ (s : State) (k : Fin 3) (v : Word), s.reach →
    Answers (.fenWrite k v) s fun t =>
      (∀ b : Fin 32, 32 * k.val + b.val < 92 → alwaysOn (32 * k.val + b.val) = false → 32 * k.val + b.val ≠ 90 →
        (t.dev.enabled (32 * k.val + b.val) = v.getLsbD b.val)) ∧
      (∀ f : Fin 92, f.val / 32 ≠ k.val → (t.dev.enabled f.val = s.dev.enabled f.val)) ∧ t.dev.power.frst = s.dev.power.frst

/-- 16 R471, R472, 18 R513, 02 R35, 19 R518, R521: what the device resets leave, with their causes.
(Rests in part on log entries 68, 70, 240: the model's reading or choice.) -/
def Obligations.DeviceResets : Prop :=
  ∀ s : State, s.dev.power.vmainHold = false →
    (s.reach → Answers .devrst s fun t =>
      t.ring = Rings.after s.qspi ∧ t.dev.regs.ready ∧ t.dev.regs.rstCause = 1 ∧ t.dev.regs.lock = false ∧
      (t.dev.regs.attach = s.dev.regs.attach) ∧ t.mem = s.mem) ∧
    (s.dev.svOn → Answers .svWatchdogReset s fun t =>
      t.ring = Rings.after s.qspi ∧ t.dev.regs.ready ∧ t.dev.regs.rstCause = 2 ∧ t.dev.regs.lock = false ∧
      (t.dev.regs.attach = s.dev.regs.attach) ∧ t.mem = s.mem) ∧
    (∀ sel : Bool, s.dev.hollow.vmainBad → Answers (.porst sel) s fun t => t.dev.power.vmainHold ∧ t.dev.regs.ready = false) ∧
    (∀ sel : Bool, s.dev.hollow.vmainBad = false → Answers (.porst sel) s fun t =>
      t.ring = Rings.after sel ∧ t.dev.regs.ready ∧ t.dev.regs.rstCause = 0 ∧ t.dev.regs.lock = false ∧ t.dev.regs.attach = sel ∧
      t.dev.power.state = 0 ∧ t.dev.power.frst = 0 ∧ t.dev.power.fen = 0) ∧
    (Answers .vcoreBrownOut s fun t =>
      t.ring = Rings.after t.dev.regs.attach ∧ t.dev.regs.ready ∧ t.dev.regs.rstCause = 0 ∧ t.dev.regs.lock = false ∧ t.mem.win = [] ∧ t.mem.host = s.mem.host)

/-- 16 R458, R462, R468, R479: the idle timer, which does not expire at the moment at which it restarts, and the commit point.
(Rests in part on log entries 63, 220, 238: the model's reading or choice.) -/
def Obligations.IdleAndCommit : Prop :=
  ∀ s : State,
    (s.dev.power.idleAt = s.dev.now → Answers .idleTimerExpiry s fun t => t = s) ∧
    (s.dev.power.state = 0 → s.dev.power.idleS ≠ 0 → s.dev.power.sleep = .none → s.dev.power.idleAt ≠ s.dev.now →
      (∀ n : Fin 144, (s.dev.loops[n]).fastDeclared = false) →
      Answers .idleTimerExpiry s fun t => t.dev.power.state = 1 ∧ t.ring = s.ring) ∧
    (s.dev.power.state = 0 → s.dev.power.idleS ≠ 0 → s.dev.power.sleep = .none → s.dev.power.idleAt ≠ s.dev.now →
      (∃ n : Fin 144, (s.dev.loops[n]).fastDeclared) →
      Answers .idleTimerExpiry s fun t =>
        t.dev.power.state = 0 ∧ t.dev.power.ecoRefused ∧ t.dev.power.idleAt = s.dev.now ∧ t.ring = s.ring) ∧
    (∀ d : Desc, s.dev.power.sleep = .requested d → d.bits 8 0 2 = 2 → s.dev.nv.busy = none →
      Answers .sleepCommit s fun t =>
        t.dev.power.state = 2 ∧ t.dev.power.sleep = .asleep d ∧ t.dev.power.pllaLock = false ∧ t.dev.power.pllbLock = false ∧ t.mem = s.mem) ∧
    (∀ d : Desc, s.dev.power.sleep = .requested d → d.bits 8 0 2 = 3 → s.dev.nv.busy = none →
      Answers .sleepCommit s fun t =>
        t.dev.power.state = 3 ∧ t.dev.power.sleep = .hibernating ∧ t.dev.hollow.release = some 32 ∧ (s.ring.hold → t.ring.hold))

/-- 16 R464, R465: an enabled wake source ends SLEEP, aborts a request, and a source that is not enabled does neither.
(Rests in part on log entries 63, 220: the model's reading or choice.) -/
def Obligations.Wakes : Prop :=
  ∀ (s : State) (d : Desc) (c : Instr) (code : Nat), (∀ q ∈ s.dev.waits, q.ghost = false) →
    ((∃ w : Fin 4, c = .wakePinEdge w ∧ code = 1 + w.val) ∨ (c = .keyWake ∧ code = 5 ∧ s.dev.panel.mode = 1 ∧ s.dev.keyLines) ∨ (c = .hostWake ∧ code = 9) ∨
      (∃ p : Fin 16, c = .valeWake p ∧ code = 16 + p.val)) →
    (s.dev.power.sleep = .asleep d → s.dev.power.wakeEnabled code →
      Answers c s fun t =>
        t.dev.power.state = 0 ∧ t.dev.power.sleep = .none ∧ t.dev.power.wakeSrc = BitVec.ofNat 8 code ∧
        t.answered d .ok (mkRes [(8, 0, 8, code)])) ∧
    (s.dev.power.sleep = .requested d → s.dev.power.wakeEnabled code →
      Answers c s fun t =>
        (s.dev.power.state ≤ 1 → t.dev.power.state = 0) ∧ t.dev.power.sleep = .none ∧ t.dev.power.sleepAbort ∧
        t.dev.power.wakeSrc = BitVec.ofNat 8 code ∧ t.answered d .conflict (mkRes [(8, 0, 8, code)]) ∧ t.ring = s.ring) ∧
    (s.dev.power.sleep = .asleep d → s.dev.power.wakeEnabled code = false → s.dev.hollow.wakeEnabled code = false →
      Answers c s fun t => t.dev.power = s.dev.power ∧ t.dev.done = s.dev.done ∧ t.ring = s.ring)

/-- 16 R466, R467, 01 R25, R27, 19 R524: wake groups and clocks; group 0 needs none, and none is there to retry or return in SLEEP.
(Rests in part on log entries 65, 71, 183: the model's reading or choice.) -/
def Obligations.GroupsAndClocks : Prop :=
  ∀ s : State,
    (∀ g : Fin 8, s.dev.power.groups.getLsbD g.val → s.dev.power.sleep = .none → s.dev.power.pllbDown = false → s.dev.power.xclkDown = false →
      (g = 0 ∨ s.dev.power.pllbLock) → Answers (.wakeGroupStart g) s fun t => t.dev.power.groups.getLsbD g.val = false ∧ t.ring = s.ring) ∧
    (s.dev.power.groups.getLsbD 0 → s.dev.power.sleep = .none →
      Answers (.wakeGroupStart 0) s fun t => t.dev.power.groups.getLsbD 0 = false ∧ t.ring = s.ring) ∧
    (∀ g : Fin 8, s.dev.power.groups.getLsbD g.val → s.dev.power.sleep = .none → s.dev.power.pllbDown = false → s.dev.power.xclkDown = false →
      g ≠ 0 → s.dev.power.pllbLock = false →
      Answers (.wakeGroupStart g) s fun t => t.dev.power.groups = s.dev.power.groups ∧ t.dev.power.groupsDue.getLsbD g.val) ∧
    (s.dev.dark = false → s.dev.power.pllaDown = false → s.dev.power.xclkDown = false → Answers (.pllLock .pllA) s fun t => t.dev.power.pllaLock) ∧
    (s.dev.dark = false → s.dev.power.pllbDown = false → s.dev.power.xclkDown = false → Answers (.pllLock .pllB) s fun t => t.dev.power.pllbLock) ∧
    (s.dev.dark = false → s.dev.power.pllaDown = false → s.dev.power.xclkDown = false →
      Answers (.clockFail .pllA) s fun t =>
        t.dev.power.pllaFail ∧ t.dev.power.pllaLock = false ∧ t.dev.clkStatus.getLsbD 3 ∧ t.dev.power.clkHeld = s.dev.power.clkHeld) ∧
    (s.dev.dark = false → s.dev.power.pllbDown = false → s.dev.power.xclkDown = false →
      Answers (.clockFail .pllB) s fun t =>
        t.dev.power.pllbFail ∧ t.dev.power.pllbLock = false ∧
        ∀ f : Fin 92, ((2 ≤ f.val ∧ f.val ≤ 5) ∨ (16 ≤ f.val ∧ f.val ≤ 54) ∨ (58 ≤ f.val ∧ f.val ≤ 89) ∨ f.val = 91) → t.dev.held f.val) ∧
    (s.dev.dark = false → s.dev.power.xclkDown = false →
      Answers (.clockFail .xclk) s fun t =>
        t.dev.power.xclkFail ∧ t.dev.power.xclkOk = false ∧ t.dev.power.pllaLock = false ∧ t.dev.power.pllbLock = false ∧
        ∀ f : Fin 92, ((2 ≤ f.val ∧ f.val ≤ 5) ∨ (16 ≤ f.val ∧ f.val ≤ 54) ∨ (58 ≤ f.val ∧ f.val ≤ 89) ∨ f.val = 91) → t.dev.held f.val) ∧
    (∀ (k : Clk) (l : Bool), s.dev.dark → Answers (.clockRetry k l) s fun t => t = s) ∧
    (∀ k : Clk, s.dev.dark → Answers (.clockRestored k) s fun t => t = s) ∧
    (∀ l : Bool, s.dev.dark = false → s.dev.power.pllaDown → s.dev.power.xclkDown = false →
      Answers (.clockRetry .pllA l) s fun t => t.dev.power.pllaLock = l ∧ t.dev.power.pllaDown) ∧
    (s.dev.dark = false → s.dev.power.xclkDown →
      Answers (.clockRestored .xclk) s fun t => t.dev.power.xclkOk ∧ t.dev.power.pllaLock ∧ t.dev.power.pllbLock ∧ t.dev.power.xclkDown = false)

/-- 16 R472, R473, R474, 18 R508, 01 R19, 19 R527: what SV does of itself.
(Rests in part on log entries 67, 74, 238: the model's reading or choice.) -/
def Obligations.Supervision : Prop :=
  ∀ s : State,
    (∀ e : Fin 12, e.val ≠ 1 → s.dev.power.halted.getLsbD e.val = false → s.dev.frstBit (engineFunc e.val) = false → s.dev.asleep = false →
      s.dev.power.vmainHold = false →
      Answers (.heartbeatTimeout e) s fun t =>
        t.dev.power.frst = s.dev.power.frst ∧
        (∃ x ∈ t.dev.raised, x.code = EV_FUNC_RESET ∧ x.arg = mkWord [(0, 7, engineFunc e.val), (8, 1, 1), (10, 1, 1)]) ∧
        ∃ x ∈ t.dev.raised, x.code = EV_FUNC_RESET ∧ x.arg = mkWord [(0, 7, engineFunc e.val), (10, 1, 1)]) ∧
    (s.dev.power.wdtEn → s.dev.power.policy = false → s.dev.dark = false → s.dev.power.wdtAt ≠ s.dev.now → s.dev.held 0 = false → s.dev.handling (hFunc 0) = false →
      Answers .hostLossTimeout s fun t =>
        t.dev.power.policy ∧ t.ring = s.ring ∧ ∃ x ∈ t.dev.raised, x.code = EV_HOST_LOSS ∧ x.handle = hCtl ∧ x.arg = 1) ∧
    (∀ k : Fin 2, s.dev.nv.activeBank = some k → s.dev.nv.autoPend → s.dev.regs.ready → s.dev.dark = false →
      Answers .autorun s fun t =>
        t.dev.nv.autoPend = false ∧ (∃ x, t.dev.raised.getLast? = some x ∧ x.code = EV_AUTORUN ∧ x.arg.getLsbD 0) ∧
        t.dev.power.fen = (s.dev.power.fen ||| imgEnable s.dev.nv.banks[k].image) &&& fenMask) ∧
    (s.dev.nv.autoPend = false → Answers .autorun s fun t => t = s) ∧
    (∀ m : Sram, s.dev.sramOn m → Answers (.sramEccError m false) s fun t =>
      t.dev.power.memCe[(Sram.place m).1] = s.dev.power.memCe[(Sram.place m).1] + 1 ∧ t.dev.power.memUe = s.dev.power.memUe) ∧
    (∀ m : Sram, s.dev.sramOn m → Answers (.sramEccError m true) s fun t =>
      t.dev.power.memUe = s.dev.power.memUe + 1 ∧ t.dev.power.memCe = s.dev.power.memCe) ∧
    (s.dev.dark = false → Answers (.jtagTapAccess .leaveReset) s fun t => t.dev.regs.tapSeen ∧ t.dev.power = s.dev.power) ∧
    (∀ e : Fin 12, s.dev.dark = false → s.dev.nv.dbgLock = false →
      Answers (.jtagTapAccess (.halt e)) s fun t => t.dev.regs.tapSeen ∧ t.dev.power.halted.getLsbD e.val) ∧
    (∀ e : Fin 12, s.dev.nv.dbgLock → Answers (.jtagTapAccess (.halt e)) s fun t => t.dev.power = s.dev.power)

/-! ## The log -/

/-- The oldest stored record of severity `v` is at `i`. -/
def OldestOf (recs : List LogRec) (v : Sev) (i : Nat) : Prop :=
  (∃ r, recs[i]? = some r ∧ r.sev = v) ∧ ∀ j, j < i → ∀ r, recs[j]? = some r → r.sev ≠ v

/-- Some stored record is of severity `v`. -/
def Stores (recs : List LogRec) (v : Sev) : Prop := ∃ r ∈ recs, r.sev = v

/-- The slot that a new record of severity `v` takes in a full log RAM is that of the record at `i` (the table of 17 R485). -/
def TakesSlot (recs : List LogRec) (v : Sev) (i : Nat) : Prop :=
  (Stores recs .trace ∧ OldestOf recs .trace i) ∨
  (¬ Stores recs .trace ∧ Stores recs .info ∧ v.num ≤ 3 ∧ OldestOf recs .info i) ∨
  (¬ Stores recs .trace ∧ (Stores recs .info → 3 < v.num) ∧ Stores recs .warn ∧ v.num ≤ 2 ∧ OldestOf recs .warn i) ∨
  (¬ Stores recs .trace ∧ ¬ Stores recs .info ∧ ¬ Stores recs .warn ∧
    ((v = .alarm ∧ 1024 < countSev recs .fault ∧ OldestOf recs .fault i) ∨
     (v = .alarm ∧ countSev recs .fault ≤ 1024 ∧ OldestOf recs .alarm i) ∨
     (v = .fault ∧ 512 < countSev recs .alarm ∧ countSev recs .fault < 1024 ∧ countSev (recs.take i) .alarm = 512 ∧
       ∃ r, recs[i]? = some r ∧ r.sev = .alarm) ∨
     (v = .fault ∧ ¬ (512 < countSev recs .alarm ∧ countSev recs .fault < 1024) ∧ OldestOf recs .fault i)))

/-- An occurrence is written as a record of its own: function 56 is not held, Floodplain mode does not suppress it, and it joins no
stored record (17 R486, R490). -/
def WritesRecord (g : Log) (o : Occ) : Prop :=
  (g.flood = true → o.sev.num ≤ 2 ∨ o.src = 56 ∨ o.code = LG_HOST_MARK) ∧
  (o.single = true ∨ ∀ r ∈ g.recs, o.sameAs g.flood r = false)

/-- 17 R485: which record of a full log RAM gives its slot to a new one, and that a record for which there is none is dropped and
counted; so log RAM never holds more than 4096 records, a record of TRACE, INFO or WARN never takes the place of a FAULT or ALARM, and
the 512 oldest ALARM records are not taken by a FAULT. 17 R482, in part: how an error is recorded, by the state of its source. -/
def Obligations.LogStorageAndNesting : Prop :=
  (∀ (n : Nat) (g : Log) (time : Word) (o : Occ), WritesRecord g o → g.recs.length = 4096 →
    (∀ i, TakesSlot g.recs o.sev i →
      ∃ r, (Log.put n g false time o).1.recs = g.recs.eraseIdx i ++ [r] ∧ r.code = o.code ∧ r.sev = o.sev ∧ r.src = o.src ∧
        r.arg = o.arg ∧ r.seq = g.next ∧ r.time = time) ∧
    ((∀ i, ¬ TakesSlot g.recs o.sev i) → 2 ≤ o.sev.num ∧
      (g.drops[o.sev.fin] ≠ 0xFFFFFFFF → (Log.put n g false time o).1.recs = g.recs ∧
        (Log.put n g false time o).1.drops[o.sev.fin] = g.drops[o.sev.fin] + 1))) ∧
  (∀ (n : Nat) (g : Log) (held : Bool) (time : Word) (o : Occ), g.recs.length ≤ 4096 →
    (Log.put n g held time o).1.recs.length ≤ 4096 ∧
    (2 ≤ o.sev.num →
      countSev (Log.put n g held time o).1.recs .alarm = countSev g.recs .alarm ∧
      countSev (Log.put n g held time o).1.recs .fault = countSev g.recs .fault) ∧
    (o.sev = .fault → countSev g.recs .alarm ≤ 512 →
      countSev (Log.put n g held time o).1.recs .alarm = countSev g.recs .alarm)) ∧
  (∀ (s : Dev) (src : Word) (f : Nat) (sev : Sev) (code : BitVec 11) (arg : Word),
    (s.held f → s.report src f sev code arg = (s, false)) ∧
    (s.held f = false → s.errOf src = none →
      (s.report src f sev code arg).2 = true ∧
      ∃ e ∈ (s.report src f sev code arg).1.log.errs, e.source = src ∧ e.func = f ∧ e.cls = sev ∧ e.code = code) ∧
    (∀ e, s.held f = false → s.errOf src = some e → e.cls.num ≤ sev.num →
      (s.report src f sev code arg).2 = false ∧ (s.report src f sev code arg).1.log.errs = s.log.errs) ∧
    (∀ e, s.held f = false → s.errOf src = some e → sev.num < e.cls.num →
      (s.report src f sev code arg).2 = true ∧
      ∃ x, (s.report src f sev code arg).1.errOf src = some x ∧ x.cls = sev ∧ x.code = code))

/-- 14 R437, 17 R488: the log's descriptors.
(Rests in part on log entries 83, 84, 85: the model's reading or choice.) -/
def Obligations.LogDescriptors : Prop :=
  ∀ (s : State) (d : Desc) (o : Obj),
    (s.admits opLogRead d o → s.dev.bulkOk d → bulkLen d % 16 = 0 → d.flag 22 0 →
      Answers (.logRead d) s fun t =>
        let sel := s.dev.log.recs.take (bulkLen d / 16)
        (∃ c, t.dev.done.getLast? = some c ∧ c.tag = d.tag ∧ c.status = .ok ∧
          c.result = mkRes [(8, 0, 16, sel.length), (10, 0, 16, (sel.head?.map fun r => r.seq.toNat).getD 0)] ∧
          (sel ≠ [] → c.bulk = [(bulkAddr d, sel.flatMap fun r => r.bytes false)])) ∧
        t.dev.log.recs.map (·.seq) = s.dev.log.recs.map (·.seq) ∧ s.onlyDev t) ∧
    (s.admits opLogConfig d o → d.bits 8 0 3 ≤ 4 →
      Answers (.logConfig d) s fun t => t.okd d ∧ t.dev.log.lqMin = d.bits 8 0 3 ∧ t.dev.log.recs = s.dev.log.recs ∧ s.onlyDev t) ∧
    (s.admits opLogConfig d o → 4 < d.bits 8 0 3 → Answers (.logConfig d) s fun t => t.answered d .range 0 ∧ t.dev.log = s.dev.log) ∧
    (∀ e, s.admits opLogAck d o → s.dev.errOf d.handle = some e → s.dev.ownAck o e = false →
      Answers (.logAck d) s fun t => t.answered d .ok 1 ∧ t.dev.handling d.handle = false ∧ t.dev.log.recs = s.dev.log.recs ∧ s.onlyDev t) ∧
    (s.admits opLogAck d o → s.dev.errOf d.handle = none →
      Answers (.logAck d) s fun t => t.answered d .conflict 0 ∧ t.dev.log = s.dev.log) ∧
    (s.admits opLogStatsGet d o → d.bits 8 0 3 ≤ 4 →
      Answers (.logStatsGet d) s fun t =>
        t.answered d .ok (mkRes [(8, 0, 32, (s.dev.log.drops[ix 4 (d.bits 8 0 3)]).toNat), (12, 0, 8, (s.dev.log.wrap[ix 4 (d.bits 8 0 3)]).toNat)]) ∧
        t.dev.log = s.dev.log ∧ s.onlyDev t) ∧
    (s.admits opLogMark d o → s.dev.log.recs.length < 4096 →
      Answers (.logMark d) s fun t =>
        t.answered d .ok (mkRes [(8, 0, 16, s.dev.log.next.toNat)]) ∧ t.dev.log.next = s.dev.log.next + 1 ∧
        (∃ r, t.dev.log.recs = s.dev.log.recs ++ [r] ∧ r.code = LG_HOST_MARK ∧ r.sev = .info ∧ r.link = .none ∧ r.src = 1 ∧
          r.seq = s.dev.log.next ∧ r.ref = 0 ∧ r.arg = d.word 8 ∧ r.time = s.dev.tick) ∧ s.onlyDev t) ∧
    (s.admits opDiagEngineGet d o →
      Answers (.diagEngineGet d) s fun t => (∃ r, t.answered d .ok r) ∧ t.dev.log = s.dev.log ∧ t.dev.power = s.dev.power ∧ s.onlyDev t)

/-- 17 R483, R486, R489, R491: the log's own moments.
(Rests in part on log entries 80, 81, 82: the model's reading or choice.) -/
def Obligations.LogMoments : Prop :=
  ∀ s : State,
    (∀ q : BitVec 16, (s.dev.log.recs.countP fun r => r.seq == q && r.open_) ≤ 1 → Answers (.coalesceWindowClose q) s fun t =>
      (t.dev.log.recs.all fun r => r.seq != q || !r.open_) ∧ t.dev.log.recs.map (·.seq) = s.dev.log.recs.map (·.seq) ∧ s.onlyDev t) ∧
    (s.dev.held 56 = false → s.dev.asleep = false → s.dev.log.flood = false → 3072 < s.dev.log.fill → s.dev.log.outCnt < s.dev.log.inCnt →
      Answers .logLoadEval s fun t =>
        t.dev.log.flood ∧ t.dev.log.inCnt = 0 ∧ t.dev.log.outCnt = 0 ∧
        ∃ e, t.dev.raised.getLast? = some e ∧ e.code = EV_LOG_FLOOD ∧ e.arg.getLsbD 0) ∧
    (s.dev.held 56 = false → s.dev.asleep = false → s.dev.log.flood → s.dev.log.fill < 2048 →
      Answers .logLoadEval s fun t =>
        t.dev.log.flood = false ∧ t.dev.log.inCnt = 0 ∧ t.dev.log.outCnt = 0 ∧
        ∃ e, t.dev.raised.getLast? = some e ∧ e.code = EV_LOG_FLOOD ∧ e.arg.getLsbD 0 = false) ∧
    (s.dev.held 56 = false → s.dev.asleep = false → s.dev.log.flood = false → s.dev.log.fill ≤ 3072 →
      Answers .logLoadEval s fun t => t.dev.log = { s.dev.log with inCnt := 0, outCnt := 0 } ∧ t.dev.raised = s.dev.raised) ∧
    (s.dev.held 56 = false → s.dev.log.flood → s.dev.log.recs.length < 4096 →
      Answers .summaryTimer s fun t =>
        t.dev.log.supTrace = 0 ∧ t.dev.log.supInfo = 0 ∧
        ∃ r, t.dev.log.recs.getLast? = some r ∧ r.code = LG_LOG_SUMMARY ∧ r.sev = .warn ∧ r.link = .summary ∧ r.src = 56 ∧ r.ref = 0 ∧
          r.arg = mkWord [(0, 16, s.dev.log.supTrace), (16, 16, s.dev.log.supInfo)]) ∧
    (∀ (src : Word) (e : ErrState), s.dev.errOf src = some e → e.cls = .warn → warnEndsItself.contains e.code = false →
      Answers (.warnQuietExpiry src) s fun t => t.dev.handling src = false ∧ t.dev.log.recs = s.dev.log.recs) ∧
    (∀ (src : Word) (e : ErrState), s.dev.errOf src = some e → e.cls ≠ .warn → Answers (.warnQuietExpiry src) s fun t => t = s)

/-! ## The NV store -/

/-- 14 R438, 18 R501, R502, R503, R504, R506, R510, R512, 12 R364: the NV store's descriptors and the end of a write, which leaves a valid
bank, or a key in both copies of the key area, of which start-up rebuilds one from the other; 02 R37, R75: a bulk-data read that fails completes its descriptor, the opcode takes no action, and AER reports it.
(Rests in part on log entries 90, 91, 95, 248, 249: the model's reading or choice.) -/
def Obligations.NvStore : Prop :=
  (∀ (s : State) (d : Desc) (o : Obj),
    (s.admits opNvConfigWrite d o → s.dev.bulkOk d → 16 ≤ bulkLen d → bulkLen d ≤ 65472 →
      Answers (.nvConfigWrite d) s fun t => t.reading 0xF0 d ∧ t.dev.nv = s.dev.nv ∧ s.onlyDev t) ∧
    (∀ (qs : List QDesc) (image : List Byte), s.dev.bulk = { op := 0xF0, d } :: qs → objOf d.handle = some o → s.qspi = false →
      image.length = bulkLen d → imageOk s.dev.regs.lock image → s.dev.nv.busy = none → s.dev.nvRuns →
      Answers (.bulkReadCompletion .ok image) s fun t =>
        t.dev.nv.busy = some (.config d s.dev.nv.bankTarget.1 image) ∧ (t.dev.nv.banks[s.dev.nv.bankTarget.1]).valid = false ∧
        t.waiting 0xF0 d ∧ t.dev.bulk = qs) ∧
    (∀ (k : Fin 2) (image : List Byte), s.dev.nv.busy = some (.config d k image) → s.dev.nvRuns → s.dev.nv.keyQ = [] →
      (∀ q ∈ s.dev.waits, q.ghost = false) →
      Answers (.nvWriteComplete true) s fun t =>
        (t.dev.nv.banks[k]).seq = s.dev.nv.bankTarget.2 ∧ (t.dev.nv.banks[k]).image = image ∧
        (t.dev.nv.banks[k]).commits = (s.dev.nv.banks[k]).commits + 1 ∧ t.dev.nv.busy = none ∧
        (16 ≤ image.length → image.length ≤ 65472 → (t.dev.nv.banks[k]).valid) ∧
        t.answered d .ok (mkRes [(8, 0, 32, s.dev.nv.bankTarget.2.toNat), (12, 0, 8, k.val)])) ∧
    (∀ (k : Fin 2) (image : List Byte), s.dev.nv.busy = some (.config d k image) → s.dev.nvRuns → s.dev.nv.keyQ = [] →
      (∀ q ∈ s.dev.waits, q.ghost = false) →
      Answers (.nvWriteComplete false) s fun t =>
        (t.dev.nv.banks[k]).valid = false ∧ (∀ j : Fin 2, j ≠ k → t.dev.nv.banks[j] = s.dev.nv.banks[j]) ∧ t.dev.nv.busy = none ∧
        t.answered d .nvFail 0) ∧
    (s.admits opNvConfigRead d o → s.dev.bulkOk d → (s.dev.nv.banks[ix 1 (d.bits 20 0 1)]).valid →
      Answers (.nvConfigRead d) s fun t =>
        let b := s.dev.nv.banks[ix 1 (d.bits 20 0 1)]
        (∃ c, t.dev.done.getLast? = some c ∧ c.tag = d.tag ∧ c.status = .ok ∧
          c.result = mkRes [(8, 0, 32, b.image.length), (12, 0, 32, b.seq.toNat)] ∧ c.bulk = [(bulkAddr d, b.image.take (bulkLen d))]) ∧
        t.dev.nv = s.dev.nv ∧ s.onlyDev t) ∧
    (s.admits opNvStatusGet d o →
      Answers (.nvStatusGet d) s fun t => (∃ r, t.answered d .ok r) ∧ t.dev.nv = s.dev.nv ∧ s.onlyDev t) ∧
    (s.admits opFwWrite d o → s.dev.bulkOk d → d.bits 20 0 32 % 16 = 0 → d.bits 20 0 32 + bulkLen d ≤ 163840 →
      (s.dev.nv.fwOpen ∨ d.bits 20 0 32 = 0) → s.dev.nv.busy = none →
      Answers (.fwWrite d) s fun t => t.reading 0xF3 d ∧ t.dev.nv = s.dev.nv ∧ s.onlyDev t) ∧
    (s.admits opFwWrite d o → s.dev.nv.fwOpen = false → d.bits 20 0 32 ≠ 0 →
      Answers (.fwWrite d) s fun t => t.answered d .range 0 ∧ t.dev.nv = s.dev.nv) ∧
    (s.admits opNvInvalidate d o → d.word 8 = 0x5A5AA5A5 → s.dev.nv.busy = none → s.dev.nvRuns →
      Answers (.nvInvalidate d) s fun t => t.dev.nv.busy = some (.invalidate d) ∧ t.waiting 0xF4 d ∧ s.onlyDev t) ∧
    (s.dev.nv.busy = some (.invalidate d) → s.dev.nvRuns →
      Answers (.nvWriteComplete true) s fun t => (t.dev.nv.banks[0]).valid = false ∧ (t.dev.nv.banks[1]).valid = false ∧ t.dev.nv.bank = 3) ∧
    (s.admits opValeKeySet d o → s.dev.nv.busy = none → s.dev.nvRuns → s.dev.nv.keyFits d →
      Answers (.valeKeySet d) s fun t =>
        t.dev.nv.busy = some (.key d (keyArgs d).1 (keyArgs d).2) ∧ t.waiting 0x95 d ∧ s.onlyDev t) ∧
    (∀ (uid : DWord) (key : Option (BitVec 128)) (i : Fin 64) (e : KeyEntry), s.dev.nv.busy = some (.key d uid key) → s.dev.nvRuns →
      s.dev.nv.keyQ = [] → s.dev.nv.keyWrite uid key = some (i, e) →
      Answers (.nvWriteComplete true) s fun t =>
        e = keyEntry uid key ∧ t.dev.nv.keyA = s.dev.nv.keyA.set i (some e) ∧ t.dev.nv.keyB = s.dev.nv.keyB.set i (some e) ∧
        t.dev.nv.busy = none ∧ s.onlyDev t)) ∧
  (∀ (n : Nv) (i : Fin 64) (e : KeyEntry), e.good →
    (n.keyB[i] = some e → goodEntry n.keyA[i] = none → n.checkKeys.keyA[i] = some e ∧ n.checkKeys.keyB[i] = some e) ∧
    (n.keyA[i] = some e → goodEntry n.keyB[i] = none → n.checkKeys.keyA[i] = some e ∧ n.checkKeys.keyB[i] = some e)) ∧
  (∀ (s : State) (q : QDesc) (qs : List QDesc), s.dev.bulk = q :: qs → q.ghost = false → s.qspi = false →
    (∀ (e : DmaEnd) (bs : List Byte), e ≠ .ok →
      Answers (.bulkReadCompletion e bs) s fun t =>
        t.answered q.d .peerError 0 ∧ t.dev.bulk = qs ∧ t.dev.nv = s.dev.nv ∧ t.mem = s.mem ∧
        t.ring = { s.ring with aer := t.ring.aer } ∧ t.ring.aer.unc = s.ring.aer.unc ||| (1#32 <<< aerBit (some e))) ∧
    Answers (.pcieCompletionTimeout none) s fun t =>
      t.answered q.d .timeout 0 ∧ t.dev.bulk = qs ∧ t.dev.nv = s.dev.nv ∧ t.mem = s.mem ∧
      t.ring = { s.ring with aer := t.ring.aer } ∧ t.ring.aer.unc = s.ring.aer.unc ||| (1#32 <<< aerBit none))

/-! ## Hollow -/

/-- A calendar whose fields form a date and a time (15 R442). -/
def Cal.Valid (c : Cal) : Prop :=
  c.second.toNat ≤ 59 ∧ c.minute.toNat ≤ 59 ∧ c.hour.toNat ≤ 23 ∧ c.weekday.toNat ≤ 6 ∧ 1 ≤ c.month.toNat ∧ c.month.toNat ≤ 12 ∧
    1 ≤ c.day.toNat ∧ c.day.toNat ≤ monthLength c.month.toNat c.year.toNat ∧ c.year.toNat ≤ 99

/-- 14 R434, 15 R446, R447, R449, R450, R451: the opcodes of class 0xC, the interface being up; behind a HOLLOW_TIME_SET of its own SQ
that is not committed a descriptor waits.
(Rests in part on log entries 112, 254: the model's reading or choice.) -/
def Obligations.HollowDescriptors : Prop :=
  ∀ (s : State) (d : Desc) (o : Obj), s.dev.hollow.lockout = false →
    (s.dev.hollow.awaits d.sq →
      ∀ c ∈ [Instr.hollowTimeGet d, .hollowCalGet d, .hollowAlarmSet d, .hollowWakeSet d, .hollowTrim d, .hollowBackupRead d,
             .hollowBackupWrite d, .hollowPwron d, .hollowOsfClear d], Answers c s fun t => t = s) ∧
    (s.admits opHollowTimeSet d o → s.dev.hollow.staged.isSome ∨ s.dev.hollow.stageQ ≠ [] →
      Answers (.hollowTimeSet d) s fun t =>
        t.dev.hollow = { s.dev.hollow with stageQ := s.dev.hollow.stageQ ++ [d] } ∧ t.waiting 0xC2 d ∧ t.dev.done = s.dev.done ∧ s.onlyDev t) ∧
    (s.dev.hollow.awaits d.sq = false →
    (s.admits opHollowTimeGet d o →
      Answers (.hollowTimeGet d) s fun t =>
        t.answered d .ok (mkRes [(8, 0, 48, s.dev.hollow.cnt.toNat), (14, 0, 1, s.dev.hollow.osf.toNat),
          (14, 1, 1, s.dev.hollow.staged.isSome.toNat)]) ∧ t.dev.hollow = s.dev.hollow) ∧
    (s.admits opHollowCalGet d o →
      Answers (.hollowCalGet d) s fun t =>
        let c := s.dev.hollow.cal
        t.answered d .ok (mkRes [(8, 0, 8, c.second.toNat), (9, 0, 8, c.minute.toNat), (10, 0, 8, c.hour.toNat), (11, 0, 8, c.weekday.toNat),
          (12, 0, 8, c.day.toNat), (13, 0, 8, c.month.toNat), (14, 0, 8, c.year.toNat), (15, 0, 1, s.dev.hollow.osf.toNat),
          (15, 1, 1, s.dev.hollow.staged.isSome.toNat)]) ∧
        t.dev.hollow = s.dev.hollow) ∧
    (s.admits opHollowTimeSet d o → s.dev.hollow.staged = none → s.dev.hollow.stageQ = [] → timeSetBad d = false →
      Answers (.hollowTimeSet d) s fun t =>
        t.dev.hollow = { s.dev.hollow with staged := some (timeSetValues d) } ∧ t.waiting 0xC2 d ∧ s.onlyDev t) ∧
    (s.admits opHollowTimeSet d o → s.dev.hollow.staged = none → s.dev.hollow.stageQ = [] → timeSetBad d → Answers (.hollowTimeSet d) s fun t => t.answered d .range 0 ∧ t.dev.hollow = s.dev.hollow) ∧
    (s.admits opHollowAlarmSet d o → s.dev.hollow.cnt.toNat < d.bits 12 0 48 →
      Answers (.hollowAlarmSet d) s fun t =>
        t.okd d ∧ ((t.dev.hollow.alarm (d.flag 8 0)).armed = d.flag 8 7) ∧
        (t.dev.hollow.alarm (d.flag 8 0)).value = BitVec.ofNat 48 (d.bits 12 0 48) ∧
        t.dev.hollow.alarm (!d.flag 8 0) = s.dev.hollow.alarm (!d.flag 8 0)) ∧
    (s.admits opHollowAlarmSet d o → d.bits 12 0 48 ≤ s.dev.hollow.cnt.toNat →
      Answers (.hollowAlarmSet d) s fun t => s.onlyAnswers t d .late 0) ∧
    (s.admits opHollowWakeSet d o → d.bits 8 0 5 ≤ 24 →
      Answers (.hollowWakeSet d) s fun t =>
        t.okd d ∧ t.dev.hollow = { s.dev.hollow with wakeEn := d.flag 8 7, wakeExp := d.bits 8 0 5, perDue := false }) ∧
    (s.admits opHollowTrim d o → -256 ≤ d.s16 8 → d.s16 8 ≤ 255 →
      Answers (.hollowTrim d) s fun t =>
        t.answered d .ok (mkRes [(8, 0, 16, wrapTo 16 s.dev.hollow.trimNext)]) ∧ t.dev.hollow = { s.dev.hollow with trimNext := d.s16 8 }) ∧
    (s.admits opHollowBackupRead d o → d.bits 8 0 6 % 8 = 0 →
      Answers (.hollowBackupRead d) s fun t =>
        t.answered d .ok (BitVec.ofNat 64 (ofBytesLE ((s.dev.hollow.backup.toList.drop (d.bits 8 0 6)).take 8))) ∧
        t.dev.hollow = s.dev.hollow) ∧
    (s.admits opHollowBackupWrite d o → d.bits 8 0 6 % 8 = 0 →
      Answers (.hollowBackupWrite d) s fun t =>
        t.okd d ∧ (t.dev.hollow.backup.toList.drop (d.bits 8 0 6)).take 8 = d.bytes 16 8 ∧
        ∀ i : Fin 64, i.val < d.bits 8 0 6 ∨ d.bits 8 0 6 + 8 ≤ i.val → t.dev.hollow.backup[i] = s.dev.hollow.backup[i]) ∧
    (s.admits opHollowPwron d o → d.flag 8 0 = false →
      Answers (.hollowPwron d) s fun t => t.okd d ∧ t.dev.hollow = { s.dev.hollow with release := none, pwron := true }) ∧
    (s.admits opHollowPwron d o → d.flag 8 0 →
      Answers (.hollowPwron d) s fun t => t.okd d ∧ t.dev.hollow = { s.dev.hollow with release := some (d.word 12) }) ∧
    (s.admits opHollowOsfClear d o →
      Answers (.hollowOsfClear d) s fun t =>
        t.answered d .ok (mkRes [(8, 0, 8, s.dev.hollow.osf.toNat)]) ∧
        t.dev.hollow = { s.dev.hollow with osf := s.dev.hollow.osf && !s.dev.hollow.counts }))

/-- 15 R445: the first read of a group freezes all four registers, reads of a freeze return it, the last read of the group that opened
it ends it, and so do 2 ms; without a freeze a group's last register reads the live value with FRZ 0; the descriptors that read the
time neither open nor end a freeze. 15 R442: the calendar rolls from one valid date to the next. -/
def Obligations.HollowReads : Prop :=
  (∀ s : State, s.reach → s.dev.hollowUp →
    let h := s.dev.hollow
    (h.freeze = none →
      (Answers .hollowCntLoRead s fun t => t.ring.rdata = bytesLE 4 (h.cnt.toNat % 2 ^ 32) ∧
        t.dev.hollow = { h with freeze := some { byCal := false, cnt := h.cnt, cal := h.cal } }) ∧
      (Answers .hollowCal0Read s fun t => t.ring.rdata = bytesLE 4 (cal0Word h.cal).toNat ∧
        t.dev.hollow = { h with freeze := some { byCal := true, cnt := h.cnt, cal := h.cal } }) ∧
      (Answers .hollowCntHiRead s fun t => t.ring.rdata = bytesLE 4 (h.cnt.toNat / 2 ^ 32) ∧ t.dev.hollow = h) ∧
      (Answers .hollowCal1Read s fun t => t.ring.rdata = bytesLE 4 (cal1Word h.cal false).toNat ∧ t.dev.hollow = h)) ∧
    (∀ z : Freeze, h.freeze = some z →
      (Answers .hollowCntLoRead s fun t => t.ring.rdata = bytesLE 4 (z.cnt.toNat % 2 ^ 32) ∧ t.dev.hollow = h) ∧
      (Answers .hollowCal0Read s fun t => t.ring.rdata = bytesLE 4 (cal0Word z.cal).toNat ∧ t.dev.hollow = h) ∧
      (Answers .hollowCntHiRead s fun t => t.ring.rdata = bytesLE 4 (z.cnt.toNat / 2 ^ 32 + 2 ^ 31) ∧
        (t.dev.hollow = if z.byCal then h else { h with freeze := none })) ∧
      (Answers .hollowCal1Read s fun t => t.ring.rdata = bytesLE 4 (cal1Word z.cal true).toNat ∧
        (t.dev.hollow = if z.byCal then { h with freeze := none } else h)))) ∧
  (∀ s : State, Answers .freezeExpiry s fun t => t.dev.hollow = { s.dev.hollow with freeze := none } ∧ s.onlyDev t) ∧
  (∀ (s : State) (d : Desc), ∀ c ∈ [Instr.hollowTimeGet d, .hollowCalGet d], Answers c s fun t => t.dev.hollow = s.dev.hollow) ∧
  (∀ s : State, s.dev.hollow.secDue → Cal.Valid s.dev.hollow.cal →
      Answers .calendarSecond s fun t =>
        t.dev.hollow.cal = s.dev.hollow.cal.second_ ∧ Cal.Valid t.dev.hollow.cal ∧ t.dev.hollow.secDue = false ∧
        t.dev.hollow.pre = s.dev.hollow.pre ∧ t.dev.hollow.cnt = s.dev.hollow.cnt) ∧
  (∀ s : State, s.dev.hollow.secDue = false → Answers .calendarSecond s fun t => t = s) ∧
  (∀ c : Cal, c.second = 59 → c.minute = 59 → c.hour = 23 → c.day = 0 → c.second_.day = 1 ∧ c.second_.month = c.month ∧ c.second_.year = c.year) ∧
  (∀ c : Cal, c.second = 59 → c.minute = 59 → c.hour = 23 → c.month = 0 → c.day = 31 → c.second_.month = 1 ∧ c.second_.year = c.year) ∧
  (∀ c : Cal, c.second = 59 → c.minute = 59 → c.hour = 23 → 13 ≤ c.month.toNat → c.day = 31 → c.year.toNat < 99 →
      c.second_.month = 1 ∧ c.second_.year = c.year + 1) ∧
  (∀ c : Cal, c.second = 59 → c.minute = 59 → c.hour = 23 → c.weekday = 7 → c.second_.weekday = 0)

/-- 15 R446 to R449, R451, R452, R453: Hollow's moments.
(Rests in part on log entries 110, 111, 115, 240, 254: the model's reading or choice.) -/
def Obligations.HollowMoments : Prop :=
  ∀ s : State,
    (∀ g : Staged, s.dev.hollow.staged = some g → s.dev.hollow.stageQ = [] → s.dev.hollow.committed = [] → s.dev.hollow.alarm0.armed = false →
      s.dev.hollow.alarm1.armed = false → (∀ q ∈ s.dev.waits, q.ghost = false) → { op := 0xC2, d := g.d : QDesc } ∈ s.dev.waits →
      Answers .stagedCommit s fun t =>
        t.dev.hollow.staged = none ∧ (∀ c, g.cnt = some c → t.dev.hollow.cnt = c) ∧
        (∀ c, g.cal = some c → t.dev.hollow.cal = c ∧ t.dev.hollow.pre = 0) ∧ (g.cal = none → t.dev.hollow.cal = s.dev.hollow.cal) ∧
        t.answered g.d .ok (mkRes [(8, 0, 48, s.dev.hollow.cnt.toNat)])) ∧
    (∀ a : Fin 2, (s.dev.hollow.alarm (a.val == 1)).armed → (s.dev.hollow.alarm (a.val == 1)).due →
      (a = 1 → s.dev.hollow.alarm0.due = false) → s.dev.power.sleep = .none → s.dev.power.vmainHold = false → s.dev.hollowUp →
      Answers (.alarmFire a) s fun t =>
        (t.dev.hollow.alarm (a.val == 1)).armed = false ∧ (t.dev.hollow.alarm (a.val == 1)).hit ∧ t.dev.hollow.cnt = s.dev.hollow.cnt ∧
        ∃ e, t.dev.raised.getLast? = some e ∧ e.code = EV_HOLLOW_ALARM ∧ e.arg = BitVec.ofNat 32 a.val) ∧
    (∀ a : Fin 2, (s.dev.hollow.alarm (a.val == 1)).due = false → Answers (.alarmFire a) s fun t => t = s) ∧
    (s.dev.hollow.wakeEn → s.dev.hollow.perDue → s.dev.hollow.alarm0.due = false → s.dev.hollow.alarm1.due = false → s.dev.power.sleep = .none → s.dev.power.vmainHold = false → s.dev.hollowUp →
      Answers .periodicWake s fun t =>
        ∃ e, t.dev.raised.getLast? = some e ∧ e.code = EV_HOLLOW_WAKE ∧ e.arg = BitVec.ofNat 32 (s.dev.hollow.wakeExp % 32)) ∧
    (∀ w, s.dev.hollow.release = some w → s.dev.hollow.waking = false →
      Answers .pwronRelease s fun t => t.dev.hollow.pwron = false ∧ t.dev.hollow.release = none) ∧
    (Answers .oscillatorStop s fun t => t.dev.hollow.osf ∧ t.dev.hollow.oscRun = false ∧ t.dev.hollow.cnt = s.dev.hollow.cnt) ∧
    (Answers .oscillatorRestart s fun t => t.dev.hollow = { s.dev.hollow with oscRun := true }) ∧
    (s.dev.hollow.vmainBad = false → Answers .vmainFail s fun t =>
      t.dev.hollow.vmainBad ∧ t.dev.hollow.lockout ∧ t.dev.hollow.lockSeen ∧ t.dev.hollow.cnt = s.dev.hollow.cnt ∧
      t.dev.hollow.backup = s.dev.hollow.backup ∧ t.dev.power.vmainHold ∧ t.ring = Rings.after t.dev.regs.attach) ∧
    (s.dev.hollow.vmainBad → Answers .vhollowBor s fun t =>
      t.dev.hollow.cnt = 0 ∧ t.dev.hollow.cal = {} ∧ t.dev.hollow.pre = 0 ∧ t.dev.hollow.trim = 0 ∧ t.dev.hollow.alarm0.armed = false ∧
      t.dev.hollow.alarm1.armed = false ∧ t.dev.hollow.wakeEn = false ∧ t.dev.hollow.pwron ∧ t.dev.hollow.osf ∧
      (∀ i : Fin 64, t.dev.hollow.backup[i] = 0) ∧ s.onlyDev t) ∧
    (s.dev.hollow.inReset → Answers .vbatReturn s fun t => t.dev.hollow = { s.dev.hollow with inReset := false }) ∧
    (s.dev.hollow.vmainBad → s.dev.regs.porstN = false → Answers .vmainQualified s fun t =>
      t.dev.hollow.vmainBad = false ∧ t.dev.power.vmainHold ∧ t.dev.regs.ready = false) ∧
    (s.dev.hollow.vmainBad → s.dev.regs.porstN → Answers .vmainQualified s fun t =>
      t.dev.hollow.vmainBad = false ∧ t.dev.hollow.lockout = false ∧ t.dev.hollow.cnt = s.dev.hollow.cnt ∧
      t.dev.hollow.backup = s.dev.hollow.backup ∧ t.dev.power.vmainHold = false ∧ t.dev.regs.ready)

/-! ## Descriptors -/

/-- The rows of the table that are descriptors, with what the checks of 01 R32 know of them. -/
def DescRow (r : (Desc → Instr) × OpInfo) : Prop :=
  r ∈
  [(.sysNop, opSysNop), (.sysInfoGet, opSysInfoGet), (.sysCountersGet, opSysCountersGet), (.tbConfig, opTbConfig),
   (.tbStatusGet, opTbStatusGet), (.tbEventSet, opTbEventSet), (.tbEventClear, opTbEventClear), (.adcConfig, opAdcConfig),
   (.adcSeqWrite, opAdcSeqWrite), (.adcRun, opAdcRun), (.adcUrgent, opAdcUrgent), (.adcRead, opAdcRead), (.adcCal, opAdcCal),
   (.loopBind, opLoopBind), (.loopScale, opLoopScale), (.loopGains, opLoopGains), (.loopLimits, opLoopLimits),
   (.loopProfile, opLoopProfile), (.loopSupervise, opLoopSupervise), (.loopSet, opLoopSet), (.loopCtrl, opLoopCtrl),
   (.loopStatusGet, opLoopStatusGet), (.zoneConfig, opZoneConfig), (.zoneSetpoints, opZoneSetpoints), (.zoneInput, opZoneInput),
   (.zoneOutput, opZoneOutput), (.zoneOverride, opZoneOverride), (.zoneStatusGet, opZoneStatusGet), (.schedWrite, opSchedWrite),
   (.schedExcept, opSchedExcept), (.pwmChConfig, opPwmChConfig), (.pwmSet, opPwmSet), (.pwmField, opPwmField),
   (.pwmCommit, opPwmCommit), (.pwmCtrl, opPwmCtrl), (.pwmTripConfig, opPwmTripConfig), (.pwmTripClear, opPwmTripClear),
   (.pwmStatusGet, opPwmStatusGet), (.valveConfig, opValveConfig), (.valveProfile, opValveProfile), (.valveCmd, opValveCmd),
   (.valvePropSet, opValvePropSet), (.saddleConfig, opSaddleConfig), (.valveAck, opValveAck), (.valveStatusGet, opValveStatusGet),
   (.fanConfig, opFanConfig), (.fanBands, opFanBands), (.fanSet, opFanSet), (.fanCtrl, opFanCtrl), (.fanStatusGet, opFanStatusGet),
   (.damperConfig, opDamperConfig), (.damperSet, opDamperSet), (.damperCtrl, opDamperCtrl), (.damperCal, opDamperCal),
   (.damperStatusGet, opDamperStatusGet), (.panelConfig, opPanelConfig), (.panelLadder, opPanelLadder), (.panelLed, opPanelLed),
   (.encConfig, opEncConfig), (.encRead, opEncRead), (.panelStatusGet, opPanelStatusGet), (.valePortConfig, opValePortConfig),
   (.valePortCtrl, opValePortCtrl), (.valePortStatusGet, opValePortStatusGet), (.valeConvConfig, opValeConvConfig),
   (.valeDiscover, opValeDiscover), (.valeKeySet, opValeKeySet), (.valeRead, opValeRead), (.valeWrite, opValeWrite),
   (.valeBulkOpen, opValeBulkOpen), (.valeBulkAbort, opValeBulkAbort), (.valeSatCtrl, opValeSatCtrl),
   (.valeSatStatusGet, opValeSatStatusGet), (.valeItemWatch, opValeItemWatch), (.bbConfig, opBbConfig), (.bbMstpConfig, opBbMstpConfig),
   (.bbCtrl, opBbCtrl), (.bbSend, opBbSend), (.bbRecv, opBbRecv), (.bbSegSend, opBbSegSend), (.bbPollWrite, opBbPollWrite),
   (.bbMbReq, opBbMbReq), (.bbSlaveImage, opBbSlaveImage), (.bbRead, opBbRead), (.bbStatusGet, opBbStatusGet), (.sbConfig, opSbConfig),
   (.sbPollWrite, opSbPollWrite), (.sbXfer, opSbXfer), (.sbCtrl, opSbCtrl), (.sbRead, opSbRead), (.sbStatusGet, opSbStatusGet),
   (.hollowTimeGet, opHollowTimeGet), (.hollowCalGet, opHollowCalGet), (.hollowTimeSet, opHollowTimeSet),
   (.hollowAlarmSet, opHollowAlarmSet), (.hollowWakeSet, opHollowWakeSet), (.hollowTrim, opHollowTrim),
   (.hollowBackupRead, opHollowBackupRead), (.hollowBackupWrite, opHollowBackupWrite), (.hollowPwron, opHollowPwron),
   (.hollowOsfClear, opHollowOsfClear), (.pwrState, opPwrState), (.pwrIdleConfig, opPwrIdleConfig), (.pwrWakeConfig, opPwrWakeConfig),
   (.pwrFreset, opPwrFreset), (.pwrWatchdog, opPwrWatchdog), (.pwrStatusGet, opPwrStatusGet), (.logRead, opLogRead),
   (.logConfig, opLogConfig), (.logAck, opLogAck), (.logStatsGet, opLogStatsGet), (.logMark, opLogMark),
   (.diagEngineGet, opDiagEngineGet), (.nvConfigWrite, opNvConfigWrite), (.nvConfigRead, opNvConfigRead), (.nvStatusGet, opNvStatusGet),
   (.fwWrite, opFwWrite), (.nvInvalidate, opNvInvalidate)]

/-- `d` has no place in the order of service of a building-bus port, which a BB_MB_REQ gives up when it is refused (13 R389). -/
def Dev.NoPlace (s : Dev) (d : Desc) : Prop := ∀ (p : Fin 8), ∀ w ∈ (s.bb p).work, w.holds d = false

/-- 01 R32: a descriptor that fails a check is answered with that check's status and has no effect; 02 R60: a
descriptor that stands behind another of its function waits for its turn.
(Rests in part on log entries 8, 9: the model's reading or choice.) -/
def Obligations.DescriptorChecks : Prop :=
  (∀ r, DescRow r → ∀ (s : State) (d : Desc), s.dev.hollow.awaits d.sq = false → s.dev.behind r.2.op d = false →
    (∀ q ∈ s.dev.fq, q.ghost = false) → s.dev.regs.recovery = false → (r.2.op = 0xA7 → Dev.NoPlace s.dev d) →
    (d.pay &&& ~~~ r.2.maskFor d ≠ 0 ∨ d.flags.extractLsb' 4 4 ≠ 0 → Answers (r.1 d) s fun t => s.onlyAnswers t d .range 0) ∧
    (d.pay &&& ~~~ r.2.maskFor d = 0 → d.flags.extractLsb' 4 4 = 0 → objOf d.handle = none →
      Answers (r.1 d) s fun t => s.onlyAnswers t d .badHandle 0) ∧
    ∀ o, d.pay &&& ~~~ r.2.maskFor d = 0 → d.flags.extractLsb' 4 4 = 0 → objOf d.handle = some o →
      (r.2.accepts.takes o = false → Answers (r.1 d) s fun t => s.onlyAnswers t d .badHandle 0) ∧
      (r.2.accepts.takes o → s.dev.held (r.2.funcOf o) → Answers (r.1 d) s fun t => s.onlyAnswers t d .inReset 0) ∧
      (r.2.accepts.takes o → s.dev.held (r.2.funcOf o) = false → r.2.needsEn → s.dev.loading = false →
        s.dev.enabled (r.2.funcOf o) = false → Answers (r.1 d) s fun t => s.onlyAnswers t d .disabled 0)) ∧
  (∀ r, DescRow r → ∀ (s : State) (d : Desc), s.dev.behind r.2.op d → (r.2.op = 0xA7 → Dev.NoPlace s.dev d) →
    Answers (r.1 d) s fun t => t = s)

/-! ## The timebase -/

/-- 03 R87, R89, R90, R549: TB_CONFIG.
(Rests in part on log entries 123, 124, 227: the model's reading or choice.) -/
def Obligations.TimebaseConfig : Prop :=
  ∀ (s : State) (d : Desc) (o : Obj), s.admits opTbConfig d o →
    ((d.bits 8 0 2 = 0 ∨ s.dev.enabled 2 ∨ s.dev.loading) → tbConfigOk d = false →
      Answers (.tbConfig d) s fun t => s.onlyAnswers t d .range 0) ∧
    (d.bits 8 0 2 = 1 ∨ d.bits 8 0 2 = 2 → s.dev.enabled 2 = false → s.dev.loading = false →
      Answers (.tbConfig d) s fun t => s.onlyAnswers t d .disabled 0) ∧
    (tbConfigOk d → d.bits 8 0 2 = 0 → s.dev.tb.mode ≠ 0 → s.dev.tb.state ≠ .off →
      Answers (.tbConfig d) s fun t =>
        t.okd d ∧ s.onlyDev t ∧ t.dev.tb.mode = 0 ∧ t.dev.tb.state = .off ∧ t.dev.tb.acc = 0 ∧ t.dev.tb.inc = 0 ∧ t.dev.tb.valid = false) ∧
    (tbConfigOk d → d.bits 8 0 2 = 1 → s.dev.tb.mode = 0 → s.dev.tb.state = .off → s.dev.tb.valid = false → s.dev.active 2 →
      Answers (.tbConfig d) s fun t =>
        t.okd d ∧ s.onlyDev t ∧ t.dev.tb.mode = 1 ∧ t.dev.tb.state = .acquire ∧ t.dev.tb.valid = false ∧ t.dev.tb.goods = 0 ∧
        t.dev.tb.lockCnt = d.bits 10 0 8 ∧ t.dev.tb.holdMax = d.bits 11 0 8 ∧ t.dev.tb.lockWin = d.bits 12 0 16 ∧
        t.dev.tb.captureWin = d.bits 14 0 16 ∧ t.dev.tb.comp = d.s32 16 ∧ t.dev.tb.cal = s.dev.tb.cal) ∧
    (tbConfigOk d → d.bits 8 0 2 = 2 → s.dev.tb.mode ≠ 2 → s.dev.tb.state ≠ .free → s.dev.active 2 →
      Answers (.tbConfig d) s fun t =>
        t.okd d ∧ s.onlyDev t ∧ t.dev.tb.mode = 2 ∧ t.dev.tb.state = .free ∧ t.dev.tb.valid ∧ t.dev.tb.acc = s.dev.tb.acc ∧
        t.dev.tb.inc = (if d.flag 8 2 then 42221247 else 35184372)) ∧
    (tbConfigOk d → d.bits 8 0 2 = 1 → s.dev.tb.mode = 2 → s.dev.tb.state = .free → s.dev.tb.valid → s.dev.active 2 →
      Answers (.tbConfig d) s fun t =>
        t.okd d ∧ t.dev.tb.state = .unlocked ∧ t.dev.tb.valid ∧ t.dev.tb.acc = s.dev.tb.acc ∧ t.dev.tb.inc = s.dev.tb.inc ∧
        t.dev.tb.unlocks = s.dev.tb.unlocks ∧ t.dev.tb.unlockSeen = s.dev.tb.unlockSeen ∧ t.dev.log = s.dev.log)

/-- 03 R91, R95, R96, R97: the calendar's descriptors and TB_STATUS_GET.
(Rests in part on log entry 125: the model's reading or choice.) -/
def Obligations.CalendarDescriptors : Prop :=
  ∀ (s : State) (d : Desc) (e : Fin 256),
    (s.admits opTbEventSet d (.angleEvent e) → subscriber (d.bits 12 0 7) →
      (d.bits 13 0 2 = 2 → s.dev.tb.late (BitVec.ofNat 16 (d.bits 16 0 16)) (d.word 8) = false) →
      Answers (.tbEventSet d) s fun t => t.okd d ∧ (t.dev.tb.cal[e]).en ∧ (t.dev.tb.cal[e]).angle = d.word 8) ∧
    (s.admits opTbEventSet d (.angleEvent e) → subscriber (d.bits 12 0 7) → (s.dev.tb.cal[e]).due = none →
      (d.bits 13 0 2 = 2 → s.dev.tb.late (BitVec.ofNat 16 (d.bits 16 0 16)) (d.word 8) = false) →
      Answers (.tbEventSet d) s fun t =>
        t.okd d ∧ ∃ w : Nat,
          let x : CalEntry :=
            { en := true, angle := d.word 8, func := d.bits 12 0 7, rep := d.bits 13 0 2, arg := BitVec.ofNat 8 (d.bits 14 0 8),
              div := d.bits 15 0 8, cycle := BitVec.ofNat 16 (d.bits 16 0 16), wait := w }
          s.becomes t { s.dev with tb := { s.dev.tb with cal := s.dev.tb.cal.set e.val x } } ∧
          (d.bits 13 0 2 = 3 → w ≤ d.bits 15 0 8 ∧
            ((s.dev.tb.cycle - BitVec.ofNat 16 (d.bits 16 0 16)).toNat + w) % (d.bits 15 0 8 + 1) = 0)) ∧
    (s.admits opTbEventSet d (.angleEvent e) → subscriber (d.bits 12 0 7) → d.bits 13 0 2 = 2 →
      s.dev.tb.late (BitVec.ofNat 16 (d.bits 16 0 16)) (d.word 8) → Answers (.tbEventSet d) s fun t => s.onlyAnswers t d .late 0) ∧
    (s.admits opTbEventSet d (.angleEvent e) → subscriber (d.bits 12 0 7) = false →
      Answers (.tbEventSet d) s fun t => s.onlyAnswers t d .range 0) ∧
    (s.admits opTbEventClear d (.angleEvent e) → Answers (.tbEventClear d) s fun t => t.okd d ∧ (t.dev.tb.cal[e]).en = false) ∧
    (s.admits opTbEventClear d (.angleEvent e) → (s.dev.tb.cal[e]).due = none →
      Answers (.tbEventClear d) s fun t =>
        t.okd d ∧ (t.dev.tb.cal[e]).en = false ∧ (∀ k : Fin 256, k ≠ e → t.dev.tb.cal[k] = s.dev.tb.cal[k]) ∧
        s.becomes t { s.dev with tb := { s.dev.tb with cal := t.dev.tb.cal } }) ∧
    (∀ o, s.admits opTbStatusGet d o →
      Answers (.tbStatusGet d) s fun t =>
        s.onlyAnswers t d .ok (mkRes [(8, 0, 32, s.dev.tb.freq.toNat), (12, 0, 16, s.dev.tb.fine / 65536), (14, 0, 3, s.dev.tb.state.num),
          (14, 3, 1, s.dev.tb.valid.toNat), (14, 4, 1, s.dev.tb.slewing.toNat), (15, 0, 8, s.dev.tb.misses)]))

/-- 03 R79 to R81, R83 to R86, R93, R96, R98, R99, 11 R320: a tracking correction changes the rate by at most 2 % of INC and leaves it
between 45 and 65 Hz; crossings, judgements and firings, at most one for each passage, in their order, 4 on one TCLK; and a read of TB_ANGLE, which returns the fine angle and latches TB_CYCLE.
(Rests in part on log entries 120, 121, 122, 125, 126, 192, 193, 194, 228, 229: the model's reading or choice.) -/
def Obligations.TimebaseMoments : Prop :=
  (∀ (s : Dev) (err : Int) (relock : Bool) (per : Option Nat),
    let r := s.tbTrack err relock per
    (r.2 = none → (r.1.tb.rate : Int) - s.tb.inc ≤ (s.tb.inc : Int) / 50 ∧ (s.tb.inc : Int) - r.1.tb.rate ≤ (s.tb.inc : Int) / 50) ∧
    incMin ≤ r.1.tb.rate ∧ r.1.tb.rate ≤ incMax ∧ incMin ≤ r.1.tb.inc ∧ r.1.tb.inc ≤ incMax ∧
    (∀ top, r.2 = some top → r.1.tb.rangeErr ∧ r.1.tb.inc = (if top then incMax else incMin) ∧ r.1.tb.rate = r.1.tb.inc) ∧
    r.1.tb.acc = s.tb.acc ∧ r.1.tb.state = s.tb.state) ∧
  (∀ bw, bw ≤ 5 → 65536 < gainP bw * (2 ^ bw + 1) ∧ gainP bw * 2 ^ bw ≤ 65536 ∧ 0 < gainI bw ∧ 262144 * gainI bw ≤ gainP bw * gainP bw) ∧
  ((∀ s : State,
    (s.dev.tb.state = .acquire → s.dev.tb.goods = 0 → s.dev.tb.prevX = none →
      Answers .lineCrossing s fun t =>
        t = { s with dev := { s.dev with tb := { s.dev.tb with
          goods := 1, prevX := some s.dev.now, prevPer := none, pherr := BitVec.ofInt 16 (s.dev.tb.phase / 65536) } } }) ∧
    (∀ x, s.dev.tb.state = .acquire → s.dev.tb.goods = 1 → s.dev.tb.prevX = some x → s.dev.tb.prevPer = none →
      inRange (s.dev.now - x) →
      Answers .lineCrossing s fun t => t.dev.tb.goods = 2 ∧ t.dev.tb.p1 = some (s.dev.now - x) ∧ t.dev.tb.state = .acquire ∧ s.onlyDev t) ∧
    (∀ x q, s.dev.tb.state = .acquire → s.dev.tb.goods = 2 → s.dev.tb.prevX = some x → s.dev.tb.prevPer = some q → s.dev.tb.p1 = some q →
      inRange (s.dev.now - x) → within1 (s.dev.now - x) q → s.dev.tb.comp = 0 → s.dev.tb.filt = 0 →
      Answers .lineCrossing s fun t =>
        t.dev.tb.goods = 3 ∧ t.dev.tb.acc = 0 ∧ t.dev.tb.state = .acquire ∧ incMin ≤ t.dev.tb.inc ∧ t.dev.tb.inc ≤ incMax ∧ s.onlyDev t) ∧
    (∀ p, s.dev.tb.state = .acquire → 3 ≤ s.dev.tb.goods → s.dev.tb.judge s.dev.now = (false, p) →
      Answers .lineCrossing s fun t => t.dev.tb.lockRun = 0 ∧ t.dev.tb.inc = s.dev.tb.inc ∧ t.dev.tb.state = .acquire) ∧
    (s.dev.tb.state = .locked → s.dev.tb.xIn = 0 → s.dev.tb.xOut = 0 → s.dev.tb.next = none → s.dev.tb.valid →
      Answers .cycleJudgement s fun t =>
        t.dev.tb.state = .holdover ∧ t.dev.tb.misses = 1 ∧ t.dev.tb.inc = s.dev.tb.inc ∧ t.dev.tb.acc = s.dev.tb.acc ∧ t.dev.tb.valid ∧
        (∃ e ∈ t.dev.raised, e.code = EV_TB_STATE ∧ e.handle = hTb ∧ e.arg = 0x00010203) ∧ s.onlyDev t) ∧
    (s.dev.tb.state = .holdover → s.dev.tb.xIn = 0 → s.dev.tb.xOut = 0 → s.dev.tb.next = none → s.dev.tb.misses = s.dev.tb.holdMax →
      s.dev.held 2 = false → s.dev.handling hTb = false →
      Answers .cycleJudgement s fun t =>
        t.dev.tb.state = .unlocked ∧ t.dev.tb.misses = s.dev.tb.holdMax + 1 ∧ t.dev.tb.acc = s.dev.tb.acc ∧ t.dev.tb.unlockSeen ∧
        t.dev.tb.unlocks = s.dev.tb.unlocks + 1 ∧ (t.dev.tb.valid = (s.dev.tb.fallback != 2)) ∧
        (s.dev.tb.fallback = 0 → t.dev.tb.inc = s.dev.tb.inc) ∧
        (s.dev.tb.fallback = 1 → t.dev.tb.inc = if s.dev.tb.nom60 then 42221247 else 35184372) ∧
        ∃ e ∈ t.dev.log.errs, e.source = hTb ∧ e.cls = .fault ∧ e.code = LG_TB_UNLOCKED) ∧
    (s.dev.tb.state = .holdover → s.dev.tb.xIn = 1 → s.dev.tb.xOut = 0 → s.dev.tb.xErr = 0 → s.dev.tb.next = none →
      incMin ≤ s.dev.tb.inc → s.dev.tb.inc ≤ incMax →
      Answers .cycleJudgement s fun t =>
        t.dev.tb.state = .locked ∧ t.dev.tb.misses = 0 ∧ t.dev.tb.inc = s.dev.tb.inc ∧ t.dev.tb.acc = s.dev.tb.acc ∧
        t.dev.handling hTb = false) ∧
    (∀ e : Fin 256, s.dev.tb.fires e s.dev.now → (s.dev.tb.cal[e]).rep = 2 → s.dev.tb.valid →
      Answers (.calendarEntryFire e) s fun t =>
        (t.dev.tb.cal[e]).en = false ∧ (t.dev.tb.cal[e]).due = none ∧ ∀ k : Fin 256, k ≠ e → t.dev.tb.cal[k] = s.dev.tb.cal[k]) ∧
    (∀ (e : Fin 256) (k : Fin 16), s.dev.tb.fires e s.dev.now → (s.dev.tb.cal[e]).rep = 0 → s.dev.tb.valid →
      ((s.dev.tb.cal[e]).func = 13 ∨ (s.dev.tb.cal[e]).func = 14) → (s.dev.tb.cal[e]).arg.toNat = k.val →
      Answers (.calendarEntryFire e) s fun t =>
        t = { s with dev := { s.dev with tb := t.dev.tb, vports := t.dev.vports } } ∧
        t.dev.tb.cal[e] = { s.dev.tb.cal[e] with due := none } ∧ (∀ j : Fin 256, j ≠ e → t.dev.tb.cal[j] = s.dev.tb.cal[j]) ∧
        ∀ p : Fin 16, p.val = (if (s.dev.tb.cal[e]).func = 14 then 8 else 0) + k.val % 8 → (t.dev.vports[p]).slotOpen = decide (k.val < 8)) ∧
    (∀ e : Fin 256, s.dev.tb.fires e s.dev.now = false → Answers (.calendarEntryFire e) s fun t => t = s) ∧
    (∀ (e : Fin 256) (n : Fin 256) (x y : Nat), (s.dev.tb.cal[e]).due = some x → (s.dev.tb.cal[n]).due = some y →
      (y < x ∨ (y = x ∧ n < e)) → Answers (.calendarEntryFire e) s fun t => t = s) ∧
    (∀ e : Fin 256, s.dev.tb.fireAt = s.dev.now → 4 ≤ s.dev.tb.fireCnt → Answers (.calendarEntryFire e) s fun t => t = s)) ∧
  ((∀ (e : CalEntry) (a b : Word) (ca cb : BitVec 16) (now : Nat), e.en → e.due = none → e.rep = 0 → e.rest = false →
      ((e.move a b ca cb true now).due = if passes a b e.angle then some now else none)) ∧
    (∀ (e : CalEntry) (b : Word) (ca cb : BitVec 16) (now : Nat), e.en → e.due = none → e.rep = 0 → e.rest → e.angle ≠ b →
      (e.move e.angle b ca cb true now).due = some now ∧ (e.move e.angle b ca cb true now).rest = false) ∧
    (∀ (e : CalEntry) (a b : Word) (ca cb : BitVec 16) (valid : Bool) (now : Nat), e.en → ca ≠ cb →
      (e.move a b ca cb valid now).wait = (if e.wait = 0 then e.div else e.wait - 1)) ∧
    (∀ (e : CalEntry) (a b : Word) (ca cb : BitVec 16) (valid : Bool) (now : Nat), e.en = false → e.move a b ca cb valid now = e) ∧
    (∀ (e : CalEntry) (a b : Word) (ca cb : BitVec 16) (now : Nat), (e.move a b ca cb false now).due = e.due) ∧
    (∀ (a b c angle : Word), (b - a).toNat + (c - b).toNat < 2 ^ 32 → ¬ (passes a b angle ∧ passes b c angle))) ∧
  (∀ s : State, s.reach →
    Answers .tbAngleRead s fun t =>
      t.dev.tb.cycLatch = s.dev.tb.cycle ∧ t.ring.rdata = bytesLE 4 (s.dev.tb.fine % 2 ^ 32) ∧ t.dev.tb.acc = s.dev.tb.acc ∧ t.mem = s.mem))

/-! ## The converters -/

/-- 04 R104, R113, R122 to R127: the descriptors of class 0x2; R116, R117, R129: an urgent request in the post-delay
of a visit is accepted and runs, any other is dropped and counted.
(Rests in part on log entry 197: the model's reading or choice.) -/
def Obligations.ConverterDescriptors : Prop :=
  (∀ (s : State) (d : Desc) (f : Fin 92) (c : Fin 3), f.val = 3 + c.val →
    (s.admits opAdcConfig d (.function f) → d.bits 8 0 2 ≠ 3 →
      Answers (.adcConfig d) s fun t =>
        t.okd d ∧ s.becomes t { s.dev with convs := t.dev.convs } ∧ (t.dev.convs[c]).refsel = d.bits 8 0 2 ∧ (t.dev.convs[c]).last = d.bits 9 0 5 ∧
        ((s.dev.convs[c]).refsel ≠ d.bits 8 0 2 → (t.dev.convs[c]).refOk = false) ∧ (t.dev.convs[c]).refLost = (s.dev.convs[c]).refLost ∧
        (∀ k : Fin 3, k ≠ c → t.dev.convs[k] = s.dev.convs[k])) ∧
    (s.admits opAdcConfig d (.function f) → d.bits 8 0 2 = 3 → Answers (.adcConfig d) s fun t => s.onlyAnswers t d .range 0) ∧
    (s.admits opAdcSeqWrite d (.function f) → entryOk (c.val == 2) (BitVec.ofNat 128 (d.bits 16 0 128)) →
      Answers (.adcSeqWrite d) s fun t =>
        t.okd d ∧ s.becomes t { s.dev with convs := s.dev.convs.set c.val { s.dev.convs[c] with
          table := (s.dev.convs[c]).table.set (ix 31 (d.bits 8 0 5)).val (BitVec.ofNat 128 (d.bits 16 0 128)) } }) ∧
    (s.admits opAdcSeqWrite d (.function f) → entryOk (c.val == 2) (BitVec.ofNat 128 (d.bits 16 0 128)) = false →
      Answers (.adcSeqWrite d) s fun t => s.onlyAnswers t d .range 0) ∧
    (s.admits opAdcRun d (.function f) → d.bits 8 0 2 = 0 →
      Answers (.adcRun d) s fun t =>
        t.okd d ∧ s.onlyDev t ∧ (t.dev.convs[c]).run = false ∧ (t.dev.convs[c]).phase = .stopped ∧ (t.dev.convs[c]).urgent = none ∧
        (t.dev.convs[c]).table = (s.dev.convs[c]).table ∧ (t.dev.convs[c]).inputs = (s.dev.convs[c]).inputs ∧
        (t.dev.convs[c]).timeouts = (s.dev.convs[c]).timeouts ∧ (t.dev.convs[c]).released = (s.dev.convs[c]).released) ∧
    (s.admits opAdcRun d (.function f) → d.bits 8 0 2 = 1 → s.dev.active f.val → s.dev.faEco c = false → (s.dev.convs[c]).run = false →
      Answers (.adcRun d) s fun t =>
        t.okd d ∧ s.onlyDev t ∧ (t.dev.convs[c]).run ∧ (t.dev.convs[c]).entry = 0 ∧ (t.dev.convs[c]).cur = (s.dev.convs[c]).table[0] ∧
        (t.dev.convs[c]).phase ≠ .stopped ∧
        ∀ i : Fin 64, ((t.dev.convs[c]).inputs[i]).word = 0 ∧ ((t.dev.convs[c]).inputs[i]).count = ((s.dev.convs[c]).inputs[i]).count) ∧
    (s.admits opAdcRun d (.function f) → d.bits 8 0 2 = 1 → s.dev.active f.val → s.dev.inEco c = false →
      Answers (.adcRun d) s fun t => t.okd d ∧ s.onlyDev t ∧ (t.dev.convs[c]).run) ∧
    (s.admits opAdcRun d (.function f) → d.bits 8 0 2 = 2 → s.dev.enabled f.val → s.dev.inEco c = false →
      (s.dev.convWaits c → Answers (.adcRun d) s fun t => t.waiting 0x22 d ∧ (t.dev.convs[c]).run ∧ (t.dev.convs[c]).phase = .stopped) ∧
      (s.dev.convWaits c = false → Answers (.adcRun d) s fun t =>
        t.okd d ∧ (t.dev.convs[c]).run ∧ (t.dev.convs[c]).entry = 0 ∧ (t.dev.convs[c]).phase ≠ .stopped)) ∧
    (s.admits opAdcRun d (.function f) → d.bits 8 0 2 = 1 ∨ d.bits 8 0 2 = 2 → (s.dev.enabled f.val = false ∨ s.dev.inEco c) →
      s.dev.loading = false → Answers (.adcRun d) s fun t => s.onlyAnswers t d .disabled 0) ∧
    (∀ i : Fin 64, s.admits opAdcRead d (.convResult c i) →
      Answers (.adcRead d) s fun t =>
        s.onlyAnswers t d .ok (mkRes [(8, 0, 32, ((s.dev.convs[c]).inputs[i]).word.toNat), (12, 0, 32, ((s.dev.convs[c]).inputs[i]).count.toNat)])) ∧
    (∀ i : Fin 64, s.admits opAdcCal d (.convInput c i) → -8388608 ≤ d.s32 8 → d.s32 8 ≤ 8388607 → 0x20000000 ≤ d.bits 12 0 32 →
      d.bits 12 0 32 ≤ 0x7FFFFFFF →
      Answers (.adcCal d) s fun t =>
        t.answered d .ok (mkRes [(8, 0, 32, wrapTo 32 ((s.dev.convs[c]).inputs[i]).offset), (12, 0, 32, ((s.dev.convs[c]).inputs[i]).gain)]) ∧
        ((t.dev.convs[c]).inputs[i]).offset = d.s32 8 ∧ ((t.dev.convs[c]).inputs[i]).gain = d.bits 12 0 32 ∧
        ((t.dev.convs[c]).inputs[i]).word = ((s.dev.convs[c]).inputs[i]).word ∧
        (∀ j : Fin 64, j ≠ i → (t.dev.convs[c]).inputs[j] = (s.dev.convs[c]).inputs[j]) ∧ s.becomes t { s.dev with convs := t.dev.convs })) ∧
  (∀ (s : State) (d : Desc) (c : Fin 3) (i : Fin 64), s.admits opAdcUrgent d (.convInput c i) →
    let e : SeqEntry := BitVec.ofNat 128 (d.bits 8 0 128)
    entryOk (c.val == 2) e → e.input = i.val → e.rep = 0 → e.dtype = 0 → e.dly = 0 → (s.dev.convs[c]).run → s.dev.inEco c = false →
    ((s.dev.convs[c]).inPost → (s.dev.convs[c]).urgent = none →
      Answers (.adcUrgent d) s fun t =>
        t.waiting 0x23 d ∧ (∃ u, (t.dev.convs[c]).urgent = some u ∧ u.d = d ∧ u.entry = e) ∧ (t.dev.convs[c]).phase = (s.dev.convs[c]).phase ∧
        (t.dev.convs[c]).inputs = (s.dev.convs[c]).inputs ∧ t.dev.done = s.dev.done) ∧
    ((s.dev.convs[c]).inPost = false ∨ (s.dev.convs[c]).urgent ≠ none →
      Answers (.adcUrgent d) s fun t =>
        t.answered d .dropped 0 ∧ (t.dev.convs[c]).urgentDrop = (s.dev.convs[c]).urgentDrop + 1 ∧
        (t.dev.convs[c]).urgent = (s.dev.convs[c]).urgent))

/-- 04 R105 to R108, R111, R112, R114, R117 to R119: result words, with the causes in their order, and the converters' moments.
(Rests in part on log entries 129, 195, 196, 198, 236: the model's reading or choice.) -/
def Obligations.ConverterMoments : Prop :=
  ((∀ (g : Group) (e : SeqEntry), g.bad = none →
    (g.word e).getLsbD 31 ∧ bitsOf (g.word e).toNat 28 3 = 0 ∧ bitsOf (g.word e).toNat 24 4 = e.tag ∧
    bitsOf (g.word e).toNat 0 24 = wrapTo 24 (g.sum / 2 ^ e.shift)) ∧
  (∀ (g : Group) (e : SeqEntry) (k : Nat), g.bad = some k → k < 8 →
    (g.word e).getLsbD 31 = false ∧ bitsOf (g.word e).toNat 28 3 = k ∧ bitsOf (g.word e).toNat 24 4 = e.tag) ∧
  (∀ (j : Nat) (st urg : Bool), causeOf true j st urg = 4) ∧ (∀ st urg : Bool, causeOf false 3 st urg = 3 ∧ causeOf false 2 st urg = 2) ∧
  (causeOf false 0 true true = 5 ∧ causeOf false 0 true false = 1 ∧ ∀ urg, causeOf false 0 false urg = 0) ∧
  (∀ (pa : Bool) (x : ConvInput) (raw : Int),
    (if pa then -8388608 else 0) ≤ (calibrate pa x raw).1 ∧ (calibrate pa x raw).1 ≤ (if pa then 8388607 else 0xFFFFFF)) ∧
  (∀ (e : SeqEntry) (x : ConvInput) (raw : Int), x.offset = 0 → x.gain = 0x40000000 → 0 ≤ raw → raw ≤ 16382 → e.openChk = 0 →
    convSample false e x raw false = (raw * 1024, 0)) ∧
  (∀ (e : SeqEntry) (x : ConvInput) (raw : Int), x.offset = 0 → x.gain = 0x40000000 → -8388608 < raw → raw < 8388607 →
    convSample true e x raw false = (raw, 0))) ∧
  (∀ (s : State) (c : Fin 3),
    let v := s.dev.convs[c]
    (v.phase = .settle → Answers (.settleExpiry c) s fun t =>
      s.becomes t { s.dev with convs := t.dev.convs } ∧ t.dev.convs[c] = { v with phase := .convert } ∧
      ∀ k : Fin 3, k ≠ c → t.dev.convs[k] = s.dev.convs[k]) ∧
    (∀ raw : Int, v.phase = .convert → v.refOk → v.refMark = 0 → v.settling = 0 → v.parked = false → v.group = {} → v.cur.avg = 0 →
      v.cur.shift = 0 → v.cur.openChk = 0 → (v.inputs[ix 63 v.cur.input]).offset = 0 → (v.inputs[ix 63 v.cur.input]).gain = 0x40000000 →
      0 < raw → raw < 16383 →
      Answers (.endOfConversion c raw false) s fun t =>
        let x := (t.dev.convs[c]).inputs[ix 63 v.cur.input]
        x.count = (v.inputs[ix 63 v.cur.input]).count + 1 ∧
        x.word = mkWord [(31, 1, 1), (24, 4, v.cur.tag), (0, 24, if c = 2 then raw.toNat else 1024 * raw.toNat)] ∧
        (∀ j : Fin 64, j ≠ ix 63 v.cur.input → (t.dev.convs[c]).inputs[j] = v.inputs[j]) ∧ s.onlyDev t) ∧
    (∀ (raw : Int) (ov : Bool), v.phase = .convert → v.parked = false → v.group.n < v.cur.avg → 0 < v.wordsLeft →
      Answers (.endOfConversion c raw ov) s fun t =>
        (t.dev.convs[c]).phase = .convert ∧ (t.dev.convs[c]).wordsLeft = v.wordsLeft ∧
        (t.dev.convs[c]).prev = some (convSet (c.val == 2) v.cur) ∧ (t.dev.convs[c]).prevUrgent = false ∧
        (∀ j : Fin 64, ((t.dev.convs[c]).inputs[j]).word = (v.inputs[j]).word ∧ ((t.dev.convs[c]).inputs[j]).count = (v.inputs[j]).count)) ∧
    (∀ (u : Urgent) (raw : Int) (ov : Bool), v.urgent = some u → u.settle = false → u.entry.avg = 0 → u.entry.skip = false → c ≠ 2 →
      u.ended = false → u.group = {} → (∀ q ∈ s.dev.waits, q.ghost = false) →
      Answers (.urgentConversionEnd c raw ov) s fun t =>
        (t.dev.convs[c]).urgent = none ∧ (t.dev.convs[c]).phase = v.phase ∧ (t.dev.convs[c]).lateStart = v.lateStart ∧
        (∀ j : Fin 64, ((t.dev.convs[c]).inputs[j]).word = (v.inputs[j]).word) ∧ ∃ r, t.answered u.d .ok r) ∧
    (v.phase = .postDelay → v.urgent = none → Answers (.postDelayExpiry c) s fun t =>
      let n := if v.last ≤ v.entry then 0 else v.entry + 1
      (t.dev.convs[c]).entry = n ∧ (t.dev.convs[c]).cur = v.table[ix 31 n] ∧ (t.dev.convs[c]).wordsLeft = (v.table[ix 31 n]).rep + 1 ∧
      s.becomes t { s.dev with convs := t.dev.convs }) ∧
    (∀ u, v.phase = .postDelay → v.urgent = some u → u.ended = false → Answers (.postDelayExpiry c) s fun t =>
      t.dev.convs[c] = { v with urgent := some { u with ended := true } }) ∧
    (v.phase = .wait → v.urgent = none → Answers (.waitLimitExpiry c) s fun t =>
      (t.dev.convs[c]).timeouts = v.timeouts + 1 ∧ (t.dev.convs[c]).released = v.released ∧
      (t.dev.convs[c]).entry = (if v.last ≤ v.entry then 0 else v.entry + 1) ∧ (t.dev.convs[c]).phase ≠ .wait ∧ s.onlyDev t) ∧
    (v.refOk = false → s.dev.anaOff = false → Answers (.refOkRise c) s fun t =>
      (t.dev.convs[c]).refOk ∧ (t.dev.convs[c]).refLost = v.refLost ∧ s.onlyDev t ∧
      ∃ e ∈ t.dev.raised, e.code = EV_ADC_REF ∧ e.handle = hFunc (3 + c.val) ∧ e.arg = mkWord [(0, 1, 1), (2, 2, v.refsel)]) ∧
    (v.refOk → s.dev.held (3 + c.val) = false → s.dev.handling (hFunc (3 + c.val)) = false →
      Answers (.refLost c) s fun t =>
        (t.dev.convs[c]).refOk = false ∧ (t.dev.convs[c]).refLost ∧ s.onlyDev t ∧
        (∃ e ∈ t.dev.log.errs, e.source = hFunc (3 + c.val) ∧ e.cls = .fault ∧ e.code = LG_ADC_REF_LOST) ∧
        ∃ e, t.dev.raised.getLast? = some e ∧ e.code = EV_ADC_REF ∧ e.arg = mkWord [(1, 1, 1), (2, 2, v.refsel)]))

/-! ## The loops -/

/-- A change of loop `n` alone. -/
def Dev.withLoop (s : Dev) (n : Fin 144) (l : Loop) : Dev := { s with loops := s.loops.set n.val l }

/-- 05 R143, R147, R151, R155, R159 to R167: the descriptors of class 0x3. -/
def Obligations.LoopDescriptors : Prop :=
  ∀ (s : State) (d : Desc) (n : Fin 144),
    let l := s.dev.loops[n]
    (s.admits opLoopBind d (.loop n) → bindBad d = false → s.dev.isAttached n = false → l.state = .disabled →
      Answers (.loopBind d) s fun t =>
        t.okd d ∧ s.becomes t (Dev.withLoop s.dev n { l with
          bound := true, input := d.word 8, output := d.word 12, trig := d.bits 16 0 2, fast := d.flag 16 2, direct := d.flag 16 3,
          dsrc := d.flag 16 4, aw := d.flag 16 5, spSrc := d.bits 16 6 2, tag := d.bits 17 0 4, tagm := d.flag 17 4, eocDiv := d.bits 18 0 8,
          periodUs := d.bits 20 0 32, maxRate := d.bits 24 0 16, phase := d.bits 26 0 16 })) ∧
    (s.admits opLoopBind d (.loop n) → bindBad d = false → s.dev.isAttached n = false → l.state ≠ .disabled →
      Answers (.loopBind d) s fun t => s.onlyAnswers t d .busy 0) ∧
    (s.admits opLoopBind d (.loop n) → bindBad d → Answers (.loopBind d) s fun t => s.onlyAnswers t d .range 0) ∧
    (s.admits opLoopScale d (.loop n) →
      Answers (.loopScale d) s fun t =>
        t.okd d ∧ s.becomes t (Dev.withLoop s.dev n { l with inGain := d.s32 8, inOfs := d.s32 12, outGain := d.s32 16, outOfs := d.s32 20 })) ∧
    (s.admits opLoopGains d (.loop n) → 0 ≤ d.s32 8 → 0 ≤ d.s32 12 → 0 ≤ d.s32 16 → 0 ≤ d.s32 20 → 1 ≤ d.bits 28 0 8 → d.bits 28 0 8 ≤ 64 →
      (d.s32 8 = 0 → d.s32 16 = 0) →
      Answers (.loopGains d) s fun t =>
        t.okd d ∧ s.becomes t (Dev.withLoop s.dev n
          { l with kp := d.s32 8, ki := d.s32 12, kd := d.s32 16, kt := d.s32 20, bias := d.s32 24, nn := d.bits 28 0 8 })) ∧
    (s.admits opLoopGains d (.loop n) → (d.s32 8 < 0 ∨ 64 < d.bits 28 0 8 ∨ (d.s32 16 ≠ 0 ∧ d.s32 8 = 0)) →
      Answers (.loopGains d) s fun t => s.onlyAnswers t d .range 0) ∧
    (s.admits opLoopLimits d (.loop n) → d.s32 8 < d.s32 12 → 0 ≤ d.s32 16 → d.s32 8 ≤ d.s32 20 → d.s32 20 ≤ d.s32 12 → d.s32 8 ≤ d.s32 24 →
      d.s32 24 ≤ d.s32 12 →
      Answers (.loopLimits d) s fun t =>
        t.okd d ∧ s.becomes t (Dev.withLoop s.dev n
          { l with outMin := d.s32 8, outMax := d.s32 12, rateMax := d.s32 16, safeVal := d.s32 20, openVal := d.s32 24 })) ∧
    (s.admits opLoopLimits d (.loop n) → (d.s32 12 ≤ d.s32 8 ∨ d.s32 16 < 0 ∨ d.s32 20 < d.s32 8 ∨ d.s32 12 < d.s32 24) →
      Answers (.loopLimits d) s fun t => s.onlyAnswers t d .range 0) ∧
    (s.admits opLoopProfile d (.loop n) →
      Answers (.loopProfile d) s fun t =>
        t.okd d ∧ s.becomes t (Dev.withLoop s.dev n { l with vmax := d.bits 8 0 32, amax := d.bits 12 0 32, jmax := d.bits 16 0 32 })) ∧
    (s.admits opLoopSupervise d (.loop n) → 0 ≤ d.s32 8 → 0 ≤ d.s32 16 → d.bits 12 0 16 ≠ 0 → d.bits 14 0 8 ≠ 0 → d.bits 15 0 8 ≠ 0 →
      d.bits 22 0 2 ≠ 3 →
      Answers (.loopSupervise d) s fun t =>
        t.okd d ∧ s.becomes t (Dev.withLoop s.dev n
          { l with feLimit := d.s32 8, feTime := d.bits 12 0 16, lossN := d.bits 14 0 8, recovN := d.bits 15 0 8, frzBand := d.s32 16,
                   frzN := d.bits 20 0 16, policy := d.bits 22 0 2, feAct := d.flag 22 2, autoRec := d.flag 22 3 })) ∧
    (s.admits opLoopSet d (.loop n) → l.spSrc = 0 → s.dev.isAttached n = false →
      Answers (.loopSet d) s fun t =>
        t.answered d .ok (mkRes [(8, 0, 32, wrapTo 32 l.target)]) ∧
        s.becomes t (Dev.withLoop s.dev n { l with target := d.s32 8, jump := l.jump || d.flag 12 0 })) ∧
    (s.admits opLoopSet d (.loop n) → l.spSrc ≠ 0 → Answers (.loopSet d) s fun t => s.onlyAnswers t d .conflict 0) ∧
    (s.admits opLoopStatusGet d (.loop n) →
      (d.bits 8 0 2 = 0 → Answers (.loopStatusGet d) s fun t =>
        s.onlyAnswers t d .ok (mkRes [(8, 0, 32, wrapTo 32 l.y), (12, 0, 32, wrapTo 32 l.u)])) ∧
      (d.bits 8 0 2 = 1 → Answers (.loopStatusGet d) s fun t =>
        s.onlyAnswers t d .ok (mkRes [(8, 0, 32, wrapTo 32 l.rQ), (12, 0, 32, wrapTo 32 l.target)])) ∧
      (d.bits 8 0 2 = 2 → Answers (.loopStatusGet d) s fun t =>
        s.onlyAnswers t d .ok (mkRes [(8, 0, 32, wrapTo 32 l.integ), (12, 0, 8, l.state.num), (13, 0, 8, l.flags), (14, 0, 8, l.cause)])) ∧
      (d.bits 8 0 2 = 3 → Answers (.loopStatusGet d) s fun t =>
        s.onlyAnswers t d .ok (mkRes [(8, 0, 32, l.runs.toNat), (12, 0, 16, l.overruns.toNat), (14, 0, 16, l.badIn.toNat)]))) ∧
    (s.admits opLoopCtrl d (.loop n) → s.dev.isAttached n = false →
      (d.bits 8 0 3 = 0 → Answers (.loopCtrl d) s fun t =>
        t.okd d ∧ (t.dev.loops[n]).state = .disabled ∧ (t.dev.loops[n]).u = l.u ∧ t.dev.pwms = s.dev.pwms ∧ t.dev.valves = s.dev.valves ∧
        s.onlyDev t ∧ ∀ k : Fin 144, k ≠ n → t.dev.loops[k] = s.dev.loops[k]) ∧
      (d.bits 8 0 3 = 1 → l.state = .disabled → s.dev.loopEnableCheck n = .ok → (s.dev.loopInput n).cls ≠ .reset →
        Answers (.loopCtrl d) s fun t =>
          t.okd d ∧ (t.dev.loops[n]).state = .run ∧ (t.dev.loops[n]).integ = 0 ∧ (t.dev.loops[n]).dPrev = 0 ∧
          (t.dev.loops[n]).first ∧ s.onlyDev t ∧
          ∃ e ∈ t.dev.raised, e.code = EV_LOOP_STATE ∧ e.handle = hLoop n ∧ e.arg = 1) ∧
      (d.bits 8 0 3 = 1 → l.state = .disabled → ∀ st, s.dev.loopEnableCheck n = st → st ≠ .ok →
        Answers (.loopCtrl d) s fun t => s.onlyAnswers t d st 0) ∧
      (d.bits 8 0 3 = 2 → l.state = .run ∨ l.state = .manual → Answers (.loopCtrl d) s fun t =>
        t.okd d ∧ (t.dev.loops[n]).state = .manual ∧ (t.dev.loops[n]).manual = d.s32 12 ∧ (t.dev.loops[n]).integ = l.integ) ∧
      (d.bits 8 0 3 = 2 → l.state.faulty → Answers (.loopCtrl d) s fun t => s.onlyAnswers t d .conflict 0) ∧
      (d.bits 8 0 3 = 3 → l.state = .manual → (s.dev.loopInput n).cls ≠ .reset → Answers (.loopCtrl d) s fun t =>
        t.okd d ∧ (t.dev.loops[n]).state = .run ∧ (t.dev.loops[n]).bumpless) ∧
      (d.bits 8 0 3 = 4 → l.state.faulty → s.dev.faultPersists n = false → Answers (.loopCtrl d) s fun t =>
        t.okd d ∧ (t.dev.loops[n]).state = .run ∧ (t.dev.loops[n]).bumpless ∧ t.dev.handling (hLoop n) = false) ∧
      (d.bits 8 0 3 = 4 → l.state.faulty = false → (l.feRaised = false ∨ l.feAct = false) →
        Answers (.loopCtrl d) s fun t => s.onlyAnswers t d .conflict 0) ∧
      (d.bits 8 0 3 = 4 → l.state.faulty = false → l.feRaised → l.feAct → l.lastOver = false → Answers (.loopCtrl d) s fun t =>
        t.okd d ∧ (t.dev.loops[n]).feRaised = false ∧ (t.dev.loops[n]).state = l.state))

/-- 05 R133, R135 to R140, R144 to R146, R151 to R157: r never passes its target, a settled profile is at the target, the law keeps u
and the integrator within the loop's limits; triggers, runs and supervision of a loop that no fan or damper drives; and u_prev at
ENABLE, which is what the output holds.
(Rests in part on log entries 130, 131, 200, 201, 234: the model's reading or choice.) -/
def Obligations.LoopMoments : Prop :=
  ((∀ (l : Loop) (t : Nat),
    (l.r < l.target * unitR → (l.profile t).r ≤ l.target * unitR) ∧ (l.target * unitR < l.r → l.target * unitR ≤ (l.profile t).r)) ∧
  (∀ (l : Loop) (t : Nat), l.vmax = 0 → (l.profile t).r = l.target * unitR ∧ (l.profile t).rv = 0 ∧ (l.profile t).settled) ∧
  (∀ (l : Loop) (t : Nat), l.outMin ≤ l.outMax → l.rateMax = 0 → l.outMin ≤ (l.law t).u ∧ (l.law t).u ≤ l.outMax) ∧
  (∀ (l : Loop) (t : Nat) (o : PidOut) (hi lo sat : Bool), sat32 (l.outMin - l.bias) ≤ sat32 (l.outMax - l.bias) →
    sat32 (l.outMin - l.bias) ≤ (l.commit t o hi lo sat).integ ∧ (l.commit t o hi lo sat).integ ≤ sat32 (l.outMax - l.bias)) ∧
  (∀ (l : Loop) (t : Nat) (o : PidOut) (hi lo : Bool), l.aw = false → o.v = o.u → o.e = 0 →
    (l.commit t o hi lo true).integ = l.clampInteg l.integ)) ∧
  (∀ (s : State) (n : Fin 144), s.dev.loopLive n → s.dev.isAttached n = false →
    let l := s.dev.loops[n]
    (l.trig = 0 → l.due = false → Answers (.loopTimerExpiry n) s fun t =>
      t = { s with dev := { Dev.withLoop s.dev n { l with due := true, trigAt := s.dev.now, trigNo := s.dev.trigs } with
                            trigs := s.dev.trigs + 1 } }) ∧
    (l.trig = 0 → l.due → Answers (.loopTimerExpiry n) s fun t =>
      t.dev.loops = s.dev.loops.set n.val { l with overruns := l.overruns + 1 } ∧ s.onlyDev t ∧ t.dev.pwms = s.dev.pwms) ∧
    (s.dev.loopTurn n = false → Answers (.loopRun n) s fun t => t = s) ∧
    (∀ m : Fin 144, s.dev.loopBefore m n → Answers (.loopRun n) s fun t => t = s) ∧
    (s.dev.loopTurn n → Answers (.loopRun n) s fun t =>
      (t.dev.loops[n]).due = false ∧ (t.dev.loops[n]).runs = l.runs + 1 ∧
      (t.dev.loops[n]).lastRun = some s.dev.now ∧ s.onlyDev t) ∧
    (s.dev.loopTurn n → (∀ k, objOf l.input ≠ some (.position k)) → (s.dev.loopInput n).cls = .usable → Answers (.loopRun n) s fun t =>
      (t.dev.loops[n]).y = l.scale (s.dev.loopInput n).x ∧ (t.dev.loops[n]).badIn = l.badIn ∧ (t.dev.loops[n]).badRun = 0) ∧
    (s.dev.loopTurn n → l.state = .run → (∀ k, objOf l.input ≠ some (.position k)) → (s.dev.loopInput n).cls = .usable → l.frzN = 0 →
      l.rateMax = 0 →
      l.outMin ≤ l.outMax → Answers (.loopRun n) s fun t =>
        l.outMin ≤ (t.dev.loops[n]).u ∧ (t.dev.loops[n]).u ≤ l.outMax ∧ (t.dev.loops[n]).state = .run ∧ (t.dev.loops[n]).first = false) ∧
    (s.dev.loopTurn n → l.state = .run → (∀ k, objOf l.input ≠ some (.position k)) → (s.dev.loopInput n).cls = .transient →
      Answers (.loopRun n) s fun t =>
      (t.dev.loops[n]).u = l.u ∧ (t.dev.loops[n]).badIn = l.badIn + 1 ∧ (t.dev.loops[n]).badRun = l.badRun ∧ (t.dev.loops[n]).state = .run ∧
      (t.dev.loops[n]).integ = l.integ) ∧
    (∀ c, s.dev.loopTurn n → l.state = .run → (∀ k, objOf l.input ≠ some (.position k)) → (s.dev.loopInput n).cls = .bad c → l.lost = false →
      l.lossN ≤ l.badRun + 1 → s.dev.handling (hLoop n) = false → Answers (.loopRun n) s fun t =>
        (t.dev.loops[n]).state = l.policyState ∧ (t.dev.loops[n]).badIn = l.badIn + 1 ∧
        (∃ e ∈ t.dev.log.errs, e.source = hLoop n ∧ e.cls = .fault ∧ e.code = LG_LOOP_FEEDBACK) ∧
        ∃ e ∈ t.dev.raised, e.code = EV_LOOP_FEEDBACK ∧ e.handle = hLoop n ∧ e.arg = mkWord [(0, 8, n.val), (8, 8, c)]) ∧
    (s.dev.loopTurn n → l.state = .safe → l.autoRec = false → Answers (.loopRun n) s fun t =>
      (t.dev.loops[n]).u = clampI l.outMin l.outMax l.safeVal ∧ (t.dev.loops[n]).state = .safe ∧ (t.dev.loops[n]).integ = l.integ) ∧
    (l.feTimer → l.feRaised = false → l.feAct = false → s.dev.handling (hLoop n) = false → Answers (.feTimeExpiry n) s fun t =>
      (t.dev.loops[n]).state = l.state ∧ (t.dev.loops[n]).feRaised ∧ (∃ e ∈ t.dev.log.errs, e.source = hLoop n ∧ e.cls = .warn) ∧
      ∃ e ∈ t.dev.raised, e.code = EV_LOOP_FOLLOW ∧ e.handle = hLoop n) ∧
    (l.feTimer → l.feRaised = false → l.feAct → l.state = .run → Answers (.feTimeExpiry n) s fun t =>
      (t.dev.loops[n]).state = l.policyState ∧ (t.dev.loops[n]).feRaised ∧ (t.dev.loops[n]).faultBy = 7)) ∧
  (∀ (s : State) (d : Desc) (n : Fin 144), s.admits opLoopCtrl d (.loop n) → s.dev.isAttached n = false → d.bits 8 0 3 = 1 →
    (s.dev.loops[n]).state = .disabled → s.dev.loopEnableCheck n = .ok → (s.dev.loopInput n).cls ≠ .reset →
    Answers (.loopCtrl d) s fun t => (t.dev.loops[n]).uPrev = (s.dev.loops[n]).unmap (s.dev.heldValue (s.dev.loops[n]).output))

/-! ## The zones -/

/-- A change of zone `z` alone. -/
def Dev.withZone (s : Dev) (z : Fin 16) (x : Zone) : Dev := { s with zones := s.zones.set z.val x }

/-- 06 R185 to R193: the descriptors of class 0x4.
(Rests in part on log entry 203: the model's reading or choice.) -/
def Obligations.ZoneDescriptors : Prop :=
  ∀ (s : State) (d : Desc) (z : Fin 16),
    let x := s.dev.zones[z]
    (s.admits opZoneConfig d (.zone z) → zoneConfigBad d = false → (d.flag 8 0 → ∀ k : Fin 4, s.dev.notZone (x.outs[k]).handle = false) →
      Answers (.zoneConfig d) s fun t =>
        let y := t.dev.zones[z]
        t.okd d ∧ (y.en = d.flag 8 0) ∧ (y.schedEn = d.flag 8 1) ∧ (y.presUp = d.flag 8 2) ∧ y.defMode = d.bits 9 0 3 ∧ y.noMode = d.bits 9 4 3 ∧
        y.presDelay = d.bits 10 0 8 ∧ y.winDelay = d.bits 11 0 8 ∧ y.deadband = d.bits 12 0 16 ∧ y.shiftMax = d.bits 14 0 16 ∧
        y.co2Lo = d.bits 16 0 16 ∧ y.co2Hi = d.bits 18 0 16 ∧ y.ventMin = d.bits 20 0 8 ∧ y.ventFail = d.bits 21 0 8 ∧
        y.dewMargin = d.bits 22 0 16 ∧ y.dewBase = d.s16 24 ∧ y.dewFail = d.s16 26 ∧ y.spH = x.spH ∧ y.spC = x.spC ∧ y.sched8 = x.sched8 ∧
        (d.flag 8 0 = false → y.ovr = none ∧
          (x.ovr ≠ none → ∃ e, t.dev.raised.getLast? = some e ∧ e.code = EV_ZONE_OVR_END ∧ e.handle = hZone z ∧ e.arg = 2)) ∧
        s.becomes t { Dev.withZone s.dev z y with raised := t.dev.raised }) ∧
    (s.admits opZoneConfig d (.zone z) → zoneConfigBad d → Answers (.zoneConfig d) s fun t => s.onlyAnswers t d .range 0) ∧
    (∀ k : Fin 4, s.admits opZoneConfig d (.zone z) → zoneConfigBad d = false → d.flag 8 0 → s.dev.notZone (x.outs[k]).handle →
      Answers (.zoneConfig d) s fun t => s.onlyAnswers t d .conflict 0) ∧
    (s.admits opZoneSetpoints d (.zone z) →
      (∀ k : Fin 4, tempBad (pairH d k.val) = false ∧ tempBad (pairC d k.val) = false ∧ pairH d k.val ≤ pairC d k.val) →
      Answers (.zoneSetpoints d) s fun t =>
        t.okd d ∧ s.becomes t (Dev.withZone s.dev z
          { x with spH := #v[d.s16 8, d.s16 12, d.s16 16, d.s16 20], spC := #v[d.s16 10, d.s16 14, d.s16 18, d.s16 22] })) ∧
    (∀ k : Fin 4, s.admits opZoneSetpoints d (.zone z) → pairC d k.val < pairH d k.val →
      Answers (.zoneSetpoints d) s fun t => s.onlyAnswers t d .range 0) ∧
    (s.admits opZoneInput d (.zone z) → d.bits 8 0 3 ≤ 5 → zoneInOk (d.word 12) →
      Answers (.zoneInput d) s fun t =>
        t.okd d ∧ s.becomes t (Dev.withZone s.dev z
          { x with ins := x.ins.set (ix 5 (d.bits 8 0 3)).val { handle := d.word 12, gain := d.s32 16, ofs := d.s32 20 } })) ∧
    (s.admits opZoneInput d (.zone z) → d.bits 8 0 3 ≤ 5 → zoneInOk (d.word 12) = false →
      Answers (.zoneInput d) s fun t => s.onlyAnswers t d .badHandle 0) ∧
    (s.admits opZoneOutput d (.zone z) → zoneOutOk (d.bits 8 0 2) (d.word 12) → (d.bits 8 0 2 < 3 → d.bits 16 0 64 = 0) →
      s.dev.zoneBound (d.word 12) = false → (x.en → s.dev.notZone (d.word 12) = false) →
      Answers (.zoneOutput d) s fun t =>
        t.okd d ∧ (∀ k : Fin 4, k.val = d.bits 8 0 2 → ((t.dev.zones[z]).outs[k]).handle = d.word 12) ∧
        (∀ k : Fin 4, k.val ≠ d.bits 8 0 2 → (t.dev.zones[z]).outs[k] = x.outs[k]) ∧
        (d.bits 8 0 2 = 3 → (t.dev.zones[z]).outGain = d.s32 16 ∧ (t.dev.zones[z]).outOfs = d.s32 20) ∧
        s.becomes t (Dev.withZone s.dev z (t.dev.zones[z]))) ∧
    (s.admits opZoneOutput d (.zone z) → zoneOutOk (d.bits 8 0 2) (d.word 12) → (d.bits 8 0 2 < 3 → d.bits 16 0 64 = 0) →
      s.dev.zoneBound (d.word 12) → Answers (.zoneOutput d) s fun t => s.onlyAnswers t d .conflict 0) ∧
    (s.admits opZoneOverride d (.zone z) → x.en → d.flag 8 3 = false → d.bits 8 0 3 ≠ 5 → d.bits 8 0 3 ≠ 6 → d.bits 9 0 2 ≠ 3 →
      (d.bits 9 0 2 = 0 ↔ d.bits 10 0 16 ≠ 0) → ((d.s16 12).natAbs : Int) ≤ x.shiftMax →
      Answers (.zoneOverride d) s fun t =>
        let o : Override := { mode := d.bits 8 0 3, expiry := d.bits 9 0 2, shift := d.s16 12,
                              deadline := s.dev.hollow.cnt.toNat + d.bits 10 0 16 * 1966080, point := none }
        t.okd d ∧ s.becomes t (Dev.withZone s.dev z { x with ovr := some o })) ∧
    (s.admits opZoneOverride d (.zone z) → x.en → d.flag 8 3 → d.bits 8 0 3 = 0 → d.bits 9 0 2 = 0 → d.bits 10 0 16 = 0 → d.bits 12 0 16 = 0 →
      Answers (.zoneOverride d) s fun t =>
        t.okd d ∧ (t.dev.zones[z]).ovr = none ∧
        (x.ovr ≠ none → ∃ e, t.dev.raised.getLast? = some e ∧ e.code = EV_ZONE_OVR_END ∧ e.handle = hZone z ∧ e.arg = 2) ∧
        (x.ovr = none → t.dev.raised = s.dev.raised)) ∧
    (s.admits opZoneOverride d (.zone z) → x.en = false → Answers (.zoneOverride d) s fun t => s.onlyAnswers t d .disabled 0) ∧
    (s.admits opZoneOverride d (.zone z) → x.en → (d.bits 8 0 3 = 5 ∨ d.bits 8 0 3 = 6 ∨ d.bits 9 0 2 = 3) →
      Answers (.zoneOverride d) s fun t => s.onlyAnswers t d .range 0) ∧
    (s.admits opZoneStatusGet d (.zone z) →
      Answers (.zoneStatusGet d) s fun t =>
        s.onlyAnswers t d .ok (mkRes [(8, 0, 3, x.mode), (8, 4, 3, x.sched), (9, 0, 3, x.reason), (9, 4, 2, x.seq), (10, 0, 6, x.flags),
          (11, 0, 6, x.wasLost), (12, 0, 16, if x.mode = 0 then 0x8000 else q88 x.wroteH), (14, 0, 16, if x.mode = 0 then 0x7FFF else q88 x.wroteC)])) ∧
    (s.admits opSchedWrite d (.zone z) → d.bits 8 0 3 ≠ 7 → (∀ p : Fin 8, pointOk (schedPoint d p.val)) → pointsClash d = false →
      Answers (.schedWrite d) s fun t =>
        t.okd d ∧ s.becomes t (Dev.withZone s.dev z { x with sched8 := (t.dev.zones[z]).sched8 }) ∧
        ∀ i : Fin 56, (t.dev.zones[z]).sched8[i]
          = if i.val / 8 = d.bits 8 0 3 then BitVec.ofNat 16 (d.bits (16 + 2 * (i.val % 8)) 0 16) else x.sched8[i]) ∧
    (s.admits opSchedWrite d (.zone z) → pointsClash d → Answers (.schedWrite d) s fun t => s.onlyAnswers t d .range 0) ∧
    (∀ e : Fin 32, s.admits opSchedExcept d (.exDate e) → d.bits 8 0 5 ≠ 0 → d.bits 9 0 4 ≠ 0 → d.bits 9 0 4 ≤ 12 →
      (d.bits 10 0 8 ≤ 99 ∨ d.bits 10 0 8 = 255) → d.bits 11 0 3 ≠ 7 →
      Answers (.schedExcept d) s fun t =>
        let y : ExDate := { en := d.flag 11 7, day := d.bits 8 0 5, month := d.bits 9 0 4, year := d.bits 10 0 8,
                            dayType := d.bits 11 0 3, zones := BitVec.ofNat 16 (d.bits 12 0 16) }
        t.okd d ∧ s.becomes t { s.dev with dates := s.dev.dates.set e.val y })

/-- 06 R171, R172, R176 to R180, R183, R184, R195: modes, targets, and a cycle of the zones. -/
def Obligations.ZoneCycles : Prop :=
  (∀ (x : Zone) (b : Nat × Nat), x.winOpen → (x.resolve b).1 = 0 ∨ x.resolve b = (4, 5)) ∧
  (∀ (x : Zone) (b : Nat × Nat) (o : Override), x.winOpen = false → x.ovr = some o → o.mode ≠ 7 → x.resolve b = (o.mode, 4)) ∧
  (∀ (x : Zone) (b : Nat × Nat), x.winOpen = false → x.ovr = none → (x.ins[3]).handle ≠ 0 → b.1 = 1 → x.present = false → x.resolve b = (2, 3)) ∧
  (∀ (x : Zone) (m : Nat), m ≠ 0 → (x.setpoints m).1 + x.deadband ≤ (x.setpoints m).2) ∧
  (∀ x : Zone, x.setpoints 0 = (-65536, 65536)) ∧
  (∀ (x : Zone) (m : Nat), x.ventFail ≤ 100 → x.ventMin ≤ 100 → 0 ≤ x.demand m ∧ x.demand m ≤ 65536 ∧ (m = 0 ∨ m = 4 → x.demand m = 0)) ∧
  (∀ (x : Zone) (n : Nat), (x.ins[0].have_ = none ∨ x.ins[1].have_ = none) → x.dewTarget n = (x.dewFail * 256, false)) ∧
  (∀ (x : Zone) (p : Option (Nat × Nat)), x.schedEn → x.baseMode false p = (x.noMode, 2)) ∧
  (∀ s : State, s.dev.active 15 = false → Answers .zoneCycle s fun t => t = s) ∧
  (∀ s : State, s.dev.active 15 → Answers .zoneCycle s fun t =>
    s.onlyDev t ∧ ∀ z : Fin 16, ((s.dev.zones[z]).en = false →
        t.dev.zones[z] = { s.dev.zones[z] with noTimeLogged := (s.dev.zones[z]).noTimeLogged && !s.dev.timeOk }) ∧
      ((s.dev.zones[z]).en → (t.dev.zones[z]).en ∧ (t.dev.zones[z]).fresh = false)) ∧
  (∀ (s : State) (z : Fin 16), s.dev.active 15 → (s.dev.zones[z]).en → (s.dev.zones[z]).schedEn = false → (s.dev.zones[z]).ovr = none →
    (∀ k : Fin 6, ((s.dev.zones[z]).ins[k]).handle = 0) →
    Answers .zoneCycle s fun t =>
      let m := (s.dev.zones[z]).defMode
      (t.dev.zones[z]).mode = m ∧ (t.dev.zones[z]).reason = 1 ∧
      (((t.dev.zones[z]).outs[0]).blocked = false → (t.dev.zones[z]).wroteH = ((s.dev.zones[z]).setpoints m).1) ∧
      (((t.dev.zones[z]).outs[1]).blocked = false → (t.dev.zones[z]).wroteC = ((s.dev.zones[z]).setpoints m).2) ∧
      ((s.dev.zones[z]).mode ≠ m → ∃ e ∈ t.dev.raised, e.code = EV_ZONE_MODE ∧ e.handle = hZone z ∧
        e.arg = mkWord [(0, 3, m), (4, 3, (s.dev.zones[z]).mode), (8, 3, 1)])) ∧
  (∀ (s : State) (z : Fin 16) (n : Fin 144), s.dev.active 15 → (∀ y : Fin 16, (s.dev.zones[y]).en = decide (y = z)) →
    (s.dev.zones[z]).schedEn = false → (s.dev.zones[z]).ovr = none → (∀ k : Fin 6, ((s.dev.zones[z]).ins[k]).handle = 0) →
    objOf ((s.dev.zones[z]).outs[0]).handle = some (.loop n) → (∀ k : Fin 4, k ≠ 0 → ((s.dev.zones[z]).outs[k]).handle = 0) →
    (s.dev.zones[z]).fresh → (s.dev.loops[n]).spSrc = 1 →
    Answers .zoneCycle s fun t =>
      (t.dev.loops[n]).target = ((s.dev.zones[z]).setpoints (s.dev.zones[z]).defMode).1 * 256 ∧
      ((s.dev.loops[n]).jump = false → (t.dev.loops[n]).jump = decide (((s.dev.zones[z]).mode = 0) ≠ ((s.dev.zones[z]).defMode = 0))) ∧
      ∀ k : Fin 144, k ≠ n → t.dev.loops[k] = s.dev.loops[k])

/-! ## The PWM banks -/

/-- A change of channel `c` alone. -/
def Dev.withPwm (s : Dev) (c : Fin 48) (p : Pwm) : Dev := { s with pwms := s.pwms.set c.val p }

/-- Of the channels of a bank that PWM_CTRL enables, each starts at once or runs already: none is in angle mode, where its start comes
only with its next period (07 R221). -/
def Sys2Proof.Machine.Dev.StartsAtOnce (s : Dev) (b : Fin 6) (m : Nat) : Prop :=
  ∀ k : Fin 48, k.val / 8 = b.val → m.testBit (k.val % 8) → (s.pwms[k]).starting = false ∧ ((s.pwms[k]).amode → (s.pwms[k]).en)

/-- 07 R205, R207, R210, R217 to R223: each descriptor of class 0x5 completes, and does what its rule says: PWM_CH_CONFIG, PWM_SET,
PWM_FIELD, PWM_COMMIT, PWM_CTRL, PWM_TRIP_CONFIG, PWM_TRIP_CLEAR, PWM_STATUS_GET. A channel that is disabled takes a set at once; PWM_CTRL
completes once every start and stop that it asks for has taken place, and waits while one is to come.
(Rests in part on log entry 202: the model's reading or choice.) -/
def Obligations.PwmDescriptors : Prop :=
  ∀ (s : State) (d : Desc) (c : Fin 48),
    let p := s.dev.pwms[c]
    (s.admits opPwmChConfig d (.pwm c) → chConfigBad d = false → p.en = false →
      Answers (.pwmChConfig d) s fun t =>
        let q := t.dev.pwms[c]
        t.okd d ∧ s.onlyDev t ∧ (q.amode = d.flag 8 0) ∧ (q.half = d.flag 8 1) ∧ (q.upd = d.flag 8 2) ∧ q.inert = d.bits 8 3 2 ∧
        q.presc = d.bits 9 0 8 ∧ q.tripMask = BitVec.ofNat 8 (d.bits 10 0 8) ∧ q.tripAct = d.bits 11 0 2 ∧ (q.tripLatch = d.flag 11 2) ∧
        q.refN = d.bits 12 0 8 ∧ q.refW = d.bits 14 0 16 ∧
        (p.amode ≠ d.flag 8 0 ∨ p.half ≠ d.flag 8 1 ∨ p.presc ≠ d.bits 9 0 8 → q.active = {} ∧ q.shadow = none ∧ q.staging = {}) ∧
        (p.amode = d.flag 8 0 → p.half = d.flag 8 1 → p.presc = d.bits 9 0 8 → q.active = p.active ∧ q.shadow = p.shadow ∧ q.staging = p.staging) ∧
        ∀ k : Fin 48, k ≠ c → t.dev.pwms[k] = s.dev.pwms[k]) ∧
    (s.admits opPwmChConfig d (.pwm c) → chConfigBad d = false → p.en → Answers (.pwmChConfig d) s fun t => s.onlyAnswers t d .busy 0) ∧
    (s.admits opPwmChConfig d (.pwm c) → chConfigBad d → Answers (.pwmChConfig d) s fun t => s.onlyAnswers t d .range 0) ∧
    (s.admits opPwmSet d (.pwm c) → p.fieldOk 0 (d.bits 8 0 16) → p.fieldOk 3 (d.bits 14 0 5) → p.fieldOk 4 (d.bits 14 5 5) →
      s.dev.pwmOwned c = false → p.en = false → d.bits 10 0 16 ≤ p.units (descSet d) → d.bits 12 0 16 ≤ p.units (descSet d) →
      Answers (.pwmSet d) s fun t =>
        t.answered d .ok (p.periods.setWidth 64) ∧
        s.becomes t (Dev.withPwm s.dev c { p.unstage with active := descSet d })) ∧
    (s.admits opPwmSet d (.pwm c) → p.fieldOk 0 (d.bits 8 0 16) → p.fieldOk 3 (d.bits 14 0 5) → p.fieldOk 4 (d.bits 14 5 5) →
      s.dev.pwmOwned c = false → p.direct = false → s.dev.inWindow c = false →
      Answers (.pwmSet d) s fun t =>
        t.answered d .ok ((p.periods + 1).setWidth 64) ∧
        s.becomes t (Dev.withPwm s.dev c { p.unstage with shadow := some (descSet d) })) ∧
    (s.admits opPwmSet d (.pwm c) → p.fieldOk 0 (d.bits 8 0 16) → p.fieldOk 3 (d.bits 14 0 5) → p.fieldOk 4 (d.bits 14 5 5) →
      s.dev.pwmOwned c = false → p.direct = false → s.dev.inWindow c →
      Answers (.pwmSet d) s fun t =>
        t.answered d .late ((p.periods + if p.atB = some s.dev.now then 1 else 2).setWidth 64) ∧ (t.dev.pwms[c]).active = p.active ∧ (t.dev.pwms[c]).shadow = p.shadow ∧
        (t.dev.pwms[c]).window = some (descSet d) ∧ (t.dev.pwms[c]).late = p.late + 1 ∧ (t.dev.pwms[c]).staging = {}) ∧
    (s.admits opPwmSet d (.pwm c) → p.fieldOk 0 (d.bits 8 0 16) = false → Answers (.pwmSet d) s fun t => s.onlyAnswers t d .range 0) ∧
    (s.admits opPwmSet d (.pwm c) → p.fieldOk 0 (d.bits 8 0 16) → p.fieldOk 3 (d.bits 14 0 5) → p.fieldOk 4 (d.bits 14 5 5) →
      s.dev.pwmOwned c → Answers (.pwmSet d) s fun t => s.onlyAnswers t d .conflict 0) ∧
    (s.admits opPwmField d (.pwm c) → p.fieldOk (d.bits 8 0 3) (d.bits 10 0 16) → s.dev.pwmOwned c = false → p.upd = false →
      Answers (.pwmField d) s fun t =>
        t.okd d ∧ s.becomes t (Dev.withPwm s.dev c { p with staging := p.staging.with_ (d.bits 8 0 3) (d.bits 10 0 16) })) ∧
    (s.admits opPwmField d (.pwm c) → p.fieldOk (d.bits 8 0 3) (d.bits 10 0 16) → s.dev.pwmOwned c = false → p.upd → p.direct = false →
      s.dev.inWindow c = false →
      Answers (.pwmField d) s fun t =>
        t.answered d .ok ((p.periods + 1).setWidth 64) ∧
        s.becomes t (Dev.withPwm s.dev c { p with shadow := some ((p.shadow.getD p.active).with_ (d.bits 8 0 3) (d.bits 10 0 16)) })) ∧
    (∀ b : Fin 6, b.val = c.val / 8 → s.admits opPwmCommit d (.bank b) → d.bits 8 0 8 = 2 ^ (c.val % 8) → p.upd = false →
      s.dev.pwmOwned c = false →
      (p.staging.any → p.direct = false → s.dev.inWindow c = false → Answers (.pwmCommit d) s fun t =>
        t.okd d ∧ s.becomes t (Dev.withPwm s.dev c { p.unstage with shadow := some (p.staging.over (p.shadow.getD p.active)) })) ∧
      (p.staging.any → p.direct = false → s.dev.inWindow c → Answers (.pwmCommit d) s fun t =>
        t.answered d .late (mkRes [(8, 0, 8, 2 ^ (c.val % 8))]) ∧ s.becomes t (Dev.withPwm s.dev c
          { p.unstage with window := some (p.staging.over (p.shadow.getD p.active)), late := p.late + 1 })) ∧
      (p.staging.any = false → Answers (.pwmCommit d) s fun t => t.okd d ∧ s.becomes t s.dev)) ∧
    (∀ b : Fin 6, b.val = c.val / 8 → s.admits opPwmCommit d (.bank b) → (d.bits 8 0 8).testBit (c.val % 8) → (p.upd ∨ s.dev.pwmOwned c) →
      Answers (.pwmCommit d) s fun t => s.onlyAnswers t d .conflict 0) ∧
    (∀ b : Fin 6, b.val = c.val / 8 → s.admits opPwmCtrl d (.bank b) → Nat.land (d.bits 8 0 8) (d.bits 9 0 8) = 0 →
      s.dev.StartsAtOnce b (d.bits 8 0 8) → (d.bits 8 0 8).testBit (c.val % 8) → p.en = false → p.active.period ≠ 0 → p.shadow = none →
      Answers (.pwmCtrl d) s fun t =>
        t.okd d ∧ (t.dev.pwms[c]).en ∧ (t.dev.pwms[c]).run ∧ (t.dev.pwms[c]).t0 = s.dev.now ∧ (t.dev.pwms[c]).active = p.active ∧
        (t.dev.pwms[c]).periods = p.periods + 1 ∧ s.onlyDev t) ∧
    (∀ b : Fin 6, b.val = c.val / 8 → s.admits opPwmCtrl d (.bank b) → Nat.land (d.bits 8 0 8) (d.bits 9 0 8) = 0 →
      s.dev.StartsAtOnce b (d.bits 8 0 8) → (d.bits 9 0 8).testBit (c.val % 8) → p.en → p.window = none →
      Answers (.pwmCtrl d) s fun t =>
        t.okd d ∧ (t.dev.pwms[c]).en = false ∧ (t.dev.pwms[c]).run = false ∧ (t.dev.pwms[c]).shadow = none ∧
        (t.dev.pwms[c]).staging = p.staging ∧ (∀ x, p.shadow = some x → (t.dev.pwms[c]).active = (p.clampSet x).1) ∧
        (p.shadow = none → (t.dev.pwms[c]).active = p.active)) ∧
    (∀ b : Fin 6, b.val = c.val / 8 → s.admits opPwmCtrl d (.bank b) → Nat.land (d.bits 8 0 8) (d.bits 9 0 8) = 0 →
      (d.bits 8 0 8).testBit (c.val % 8) → p.en = false → p.amode →
      Answers (.pwmCtrl d) s fun t =>
        t.waiting 0x54 d ∧ (t.dev.pwms[c]).en ∧ (t.dev.pwms[c]).starting ∧ (t.dev.pwms[c]).run = p.run ∧ s.onlyDev t) ∧
    (∀ b : Fin 6, s.admits opPwmCtrl d (.bank b) → Nat.land (d.bits 8 0 8) (d.bits 9 0 8) ≠ 0 →
      Answers (.pwmCtrl d) s fun t => s.onlyAnswers t d .range 0) ∧
    (∀ k : Fin 8, s.admits opPwmTripConfig d (.trip k) → (d.flag 8 0 → if d.flag 8 2 then d.bits 10 0 8 = 0 else d.bits 10 0 8 ≠ 0 ∧ d.bits 12 0 10 = 0) →
      Answers (.pwmTripConfig d) s fun t =>
        let x := t.dev.trips[k]
        t.okd d ∧ (x.en = d.flag 8 0) ∧ (x.pol = d.flag 8 1) ∧ (x.qual = d.flag 8 2) ∧ x.filt = d.bits 10 0 8 ∧ x.blank = d.bits 12 0 10 ∧
        (∀ j : Fin 8, j ≠ k → t.dev.trips[j] = s.dev.trips[j]) ∧ s.onlyDev t) ∧
    (s.admits opPwmTripClear d (.pwm c) → p.latched → s.dev.tripsOn c = 0 →
      Answers (.pwmTripClear d) s fun t =>
        t.okd d ∧ (t.dev.pwms[c]).latched = false ∧ ((t.dev.pwms[c]).force = s.dev.pwmRuns c) ∧
        ∀ k : Fin 48, k ≠ c → t.dev.pwms[k] = s.dev.pwms[k]) ∧
    (s.admits opPwmTripClear d (.pwm c) → p.latched → s.dev.tripsOn c ≠ 0 → Answers (.pwmTripClear d) s fun t => s.onlyAnswers t d .busy 0) ∧
    (s.admits opPwmTripClear d (.pwm c) → p.latched = false → Answers (.pwmTripClear d) s fun t => s.onlyAnswers t d .conflict 0) ∧
    (s.admits opPwmStatusGet d (.pwm c) →
      (d.bits 8 0 2 = 0 → Answers (.pwmStatusGet d) s fun t => s.onlyAnswers t d .ok p.active.bits) ∧
      (d.bits 8 0 2 = 1 → Answers (.pwmStatusGet d) s fun t => s.onlyAnswers t d .ok (p.shadow.getD p.active).bits) ∧
      (d.bits 8 0 2 = 2 → Answers (.pwmStatusGet d) s fun t =>
        s.onlyAnswers t d .ok (mkRes [(8, 0, 32, p.periods.toNat), (12, 0, 16, p.late.toNat), (14, 0, 16, p.trips.toNat)])) ∧
      (d.bits 8 0 2 = 3 → Answers (.pwmStatusGet d) s fun t => s.onlyAnswers t d .range 0))

/-- 07 R199 to R202, R205, R209, R211 to R213, R215, R221, R227: what is clamped at a transfer, the waveform of a set, boundaries and the end
of their TCLK, compares, trips.
(Rests in part on log entry 202: the model's reading or choice.) -/
def Obligations.PwmMoments : Prop :=
  ((∀ (p : Pwm) (x : Sys2Proof.Machine.PSet), (p.clampSet x).1.set ≤ p.units x ∧ (p.clampSet x).1.clear ≤ p.units x ∧
    (x.set ≤ p.units x → x.clear ≤ p.units x → p.clampSet x = (x, none))) ∧
  (∀ (p : Pwm) (x : Sys2Proof.Machine.PSet), p.units x < x.clear → (p.clampSet x).1.clear = p.units x ∧ (p.clampSet x).1.fineClr = 0) ∧
  (∀ (x : Sys2Proof.Machine.PSet) (i : Nat), x.s = x.k → x.level i = false) ∧
  (∀ (x : Sys2Proof.Machine.PSet) (i : Nat), x.s + 32 ≤ x.k → x.level i = decide (x.s ≤ i ∧ i < x.k)) ∧
  (∀ (x : Sys2Proof.Machine.PSet) (i : Nat), x.k + 32 ≤ x.s → x.level i = decide (x.s ≤ i ∨ i < x.k)) ∧
  (∀ (x : Sys2Proof.Machine.PSet) (i j : Nat), x.narrow → x.level i = x.level j) ∧
  (∀ (x : Sys2Proof.Machine.PSet) (i : Nat), x.set = 0 → x.fineSet = 0 → x.fineClr = 0 → 0 < x.clear → i < x.clear * 32 → x.level i)) ∧
  (∀ (s : State) (c : Fin 48),
    let p := s.dev.pwms[c]
    (s.dev.pwmCanStart c = false → Answers (.pwmPeriodBoundary c) s fun t => t = s) ∧
    (s.dev.pwmCanStart c → Answers (.pwmPeriodBoundary c) s fun t =>
      (t.dev.pwms[c]).run ∧ (t.dev.pwms[c]).periods = p.periods + 1 ∧ (t.dev.pwms[c]).t0 = s.dev.now ∧ (t.dev.pwms[c]).shadow = none ∧
      (t.dev.pwms[c]).window = p.window ∧ (p.shadow = none → (t.dev.pwms[c]).active = p.active) ∧
      (∀ x, p.shadow = some x → (t.dev.pwms[c]).active = (p.clampSet x).1 ∧ (p.clamp ∨ (p.clampSet x).2 ≠ none ↔ (t.dev.pwms[c]).clamp)) ∧
      ((t.dev.pwms[c]).level = (t.dev.pwms[c]).active.level 0) ∧ (t.dev.pwms[c]).staging = p.staging ∧ s.onlyDev t ∧
      ∀ k : Fin 48, k ≠ c → t.dev.pwms[k] = s.dev.pwms[k]) ∧
    (∀ d : Desc, s.dev.pwmCanStart c → p.starting → s.dev.waits = [{ op := 0x54, d }] → queueFunc 0x54 d.handle = 16 + c.val / 8 →
      (d.bits 8 0 8).testBit (c.val % 8) → (∀ k : Fin 48, k ≠ c → (s.dev.pwms[k]).starting = false) →
      Answers (.pwmPeriodBoundary c) s fun t => t.okd d ∧ t.dev.waits = [] ∧ (t.dev.pwms[c]).starting = false ∧ (t.dev.pwms[c]).run) ∧
    (s.dev.pwmCanStart c → p.staging.any → Answers (.pwmPeriodBoundary c) s fun t => (t.dev.pwms[c]).staleCnt = p.staleCnt + 1) ∧
    (p.begun s.dev.now → (s.dev.pwmTick.pwms[c]).shadow = p.window.or p.shadow ∧ (s.dev.pwmTick.pwms[c]).window = none ∧
      (s.dev.pwmTick.pwms[c]).active = p.active ∧ (s.dev.pwmTick.pwms[c]).staging = p.staging) ∧
    (p.begun s.dev.now = false → s.dev.pwmTick.pwms[c] = p) ∧
    (p.begun s.dev.now → (∀ k : Fin 48, k ≠ c → (s.dev.pwms[k]).begun s.dev.now = false) → s.dev.held (16 + c.val / 8) = false →
      p.staging.any → 256 ≤ p.staleCnt → p.staleRaised = false → s.dev.handling (hBank c) = false →
      (s.dev.pwmTick.pwms[c]).stale ∧ ∃ e ∈ s.dev.pwmTick.raised, e.code = EV_PWM_STALE ∧ e.handle = hPwm c) ∧
    (s.dev.pwmRuns c → p.active.set < p.units p.active → Answers (.pwmCompareMatch c .set) s fun t =>
      ((t.dev.pwms[c]).level = p.active.level p.active.s) ∧ (t.dev.pwms[c]).active = p.active ∧ (t.dev.pwms[c]).periods = p.periods ∧
      s.onlyDev t) ∧
    (s.dev.pwmRuns c → p.active.clear < p.units p.active → Answers (.pwmCompareMatch c .clear) s fun t =>
      ((t.dev.pwms[c]).level = p.active.level p.active.k) ∧ (t.dev.pwms[c]).active = p.active ∧ s.onlyDev t) ∧
    (∀ k : Fin 8, (s.dev.trips[k]).en → s.dev.active 91 → (s.dev.trips[k]).qual = false → p.tripMask.getLsbD k.val →
      s.dev.held 91 = false → s.dev.held (16 + c.val / 8) = false → s.dev.stopped (16 + c.val / 8) = false → p.force = false →
      p.latched = false →
      Answers (.tripActive k) s fun t =>
        (t.dev.trips[k]).active ∧ (t.dev.trips[k]).seen ∧ (t.dev.pwms[c]).force ∧ ((t.dev.pwms[c]).latched = p.tripLatch) ∧
        (t.dev.pwms[c]).trips = p.trips + 1 ∧ (t.dev.pwms[c]).active = p.active ∧ s.onlyDev t) ∧
    (∀ k : Fin 8, (s.dev.trips[k]).en → s.dev.active 91 → Answers (.tripInactive k) s fun t =>
      (t.dev.trips[k]).active = false ∧ ((t.dev.trips[k]).seen = (s.dev.trips[k]).seen) ∧ s.onlyDev t) ∧
    (p.pulse → Answers (.refreshPulseEnd c) s fun t => (t.dev.pwms[c]).pulse = false ∧ ((t.dev.pwms[c]).level = p.level) ∧ s.onlyDev t) ∧
    (s.dev.tripsOn c = 0 → s.dev.blankingOn c → p.force = false → Answers (.blankWindowEnd c) s fun t => t = s) ∧
    (s.dev.tripsOn c ≠ 0 → s.dev.blankingOn c → s.dev.held (16 + c.val / 8) = false → s.dev.stopped (16 + c.val / 8) = false →
      p.force = false → p.latched = false → Answers (.blankWindowEnd c) s fun t =>
        (t.dev.pwms[c]).force ∧ ((t.dev.pwms[c]).latched = p.tripLatch) ∧ (t.dev.pwms[c]).trips = p.trips + 1))

/-! ## The valve drive -/

/-- A change of channel `c` alone. -/
def Dev.withValve (s : Dev) (c : Fin 16) (v : Valve) : Dev := { s with valves := s.valves.set c.val v }

/-- Nothing waits, nothing is armed, no fault and no fail position. -/
def FreeChan (v : Valve) : Prop := v.wait = none ∧ v.armed = none ∧ v.failpos = false ∧ v.phase ≠ .fault

/-- 08 R229 to R233, R235, R236, R238, R239, R242, R243, R245 to R250: the descriptors of class 0x6.
(Rests in part on log entries 142, 143, 145, 146, 204, 205, 243: the model's reading or choice.) -/
def Obligations.ValveDescriptors : Prop :=
  ∀ (s : State) (d : Desc) (c : Fin 16),
    let v := s.dev.valves[c]
    let k := pairOf c
    let q := s.dev.valves[partnerOf c]
    (s.admits opValveConfig d (.valve c) → s.dev.oddPar c = false → v.quiet → 50 ≤ d.bits 8 0 16 → d.bits 8 0 16 ≤ 1000 →
      d.bits 10 0 8 ≠ 0 → d.bits 11 0 8 ≠ 0 → d.bits 11 0 8 ≤ 40 → d.bits 13 0 8 ≠ 0 →
      codeOf (d.bits 14 0 16) (d.bits 8 0 16) (s.dev.par c) ≤ 1023 → d.bits 16 0 16 < d.bits 18 0 16 → d.bits 20 0 16 ≤ 400 →
      Answers (.valveConfig d) s fun t =>
        t.okd d ∧ s.becomes t (Dev.withValve s.dev c { v with
          rshunt := d.bits 8 0 16, toff := d.bits 10 0 8, tblank := d.bits 11 0 8, fail := d.bits 12 0 2, kinkEn := d.flag 12 2
          kinkTh := d.bits 13 0 8, failI := d.bits 14 0 16, kinkStart := d.bits 16 0 16, kinkEnd := d.bits 18 0 16
          shortT := d.bits 20 0 16, openT := d.bits 22 0 16 })) ∧
    (s.admits opValveConfig d (.valve c) → (d.bits 8 0 16 < 50 ∨ d.bits 10 0 8 = 0 ∨ d.bits 18 0 16 ≤ d.bits 16 0 16) →
      Answers (.valveConfig d) s fun t => s.onlyAnswers t d .range 0) ∧
    (s.admits opValveProfile d (.valve c) → s.dev.oddPar c = false →
      (∀ i ∈ [d.bits 8 0 16, d.bits 12 0 16, d.bits 16 0 16, d.bits 26 0 16], codeOf i v.rshunt (s.dev.par c) ≤ 1023) →
      d.bits 10 0 16 ≤ 10000 → (d.bits 10 0 16 = 0 ∨ d.bits 14 0 16 = 0 ∨ d.bits 12 0 16 ≤ d.bits 8 0 16) →
      (d.bits 22 0 16 = 0 ∨ 50 ≤ d.bits 22 0 16 ∧ d.bits 22 0 16 ≤ 400) → d.bits 24 0 8 ≤ 25 →
      Answers (.valveProfile d) s fun t => t.okd d ∧ s.becomes t (Dev.withValve s.dev c { v with prof := profileOf d })) ∧
    (s.admits opValveCmd d (.valve c) → s.dev.par c = false → FreeChan v → d.flag 8 1 = false → d.flag 8 2 = false → d.flag 8 0 →
      v.prof.tBoostMax = 0 →
      Answers (.valveCmd d) s fun t =>
        let x := t.dev.valves[c]
        t.answered d .ok (s.dev.valveRes false false false) ∧ s.onlyDev t ∧ x.phase = v.prof.afterBoost ∧ x.cur = v.prof ∧
        x.chop = .on ∧ x.starts = v.starts + 1 ∧ (x.kink = v.kinkEn) ∧ x.closed = false ∧ x.sp = v.sp ∧
        ∀ j : Fin 16, pairOf j ≠ k → t.dev.valves[j] = s.dev.valves[j]) ∧
    (s.admits opValveCmd d (.valve c) → s.dev.par c = false → FreeChan v → d.flag 8 1 = false → d.flag 8 2 = false → d.flag 8 0 →
      v.prof.tBoostMax ≠ 0 → (s.dev.pairs[k]).rail = none → (s.dev.pairs[k]).freed ≠ some (!isOdd c, s.dev.now) → q.wait = none →
      (s.dev.pairs[k]).boostReady ≤ s.dev.senseVboost.vboost →
      Answers (.valveCmd d) s fun t =>
        let x := t.dev.valves[c]
        t.answered d .ok (s.dev.valveRes false false false) ∧ x.phase = .boost ∧ x.code = codeOf v.prof.iBoost v.rshunt false ∧
        (t.dev.pairs[k]).rail = some (isOdd c) ∧ x.starts = v.starts + 1) ∧
    (s.admits opValveCmd d (.valve c) → s.dev.par c = false → FreeChan v → d.flag 8 1 = false → d.flag 8 2 = false → d.flag 8 0 →
      v.prof.tBoostMax ≠ 0 → (s.dev.pairs[k]).rail = some (!isOdd c) → (s.dev.pairs[k]).freed ≠ some (!isOdd c, s.dev.now) →
      Answers (.valveCmd d) s fun t =>
        let x := t.dev.valves[c]
        t.waiting 0x62 d ∧ t.dev.done = s.dev.done ∧ x.phase = v.phase ∧ x.cur = v.cur ∧ x.starts = v.starts ∧
        x.wait = some { d := some d, rail := true, late := false } ∧ (t.dev.pairs[k]).rail = some (!isOdd c)) ∧
    (s.admits opValveCmd d (.valve c) → s.dev.par c = false → FreeChan v → d.flag 8 1 = false → d.flag 8 2 = false → d.flag 8 0 →
      v.prof.tBoostMax ≠ 0 → (s.dev.pairs[k]).rail = none → (s.dev.pairs[k]).freed ≠ some (!isOdd c, s.dev.now) → q.wait = none →
      s.dev.senseVboost.vboost < (s.dev.pairs[k]).boostReady →
      ((s.dev.pairs[k]).bpol → Answers (.valveCmd d) s fun t =>
        t.answered d .ok (s.dev.valveRes false false true) ∧ (t.dev.valves[c]).phase = v.prof.afterBoost ∧ (t.dev.valves[c]).notReady ∧
        (t.dev.pairs[k]).rail = none) ∧
      ((s.dev.pairs[k]).bpol = false → Answers (.valveCmd d) s fun t =>
        t.waiting 0x62 d ∧ t.dev.done = s.dev.done ∧ (t.dev.valves[c]).phase = v.phase ∧ (t.dev.valves[c]).notReady ∧
        (t.dev.pairs[k]).rail = some (isOdd c))) ∧
    (s.admits opValveCmd d (.valve c) → s.dev.par c = false → FreeChan v → d.flag 8 1 = false → d.flag 8 2 = false → d.flag 8 0 = false →
      v.runs → (s.dev.pairs[k]).rail = none →
      Answers (.valveCmd d) s fun t =>
        let x := t.dev.valves[c]
        t.answered d .ok (s.dev.valveRes false false false) ∧ x.phase = .off ∧ x.code = 0 ∧
        (x.chop = if v.cur.dec.getLsbD 3 then .fast else .slow) ∧ (x.subst = v.subst) ∧ x.offAt = some s.dev.now) ∧
    (∀ a, s.admits opValveCmd d (.valve c) → s.dev.par c = false → (∀ x ∈ s.dev.waits, x.ghost = false) → v.phase = .idle →
      v.armed = none → v.wait = some { d := some a, rail := true, late := false } → d.flag 8 1 = false → d.flag 8 2 = false →
      d.flag 8 0 = false →
      Answers (.valveCmd d) s fun t =>
        (t.dev.valves[c]).wait = none ∧ (t.dev.valves[c]).phase = .idle ∧
        ∃ x y, t.dev.done = s.dev.done ++ [x, y] ∧ x.tag = a.tag ∧ x.status = .flushed ∧ y.tag = d.tag ∧ y.status = .ok) ∧
    (s.admits opValveCmd d (.valve c) → s.dev.par c = false → v.phase = .fault → d.flag 8 2 = false →
      (d.flag 8 0 → Answers (.valveCmd d) s fun t =>
        t.answered d .busy 0 ∧ s.becomes t (Dev.withValve s.dev c { v with failpos := v.failpos && s.dev.power.valveFail })) ∧
      (d.flag 8 0 = false → Answers (.valveCmd d) s fun t =>
        t.answered d .ok (s.dev.valveRes false false false) ∧
        s.becomes t (Dev.withValve s.dev c { v with failpos := v.failpos && s.dev.power.valveFail }))) ∧
    (s.admits opValveCmd d (.valve c) → s.dev.par c = false → FreeChan v → d.flag 8 1 → d.flag 8 2 = false → s.dev.tb.valid →
      Answers (.valveCmd d) s fun t =>
        t.waiting 0x62 d ∧ t.dev.done = s.dev.done ∧ t.dev.valves = s.dev.valves.set c.val { v with armed := some d } ∧
        t.dev.pairs = s.dev.pairs) ∧
    (∀ a, s.admits opValveCmd d (.valve c) → s.dev.par c = false → (∀ x ∈ s.dev.waits, x.ghost = false) → v.phase ≠ .fault →
      v.armed = some a → d.flag 8 1 → d.flag 8 2 = false → s.dev.tb.valid →
      Answers (.valveCmd d) s fun t => t.waiting 0x62 d ∧ t.answered a .flushed 0 ∧ (t.dev.valves[c]).armed = some d) ∧
    (s.admits opValveCmd d (.valve c) → d.flag 8 2 → (s.dev.ownerOf (hValve c)).isSome →
      codeOfSp (d.bits 12 0 32) v.rshunt (s.dev.par c) ≤ 1023 → Answers (.valveCmd d) s fun t => s.onlyAnswers t d .conflict 0) ∧
    (s.admits opValvePropSet d (.valve c) → s.dev.oddPar c = false → codeOfSp (d.bits 8 0 32) v.rshunt (s.dev.par c) ≤ 1023 →
      (s.dev.ownerOf (hValve c)).isSome = false → v.failpos = false →
      Answers (.valvePropSet d) s fun t =>
        t.answered d .ok (mkRes [(8, 0, 32, v.sp)]) ∧
        s.becomes t (Dev.withValve s.dev c { v with
          sp := d.bits 8 0 32
          code := if v.phase = .prop then Valve.propCode { v with sp := d.bits 8 0 32 } (s.dev.par c) else v.code })) ∧
    (s.admits opValvePropSet d (.valve c) → 1023 < codeOfSp (d.bits 8 0 32) v.rshunt (s.dev.par c) →
      Answers (.valvePropSet d) s fun t => s.onlyAnswers t d .range 0) ∧
    (s.admits opValvePropSet d (.valve c) → codeOfSp (d.bits 8 0 32) v.rshunt (s.dev.par c) ≤ 1023 →
      (s.dev.ownerOf (hValve c)).isSome → Answers (.valvePropSet d) s fun t => s.onlyAnswers t d .conflict 0) ∧
    (s.admits opSaddleConfig d (.pair k) → 10 ≤ d.bits 10 0 16 → d.bits 10 0 16 ≤ 2000 → d.bits 12 0 16 ≤ 2000 → 96 ≤ d.bits 14 0 16 →
      d.bits 14 0 16 ≤ 260 → v.quiet → q.quiet →
      Answers (.saddleConfig d) s fun t =>
        t.okd d ∧ s.becomes t { s.dev with pairs := s.dev.pairs.set k.val { s.dev.pairs[k] with
          par := d.flag 8 0, bpol := d.flag 8 1, boostWait := d.bits 10 0 16, readyWait := d.bits 12 0 16
          boostReady := d.bits 14 0 16 } }) ∧
    (s.admits opSaddleConfig d (.pair k) → 10 ≤ d.bits 10 0 16 → d.bits 10 0 16 ≤ 2000 → d.bits 12 0 16 ≤ 2000 → 96 ≤ d.bits 14 0 16 →
      d.bits 14 0 16 ≤ 260 → v.quiet = false → Answers (.saddleConfig d) s fun t => s.onlyAnswers t d .busy 0) ∧
    (s.admits opValveAck d (.valve c) → s.dev.par c = false → v.phase = .fault →
      Answers (.valveAck d) s fun t =>
        t.okd d ∧ (t.dev.valves[c]).phase = .idle ∧ (t.dev.valves[c]).cause = 0 ∧
        ∀ e ∈ t.dev.log.errs, e.source = hPair k → e.code ≠ LG_VALVE_OPEN ∧ e.code ≠ LG_VALVE_SHORT) ∧
    (s.admits opValveAck d (.valve c) → v.phase ≠ .fault → Answers (.valveAck d) s fun t => s.onlyAnswers t d .conflict 0) ∧
    (s.admits opValveStatusGet d (.valve c) → s.dev.oddPar c = false →
      Answers (.valveStatusGet d) s fun t =>
        s.onlyAnswers t d .ok (mkRes [(8, 0, 32, v.status.toNat), (12, 0, 16, v.closeT.getD 0xFFFF), (14, 0, 16, v.starts.toNat)])) ∧
    (s.dev.oddPar c → s.admits opValveStatusGet d (.valve c) → Answers (.valveStatusGet d) s fun t => s.onlyAnswers t d .conflict 0)

/-- 08 R229, R231, R233 to R235, R238, R239, R241 to R243, R254: crossings, expiries, detections and what the end of a TCLK brings, on a channel
of a pair that is not paralleled;
BGk and HSGk are never on together and change through both off.
(Rests in part on log entries 144, 204, 205, 206, 243: the model's reading or choice.) -/
def Obligations.ValveMoments : Prop :=
  (∀ (p : Pair) (w : Option Bool), (p.bg → (p.gates w).hsg → p.hsg) ∧ (p.hsg → (p.gates w).bg → p.bg) ∧
    ((p.bg && p.hsg) = false → ((p.gates w).bg && (p.gates w).hsg) = false)) ∧
  ∀ (s : State) (c : Fin 16), s.dev.par c = false →
    let v := s.dev.valves[c]
    let k := pairOf c
    let q := s.dev.valves[partnerOf c]
    let calm : Prop := ∀ x ∈ s.dev.waits, x.ghost = false
    (v.chop ≠ .on ∨ v.blank ∨ v.runs = false → Answers (.thresholdCrossing c) s fun t => t = s) ∧
    (v.chop = .on → v.blank = false → v.phase = .boost → v.shortT = 0 →
      Answers (.thresholdCrossing c) s fun t =>
        (t.dev.valves[c]).phase = v.cur.afterBoost ∧ s.onlyDev t ∧
        ((s.dev.pairs[k]).rail = some (isOdd c) → v.wait = none → q.wait = none → (t.dev.pairs[k]).rail = none)) ∧
    (∀ w a, v.chop = .on → v.blank = false → v.phase = .boost → v.shortT = 0 → (s.dev.pairs[k]).rail = some (isOdd c) → calm →
      v.wait = none → q.wait = some w → w.rail → w.d = some a → q.prof.tBoostMax ≠ 0 →
      (s.dev.pairs[k]).boostReady ≤ s.dev.senseVboost.vboost →
      Answers (.thresholdCrossing c) s fun t =>
        (t.dev.pairs[k]).rail = some (!isOdd c) ∧ (t.dev.valves[partnerOf c]).phase = .boost ∧
        t.answered a (okOrLate w.late) (s.dev.valveRes true false false)) ∧
    (v.chop = .on → v.blank = false → (v.phase = .peak ∨ v.phase = .hold ∨ v.phase = .prop) → v.shortT = 0 →
      Answers (.thresholdCrossing c) s fun t =>
        let x := t.dev.valves[c]
        let fast := (v.chopBy s.dev.now (v.fastIn v.phase)).1
        x.phase = v.phase ∧ x.code = v.code ∧ (v.fall = none → fast = v.fastIn v.phase) ∧
        (fast = false → x.chop = .slow ∧ (x.subst = v.subst)) ∧ (fast → q.isOn → x.chop = .slow ∧ x.subst)) ∧
    (∀ b, v.chop = .on → v.blank = false → v.runs → v.shortT ≠ 0 → v.blankEnd = some b → s.dev.now ≤ b + 1 →
      s.dev.now - v.onAt < v.shortT * 10 →
      Answers (.thresholdCrossing c) s fun t =>
        (t.dev.valves[c]).phase = .fault ∧ (t.dev.valves[c]).cause = 2 ∧ (t.dev.valves[c]).code = 0 ∧
        (s.dev.held (pairFunc k) = false → s.dev.handling (hPair k) = false →
          ∃ e ∈ t.dev.raised, e.code = EV_VALVE_FAULT ∧ e.handle = hValve c)) ∧
    (v.runs → (v.chop = .slow ∨ v.chop = .fast) → Answers (.toffExpiry c) s fun t =>
      let x := t.dev.valves[c]
      x.chop = .on ∧ x.blank ∧ x.onAt = s.dev.now ∧ x.crossed = false ∧ x.phase = v.phase) ∧
    (v.runs = false → Answers (.toffExpiry c) s fun t => t = s) ∧
    (Answers (.tblankExpiry c) s fun t =>
      s.becomes t (Dev.withValve s.dev c (if v.blank then { v with blank := false, blankEnd := some s.dev.now } else v))) ∧
    (v.phase = .boost → Answers (.tBoostMaxExpiry c) s fun t =>
      (t.dev.valves[c]).phase = v.cur.afterBoost ∧ (s.dev.held (pairFunc k) = false → t.dev.handling (hPair k))) ∧
    (v.phase ≠ .boost → Answers (.tBoostMaxExpiry c) s fun t => t = s) ∧
    (v.phase = .peak → Answers (.tPeakExpiry c) s fun t =>
      (t.dev.valves[c]).phase = v.cur.last ∧ (t.dev.pairs[k]).rail = (s.dev.pairs[k]).rail) ∧
    (v.phase = .hold → v.cur.tHold ≠ 0 → v.failpos = false → Answers (.tHoldExpiry c) s fun t =>
      (t.dev.valves[c]).phase = .off ∧ (t.dev.valves[c]).code = 0) ∧
    (v.cur.tHold = 0 → Answers (.tHoldExpiry c) s fun t => t = s) ∧
    (v.phase = .off → Answers (.offPhaseEnd c) s fun t => (t.dev.valves[c]).phase = .idle ∧ (t.dev.valves[c]).chop = .none) ∧
    (v.phase = .fault → Answers (.offPhaseEnd c) s fun t => (t.dev.valves[c]).phase = .fault ∧ (t.dev.valves[c]).chop = .none) ∧
    ((v.phase = .peak ∨ v.phase = .hold ∨ v.phase = .prop) → v.openT ≠ 0 → v.chop = .on → v.crossed = false →
      Answers (.openTExpiry c) s fun t => (t.dev.valves[c]).phase = .fault ∧ (t.dev.valves[c]).cause = 1 ∧ (t.dev.valves[c]).code = 0) ∧
    (v.openT = 0 → Answers (.openTExpiry c) s fun t => t = s) ∧
    (∀ w a, calm → v.wait = some w → w.rail → w.d = some a → Answers (.boostWaitExpiry c) s fun t =>
      t.answered a .conflict 0 ∧ (t.dev.valves[c]).wait = none ∧ (t.dev.valves[c]).overlap ∧ (t.dev.valves[c]).phase = v.phase ∧
      (t.dev.valves[c]).starts = v.starts ∧ t.dev.pairs = s.dev.pairs) ∧
    (∀ w a, calm → v.wait = some w → w.rail = false → w.d = some a → q.wait = none → v.prof.tBoostMax ≠ 0 → v.failpos = false →
      (Answers (.vboostReady k) s fun t =>
        t.answered a (okOrLate w.late) (s.dev.valveRes w.waited true false) ∧ (t.dev.valves[c]).phase = .boost ∧
        (s.dev.pairs[k]).boostReady ≤ t.dev.vboost) ∧
      (Answers (.readyWaitExpiry k) s fun t =>
        t.answered a (okOrLate w.late) (s.dev.valveRes w.waited true true) ∧ (t.dev.valves[c]).phase = v.prof.afterBoost)) ∧
    (∀ g, (s.dev.pairs[k]).bg = false → (s.dev.pairs[k]).hsg = false → s.dev.wantGate k = some g →
      Answers (.deadTimeEnd k) s fun t => ((t.dev.pairs[k]).bg = g) ∧ ((t.dev.pairs[k]).hsg = !g)) ∧
    (v.phase = .prop → v.cur.dithF ≠ 0 → Answers (.ditherStep c) s fun t =>
      s.becomes t (Dev.withValve s.dev c { v with
        dith := (v.dith + 1) % (if v.cur.tri then 64 else 2)
        code := Valve.propCode { v with dith := (v.dith + 1) % (if v.cur.tri then 64 else 2) } false })) ∧
    (v.phase ≠ .prop ∨ v.cur.dithF = 0 → Answers (.ditherStep c) s fun t => t = s) ∧
    ((s.dev.now - v.tStart) / 400 < v.kinkStart ∨ v.kinkEnd < (s.dev.now - v.tStart) / 400 →
      Answers (.closingDetected c) s fun t => t = s) ∧
    (v.kink → v.kinkStart ≤ (s.dev.now - v.tStart) / 400 → (s.dev.now - v.tStart) / 400 ≤ v.kinkEnd →
      Answers (.closingDetected c) s fun t =>
      (t.dev.valves[c]).closed ∧ (t.dev.valves[c]).kink = false ∧ (t.dev.valves[c]).closeT = some ((s.dev.now - v.tStart) / 400) ∧
      (t.dev.valves[c]).phase = v.phase ∧ ∃ e ∈ t.dev.raised, e.code = EV_VALVE_CLOSED ∧ e.handle = hValve c ∧
        e.arg = mkWord [(0, 16, (s.dev.now - v.tStart) / 400)]) ∧
    (v.kink → Answers (.kinkWindowEnd c) s fun t =>
      (t.dev.valves[c]).kink = false ∧ ((t.dev.valves[c]).closed = v.closed) ∧
      ∃ e ∈ t.dev.raised, e.code = EV_VALVE_CLOSED ∧ e.handle = hValve c ∧ e.arg = 0x80000000) ∧
    (v.kink = false → (Answers (.closingDetected c) s fun t => t = s) ∧ (Answers (.kinkWindowEnd c) s fun t => t = s)) ∧
    (v.phase = .off → v.chop = .fast → v.offAt.isSome → (s.dev.pairs[k]).strobed = 0 → (s.dev.pairs[k]).rail = none →
      ((s.dev.valveTick.valves[c]).chop = if q.isOn then .slow else .fast) ∧ (q.isOn → (s.dev.valveTick.valves[c]).subst) ∧
      (s.dev.valveTick.valves[c]).offAt = none) ∧
    (∀ arg : Byte, s.dev.active (pairFunc k) → ((s.dev.valveStrobe k arg).pairs[k]).strobed = Nat.lor (s.dev.pairs[k]).strobed (strobeMask arg) ∧
      (s.dev.valveStrobe k arg).valves = s.dev.valves) ∧
    (∀ d, calm → v.armed = some d → v.wait = none → v.failpos = false → v.phase ≠ .fault → d.flag 8 0 → d.flag 8 2 = false →
      v.prof.tBoostMax = 0 → (s.dev.pairs[k]).rail = none → (s.dev.pairs[k]).strobed = (if isOdd c then 2 else 1) →
      (s.dev.valveTick.valves[c]).phase = v.prof.afterBoost ∧ (s.dev.valveTick.valves[c]).armed = none ∧
      (s.dev.valveTick.valves[c]).starts = v.starts + 1 ∧ State.ended { s with dev := s.dev.valveTick } d .ok)

/-! ## Fans and dampers -/

/-- A change of fan `n` alone. -/
def Dev.withFan (s : Dev) (n : Fin 12) (f : Fan) : Dev := { s with fans := s.fans.set n.val f }

/-- A fan with a target formed anew: a and BAND of 09 R262. -/
def formed (f : Fan) : Fan := { f with applied := f.form (f.target / 65536), band := f.banded (f.target / 65536) }

/-- 09 R256, R258 to R264, R269, R271 to R275: the fans.
(Rests in part on log entries 148, 149, 150, 207, 208: the model's reading or choice.) -/
def Obligations.Fans : Prop :=
  ∀ (s : State) (d : Desc) (n : Fin 12),
    let f := s.dev.fans[n]
    let m := f.loopNo
    (s.admits opFanConfig d (.fan n) → fanConfigBad d = false → f.state = .disabled → f.attached = false →
      Answers (.fanConfig d) s fun t =>
        t.okd d ∧ s.becomes t (Dev.withFan s.dev n (formed { f with
          loop := d.bits 8 0 8, ch := d.bits 9 0 8, triac := d.flag 10 0, tfilt := d.bits 10 4 4, ppr := d.bits 11 0 3
          isense := d.word 12, minRpm := d.bits 16 0 16, maxRpm := d.bits 18 0 16, kickT := d.bits 20 0 8, retries := d.bits 21 0 8
          slowPct := d.bits 22 0 8, slowT := d.bits 23 0 8, lostT := d.bits 24 0 16, iMin := d.bits 26 0 16, iMax := d.bits 28 0 16
          gateW := d.bits 30 0 16, edges := [], edgeCnt := 0 }))) ∧
    (s.admits opFanConfig d (.fan n) → fanConfigBad d = false → f.state ≠ .disabled →
      Answers (.fanConfig d) s fun t => s.onlyAnswers t d .busy 0) ∧
    (s.admits opFanConfig d (.fan n) → fanConfigBad d → Answers (.fanConfig d) s fun t => s.onlyAnswers t d .range 0) ∧
    (s.admits opFanBands d (.fan n) → bandsOk f f.minRpm (bandsUsed d) → Answers (.fanBands d) s fun t =>
      let x := t.dev.fans[n]
      t.okd d ∧ (∀ k : Fin 4, x.lo[k] = bandLo d k ∧ x.hi[k] = bandHi d k) ∧ x.applied = x.form (f.target / 65536) ∧ x.state = f.state ∧
      (f.attached → (t.dev.loops[m]).target = x.applied * 65536)) ∧
    (s.admits opFanBands d (.fan n) → bandsOk f f.minRpm (bandsUsed d) = false →
      Answers (.fanBands d) s fun t => s.onlyAnswers t d .range 0) ∧
    (s.admits opFanSet d (.fan n) → (s.dev.ownerOf (hFan n)).isSome → Answers (.fanSet d) s fun t => s.onlyAnswers t d .conflict 0) ∧
    (s.admits opFanSet d (.fan n) → (s.dev.ownerOf (hFan n)).isSome = false → f.full = false → Answers (.fanSet d) s fun t =>
      let a := f.form (d.bits 8 0 32 / 65536)
      t.answered d .ok (mkRes [(8, 0, 32, f.target), (12, 0, 32, a * 65536)]) ∧
      t.dev.fans = s.dev.fans.set n.val (formed { f with target := d.bits 8 0 32 }) ∧ s.onlyDev t ∧
      (f.attached → (t.dev.loops[m]).target = a * 65536 ∧ ((s.dev.loops[m]).jump = false → (t.dev.loops[m]).jump = f.crosses f.applied a)) ∧
      ∀ k : Fin 144, k ≠ m → t.dev.loops[k] = s.dev.loops[k]) ∧
    (s.admits opFanSet d (.fan n) → (s.dev.ownerOf (hFan n)).isSome = false → f.full → s.dev.power.policy →
      Answers (.fanSet d) s fun t => s.onlyAnswers t d .ok (mkRes [(8, 0, 32, f.target), (12, 0, 32, f.applied * 65536)])) ∧
    (s.admits opFanSet d (.fan n) → (s.dev.ownerOf (hFan n)).isSome = false → f.full → s.dev.power.policy = false → f.state = .full →
      s.dev.fanLive n → Answers (.fanSet d) s fun t =>
        (t.dev.fans[n]).full = false ∧ (t.dev.fans[n]).target = d.bits 8 0 32 ∧
        (t.dev.fans[n]).state = (if f.form (d.bits 8 0 32 / 65536) = 0 then .stopped
          else if f.minRpm * 65536 ≤ f.speed then .run else .kick)) ∧
    (s.admits opFanCtrl d (.fan n) → d.bits 8 0 2 = 0 → f.attached → f.state ≠ .disabled → Answers (.fanCtrl d) s fun t =>
      t.okd d ∧ (t.dev.fans[n]).state = .disabled ∧ (t.dev.fans[n]).attached = false ∧ (t.dev.loops[m]).state = .disabled ∧
      ∃ e ∈ t.dev.raised, e.code = EV_FAN_STATE ∧ e.handle = hFan n ∧ e.arg = mkWord [(0, 3, 0), (4, 3, f.state.num)]) ∧
    (s.admits opFanCtrl d (.fan n) → d.bits 8 0 2 = 1 → f.state = .disabled → s.dev.fanFits n → s.dev.loopTaken m = false →
      s.dev.pwmOwned (ix 47 f.ch) = false → s.dev.loopBusy m = false → Answers (.fanCtrl d) s fun t =>
        t.okd d ∧ (t.dev.fans[n]).state = .stopped ∧ (t.dev.fans[n]).attached ∧ (t.dev.fans[n]).stalls = 0 ∧
        (s.dev.active (loopFunc m) → (t.dev.loops[m]).state = .manual ∧ (t.dev.loops[m]).u = 0)) ∧
    (s.admits opFanCtrl d (.fan n) → d.bits 8 0 2 = 1 → f.state = .disabled →
      (s.dev.fanFits n = false → Answers (.fanCtrl d) s fun t => s.onlyAnswers t d .range 0) ∧
      (s.dev.fanFits n → s.dev.loopTaken m → Answers (.fanCtrl d) s fun t => s.onlyAnswers t d .conflict 0) ∧
      (s.dev.fanFits n → s.dev.loopTaken m = false → s.dev.pwmOwned (ix 47 f.ch) = false → s.dev.loopBusy m →
        Answers (.fanCtrl d) s fun t => s.onlyAnswers t d .busy 0)) ∧
    (s.admits opFanCtrl d (.fan n) → d.bits 8 0 2 = 2 → f.state = .locked → f.attached → Answers (.fanCtrl d) s fun t =>
      t.okd d ∧ (t.dev.fans[n]).state = .stopped ∧ (t.dev.fans[n]).stalls = 0 ∧
      ∀ e ∈ t.dev.log.errs, e.source = hFan n → e.code ≠ LG_FAN_LOCKED) ∧
    (s.admits opFanCtrl d (.fan n) → d.bits 8 0 2 = 2 → f.state ≠ .locked →
      Answers (.fanCtrl d) s fun t => s.onlyAnswers t d .conflict 0) ∧
    (s.admits opFanCtrl d (.fan n) → d.bits 8 0 2 = 3 → Answers (.fanCtrl d) s fun t => s.onlyAnswers t d .range 0) ∧
    (s.admits opFanStatusGet d (.fan n) →
      Answers (.fanStatusGet d) s fun t => s.onlyAnswers t d .ok (mkRes [(8, 0, 32, f.status.toNat), (12, 0, 32, f.speed)])) ∧
    -- what comes about
    (s.dev.active (fanFunc n) = false → Answers (.tachEdge n) s fun t => t = s) ∧
    (s.dev.active (fanFunc n) → f.edges.length < f.ppr → Answers (.tachEdge n) s fun t =>
      s.becomes t (Dev.withFan s.dev n { f with edges := s.dev.now / 4 :: f.edges, edgeCnt := 0 })) ∧
    (∀ v, s.dev.active (fanFunc n) → f.edges.length = f.ppr → 0 < f.ppr → tachValue (s.dev.now / 4 - f.edges.getD (f.ppr - 1) 0) = some v →
      (f.attached = false → Answers (.tachEdge n) s fun t =>
        s.becomes t (Dev.withFan s.dev n { f with edges := s.dev.now / 4 :: f.edges, edgeCnt := 0, speed := v })) ∧
      (s.dev.fanLive n → f.state = .kick → f.full = false → s.dev.power.policy = false → f.applied ≠ 0 → Answers (.tachEdge n) s fun t =>
        (t.dev.fans[n]).state = .run ∧ (t.dev.fans[n]).stalls = 0 ∧ (t.dev.fans[n]).speed = v) ∧
      (s.dev.fanLive n → f.state = .kick → f.full → Answers (.tachEdge n) s fun t => (t.dev.fans[n]).state = .full) ∧
      (s.dev.fanLive n → f.state = .full → Answers (.tachEdge n) s fun t => (t.dev.fans[n]).state = .full ∧ (t.dev.fans[n]).seen) ∧
      (s.dev.fanLive n → f.state = .open_ → f.full = false → s.dev.power.policy = false → f.applied ≠ 0 →
        (f.okVals ≠ 0 → Answers (.tachEdge n) s fun t => (t.dev.fans[n]).state = .run) ∧
        (f.okVals = 0 → Answers (.tachEdge n) s fun t => (t.dev.fans[n]).state = .open_ ∧ (t.dev.fans[n]).okVals = 1))) ∧
    (s.dev.active (fanFunc n) → f.edges.length = f.ppr → 0 < f.ppr → tachValue (s.dev.now / 4 - f.edges.getD (f.ppr - 1) 0) = none →
      Answers (.tachEdge n) s fun t => (t.dev.fans[n]).speed = 0 ∧ (t.dev.fans[n]).state = f.state) ∧
    (s.dev.fanLive n = false → Answers .fanEvaluation s fun t => t.dev.fans[n] = f) ∧
    (s.dev.fanLive n → f.state = .stopped → f.full = false → s.dev.power.policy = false → f.slow = false → Answers .fanEvaluation s fun t =>
      (t.dev.fans[n]).state = (if f.applied = 0 then .stopped else if f.minRpm * 65536 ≤ f.speed then .run else .kick)) ∧
    (s.dev.fanLive n → (f.state = .run ∨ f.state = .open_ ∨ f.state = .kick) → f.full = false → s.dev.power.policy = false →
      f.applied = 0 → Answers .fanEvaluation s fun t => (t.dev.fans[n]).state = .stopped) ∧
    (s.dev.fanLive n → (f.state = .run ∨ f.state = .open_ ∨ f.state = .stopped) → s.dev.power.policy → Answers .fanEvaluation s fun t =>
      (t.dev.fans[n]).state = .full ∧ (t.dev.fans[n]).full) ∧
    (s.dev.fanLive n → f.state = .kick → f.applied = 0 → f.full = false → Answers (.kickTimeout n) s fun t =>
      (t.dev.fans[n]).state = .stopped ∧ (t.dev.fans[n]).stalls = f.stalls ∧ (t.dev.loops[m]).u = 0) ∧
    (s.dev.fanLive n → f.state = .full → f.seen → Answers (.kickTimeout n) s fun t =>
      s.becomes t (Dev.withFan s.dev n { f with seen := false })) ∧
    (s.dev.fanLive n → f.state = .full → f.seen = false → f.stalls + 1 ≤ f.retries → Answers (.kickTimeout n) s fun t =>
      (t.dev.fans[n]).state = .backoff ∧ (t.dev.fans[n]).stalls = f.stalls + 1 ∧ (t.dev.fans[n]).full = f.full) ∧
    (s.dev.fanLive n → f.state = .kick → (f.applied ≠ 0 ∨ f.full) → f.stalls + 1 ≤ f.retries → Answers (.kickTimeout n) s fun t =>
      (t.dev.fans[n]).state = .backoff ∧ (t.dev.fans[n]).stalls = f.stalls + 1 ∧ (t.dev.loops[m]).state = .manual ∧ (t.dev.loops[m]).u = 0) ∧
    (s.dev.fanLive n → f.state = .kick → (f.applied ≠ 0 ∨ f.full) → f.retries < f.stalls + 1 → Answers (.kickTimeout n) s fun t =>
      (t.dev.fans[n]).state = .locked ∧ (t.dev.fans[n]).stalls = f.stalls + 1 ∧ t.dev.handling (hFan n)) ∧
    (f.state ≠ .kick → f.state ≠ .full → Answers (.kickTimeout n) s fun t => t = s) ∧
    (s.dev.active (fanFunc n) → f.state ≠ .run → Answers (.tachLostTimeout n) s fun t =>
      s.becomes t (Dev.withFan s.dev n { f with speed := 0, edges := [], edgeCnt := 0, okVals := 0 })) ∧
    (s.dev.fanLive n → f.state = .run → s.dev.fanCurrent n = 0 → Answers (.tachLostTimeout n) s fun t =>
      (t.dev.fans[n]).state = .open_ ∧ (t.dev.fans[n]).tachLost ∧ (t.dev.fans[n]).speed = 0 ∧ (t.dev.loops[m]).state = .open_ ∧
      (t.dev.loops[m]).openVal = min (f.goodDuty + 6554) (s.dev.loops[m]).outMax) ∧
    (s.dev.fanLive n → f.state = .run → s.dev.fanCurrent n ≠ 0 → f.stalls + 1 ≤ f.retries → Answers (.tachLostTimeout n) s fun t =>
      (t.dev.fans[n]).state = .backoff ∧ (t.dev.fans[n]).stalls = f.stalls + 1 ∧ (t.dev.fans[n]).speed = 0) ∧
    (s.dev.fanLive n → f.state = .backoff → f.stalls ≤ f.retries → Answers (.backoffEnd n) s fun t =>
      (t.dev.fans[n]).state = .kick ∧ (t.dev.fans[n]).stalls = f.stalls ∧ (t.dev.loops[m]).u = 65536) ∧
    (f.state ≠ .backoff → Answers (.backoffEnd n) s fun t => t = s) ∧
    (s.dev.fanLive n → f.state = .run → f.below → f.slow = false → Answers (.fanSlowTimeout n) s fun t =>
      (t.dev.fans[n]).slow ∧ (t.dev.fans[n]).state = .run ∧ t.dev.handling (hFan n)) ∧
    (f.below = false → Answers (.fanSlowTimeout n) s fun t => t = s)

/-- 09 R256, R265 to R269, R276 to R279: the dampers.
(Rests in part on log entries 150, 151: the model's reading or choice.) -/
def Obligations.Dampers : Prop :=
  ∀ (s : State) (d : Desc) (n : Fin 12),
    let x := s.dev.dampers[n]
    let m := x.loopNo
    let calm : Prop := ∀ w ∈ s.dev.waits, w.ghost = false
    (s.admits opDamperConfig d (.damper n) → damperConfigBad d = false → x.state = .disabled → Answers (.damperConfig d) s fun t =>
      t.okd d ∧ s.becomes t { s.dev with dampers := s.dev.dampers.set n.val { x with
        loop := d.bits 8 0 8, chA := d.bits 9 0 8, chB := d.bits 10 0 8, brake := d.flag 11 0, failMode := d.bits 11 1 2
        fb := d.word 12, failPos := d.bits 16 0 8, learnDrive := d.bits 17 0 8, travelT := d.bits 18 0 8, learnT := d.bits 19 0 8
        learnBand := d.bits 20 0 16, learnStill := d.bits 22 0 16, minSpan := d.bits 24 0 16, driveMin := d.bits 26 0 8 } }) ∧
    (s.admits opDamperConfig d (.damper n) → damperConfigBad d = false → x.state ≠ .disabled →
      Answers (.damperConfig d) s fun t => s.onlyAnswers t d .busy 0) ∧
    (s.admits opDamperSet d (.damper n) → (d.s32 8 < 0 ∨ 0x640000 < d.s32 8) → Answers (.damperSet d) s fun t => s.onlyAnswers t d .range 0) ∧
    (s.admits opDamperSet d (.damper n) → 0 ≤ d.s32 8 → d.s32 8 ≤ 0x640000 → (s.dev.ownerOf (hDamper n)).isSome →
      Answers (.damperSet d) s fun t => s.onlyAnswers t d .conflict 0) ∧
    (s.admits opDamperSet d (.damper n) → 0 ≤ d.s32 8 → d.s32 8 ≤ 0x640000 → (s.dev.ownerOf (hDamper n)).isSome = false → x.failpos = false →
      Answers (.damperSet d) s fun t =>
        t.answered d .ok (mkRes [(8, 0, 32, wrapTo 32 x.target)]) ∧
        t.dev.dampers = s.dev.dampers.set n.val { x with target := d.s32 8 } ∧ s.onlyDev t ∧
        (x.attached → x.state = .run → (t.dev.loops[m]).target = d.s32 8) ∧ (x.state ≠ .run → t.dev.loops = s.dev.loops)) ∧
    (s.admits opDamperCtrl d (.damper n) → d.bits 8 0 2 = 0 → x.attached → calm → Answers (.damperCtrl d) s fun t =>
      t.okd d ∧ (t.dev.dampers[n]).state = .disabled ∧ (t.dev.dampers[n]).attached = false ∧ (t.dev.loops[m]).state = .disabled ∧
      (t.dev.dampers[n]).calOpen = x.calOpen ∧ (t.dev.dampers[n]).calClosed = x.calClosed ∧
      ∀ a, x.learnD = some a → ∃ c ∈ t.dev.done, c.tag = a.tag ∧ c.handle = a.handle ∧ c.status = .flushed) ∧
    (s.admits opDamperCtrl d (.damper n) → d.bits 8 0 2 = 1 → x.state = .disabled → s.dev.dmFits n → s.dev.loopTaken m = false →
      s.dev.pwmOwned (ix 47 x.chA) = false → s.dev.pwmOwned (ix 47 x.chB) = false → s.dev.loopBusy m = false →
      (s.dev.power.policy = false → (s.dev.dmRaw n).cls = .usable → Answers (.damperCtrl d) s fun t =>
        t.okd d ∧ (t.dev.dampers[n]).state = (if x.learned then .run else .unlearned) ∧ (t.dev.dampers[n]).attached ∧
        (s.dev.active (loopFunc m) → (t.dev.loops[m]).state = (if x.learned then .run else .manual))) ∧
      (s.dev.power.policy → s.dev.active (dmFunc n) → Answers (.damperCtrl d) s fun t =>
        t.okd d ∧ (t.dev.dampers[n]).attached ∧ (t.dev.dampers[n]).failpos ∧ (2 ≤ x.failMode → (t.dev.dampers[n]).state = .travel))) ∧
    (s.admits opDamperCtrl d (.damper n) → d.bits 8 0 2 = 1 → x.state = .disabled → s.dev.dmFits n = false →
      Answers (.damperCtrl d) s fun t => s.onlyAnswers t d .range 0) ∧
    (s.admits opDamperCtrl d (.damper n) → d.bits 8 0 2 = 2 → x.state ≠ .disabled → x.state ≠ .travel → x.failpos = false →
      s.dev.power.policy = false → x.learning = false → x.attached → Answers (.damperCtrl d) s fun t =>
        t.waiting 0x7A d ∧ (t.dev.dampers[n]).state = .learnClose ∧ (t.dev.dampers[n]).learnD = some d ∧
        (s.dev.active (loopFunc m) → (t.dev.loops[m]).state = .manual ∧ (t.dev.loops[m]).u = -roundDiv (x.learnDrive * 65536) 100)) ∧
    (s.admits opDamperCtrl d (.damper n) → d.bits 8 0 2 = 2 → (x.state = .disabled ∨ x.state = .travel ∨ x.failpos ∨ s.dev.power.policy) →
      Answers (.damperCtrl d) s fun t => s.onlyAnswers t d .conflict 0) ∧
    (s.admits opDamperCtrl d (.damper n) → d.bits 8 0 2 = 3 → x.state = .fault → x.attached → Answers (.damperCtrl d) s fun t =>
      t.okd d ∧ (t.dev.dampers[n]).state = (if x.learned then .run else .unlearned)) ∧
    (s.admits opDamperCtrl d (.damper n) → d.bits 8 0 2 = 3 → x.state ≠ .fault →
      Answers (.damperCtrl d) s fun t => s.onlyAnswers t d .conflict 0) ∧
    (s.admits opDamperCal d (.damper n) → x.minSpan ≤ (d.s32 8 - d.s32 12).natAbs → Answers (.damperCal d) s fun t =>
      t.answered d .ok (mkRes [(8, 0, 32, wrapTo 32 x.calClosed), (12, 0, 32, wrapTo 32 x.calOpen)]) ∧
      s.becomes t { s.dev with dampers := s.dev.dampers.set n.val { x with
        calClosed := d.s32 8, calOpen := d.s32 12, learned := true } }) ∧
    (s.admits opDamperCal d (.damper n) → (d.s32 8 - d.s32 12).natAbs < x.minSpan →
      Answers (.damperCal d) s fun t => s.onlyAnswers t d .range 0) ∧
    (s.admits opDamperStatusGet d (.damper n) → Answers (.damperStatusGet d) s fun t =>
      s.onlyAnswers t d .ok (mkRes [(8, 0, 32, x.status.toNat), (12, 0, 32, wrapTo 32 x.pos)])) ∧
    -- what comes about
    (∀ a, s.dev.dmLive n → (x.state = .learnClose ∨ x.state = .learnOpen) → x.learnD = some a → calm → Answers (.learnTimeout n) s fun t =>
      t.answered a .timeout (mkRes [(8, 0, 8, if x.state = .learnClose then 1 else 2)]) ∧ (t.dev.dampers[n]).state = .fault ∧
      (t.dev.dampers[n]).calOpen = x.calOpen ∧ (t.dev.dampers[n]).calClosed = x.calClosed ∧ ((t.dev.dampers[n]).learned = x.learned)) ∧
    (x.learning = false → Answers (.learnTimeout n) s fun t => t = s) ∧
    (s.dev.dmLive n → x.state = .travel → Answers (.travelTimeout n) s fun t =>
      (t.dev.dampers[n]).state = .halted ∧ (t.dev.loops[m]).u = 0) ∧
    (x.state ≠ .travel → Answers (.travelTimeout n) s fun t => t = s) ∧
    (s.dev.active (dmFunc n) → (s.dev.dmRaw n).cls = .usable → x.learned → x.learning = false → Answers .fanEvaluation s fun t =>
      (t.dev.dampers[n]).pos = x.posOf (s.dev.dmRaw n).x ∧ (t.dev.dampers[n]).state = x.state ∧
      (posOutside (x.posOf (s.dev.dmRaw n).x) → (t.dev.dampers[n]).range ∧ (t.dev.dampers[n]).posCls = .bad 2)) ∧
    (∀ a, s.dev.dmLive n → x.learning → (s.dev.dmRaw n).cls ≠ .usable → x.learnD = some a → calm → Answers .fanEvaluation s fun t =>
      (t.dev.dampers[n]).state = .fault ∧
      ∃ c ∈ t.dev.done, c.tag = a.tag ∧ c.status = .range ∧ c.result = mkRes [(8, 0, 8, 3)]) ∧
    (∀ raw, s.dev.dmLive n → (s.dev.dmRaw n).cls = .usable → (s.dev.dmRaw n).x = raw → 0 < x.learnStill →
      x.learnStill ≤ x.hist.length + 1 → stillWithin x.learnBand ((raw :: x.hist).take x.learnStill) →
      (x.state = .learnClose → Answers .fanEvaluation s fun t =>
        (t.dev.dampers[n]).state = .learnOpen ∧ (t.dev.dampers[n]).newClosed = raw ∧ (t.dev.dampers[n]).hist = [] ∧
        (t.dev.dampers[n]).calClosed = x.calClosed) ∧
      (x.state = .learnOpen → x.minSpan ≤ (raw - x.newClosed).natAbs → Answers .fanEvaluation s fun t =>
        (t.dev.dampers[n]).state = .run ∧ (t.dev.dampers[n]).learned ∧ (t.dev.dampers[n]).calClosed = x.newClosed ∧
        (t.dev.dampers[n]).calOpen = raw) ∧
      (x.state = .learnOpen → (raw - x.newClosed).natAbs < x.minSpan → Answers .fanEvaluation s fun t =>
        (t.dev.dampers[n]).state = .fault ∧ (t.dev.dampers[n]).calClosed = x.calClosed))

/-! ## The panel -/

/-- A PANEL_CONFIG within its ranges (10 R295). -/
def PanelCfgOk (d : Desc) : Prop :=
  d.bits 8 0 2 ≠ 3 ∧ 5 ≤ d.bits 10 0 8 ∧ d.bits 10 0 8 ≤ 100 ∧ d.bits 11 0 4 ≤ 8 ∧ d.bits 11 4 4 ≠ 0 ∧ 100 ≤ d.bits 12 0 16 ∧
  d.bits 12 0 16 ≤ 2000

/-- A PANEL_CONFIG changes MODE, KEY_SLOT, LED_SLOTS or LED_SLOT (10 R295). -/
def PanelRestarts (p : Panel) (d : Desc) : Prop :=
  p.mode ≠ d.bits 8 0 2 ∨ p.keySlot ≠ d.bits 10 0 8 ∨ p.ledSlots ≠ d.bits 11 0 4 ∨ p.ledSlot ≠ d.bits 12 0 16

/-- The ladder that a PANEL_LADDER describes (10 R296). -/
def ladderIn (d : Desc) : Ladder :=
  { source := d.word 12, tol := d.bits 9 0 8, tag := d.bits 10 0 4, tagm := d.flag 10 4, idle := d.bits 11 0 8
    nom := BitVec.ofNat 96 (d.bits 16 0 96) }

/-- 10 R295 to R299: the opcodes of class 0x8.
(Rests in part on log entry 155: the model's reading or choice.) -/
def Obligations.PanelDescriptors : Prop :=
  ∀ (s : State) (d : Desc) (o : Obj),
    let p := s.dev.panel
    (s.admits opPanelConfig d o → ¬ PanelCfgOk d → Answers (.panelConfig d) s fun t => s.onlyAnswers t d .range 0) ∧
    (s.admits opPanelConfig d o → PanelCfgOk d → PanelRestarts p d → Answers (.panelConfig d) s fun t =>
      let q := t.dev.panel
      t.okd d ∧ q.mode = d.bits 8 0 2 ∧ (q.diodes = d.flag 9 0) ∧ q.keySlot = d.bits 10 0 8 ∧ q.ledSlots = d.bits 11 0 4 ∧
      q.deb = d.bits 11 4 4 ∧ q.ledSlot = d.bits 12 0 16 ∧ q.bright = d.bits 14 0 8 ∧ q.slot = 0 ∧ q.blocks = [] ∧ q.leds = p.leds ∧
      q.encs = p.encs ∧ (∀ k : Fin 192, (q.keys[k]).down = false ∧ (q.keys[k]).reported = false) ∧
      (p.queue.length + ((List.finRange 192).countP fun k => (p.keys[k]).reported) ≤ 64 →
        ∀ k : Fin 192, (p.keys[k]).reported → ∃ e ∈ q.queue, e.code = EV_KEY ∧ e.handle = hKey k.val ∧
          e.arg = keyArg false false true s.dev.stamp.2 ∧ e.time = s.dev.stamp.1)) ∧
    (s.admits opPanelConfig d o → PanelCfgOk d → ¬ PanelRestarts p d → p.mode = 1 → Answers (.panelConfig d) s fun t =>
      t.waiting 0x80 d ∧ t.dev.done = s.dev.done ∧ t.dev.panel = { p with
        diodes := d.flag 9 0, deb := d.bits 11 4 4, bright := d.bits 14 0 8, cfgD := p.cfgD ++ [d] }) ∧
    (s.admits opPanelConfig d o → PanelCfgOk d → ¬ PanelRestarts p d → p.mode ≠ 1 → Answers (.panelConfig d) s fun t =>
      t.okd d ∧ s.becomes t { s.dev with panel := { p with
        diodes := d.flag 9 0, deb := d.bits 11 4 4, bright := d.bits 14 0 8 } }) ∧
    (∀ n : Fin 16, n.val = d.bits 8 0 4 → s.admits opPanelLadder d o → ladderBad (ladderIn d) = false → d.bits 28 0 32 = 0 →
      ladderSourceOk (d.word 12) →
      ((d.word 12 = 0 ∨ ∀ m : Fin 16, m ≠ n → (p.ladders[m]).source ≠ d.word 12) → (p.ladders[n]).key = none →
        Answers (.panelLadder d) s fun t =>
          t.okd d ∧ s.becomes t { s.dev with panel := { p with ladders := p.ladders.set n.val (ladderIn d) } }) ∧
      ((d.word 12 = 0 ∨ ∀ m : Fin 16, m ≠ n → (p.ladders[m]).source ≠ d.word 12) → ∀ k, (p.ladders[n]).key = some k → p.full = false →
        (p.keys[ladderKey n k]).reported → Answers (.panelLadder d) s fun t =>
          t.okd d ∧ t.dev.panel.ladders[n] = ladderIn d ∧ (t.dev.panel.keys[ladderKey n k]).reported = false ∧
          t.dev.panel.queue = p.queue ++ [{ code := EV_KEY, handle := hKey (ladderKey n k).val
                                            arg := keyArg false false true s.dev.stamp.2, time := s.dev.stamp.1, lost := p.lost }]) ∧
      (d.word 12 ≠ 0 → (∃ m : Fin 16, m ≠ n ∧ (p.ladders[m]).source = d.word 12) →
        Answers (.panelLadder d) s fun t => s.onlyAnswers t d .conflict 0)) ∧
    (s.admits opPanelLadder d o → ladderBad (ladderIn d) → Answers (.panelLadder d) s fun t => s.onlyAnswers t d .range 0) ∧
    (s.admits opPanelLed d o → Answers (.panelLed d) s fun t =>
      t.okd d ∧ s.becomes t { s.dev with panel := { p with leds := d.pay } }) ∧
    (∀ n : Fin 8, s.admits opEncConfig d (.encoder n) → d.bits 8 1 2 ≠ 3 → d.bits 10 0 8 ≠ 0 →
      let e := p.encs[n]
      let y : Enc := { e with
        en := d.flag 8 0, mode := d.bits 8 1 2, inv := d.flag 8 3, filt := d.bits 9 0 8, detent := d.bits 10 0 8
        count := if d.flag 8 0 && !e.en then 0 else e.count, rep := if d.flag 8 0 && !e.en then 0 else e.rep }
      (∀ m : Fin 8, m ≠ n → (p.encs[m]).en = false ∨ (p.encs[m]).detents = 0) →
      (y.en = false ∨ y.detents = 0 → Answers (.encConfig d) s fun t =>
        t.okd d ∧ s.becomes t { s.dev with panel := { p with encs := p.encs.set n.val y } }) ∧
      (y.en → y.detents ≠ 0 → s.dev.active 54 → p.full = false → Answers (.encConfig d) s fun t =>
        t.okd d ∧ s.becomes t { s.dev with panel := { p with
          encs := p.encs.set n.val { y with rep := y.rep + BitVec.ofInt 32 (y.detents * y.detent) }, lost := 0
          queue := p.queue ++ [{ code := EV_ENC, handle := hEnc n, arg := encArg y.detents s.dev.stamp.2
                                 time := s.dev.stamp.1, lost := p.lost }] } })) ∧
    (∀ n : Fin 8, s.admits opEncConfig d (.encoder n) → (d.bits 8 1 2 = 3 ∨ d.bits 10 0 8 = 0) →
      Answers (.encConfig d) s fun t => s.onlyAnswers t d .range 0) ∧
    (∀ n : Fin 8, s.admits opEncRead d (.encoder n) → Answers (.encRead d) s fun t =>
      s.onlyAnswers t d .ok (mkRes [(8, 0, 32, (p.encs[n]).count.toNat), (12, 0, 32, (p.encs[n]).errors.toNat)])) ∧
    (s.admits opPanelStatusGet d o →
      (d.bits 8 0 2 ≠ 3 → Answers (.panelStatusGet d) s fun t => s.onlyAnswers t d .ok (p.keyMap (64 * d.bits 8 0 2))) ∧
      (d.bits 8 0 2 = 3 → Answers (.panelStatusGet d) s fun t =>
        s.onlyAnswers t d .ok (mkRes [(8, 0, 32, p.drops.toNat), (12, 0, 32, p.ghosts.toNat)])))

/-- 10 R285 to R287, R290 to R293: scanning, debounced changes, ghosts, encoders, the panel queue.
(Rests in part on log entries 154, 156, 209, 210, 211: the model's reading or choice.) -/
def Obligations.PanelMoments : Prop :=
  ∀ (s : State),
    let p := s.dev.panel
    let at_ (k : Fin 192) : Word × BitVec 16 := if (p.keys[k]).cnt = 0 then s.dev.stamp else (p.keys[k]).since
    let entry (k : Fin 192) (press : Bool) : PanelEv :=
      { code := EV_KEY, handle := hKey k.val, arg := keyArg press false false (at_ k).2, time := (at_ k).1, lost := p.lost }
    (∀ kc, p.mode ≠ 1 → Answers (.scanSlot kc) s fun t => t = s) ∧
    (∀ (kc : BitVec 12) (r : Fin 8), p.mode = 1 → s.dev.active 54 → p.slot = r.val → r.val + 1 < p.slots →
      Answers (.scanSlot kc) s fun t =>
        t.dev.panel.slot = r.val + 1 ∧ t.dev.panel.slotAt = s.dev.now ∧ s.onlyDev t ∧
        (∀ c : Fin 12, t.dev.panel.keys[keyNo r c] =
          (p.keys[keyNo r c]).sample (kc.getLsbD c && s.dev.krOurs r && s.dev.kcOurs c) s.dev.stamp) ∧
        ∀ k : Fin 192, k.val / 12 ≠ r.val → t.dev.panel.keys[k] = p.keys[k]) ∧
    (∀ (kc : BitVec 12) (a : Desc), p.mode = 1 → s.dev.active 54 → 8 ≤ p.slot → p.slots ≤ p.slot + 1 → p.cfgD = [a] →
      (∀ w ∈ s.dev.waits, w.ghost = false) → Answers (.scanSlot kc) s fun t =>
        t.dev.panel.slot = 0 ∧ t.answered a .ok 0 ∧ t.dev.panel.cfgD = [] ∧ t.dev.panel.keys = p.keys) ∧
    (∀ (k : Fin 96) (x : Bool) (i : Fin 192), i.val = k.val → p.mode = 1 → s.dev.active 54 →
      (p.changed i x = false → Answers (.keyDebounced k x) s fun t => t = s) ∧
      (x → p.changed i x → (p.diodes ∨ p.onBlock (i.val / 12) (i.val % 12) = false ∧ p.rectangle (i.val / 12) (i.val % 12) = none) →
        (p.full = false → Answers (.keyDebounced k x) s fun t =>
          t.dev.panel.queue = p.queue ++ [entry i true] ∧ (t.dev.panel.keys[i]).down ∧ (t.dev.panel.keys[i]).reported ∧ s.onlyDev t ∧
          ∀ j : Fin 192, j ≠ i → t.dev.panel.keys[j] = p.keys[j]) ∧
        (p.full → Answers (.keyDebounced k x) s fun t =>
          t.dev.panel.queue = p.queue ∧ (t.dev.panel.keys[i]).down ∧ ((t.dev.panel.keys[i]).reported = (p.keys[i]).reported) ∧
          t.dev.panel.drops = p.drops + 1 ∧ t.dev.panel.lost = p.lost + 1 ∧ t.dev.panel.dropped)) ∧
      (x → p.changed i x → p.diodes = false → p.onBlock (i.val / 12) (i.val % 12) → Answers (.keyDebounced k x) s fun t =>
        t.dev.panel.queue = p.queue ∧ (t.dev.panel.keys[i]).down = false ∧ ((t.dev.panel.keys[i]).reported = (p.keys[i]).reported)) ∧
      (∀ b, x → p.changed i x → p.diodes = false → p.onBlock (i.val / 12) (i.val % 12) = false →
        p.rectangle (i.val / 12) (i.val % 12) = some b → p.queue.length + 2 ≤ 64 → Answers (.keyDebounced k x) s fun t =>
          let n := ((corners b).filter fun c => !(p.keys[c]).reported).length
          b ∈ t.dev.panel.blocks ∧ t.dev.panel.ghosts = p.ghosts + 1 ∧
          (∃ e ∈ t.dev.panel.queue, e.code = EV_GHOST ∧ e.arg =
            mkWord [(0, 3, b.1), (3, 3, b.2.1), (8, 4, b.2.2.1), (12, 4, b.2.2.2), (16, 1, if n ≤ 2 then 0 else 1)]) ∧
          t.dev.panel.queue.length = p.queue.length + (if n = 2 then 2 else 1)) ∧
      (x = false → p.changed i x → (p.keys[i]).reported → p.full = false → Answers (.keyDebounced k x) s fun t =>
        t.dev.panel.queue = p.queue ++ [entry i false] ∧ (t.dev.panel.keys[i]).down = false ∧ (t.dev.panel.keys[i]).reported = false ∧
        ∀ b ∈ t.dev.panel.blocks, i ∉ corners b) ∧
      (x = false → p.changed i x → (p.keys[i]).reported → p.full → Answers (.keyDebounced k x) s fun t =>
        t.dev.panel.queue = p.queue ∧ (t.dev.panel.keys[i]).reported = false ∧
        (t.dev.panel.keys[i]).late = some ((at_ i).1, (at_ i).2, false)) ∧
      (x = false → p.changed i x → (p.keys[i]).reported = false → Answers (.keyDebounced k x) s fun t =>
        t.dev.panel.queue = p.queue ∧ (t.dev.panel.keys[i]).down = false)) ∧
    (∀ (n : Fin 8) (a b : Bool),
      let e := p.encs[n]
      (e.en = false → Answers (.encoderTransition n a b) s fun t =>
        s.becomes t { s.dev with panel := { p with encs := p.encs.set n.val { e with a, b } } }) ∧
      (e.en → s.dev.active 54 → e.a ≠ a → e.b ≠ b → Answers (.encoderTransition n a b) s fun t =>
        (t.dev.panel.encs[n]).errors = e.errors + 1 ∧ (t.dev.panel.encs[n]).count = e.count ∧ t.dev.panel.queue = p.queue) ∧
      (e.en → s.dev.active 54 → (e.a ≠ a ↔ e.b = b) → Answers (.encoderTransition n a b) s fun t =>
        let y := { e with a, b, count := e.count + BitVec.ofInt 32 (e.delta a b) }
        (t.dev.panel.encs[n]).count = y.count ∧ (t.dev.panel.encs[n]).errors = e.errors ∧
        (y.detents = 0 → t.dev.panel.queue = p.queue ∧ (t.dev.panel.encs[n]).rep = e.rep) ∧
        (y.detents ≠ 0 → p.full = false →
          (t.dev.panel.encs[n]).rep = e.rep + BitVec.ofInt 32 (y.detents * e.detent) ∧
          t.dev.panel.queue = p.queue ++ [{ code := EV_ENC, handle := hEnc n, arg := encArg y.detents s.dev.stamp.2
                                            time := s.dev.stamp.1, lost := p.lost }]))) ∧
    (∀ e rest, p.queue = e :: rest → s.dev.active 54 → s.ring.eqCache.length < 256 → Answers .panelQueueForward s fun t =>
      t.dev.raised = s.dev.raised ++ [{ code := e.code, src := 54, handle := e.handle, arg := e.arg, time := e.time, lost := e.lost }] ∧
      ((∀ k : Fin 192, (p.keys[k]).late = none) → (∀ n : Fin 8, (p.encs[n]).detents = 0) → t.dev.panel.queue = rest) ∧
      (∀ k : Fin 192, ∀ x, (p.keys[k]).late = some x → p.queue.length ≤ 64 → (∀ j : Fin 192, j ≠ k → (p.keys[j]).late = none) →
        (t.dev.panel.keys[k]).late = none ∧
        ∃ y ∈ t.dev.panel.queue, y.handle = hKey k.val ∧ y.arg = keyArg false true x.2.2 x.2.1 ∧ y.time = x.1)) ∧
    (256 ≤ s.ring.eqCache.length → Answers .panelQueueForward s fun t => t = s) ∧
    (p.queue = [] → Answers .panelQueueForward s fun t => t = s)

/-! ## The Vale ports -/

/-- A change of port `p` alone. -/
def Dev.withVP (s : Dev) (p : Fin 16) (v : VPort) : Dev := { s with vports := s.vports.set p.val v }

/-- No descriptor that waits has been given up. -/
def Calm (s : State) : Prop := ∀ q ∈ s.dev.waits, q.ghost = false

/-- 11 R329 to R331: the opcodes 0x90 to 0x92.
(Rests in part on log entry 163: the model's reading or choice.) -/
def Obligations.ValePorts : Prop :=
  ∀ (s : State) (d : Desc) (p : Fin 16),
    let v := s.dev.vports[p]
    let inRange : Prop := d.bits 8 0 2 ≠ 3 ∧ 12 ≤ d.bits 9 0 5 ∧ d.bits 9 0 5 ≤ 17 ∧ 1 ≤ d.bits 9 5 3 ∧ d.bits 9 5 3 ≤ 4 ∧
      d.bits 9 0 5 + d.bits 9 5 3 ≤ 20 ∧ d.bits 10 0 8 ≤ (if d.bits 8 0 2 = 0 then 20 else if d.bits 8 0 2 = 1 then 10 else 5)
    (s.admits opValePortConfig d (.valePort p) → inRange → v.state = .stopped → Answers (.valePortConfig d) s fun t =>
      t.okd d ∧ s.becomes t (Dev.withVP s.dev p { v with
        rate := d.bits 8 0 2, slotEn := d.flag 8 2, sp := d.bits 9 0 5, sjw := d.bits 9 5 3, rxfilt := d.bits 10 0 8
        retryMax := d.bits 11 0 3 })) ∧
    (s.admits opValePortConfig d (.valePort p) → inRange → v.state ≠ .stopped →
      Answers (.valePortConfig d) s fun t => s.onlyAnswers t d .busy 0) ∧
    (s.admits opValePortConfig d (.valePort p) → ¬ inRange → Answers (.valePortConfig d) s fun t => s.onlyAnswers t d .range 0) ∧
    (s.admits opValePortCtrl d (.valePort p) → d.bits 8 0 2 = 0 → Answers (.valePortCtrl d) s fun t =>
      t.okd d ∧ (t.dev.vports[p]).state = .stopped ∧ (t.dev.vports[p]).queue = [] ∧ (t.dev.vports[p]).wire = none ∧
      (t.dev.vports[p]).starting = none) ∧
    (s.admits opValePortCtrl d (.valePort p) → d.bits 8 0 2 = 1 → (v.state = .stopped ∨ v.state = .txfault) →
      Answers (.valePortCtrl d) s fun t =>
        t.waiting 0x91 d ∧ t.dev.done = s.dev.done ∧
        t.dev.vports = s.dev.vports.set p.val { v with starting := some (v.starting.getD [] ++ [d]) }) ∧
    (s.admits opValePortCtrl d (.valePort p) → d.bits 8 0 2 = 1 → v.state ≠ .stopped → v.state ≠ .txfault →
      Answers (.valePortCtrl d) s fun t => s.onlyAnswers t d .ok 0) ∧
    (∀ k : Fin 32, s.admits opValePortCtrl d (.valePort p) → d.bits 8 0 2 = 2 → d.bits 9 0 6 = k.val + 1 →
      (v.excl.getLsbD k = false → Answers (.valePortCtrl d) s fun t => s.onlyAnswers t d .conflict 0) ∧
      (v.excl.getLsbD k → v.live → Answers (.valePortCtrl d) s fun t =>
        t.waiting 0x91 d ∧ t.dev.done = s.dev.done ∧ (t.dev.vports[p]).excl.getLsbD k = false ∧
        (∀ j : Fin 32, j ≠ k → ((t.dev.vports[p]).excl.getLsbD j = v.excl.getLsbD j)) ∧
        (t.dev.vports[p]).queue = v.queue ++ [{ dst := k.val + 1, epoch := (v.slots[k]).epoch, msg := .readmit }]) ∧
      (v.excl.getLsbD k → v.state = .stopped → Answers (.valePortCtrl d) s fun t =>
        t.answered d .timeout 0 ∧ (t.dev.vports[p]).excl.getLsbD k = false)) ∧
    (s.admits opValePortCtrl d (.valePort p) → d.bits 8 0 2 = 2 → (d.bits 9 0 6 = 0 ∨ 32 < d.bits 9 0 6) →
      Answers (.valePortCtrl d) s fun t => s.onlyAnswers t d .conflict 0) ∧
    (s.admits opValePortCtrl d (.valePort p) → d.bits 8 0 2 = 3 → Answers (.valePortCtrl d) s fun t =>
      t.okd d ∧ (t.dev.vports[p]).err = 0 ∧ (t.dev.vports[p]).noack = 0 ∧ (t.dev.vports[p]).frameErr = 0 ∧
      (t.dev.vports[p]).wakeSeen = 0 ∧ (t.dev.vports[p]).nobuf = v.nobuf) ∧
    (s.admits opValePortStatusGet d (.valePort p) → Answers (.valePortStatusGet d) s fun t =>
      s.onlyAnswers t d .ok (mkRes [(8, 0, 32, v.status.toNat), (12, 0, 32, v.excl.toNat)]))

/-- 11 R309, R316 to R318, R321, R322, R330: the wire of a port.
(Rests in part on log entries 161, 162, 246: the model's reading or choice.) -/
def Obligations.ValeWire : Prop :=
  (∀ (v : VPort) (f : VTx), v.offered = some f → f ∈ v.queue ∧
    ∀ g ∈ v.queue, ¬ (g.age = 3 ∧ v.wonTop) → (v.slotFree ∨ g.tries ≠ 0) → f.arb ≤ g.arb) ∧
  ∀ (s : State) (p : Fin 16),
    let v := s.dev.vports[p]
    (∀ f, s.dev.vUp p → v.wire = none → v.backoff = none → v.offered = some f → Answers (.valeFrameStart p) s fun t =>
      (t.dev.vports[p]).queue = v.queue.erase f ∧
      ∃ g, (t.dev.vports[p]).wire = some g ∧ g.msg = f.msg ∧ g.dst = f.dst ∧ g.epoch = f.epoch ∧ g.arb = f.arb) ∧
    ((s.dev.vUp p = false ∨ v.wire.isSome ∨ v.backoff.isSome ∨ v.offered = none) → Answers (.valeFrameStart p) s fun t => t = s) ∧
    (∀ f, v.wire = some f → f.trailer = none → Answers (.valeArbitrationLost p) s fun t =>
      s.becomes t (Dev.withVP s.dev p { v with
        wire := none, queue := (f :: v.queue).map fun g => { g with age := min 3 (g.age + 1) } })) ∧
    (v.wire = none → (Answers (.valeArbitrationLost p) s fun t => t = s) ∧ (∀ c, Answers (.valeFrameSent { port := p, viols := c }) s fun t => t = s) ∧
      (Answers (.valeNoAck p) s fun t => t = s)) ∧
    (∀ f, v.wire = some f → f.msg ≠ .readmit → Answers (.valeFrameSent { port := p }) s fun t =>
      (t.dev.vports[p]).wire = none ∧ (t.dev.vports[p]).err = min 511 (v.err - 1) ∧ (t.dev.vports[p]).noack = v.noack ∧
      ((t.dev.vports[p]).wonTop = (v.wonTop || f.age == 3))) ∧
    (∀ f, ∀ c : Fin 8, ∀ k : Fin 32, v.wire = some f → f.dst = k.val + 1 → v.excl.getLsbD k = false →
      Answers (.valeFrameSent { port := p, viols := [c] }) s fun t =>
      let x := (t.dev.vports[p]).slots[k]
      x.viols = (v.slots[k]).viols + 1 ∧ x.lastViol = c.val ∧ (3 ≤ (v.slots[k]).viols + 1 → x.state = .excluded)) ∧
    (∀ f n b, v.wire = some f → f.msg = .probe n b → v.err < 256 → v.queue.any VTx.isProbe = false →
      Answers (.valeFrameSent { port := p }) s fun t =>
        (t.dev.vports[p]).sweep = v.sweep.map fun w => { w with opened := w.cur == some (n, b) }) ∧
    (∀ f u n, ∀ k : Fin 32, v.wire = some f → f.msg = .assign u (k.val + 1) → v.live → v.err < 256 → v.excl.getLsbD k = false →
      (v.slots[k]).ident = some (.assign, n) → (∀ g ∈ v.queue, ∀ w, g.msg ≠ .assign w (k.val + 1)) →
      Answers (.valeFrameSent { port := p }) s fun t =>
        { dst := k.val + 1, epoch := (v.slots[k]).epoch, msg := .ident : VTx } ∈ (t.dev.vports[p]).queue ∧
        VRsp.ident ∈ ((t.dev.vports[p]).slots[k]).rsp ∧ ((t.dev.vports[p]).slots[k]).ident = some (.assign, n)) ∧
    (∀ f e a, s.dev.vUp p → v.wire = some f → s.dev.vMay p f → f.tries < v.retryMax → v.err + 8 < 256 →
      Answers (.valeFrameError p true e a []) s fun t =>
        let x := t.dev.vports[p]
        x.wire = none ∧ x.err = v.err + 8 ∧ x.frameErr = v.frameErr + 1 ∧ x.backoff.isSome ∧
        x.queue = { f with age := 0, tries := f.tries + 1 } :: v.queue ∧ (x.state = .warn ↔ 96 ≤ v.err + 8)) ∧
    (∀ e a, s.dev.active (valeFunc p) → (v.live ∨ v.state = .quiet) → a.topAge = false →
      Answers (.valeFrameError p false e a []) s fun t =>
      (t.dev.vports[p]).err = min 511 (v.err + 1) ∧ (t.dev.vports[p]).frameErr = v.frameErr + 1 ∧
      (256 ≤ v.err + 1 → (t.dev.vports[p]).state = .quiet) ∧
      ∀ k : Fin 32, a.src.val = k.val + 1 → ((t.dev.vports[p]).slots[k]).good = 0) ∧
    (∀ f, v.wire = some f → f.msg.ackReq → s.dev.vMay p f → f.tries < v.retryMax → Answers (.valeNoAck p) s fun t =>
      let x := t.dev.vports[p]
      x.wire = none ∧ x.err = v.err ∧ x.noack = v.noack + 1 ∧ x.backoff.isSome ∧
      x.queue = { f with age := 0, tries := f.tries + 1 } :: v.queue) ∧
    (Answers (.valeRetryBackoffEnd p) s fun t => s.becomes t (Dev.withVP s.dev p { v with backoff := none })) ∧
    (Answers (.roundGap p) s fun t => s.becomes t (Dev.withVP s.dev p { v with
      wonTop := false, slots := v.slots.map fun y => { y with topSeen := false } })) ∧
    (s.dev.active (valeFunc p) → (v.live ∨ v.state = .quiet) → Answers (.stuckDetect p) s fun t =>
      (t.dev.vports[p]).state = .stuck ∧ (t.dev.vports[p]).before = v.state ∧ (t.dev.vports[p]).stuckSeen ∧
      (t.dev.vports[p]).wire = none) ∧
    (v.state = .stuck → Answers (.stuckRecovery p) s fun t => (t.dev.vports[p]).state = v.before) ∧
    (v.state ≠ .stuck → Answers (.stuckRecovery p) s fun t => t = s) ∧
    (v.state = .quiet → Answers (.quietRecovery p) s fun t => (t.dev.vports[p]).state = .normal ∧ (t.dev.vports[p]).err = 0) ∧
    (v.state ≠ .quiet → Answers (.quietRecovery p) s fun t => t = s) ∧
    (s.dev.vUp p → Answers (.txfaultDetect p) s fun t => (t.dev.vports[p]).state = .txfault ∧ (t.dev.vports[p]).wire = none) ∧
    (s.dev.active (valeFunc p) → v.state ≠ .stopped → Answers (.wakePulseSeen p) s fun t =>
      s.becomes t (Dev.withVP s.dev p { v with wakeSeen := v.wakeSeen + 1 })) ∧
    (∀ ds, v.starting = some ds → s.dev.active (valeFunc p) → v.state ≠ .normal → Calm s → Answers (.startRecessiveSeen p) s fun t =>
      (t.dev.vports[p]).state = .normal ∧ (t.dev.vports[p]).err = 0 ∧ (t.dev.vports[p]).starting = none ∧
      ((t.dev.vports[p]).noslot = (v.slotEn && !s.dev.tb.valid)) ∧
      ∀ a ∈ ds, ∃ c ∈ t.dev.done, c.tag = a.tag ∧ c.handle = a.handle ∧ c.status = .ok) ∧
    (∀ a, v.starting = some [a] → Calm s → Answers (.startTimeout p) s fun t =>
      t.answered a .timeout 0 ∧ (t.dev.vports[p]).state = v.state ∧ (t.dev.vports[p]).starting = none)

/-- 12 R354, R356, R360, R362, R363, R365 to R370: the opcodes 0x93, 0x94 and 0x96 to 0x9C.
(Rests in part on log entry 215: the model's reading or choice.) -/
def Obligations.ValeDescriptors : Prop :=
  ∀ (s : State) (d : Desc) (p : Fin 16) (k i : Fin 32),
    let v := s.dev.vports[p]
    let x := v.slots[k]
    (s.admits opValeConvConfig d (.valePort p) → 5 ≤ d.bits 9 0 8 → 1 ≤ d.bits 10 0 8 → 1 ≤ d.bits 11 0 8 → d.bits 11 0 8 ≤ 30 →
      1 ≤ d.bits 12 0 8 → d.bits 12 0 8 ≤ 100 → Answers (.valeConvConfig d) s fun t =>
        t.okd d ∧ s.becomes t (Dev.withVP s.dev p { v with
          stranger := d.flag 8 0, autodisc := d.flag 8 1, rspT := d.bits 9 0 8, aliveT := d.bits 10 0 8, resumeT := d.bits 11 0 8
          sackT := d.bits 12 0 8, probeT := d.bits 13 0 8 })) ∧
    (s.admits opValeConvConfig d (.valePort p) → d.bits 9 0 8 < 5 → Answers (.valeConvConfig d) s fun t => s.onlyAnswers t d .range 0) ∧
    (s.admits opValeDiscover d (.valePort p) → v.live → v.sweep = none → Answers (.valeDiscover d) s fun t =>
      t.waiting 0x94 d ∧ t.dev.done = s.dev.done ∧
      (t.dev.vports[p]).sweep = some { stack := [], cur := some (0, 0), probes := 1, ds := [d] } ∧
      (t.dev.vports[p]).queue = v.queue ++ [{ dst := 63, epoch := 0, msg := .probe 0 0 }]) ∧
    (s.admits opValeDiscover d (.valePort p) → v.live → v.sweep.isSome → Answers (.valeDiscover d) s fun t =>
      t.waiting 0x94 d ∧ (t.dev.vports[p]).sweep = v.sweep ∧ (t.dev.vports[p]).again = some (v.again.getD [] ++ [d])) ∧
    (s.admits opValeDiscover d (.valePort p) → v.live = false → Answers (.valeDiscover d) s fun t => s.onlyAnswers t d .disabled 0) ∧
    (∀ w : Bool, let c : Instr := if w then .valeWrite d else .valeRead d
      let n := d.bits 8 0 8
      s.admits (if w then opValeWrite else opValeRead) d (.valeValue p k i) →
      (x.state ≠ .present → Answers c s fun t => s.onlyAnswers t d .disabled 0) ∧
      (x.state = .present → (n = 0 ∨ 2 < n) → Answers c s fun t => s.onlyAnswers t d .range 0) ∧
      (x.state = .present → 1 ≤ n → n ≤ 2 → x.items < i.val + n → Answers c s fun t => s.onlyAnswers t d .badHandle 0) ∧
      (x.state = .present → 1 ≤ n → n ≤ 2 → i.val + n ≤ x.items → x.txn.isSome → Answers c s fun t =>
        t.waiting (if w then 0x97 else 0x96) d ∧ t.dev.done = s.dev.done ∧ ((t.dev.vports[p]).slots[k]).txn = x.txn ∧
        ((t.dev.vports[p]).slots[k]).queue = x.queue ++ [{ d := some d, write := w, first := i.val, count := n
                                                           values := if w then [d.word 12, d.word 16].take n else [] }]) ∧
      (x.state = .present → 1 ≤ n → n ≤ 2 → i.val + n ≤ x.items → x.txn = none → x.queue = [] → v.live → Answers c s fun t =>
        let y := (t.dev.vports[p]).slots[k]
        t.waiting (if w then 0x97 else 0x96) d ∧ y.tid = x.tid + 1 ∧ y.queue = [] ∧ VRsp.txn ∈ y.rsp ∧
        y.txn = some { d := some d, write := w, first := i.val, count := n, tid := x.tid + 1
                       values := if w then [d.word 12, d.word 16].take n else [] } ∧
        { dst := k.val + 1, epoch := x.epoch
          msg := if w then .write (x.tid + 1) i.val ([d.word 12, d.word 16].take n) else .read (x.tid + 1) i.val n : VTx } ∈
            (t.dev.vports[p]).queue)) ∧
    (s.admits opValeBulkOpen d (.satellite p k) →
      (x.state ≠ .present → Answers (.valeBulkOpen d) s fun t => s.onlyAnswers t d .disabled 0) ∧
      (x.state = .present → s.dev.bulkOk d → x.caps.getLsbD 1 = false → Answers (.valeBulkOpen d) s fun t => s.onlyAnswers t d .range 0) ∧
      (x.state = .present → s.dev.bulkOk d → x.caps.getLsbD 1 → x.maxsess ≤ (s.dev.vSids p k).length →
        Answers (.valeBulkOpen d) s fun t => s.onlyAnswers t d .busy 0) ∧
      (x.state = .present → s.dev.bulkOk d → x.caps.getLsbD 1 → d.flag 20 0 = false → (s.dev.vSids p k).length < x.maxsess →
        (∃ j : Fin 16, v.sess[j] = none) → Answers (.valeBulkOpen d) s fun t => t.reading 0x98 d ∧ t.dev.vports = s.dev.vports) ∧
      (∀ j : Fin 16, x.state = .present → s.dev.bulkOk d → x.caps.getLsbD 1 → d.flag 20 0 → (s.dev.vSids p k).length < x.maxsess →
        v.sess[j] = none → (∀ h : Fin 16, h < j → (v.sess[h]).isSome) → v.live → Answers (.valeBulkOpen d) s fun t =>
          t.waiting 0x98 d ∧ t.dev.done = s.dev.done ∧
          (t.dev.vports[p]).sess[j] = some { slot := k.val, get := true, obj := BitVec.ofNat 16 (d.bits 22 0 16), len := bulkLen d, d } ∧
          (t.dev.vports[p]).queue = v.queue ++ [{ dst := k.val + 1, epoch := x.epoch
                                                  msg := .open_ j.val true (BitVec.ofNat 16 (d.bits 22 0 16)) (bulkLen d) }])) ∧
    (s.admits opValeBulkAbort d (.satellite p k) → x.state ≠ .present → Answers (.valeBulkAbort d) s fun t => s.onlyAnswers t d .disabled 0) ∧
    (∀ (j : Fin 16) (y : VSess), s.admits opValeBulkAbort d (.satellite p k) → x.state = .present → d.bits 8 0 8 = j.val →
      v.sess[j] = some y → y.slot = k.val → y.aborted = false → Calm s → Answers (.valeBulkAbort d) s fun t =>
        (∃ a b, t.dev.done = s.dev.done ++ [a, b] ∧ a.tag = y.d.tag ∧ a.status = .flushed ∧ b.tag = d.tag ∧ b.status = .ok) ∧
        ∃ z, (t.dev.vports[p]).sess[j] = some z ∧ z.phase = .closing ∧ z.aborted) ∧
    (∀ j : Fin 16, s.admits opValeBulkAbort d (.satellite p k) → x.state = .present → d.bits 8 0 8 = j.val → v.sess[j] = none →
      Answers (.valeBulkAbort d) s fun t => s.onlyAnswers t d .conflict 0) ∧
    (s.admits opValeSatCtrl d (.satellite p k) →
      (d.bits 8 0 2 = 0 → Answers (.valeSatCtrl d) s fun t =>
        t.okd d ∧ ((t.dev.vports[p]).slots[k]).state = .empty ∧ ((t.dev.vports[p]).slots[k]).uid = x.uid) ∧
      (d.bits 8 0 2 = 1 → x.state = .quarantine → x.caps.getLsbD 0 = false → s.dev.keyOf x.uid = none →
        Answers (.valeSatCtrl d) s fun t => t.okd d ∧ ((t.dev.vports[p]).slots[k]).state = .present) ∧
      (d.bits 8 0 2 = 1 → (x.state ≠ .quarantine ∨ x.caps.getLsbD 0 ∨ (s.dev.keyOf x.uid).isSome) →
        Answers (.valeSatCtrl d) s fun t => s.onlyAnswers t d .conflict 0) ∧
      (d.bits 8 0 2 = 2 → Answers (.valeSatCtrl d) s fun t =>
        t.okd d ∧ ((t.dev.vports[p]).slots[k]).state = .empty ∧ ((t.dev.vports[p]).slots[k]).uid = none ∧
        ((t.dev.vports[p]).slots[k]).epoch = 0 ∧ ((t.dev.vports[p]).slots[k]).viols = 0) ∧
      (d.bits 8 0 2 = 3 → (s.dev.keyOf x.uid).isSome → (x.state = .present ∨ x.state = .quarantine ∨ x.state = .lost) →
        Answers (.valeSatCtrl d) s fun t =>
          t.waiting 0x9A d ∧ t.dev.done = s.dev.done ∧ ((t.dev.vports[p]).slots[k]).state = .auth ∧
          ((t.dev.vports[p]).slots[k]).reauth = x.reauth ++ [d] ∧ ((t.dev.vports[p]).slots[k]).hs.isSome) ∧
      (d.bits 8 0 2 = 3 → (s.dev.keyOf x.uid).isSome → x.state = .auth → Answers (.valeSatCtrl d) s fun t =>
        t.waiting 0x9A d ∧ t.dev.done = s.dev.done ∧
        t.dev.vports = s.dev.vports.set p.val { v with slots := v.slots.set k.val { x with reauth := x.reauth ++ [d] } }) ∧
      (d.bits 8 0 2 = 3 → s.dev.keyOf x.uid = none → Answers (.valeSatCtrl d) s fun t => s.onlyAnswers t d .conflict 0)) ∧
    (s.admits opValeSatStatusGet d (.satellite p k) →
      (d.flag 8 0 = false → Answers (.valeSatStatusGet d) s fun t => s.onlyAnswers t d .ok (x.uid.getD 0)) ∧
      (d.flag 8 0 → Answers (.valeSatStatusGet d) s fun t =>
        s.onlyAnswers t d .ok (mkRes [(8, 0, 8, x.state.num), (9, 0, 8, x.epoch.toNat), (10, 0, 8, x.caps.toNat), (11, 0, 8, x.items),
          (12, 0, 16, x.fwver.toNat), (14, 0, 8, (s.dev.vSids p k).length), (15, 0, 8, x.viols)]))) ∧
    (s.admits opValeItemWatch d (.valeValue p k i) → x.state = .present → (d.bits 8 0 16 = 0 ∨ 10 ≤ d.bits 8 0 16 ∧ d.bits 8 0 16 ≤ 60000) →
      Answers (.valeItemWatch d) s fun t =>
        let y := ((t.dev.vports[p]).slots[k]).vals[i]
        t.okd d ∧ y.poll = d.bits 8 0 16 ∧ y.maxage = d.bits 10 0 16 ∧ (y.event = d.flag 12 0) ∧ y.value = (x.vals[i]).value ∧
        y.time = (x.vals[i]).time ∧ ∀ j : Fin 32, j ≠ i → ((t.dev.vports[p]).slots[k]).vals[j] = x.vals[j]) ∧
    (s.admits opValeItemWatch d (.valeValue p k i) → x.state ≠ .present → s.dev.loading = false →
      Answers (.valeItemWatch d) s fun t => s.onlyAnswers t d .disabled 0)

/-- A frame has come to the device, which has a receive buffer for it (11 R312, R313). -/
def Sys2Proof.VFrame.arrives (f : VFrame) : Prop := (f.dst = 0 ∨ f.dst = 63) ∧ f.room

/-- A frame `f` of the satellite in slot `k` is heard on a port that works: no violation, not at top age, not of an excluded address, of
the slot's EPOCH, and before any handshake, so without a trailer. -/
def Heard (s : State) (p : Fin 16) (k : Fin 32) (f : VFrame) : Prop :=
  f.arrives ∧ s.dev.vUp p ∧ (s.dev.vports[p]).err < 256 ∧ f.src.val = k.val + 1 ∧ f.viols = [] ∧ f.topAge = false ∧ (s.dev.vports[p]).excl.getLsbD k = false ∧
  ((s.dev.vports[p]).slots[k]).state ≠ .empty ∧ f.epoch = ((s.dev.vports[p]).slots[k]).epoch ∧ ((s.dev.vports[p]).slots[k]).ks = none

/-- Such a frame of a slot that is not in QUARANTINE, where no more than IDENT_RSP and NAK are taken (12 R350). -/
def Talks (s : State) (p : Fin 16) (k : Fin 32) (f : VFrame) : Prop :=
  Heard s p k f ∧ ((s.dev.vports[p]).slots[k]).state ≠ .quarantine

/-- 12 R342 to R345, R347, R348, R350, R351, R354, R355: discovery, identity, authentication and requests; 11 R321 to R323: what a frame that
is heard takes off the counts.
(Rests in part on log entries 160, 164, 165, 167, 212, 214, 216, 217: the model's reading or choice.) -/
def Obligations.ValeConversations : Prop :=
  ∀ (s : State) (p : Fin 16) (k : Fin 32) (f : VFrame),
    let v := s.dev.vports[p]
    let x := v.slots[k]
    (∀ (uid : DWord) (caps : Byte), f.arrives → s.dev.vUp p → v.err < 256 → f.src = 62 → f.viols = [] →
      (∀ j : Fin 32, (v.slots[j]).uid ≠ some uid) → v.sweep = none → v.slotFor uid = some k → (∀ e ∈ v.exclUids, e.1 ≠ uid) →
      Answers (.announce p f uid caps) s fun t =>
        let y := (t.dev.vports[p]).slots[k]
        y.state = .assigning ∧ y.uid = some uid ∧ y.caps = caps ∧ y.epoch = nextEpoch x.epoch ∧ y.ident = some (.assign, 0) ∧
        { dst := 63, epoch := nextEpoch x.epoch, msg := .assign uid (k.val + 1) : VTx } ∈ (t.dev.vports[p]).queue ∧
        (x.uid.isSome → y.viols = 0 ∧ y.good = 0)) ∧
    (∀ (uid : DWord) (caps : Byte), s.dev.vUp p → v.err < 256 → f.src = 62 → f.viols = [] → f.dst = 0 → f.room = false →
      Answers (.announce p f uid caps) s fun t =>
        (t.dev.vports[p]).nobuf = v.nobuf + 1 ∧ (t.dev.vports[p]).slots = v.slots ∧ (t.dev.vports[p]).sweep = v.sweep) ∧
    (∀ (uid : DWord) (caps : Byte) (w : VSweep), f.arrives → s.dev.vUp p → v.err < 256 → f.src = 62 → f.viols = [] →
      (∀ j : Fin 32, (v.slots[j]).uid ≠ some uid) → v.sweep = some w → w.opened → w.one = none → Answers (.announce p f uid caps) s fun t =>
        (t.dev.vports[p]).sweep = some { w with one := some (uid, caps) } ∧ (t.dev.vports[p]).slots = v.slots) ∧
    (∀ (w : VSweep) (plen : Nat) (pfx : DWord), v.sweep = some w → w.opened → w.cur = some (plen, pfx) → w.busy = none → plen ≠ 64 →
      Answers (.annWinEnd p true) s fun t =>
        (t.dev.vports[p]).sweep = some { w with
          cur := some (plen + 1, pfx), opened := false, one := none, bad := false, collisions := w.collisions + 1, probes := w.probes + 1
          stack := (plen + 1, pfx ||| BitVec.ofNat 64 (2 ^ (63 - plen))) :: w.stack }) ∧
    (∀ (w : VSweep) (a : Desc) (q : Nat × DWord), v.sweep = some w → w.opened → w.cur = some q → w.busy = none → w.one = none → w.bad = false →
      w.stack = [] → w.ds = [a] → v.again = none → Calm s → Answers (.annWinEnd p false) s fun t =>
        t.answered a .ok (mkRes [(8, 0, 8, w.assigned), (9, 0, 8, w.probes), (10, 0, 8, w.collisions)]) ∧
        (t.dev.vports[p]).sweep = none) ∧
    (∀ (w : VSweep) (uid : DWord) (caps : Byte) (q : Nat × DWord), v.sweep = some w → w.opened → w.cur = some q → w.bad = false →
      w.one = some (uid, caps) → v.slotFor uid = some k → (∀ e ∈ v.exclUids, e.1 ≠ uid) → (x.uid = none ∨ x.uid = some uid) →
      Answers (.annWinEnd p false) s fun t =>
        ((t.dev.vports[p]).slots[k]).state = .assigning ∧ ((t.dev.vports[p]).slots[k]).uid = some uid ∧
        ∃ w', (t.dev.vports[p]).sweep = some w' ∧ w'.busy = some k ∧ w'.cur = none) ∧
    ((∀ w, v.sweep = some w → w.opened = false) → ∀ b, Answers (.annWinEnd p b) s fun t => t = s) ∧
    (∀ uid caps items fwver maxsess n, Heard s p k f → x.state = .assigning → x.uid = some uid → x.ident = some (.assign, n) →
      Answers (.identRsp p f uid caps items fwver maxsess) s fun t =>
        let y := (t.dev.vports[p]).slots[k]
        y.uid = some uid ∧ y.epoch = x.epoch ∧ y.caps = caps ∧ y.items = min 32 (max 1 items.toNat) ∧ y.fwver = fwver ∧
        y.state = (match caps.getLsbD 0, (s.dev.keyOf (some uid)).isSome with
          | true, true => .auth
          | false, false => if v.stranger then .quarantine else .present
          | _, _ => .quarantine)) ∧
    (∀ uid caps items fwver maxsess, Heard s p k f → x.uid ≠ some uid → Answers (.identRsp p f uid caps items fwver maxsess) s fun t =>
      ((t.dev.vports[p]).slots[k]).state = .empty ∧ ((t.dev.vports[p]).slots[k]).uid = x.uid) ∧
    (∀ uid caps items fwver maxsess w, Heard s p k f → x.state = .lost → x.uid = some uid → x.ident = some (.start, w) →
      Answers (.identRsp p f uid caps items fwver maxsess) s fun t => ((t.dev.vports[p]).slots[k]).state = .present) ∧
    (∀ (nd ns uid : DWord) (n : Nat) (key : BitVec 128), Heard s p k f → x.state = .auth → x.hs = some (nd, n) → x.uid = some uid →
      s.dev.keyOf (some uid) = some key →
      let kb := bytesLE 16 key.toNat
      let tag := trunc4 (cmac kb (hsInput 0x53 uid nd ns (addrOf k) x.epoch))
      (Answers (.prove p f ns tag) s fun t =>
        let y := (t.dev.vports[p]).slots[k]
        y.state = .auth ∧ y.hs = none ∧ y.ks = none ∧
        y.conf = some (BitVec.ofNat 128 (ofBytesLE (aes128 kb (bytesLE 8 nd.toNat ++ bytesLE 8 ns.toNat)))) ∧
        { dst := k.val + 1, epoch := x.epoch
          msg := .confirm (trunc4 (cmac kb (hsInput 0x44 uid nd ns (addrOf k) x.epoch))) : VTx } ∈ (t.dev.vports[p]).queue) ∧
      ∀ bad, bad ≠ tag → Answers (.prove p f ns bad) s fun t =>
        ((t.dev.vports[p]).slots[k]).state = .quarantine ∧ ((t.dev.vports[p]).slots[k]).ks = none) ∧
    (∀ (g : VTx) (tag : Word) (ks : BitVec 128), v.wire = some g → g.msg = .confirm tag → g.dst = k.val + 1 → x.conf = some ks →
      Answers (.valeFrameSent { port := p }) s fun t =>
        let y := (t.dev.vports[p]).slots[k]
        y.state = .present ∧ y.ks = some ks ∧ y.conf = none ∧ y.txCnt = 0 ∧ y.rxCnt = 0 ∧ y.reauth = []) ∧
    (∀ (first : Byte) (values : List Word), Heard s p k f → x.state = .present → values.length ≤ 8 →
      first.toNat + values.length ≤ x.items → first.toNat + values.length ≤ 32 → Answers (.notify p f first values) s fun t =>
        (∀ (i : Fin 32) (j : Nat), i.val = first.toNat + j → ∀ w, values[j]? = some w →
          (((t.dev.vports[p]).slots[k]).vals[i]).value = w ∧ (((t.dev.vports[p]).slots[k]).vals[i]).time = some s.dev.now ∧
          (((t.dev.vports[p]).slots[k]).vals[i]).old = false) ∧
        ∀ i : Fin 32, (i.val < first.toNat ∨ first.toNat + values.length ≤ i.val) →
          ((t.dev.vports[p]).slots[k]).vals[i] = x.vals[i]) ∧
    (∀ (first : Byte) (values : List Word), Heard s p k f → x.items < first.toNat + values.length → Answers (.notify p f first values) s fun t =>
      ((t.dev.vports[p]).slots[k]).vals = x.vals) ∧
    (∀ (first : Byte) (values : List Word), Heard s p k f → x.good = 255 → Answers (.notify p f first values) s fun t =>
      ((t.dev.vports[p]).slots[k]).viols = x.viols - 1 ∧ ((t.dev.vports[p]).slots[k]).good = 0) ∧
    (∀ (first : Byte) (values : List Word), s.dev.active (valeFunc p) → v.state = .quiet → f.viols = [] → f.topAge = false →
      Answers (.notify p f first values) s fun t =>
        (t.dev.vports[p]).err = min 511 (v.err - 1) ∧ (t.dev.vports[p]).state = .quiet ∧ ((t.dev.vports[p]).slots[k]).vals = x.vals) ∧
    (∀ (q : VTxn) (a : Desc) (values : List Word) (first : Byte), Heard s p k f → x.state = .present → x.txn = some q → q.d = some a →
      q.write = false → q.first = first.toNat → q.count = values.length → Calm s → x.queue = [] → values ≠ [] →
      q.first + values.length ≤ 32 → Answers (.readRsp p f q.tid first values) s fun t =>
        t.answered a .ok (mkRes [(8, 0, 32, (values.getD 0 0).toNat), (12, 0, 32, (values.getD 1 0).toNat)]) ∧
        ((t.dev.vports[p]).slots[k]).txn = none ∧
        ∀ i : Fin 32, i.val = q.first → (((t.dev.vports[p]).slots[k]).vals[i]).value = values.getD 0 0) ∧
    (∀ (q : VTxn) (a : Desc) (first count : Byte), Heard s p k f → x.state = .present → x.txn = some q → q.d = some a → q.write →
      q.first = first.toNat → q.count = count.toNat → Calm s → x.queue = [] → Answers (.writeRsp p f q.tid first count) s fun t =>
        t.okd a ∧ ((t.dev.vports[p]).slots[k]).txn = none) ∧
    (∀ (q : VTxn) (tid first count : Byte), Heard s p k f → x.state = .present → x.txn = some q → q.tid ≠ tid →
      Answers (.writeRsp p f tid first count) s fun t => ((t.dev.vports[p]).slots[k]).txn = some q ∧ t.dev.done = s.dev.done) ∧
    (∀ (q : VTxn) (a : Desc) (c : Byte) (detail : Byte), Heard s p k f → x.state = .present → x.txn = some q → q.d = some a →
      c ≠ 5 → c ≠ 6 → c ≠ 0x0B → Calm s → x.queue = [] → Answers (.nak p f 2 q.tid c detail) s fun t =>
        t.answered a (nakStatus (nakCode c)) (if nakStatus (nakCode c) = .peerError then mkRes [(8, 0, 8, nakCode c)] else 0) ∧
        ((t.dev.vports[p]).slots[k]).txn = none) ∧
    (∀ (q : VTxn) (detail : Byte), Heard s p k f → x.state = .present → x.txn = some q → q.tries < 2 →
      Answers (.nak p f 2 q.tid 5 detail) s fun t =>
        ((t.dev.vports[p]).slots[k]).txn = some { q with tries := q.tries + 1 } ∧ t.dev.done = s.dev.done) ∧
    (∀ (q : VTxn) (rest : List VRsp), x.rsp = .txn :: rest → x.state = .present → x.txn = some q → q.tries < 2 →
      Answers (.rspTExpiry p k) s fun t =>
        ((t.dev.vports[p]).slots[k]).txn = some { q with tries := q.tries + 1 } ∧ t.dev.done = s.dev.done) ∧
    (∀ (q : VTxn) (a : Desc) (rest : List VRsp), x.rsp = .txn :: rest → x.state = .present → x.txn = some q → q.d = some a → 2 ≤ q.tries →
      Calm s → x.queue = [] → x.timeouts + 1 < 3 → Answers (.rspTExpiry p k) s fun t =>
        t.answered a .timeout 0 ∧ ((t.dev.vports[p]).slots[k]).txn = none ∧ ((t.dev.vports[p]).slots[k]).timeouts = x.timeouts + 1 ∧
        ((t.dev.vports[p]).slots[k]).state = .present) ∧
    (∀ (q : VTxn) (rest : List VRsp), x.rsp = .txn :: rest → x.state = .present → x.txn = some q → 2 ≤ q.tries → 2 ≤ x.timeouts →
      Answers (.rspTExpiry p k) s fun t => ((t.dev.vports[p]).slots[k]).state = .lost ∧ ((t.dev.vports[p]).slots[k]).queue = [] ∧
        ∀ (j : Fin 16) (y : VSess), v.sess[j] = some y → y.slot = k.val → y.aborted = false →
          ∃ z, (t.dev.vports[p]).sess[j] = some z ∧ z.phase = .suspended ∧ z.d = y.d) ∧
    (x.rsp = [] → Answers (.rspTExpiry p k) s fun t => t = s) ∧
    (s.dev.active (valeFunc p) → x.state = .present → x.ident = none → Answers (.aliveTExpiry p k) s fun t =>
      ((t.dev.vports[p]).slots[k]).ident = some (.alive, 0) ∧ ((t.dev.vports[p]).slots[k]).state = .present) ∧
    (x.state ≠ .present → Answers (.aliveTExpiry p k) s fun t => t = s) ∧
    (v.probeT ≠ 0 → s.dev.vUp p → v.sweep = none → Answers (.probeTExpiry p) s fun t =>
      (t.dev.vports[p]).sweep = some { stack := [], cur := some (0, 0), probes := 1 }) ∧
    (v.probeT = 0 → Answers (.probeTExpiry p) s fun t => t = s) ∧
    (∀ i : Fin 32, s.dev.active (valeFunc p) → x.state = .present → (x.vals[i]).poll ≠ 0 → x.txn = none → x.queue = [] →
      Answers (.itemPollTimer p k i) s fun t =>
        ((t.dev.vports[p]).slots[k]).txn = some { d := none, write := false, first := i.val, count := 1, tid := x.tid + 1 }) ∧
    (∀ i : Fin 32, (x.vals[i]).maxage ≠ 0 → (x.vals[i]).time.isSome → Answers (.maxageExpiry p k i) s fun t =>
      (((t.dev.vports[p]).slots[k]).vals[i]).old ∧ (((t.dev.vports[p]).slots[k]).vals[i]).value = (x.vals[i]).value)

/-- 12 R356 to R360: bulk sessions.
(Rests in part on log entries 160, 213, 214: the model's reading or choice.) -/
def Obligations.ValeSessions : Prop :=
  ∀ (s : State) (p j : Fin 16) (k : Fin 32) (f : VFrame) (y : VSess),
    let v := s.dev.vports[p]
    let sid := BitVec.ofNat 8 j.val
    v.sess[j] = some y → y.slot = k.val →
    (∀ len : Word, Talks s p k f → y.phase = .opening → y.get = false → 0 < y.nseg → y.next = 0 → y.base = 0 →
      Answers (.openAck p f sid len) s fun t =>
        ∃ z, (t.dev.vports[p]).sess[j] = some z ∧ z.phase = .xfer ∧ z.next = min 8 y.nseg ∧ z.d = y.d) ∧
    (∀ len : Word, Talks s p k f → y.phase = .opening → y.get → 0 < len.toNat → len.toNat ≤ y.len →
      Answers (.openAck p f sid len) s fun t =>
        (t.dev.vports[p]).sess[j] = some { y with phase := .xfer, tries := 0, acked := true, reauthed := false, len := len.toNat }) ∧
    (∀ (base : BitVec 16) (map : Byte), Talks s p k f → y.get = false → (y.phase = .xfer ∨ y.phase = .suspended) → base.toNat = y.nseg →
      y.base ≤ y.nseg → Answers (.sack p f sid base map) s fun t =>
        ∃ z, (t.dev.vports[p]).sess[j] = some z ∧ z.phase = .closing ∧ z.base = y.nseg ∧ z.fails = 0 ∧
          (z.resumed = (y.resumed || y.phase == .suspended))) ∧
    (∀ (base : BitVec 16) (map : Byte), Talks s p k f → y.get = false → (y.phase = .xfer ∨ y.phase = .suspended) → base.toNat < y.nseg →
      y.base ≤ base.toNat → Answers (.sack p f sid base map) s fun t =>
        ∃ z, (t.dev.vports[p]).sess[j] = some z ∧ z.phase = .xfer ∧ z.base = base.toNat ∧ z.map = map ∧ z.fails = 0 ∧
          z.next = max (max y.next base.toNat) (min (base.toNat + 8) y.nseg)) ∧
    (∀ (n : BitVec 16) (bytes : List Byte), Talks s p k f → y.get → y.phase = .xfer → n.toNat = y.next → n.toNat < y.nseg → y.got = [] →
      bytes.length = min 48 (y.len - 48 * n.toNat) → Answers (.data p f sid n bytes) s fun t =>
        ∃ z, (t.dev.vports[p]).sess[j] = some z ∧ z.bytes = y.bytes ++ bytes ∧ z.next = y.next + 1 ∧
          (z.phase = if y.next + 1 = y.nseg then .closing else .xfer)) ∧
    (Talks s p k f → y.get → y.phase = .suspended → y.acked → y.next ≠ y.nseg → Answers (.resumeAck p f sid) s fun t =>
      (t.dev.vports[p]).sess[j] = some { y with phase := .xfer, resumed := true, acked := true, tries := 0, reauthed := false }) ∧
    (Talks s p k f → y.get → y.phase = .suspended → y.acked = false → Answers (.resumeAck p f sid) s fun t =>
      (t.dev.vports[p]).sess[j] = some { y with phase := .opening, resumed := true, tries := 0 } ∧
      { dst := k.val + 1, epoch := (v.slots[k]).epoch, msg := .open_ j.val true y.obj y.len : VTx } ∈ (t.dev.vports[p]).queue) ∧
    (Talks s p k f → y.phase = .closing → y.aborted = false → Calm s → Answers (.closeAck p f sid 0) s fun t =>
      t.answered y.d .ok (y.result j y.len 0 false) ∧ (t.dev.vports[p]).sess[j] = none) ∧
    (∀ r : Byte, Talks s p k f → y.phase = .closing → y.aborted = false → Calm s → r ≠ 0 → Answers (.closeAck p f sid r) s fun t =>
      t.answered y.d .peerError (y.result j y.moved (nakCode r) false) ∧ (t.dev.vports[p]).sess[j] = none) ∧
    (Talks s p k f → y.phase ≠ .closing → Answers (.closeAck p f sid 0) s fun t => (t.dev.vports[p]).sess[j] = some y) ∧
    (y.get → y.phase = .xfer → 0 < y.since → y.next ≠ y.nseg → v.live → Answers (.sackTExpiry p j) s fun t =>
      (t.dev.vports[p]).sess[j] = some { y with base := y.next, since := 0 } ∧
      (t.dev.vports[p]).queue = v.queue ++ [{ dst := k.val + 1, epoch := (v.slots[k]).epoch, msg := .sack j.val y.next y.mapOf }]) ∧
    (y.since = 0 → Answers (.sackTExpiry p j) s fun t => t = s) ∧
    (y.phase = .suspended → s.dev.vUp p → Answers (.resumeTimer p j) s fun t =>
      let g : VTx := { dst := k.val + 1, epoch := (v.slots[k]).epoch
                       msg := if y.get then .resume j.val y.next y.mapOf else .resume j.val 0 0 }
      s.becomes t (Dev.withVP s.dev p { v with queue := v.queue ++ [g] })) ∧
    (y.phase = .suspended → y.aborted = false → Calm s → Answers (.resumeTExpiry p j) s fun t =>
      t.answered y.d .timeout (y.result j y.moved 0 false) ∧ (t.dev.vports[p]).sess[j] = none) ∧
    (y.phase ≠ .suspended → (Answers (.resumeTimer p j) s fun t => t = s) ∧ (Answers (.resumeTExpiry p j) s fun t => t = s))

/-! ## The building-bus and sensor-bus ports -/

/-- A change of building-bus port `p` alone. -/
def Dev.withBB (s : Dev) (p : Fin 8) (b : BbPort) : Dev := { s with bbs := s.bbs.set p.val b }

/-- A change of sensor-bus port `p` alone. -/
def Dev.withSB (s : Dev) (p : Fin 8) (b : SbPort) : Dev := { s with sbs := s.sbs.set p.val b }

/-- The ranges of a BB_CONFIG (13 R394). -/
def BbRange (d : Desc) : Prop :=
  let mode := d.bits 8 0 2
  d.bits 9 0 3 ≤ 5 ∧ d.bits 9 3 2 ≤ 2 ∧
  (mode = 0 → d.bits 9 3 2 = 0 ∧ d.bits 9 5 1 = 0) ∧
  ((mode = 1 ∨ mode = 2) → d.bits 9 3 2 = 0 → d.bits 9 5 1 = 1) ∧
  (mode = 1 → 10 ≤ d.bits 14 0 16 ∧ d.bits 14 0 16 ≤ 2000 ∧ 1 ≤ d.bits 17 0 8 ∧ d.bits 17 0 8 ≤ 100) ∧
  (mode ≠ 1 → d.bits 14 0 16 = 0 ∧ d.bits 16 0 2 = 0 ∧ d.bits 17 0 8 = 0) ∧
  (mode = 2 → 1 ≤ d.bits 12 0 8 ∧ d.bits 12 0 8 ≤ 247 ∧ d.bits 18 0 16 ≤ d.bits 20 0 16 ∧ d.bits 20 0 16 ≤ 1023) ∧
  (mode ≠ 2 → d.bits 12 0 8 = 0 ∧ d.bits 18 0 16 = 0 ∧ d.bits 20 0 16 = 0) ∧
  (mode = 3 → 1 ≤ d.bits 13 0 8) ∧ (mode ≠ 3 → d.bits 13 0 8 = 0)

/-- The ranges of a BB_POLL_WRITE (13 R400). -/
def BbPollRange (d : Desc) : Prop :=
  let func := d.bits 10 0 8
  let fmt := d.bits 11 0 3
  1 ≤ d.bits 9 0 8 ∧ d.bits 9 0 8 ≤ 247 ∧ fmt ≠ 7 ∧ (fmt = 6 → 1 ≤ func ∧ func ≤ 2) ∧ (fmt ≠ 6 → 3 ≤ func ∧ func ≤ 4) ∧
  (2 ≤ fmt → fmt ≤ 5 → d.bits 12 0 16 < 65535) ∧ 100 ≤ d.bits 14 0 16 ∧ d.bits 16 0 5 ≤ 16 ∧ 1 ≤ d.bits 17 0 4

/-- 13 R388, R389, R392, R394 to R403: the opcodes of class 0xA.
(Rests in part on log entries 171, 172, 180, 218, 221: the model's reading or choice.) -/
def Obligations.BbDescriptors : Prop :=
  ∀ (s : State) (d : Desc) (p : Fin 8) (e : Fin 64),
    let b := s.dev.bbs[p]
    let x := b.entries[e]
    (s.admits opBbConfig d (.bbPort p) → BbRange d → b.state = 0 → Answers (.bbConfig d) s fun t =>
      t.okd d ∧ s.becomes t (Dev.withBB s.dev p { b with
        mode := d.bits 8 0 2, rate := d.bits 9 0 3, parity := d.bits 9 3 2, stop := d.bits 9 5 1, deLead := d.bits 10 0 8
        deLag := d.bits 11 0 4, slaveAddr := d.bits 12 0 8, idle := d.bits 13 0 8, rspTo := d.bits 14 0 16
        retries := d.bits 16 0 2, mbTurn := d.bits 17 0 8, wrLo := d.bits 18 0 16, wrHi := d.bits 20 0 16 })) ∧
    (s.admits opBbConfig d (.bbPort p) → BbRange d → b.state ≠ 0 → Answers (.bbConfig d) s fun t => s.onlyAnswers t d .busy 0) ∧
    (s.admits opBbConfig d (.bbPort p) → ¬ BbRange d → Answers (.bbConfig d) s fun t => s.onlyAnswers t d .range 0) ∧
    (s.admits opBbMstpConfig d (.bbPort p) → d.bits 8 0 7 ≤ d.bits 9 0 7 → 1 ≤ d.bits 10 0 8 → d.bits 10 0 8 ≤ 100 →
      20 ≤ d.bits 11 0 8 → d.bits 11 0 8 ≤ 100 → 10 ≤ d.bits 12 0 8 → d.bits 12 0 8 ≤ 200 → 1 ≤ d.bits 14 0 7 →
      100 ≤ d.bits 16 0 16 → d.bits 16 0 16 ≤ 60000 →
      (b.mode = 0 → b.state = 0 → Answers (.bbMstpConfig d) s fun t =>
        t.okd d ∧ s.becomes t (Dev.withBB s.dev p { b with
          ts := d.bits 8 0 7, nmaxMaster := d.bits 9 0 7, nmaxInfo := d.bits 10 0 8, tUsage := d.bits 11 0 8
          replyWait := d.bits 12 0 8, segrx := d.flag 13 0, rxwin := d.bits 14 0 7, tsegRx := d.bits 16 0 16 })) ∧
      (b.mode = 0 → b.state ≠ 0 → Answers (.bbMstpConfig d) s fun t => s.onlyAnswers t d .busy 0) ∧
      (b.mode ≠ 0 → Answers (.bbMstpConfig d) s fun t => s.onlyAnswers t d .conflict 0)) ∧
    (s.admits opBbCtrl d (.bbPort p) → Calm s →
      (d.bits 8 0 2 = 0 → Answers (.bbCtrl d) s fun t =>
        let c := t.dev.bbs[p]
        t.okd d ∧ c.state = 0 ∧ c.tx = none ∧ c.queue = [] ∧ c.posted = [] ∧ c.held = [] ∧ c.segs = [] ∧ c.cur = none ∧
        ((∀ q ∈ s.dev.fq, q.op ≠ 0xA7) → c.work = []) ∧
        (∀ a, .hold a ∈ b.work → { op := 0xA7, d := a : QDesc } ∈ s.dev.bulk → (∀ q ∈ s.dev.bulk, q.ghost = false) → t.ended a .flushed) ∧
        (∀ a ∈ b.posted, t.ended a .flushed) ∧ (∀ g ∈ b.segs, t.ended g.d .flushed) ∧
        (∀ f ∈ b.queue, ∀ a, f.d = some a → f.seg = false → t.ended a .flushed) ∧
        (b.state ≠ 0 → ∃ v ∈ t.dev.raised, v.code = EV_BB_PORT ∧ v.handle = hBb p ∧ v.arg = mkWord [(0, 2, 0), (4, 2, b.state)])) ∧
      (d.bits 8 0 2 = 1 → b.state ≠ 1 → b.mode = 0 → Answers (.bbCtrl d) s fun t =>
        let c := t.dev.bbs[p]
        t.okd d ∧ c.state = 1 ∧ c.ns = b.ts ∧ c.ps = b.ts ∧ c.tokens = 0 ∧ c.node = .idle ∧ c.queue = b.queue ∧
        ∃ v ∈ t.dev.raised, v.code = EV_BB_PORT ∧ v.handle = hBb p ∧ v.arg = mkWord [(0, 2, 1), (4, 2, b.state)]) ∧
      (d.bits 8 0 2 = 2 → Answers (.bbCtrl d) s fun t =>
        t.okd d ∧ s.becomes t (Dev.withBB s.dev p { b with frameErr := 0, tokenLost := 0, rxdrop := 0 })) ∧
      (d.bits 8 0 2 = 3 → Answers (.bbCtrl d) s fun t => s.onlyAnswers t d .range 0)) ∧
    (s.admits opBbSend d (.bbPort p) → s.dev.bulkOk d → b.mode = 0 →
      (b.state ≠ 2 → bulkLen d ≤ 501 → Answers (.bbSend d) s fun t => t.reading 0xA3 d ∧ t.dev.bbs = s.dev.bbs ∧ s.onlyDev t) ∧
      (501 < bulkLen d → Answers (.bbSend d) s fun t => s.onlyAnswers t d .range 0) ∧
      (b.state = 2 → bulkLen d ≤ 501 → Answers (.bbSend d) s fun t => s.onlyAnswers t d .conflict 0)) ∧
    (s.admits opBbRecv d (.bbPort p) → s.dev.bulkOk d → b.posted = [] → Calm s →
      (b.mode = 0 → b.held = [] → Answers (.bbRecv d) s fun t =>
        t.waiting 0xA4 d ∧ t.dev.done = s.dev.done ∧ (t.dev.bbs[p]).posted = [d] ∧ s.onlyDev t) ∧
      (∀ y ys, b.mode = 0 → b.held = y :: ys → y.data.length ≤ bulkLen d → Answers (.bbRecv d) s fun t =>
        (t.dev.bbs[p]).held = ys ∧ (t.dev.bbs[p]).posted = [] ∧
        ∃ c, t.dev.done.getLast? = some c ∧ c.tag = d.tag ∧ c.status = .ok ∧ c.bulk = [(bulkAddr d, y.data)] ∧
          c.result = mkRes [(8, 0, 16, y.data.length), (10, 0, 8, y.src.toNat), (11, 0, 8, y.ftype.toNat), (12, 0, 8, y.req.toNat),
            (13, 0, 1, y.seg.toNat), (13, 1, 1, y.reply.isSome.toNat), (14, 0, 16, (y.reply.getD 0).toNat)]) ∧
      ((b.mode = 1 ∨ b.mode = 2) → Answers (.bbRecv d) s fun t => s.onlyAnswers t d .conflict 0)) ∧
    (s.admits opBbSegSend d (.bbPort p) → s.dev.bulkOk d → d.bits 20 0 8 ≠ 255 → 2 ≤ d.bits 21 0 8 → d.bits 21 0 8 ≤ 24 →
      1 ≤ d.bits 22 0 8 → d.bits 22 0 8 ≤ 127 → d.bits 23 0 8 ≤ 7 → 100 ≤ d.bits 24 0 16 → d.bits 24 0 16 ≤ 60000 →
      50 ≤ d.bits 26 0 16 → d.bits 26 0 16 ≤ 480 →
      (b.mode = 0 → b.state ≠ 2 → Answers (.bbSegSend d) s fun t => t.reading 0xA5 d ∧ t.dev.bbs = s.dev.bbs ∧ s.onlyDev t) ∧
      ((b.mode ≠ 0 ∨ b.state = 2) → Answers (.bbSegSend d) s fun t => s.onlyAnswers t d .conflict 0)) ∧
    (s.admits opBbPollWrite d (.bbValue p e) → BbPollRange d →
      (b.mode = 1 → Answers (.bbPollWrite d) s fun t =>
        t.okd d ∧ s.onlyDev t ∧ (∀ j : Fin 64, j ≠ e → (t.dev.bbs[p]).entries[j] = b.entries[j]) ∧
        (t.dev.bbs[p]).entries[e] =
          { en := d.flag 8 0, event := d.flag 8 1, slave := d.bits 9 0 8, func := d.bits 10 0 8, format := d.bits 11 0 3
            reg := d.bits 12 0 16, period := d.bits 14 0 16, lshift := d.bits 16 0 5, failN := d.bits 17 0 4
            x := x.x, valid := false, timeout := true, exc := x.exc, time := s.dev.now }) ∧
      (b.mode ≠ 1 → Answers (.bbPollWrite d) s fun t => s.onlyAnswers t d .conflict 0)) ∧
    (s.admits opBbPollWrite d (.bbValue p e) → ¬ BbPollRange d → d.flag 8 0 →
      Answers (.bbPollWrite d) s fun t => s.onlyAnswers t d .range 0) ∧
    (s.admits opBbMbReq d (.bbPort p) → s.dev.bulkOk d → bulkLen d ≤ 253 → d.bits 20 0 8 ≤ 247 →
      (b.mode = 1 → Answers (.bbMbReq d) s fun t =>
        t.reading 0xA7 d ∧ s.onlyDev t ∧ t.dev.bbs = s.dev.bbs.set p.val { b with
          work := if b.work.any (·.holds d) then b.work else b.work ++ [.hold d] }) ∧
      (b.mode ≠ 1 → Dev.NoPlace s.dev d → Answers (.bbMbReq d) s fun t => s.onlyAnswers t d .conflict 0)) ∧
    (let n := bulkLen d / 2
     let a := d.bits 22 0 16
     s.admits opBbSlaveImage d (.bbPort p) → s.dev.bulkOk d → bulkLen d = 2 * n → d.bits 20 0 8 ≤ 1 → a ≤ 1023 → a + n ≤ 1024 →
      (b.mode = 2 → d.flag 21 0 = false → Answers (.bbSlaveImage d) s fun t =>
        t.reading 0xA8 d ∧ t.dev.bbs = s.dev.bbs ∧ s.onlyDev t) ∧
      (b.mode = 2 → d.flag 21 0 → Answers (.bbSlaveImage d) s fun t =>
        t.okd d ∧ t.dev.bbs = s.dev.bbs ∧
        ∃ c bs, t.dev.done.getLast? = some c ∧ c.bulk = [(bulkAddr d, bs)] ∧ bs.length = bulkLen d ∧
          ∀ i (h : a + i < 1024), i < n → (bs.drop (2 * i)).take 2 =
            bytesLE 2 (if d.bits 20 0 8 = 0 then b.holding[a + i] else b.input[a + i]).toNat) ∧
      (b.mode ≠ 2 → Answers (.bbSlaveImage d) s fun t => s.onlyAnswers t d .conflict 0)) ∧
    (s.admits opBbRead d (.bbValue p e) → Answers (.bbRead d) s fun t =>
      s.onlyAnswers t d .ok (mkRes [(8, 0, 32, wrapTo 32 x.x), (12, 0, 1, x.valid.toNat),
        (12, 1, 1, (x.timeout || (x.en && decide (x.time + 4 * x.period * 400000 < s.dev.now))).toNat), (13, 0, 8, x.exc.toNat),
        (14, 0, 16, min 65535 ((s.dev.now - x.time) / 4000000))])) ∧
    (s.admits opBbStatusGet d (.bbPort p) → Answers (.bbStatusGet d) s fun t =>
      s.onlyAnswers t d .ok (mkRes [(8, 0, 32, b.status.toNat), (12, 0, 32, b.counts.toNat)])) ∧
    (∀ (qs : List QDesc) (data : List Byte), objOf d.handle = some (.bbPort p) → s.qspi = false → data.length = bulkLen d →
      let f : BbOut := { d := some d, dst := BitVec.ofNat 8 (d.bits 20 0 8), expect := d.flag 21 0, data }
      (s.dev.bulk = { op := 0xA3, d } :: qs → b.mode = 0 → b.state ≠ 2 → d.flag 21 1 = false →
        Answers (.bulkReadCompletion .ok data) s fun t =>
          t.waiting 0xA3 d ∧ t.dev.bulk = qs ∧ t.dev.done = s.dev.done ∧ t.dev.bbs = s.dev.bbs.set p.val { b with queue := b.queue ++ [f] }) ∧
      (∀ q src, s.dev.bulk = { op := 0xA3, d } :: qs → b.mode = 0 → b.state ≠ 2 → d.flag 21 1 → b.ans = some (q, src) → b.node = .answer →
        b.tx = none → q.toNat = d.bits 22 0 8 → Answers (.bulkReadCompletion .ok data) s fun t =>
          t.waiting 0xA3 d ∧ t.dev.bbs = s.dev.bbs.set p.val { b with ans := none, tx := some (.answer { f with expect := false }) }) ∧
      (s.dev.bulk = { op := 0xA3, d } :: qs → b.mode = 0 → d.flag 21 1 → b.ans = none → (∀ y ∈ b.postponed, y.1.toNat ≠ d.bits 22 0 8) →
        Answers (.bulkReadCompletion .ok data) s fun t => t.answered d .conflict 0 ∧ t.dev.bbs = s.dev.bbs) ∧
      (s.dev.bulk = { op := 0xA7, d } :: qs → b.mode = 1 → s.dev.bbUp p → b.cur = none → b.turn = false → b.tx = none →
        (b.work = [] ∨ b.work = [.hold d]) → Answers (.bulkReadCompletion .ok data) s fun t =>
          let slave := BitVec.ofNat 8 (d.bits 20 0 8)
          t.waiting 0xA7 d ∧ (t.dev.bbs[p]).cur = some (.req d slave data, 0) ∧
          (t.dev.bbs[p]).tx = some (.raw none (mbFrame slave data))))

/-- The port works as an MS/TP master, RUNNING and not transmitting. -/
def Listens (s : State) (p : Fin 8) : Prop :=
  s.dev.bbUp p ∧ (s.dev.bbs[p]).mode = 0 ∧ (s.dev.bbs[p]).state = 1 ∧ (s.dev.bbs[p]).tx = none

/-- 13 R378, R380 to R387, R376: the master node. What a node does with a frame that it does not expect, and the station that a poll
names next, follow the standard's master state machine (log entry 40). -/
def Obligations.MasterNode : Prop :=
  ∀ (s : State) (p : Fin 8) (src dst : Byte) (data : List Byte),
    let b := s.dev.bbs[p]
    (Listens s p → b.node = .idle → src.toNat ≠ b.ts → dst.toNat = b.ts → dst ≠ 255 →
      (∀ f rest, b.queue = f :: rest → 0 < b.nmaxInfo → Answers (.token p src dst) s fun t =>
        s.becomes t (Dev.withBB s.dev p { b with
          sent := 1, sole := false, node := .useToken, queue := rest, expect := none, tx := some (.frame f) })) ∧
      (b.queue = [] → b.ns ≠ b.ts → b.tokens < 49 → Answers (.token p src dst) s fun t =>
        let c := t.dev.bbs[p]
        c.node = .passToken ∧ c.tx = some (.token (BitVec.ofNat 8 b.ns)) ∧ c.tokens = b.tokens + 1 ∧ c.ns = b.ns) ∧
      (b.queue = [] → b.ns ≠ b.ts → 49 ≤ b.tokens → b.after b.ps ≠ b.ns → Answers (.token p src dst) s fun t =>
        let c := t.dev.bbs[p]
        c.node = .poll ∧ c.tx = some (.pfm (BitVec.ofNat 8 (b.after b.ps))) ∧ c.ps = b.after b.ps) ∧
      (b.queue = [] → b.ns = b.ts → Answers (.token p src dst) s fun t =>
        let c := t.dev.bbs[p]
        c.node = .poll ∧ c.tx = some (.pfm (BitVec.ofNat 8 (b.after b.ts))) ∧ c.ps = b.after b.ts) ∧
      (∀ (g : BbSeg) (x reason : Byte), b.segs = [g] → g.dst = src → (x.toNat / 16 = 6 ∨ x.toNat / 16 = 7) → Calm s →
        Answers (.bacnetDataNotExpectingReply p src dst [1, 0, x, g.invoke, reason]) s fun t =>
          t.answered g.d .peerError (mkRes [(8, 0, 8, reason.toNat)]) ∧ (t.dev.bbs[p]).segs = []) ∧
      (Answers (.pollForMaster p src dst) s fun t => s.becomes t (Dev.withBB s.dev p { b with tx := some (.rpfm src) })) ∧
      (Answers (.testRequest p src dst data) s fun t => s.becomes t (Dev.withBB s.dev p { b with tx := some (.testRsp src data) })) ∧
      (b.segs = [] → b.segrx = false → b.ans = none → b.posted = [] → b.held.length < 8 →
        Answers (.bacnetDataExpectingReply p src dst data) s fun t =>
          let c := t.dev.bbs[p]
          c.node = .answer ∧ c.ans = some (b.req, src) ∧ c.req = b.req + 1 ∧ c.tx = none ∧
          c.held = b.held ++ [{ data, src, ftype := 5, req := b.req }]) ∧
      (∀ a rest, b.segs = [] → b.segrx = false → b.posted = a :: rest → Calm s → data.length ≤ bulkLen a →
        Answers (.bacnetDataNotExpectingReply p src dst data) s fun t =>
          (t.dev.bbs[p]).posted = rest ∧ (t.dev.bbs[p]).node = .idle ∧
          ∃ c, t.dev.done.getLast? = some c ∧ c.tag = a.tag ∧ c.status = .ok ∧ c.bulk = [(bulkAddr a, data)])) ∧
    (Listens s p → b.node = .idle → src.toNat ≠ b.ts → dst.toNat ≠ b.ts → dst ≠ 255 →
      ∀ c ∈ [Instr.token p src dst, .pollForMaster p src dst, .testRequest p src dst data, .testResponse p src dst data,
          .replyToPollForMaster p src dst, .replyPostponed p src dst],
        Answers c s fun t => t = s) ∧
    (Listens s p → b.node = .idle → src.toNat ≠ b.ts → Answers (.testResponse p src dst data) s fun t => t = s) ∧
    (s.dev.bbUp p → b.mode = 0 → b.state = 2 → b.tx = none → src.toNat ≠ b.ts →
      ∀ c ∈ [Instr.token p src dst, .pollForMaster p src dst, .testRequest p src dst data],
        Answers c s fun t => (t.dev.bbs[p]).tx = none ∧ (t.dev.bbs[p]).state = 2) ∧
    (Listens s p → b.node = .poll → src.toNat ≠ b.ts → dst.toNat = b.ts → dst ≠ 255 → src.toNat < 128 →
      Answers (.replyToPollForMaster p src dst) s fun t =>
        let c := t.dev.bbs[p]
        c.ns = src.toNat ∧ c.node = .passToken ∧ c.tx = some (.token (BitVec.ofNat 8 src.toNat)) ∧ c.sole = false ∧
        (b.ns ≠ src.toNat → ∃ v ∈ t.dev.raised, v.code = EV_BB_PEER ∧ v.handle = hPeer p src.toNat ∧
          v.arg = mkWord [(0, 7, src.toNat), (8, 7, b.ns)])) ∧
    (∀ f a, Listens s p → b.node = .waitReply → b.expect = some (f, src) → f.d = some a → f.seg = false → src.toNat ≠ b.ts →
      dst.toNat = b.ts → dst ≠ 255 → Calm s →
      (b.segs = [] → b.segmentOf dst data = none → b.posted = [] → b.held.length < 8 →
        Answers (.bacnetDataNotExpectingReply p src dst data) s fun t =>
        t.answered a .ok (mkRes [(8, 0, 1, 1)]) ∧
        (t.dev.bbs[p]).held = b.held ++ [{ data, src, ftype := 6, reply := some a.tag }]) ∧
      (Answers (.replyPostponed p src dst) s fun t => t.answered a .ok (mkRes [(8, 1, 1, 1)])) ∧
      (Answers (.treplyTimeout p) s fun t => t.answered a .timeout 0)) ∧
    (b.node ≠ .waitReply → Answers (.treplyTimeout p) s fun t => t = s) ∧
    (∀ q, s.dev.bbUp p → b.state = 1 → b.node = .answer → b.ans = some (q, src) → Answers (.replyWaitExpiry p) s fun t =>
      s.becomes t (Dev.withBB s.dev p { b with
        node := .idle, ans := none, postponed := ((q, src) :: b.postponed).take 8, tx := some (.postponed src) })) ∧
    (b.node ≠ .answer → Answers (.replyWaitExpiry p) s fun t => t = s) ∧
    (Listens s p → src.toNat = b.ts →
      ∀ c ∈ [Instr.token p src dst, .pollForMaster p src dst, .replyToPollForMaster p src dst, .testRequest p src dst data,
          .testResponse p src dst data, .bacnetDataExpectingReply p src dst data, .bacnetDataNotExpectingReply p src dst data,
          .replyPostponed p src dst],
        Answers c s fun t =>
          (t.dev.bbs[p]).dupSeen ∧
          (s.dev.handling (hBb p) = false → ∃ v ∈ t.dev.raised, v.code = EV_BB_FAULT ∧ v.handle = hBb p) ∧
          let n := (b.dups.filter fun u => s.dev.now < u + 4000000000).length
          (n < 2 → (t.dev.bbs[p]).state = 1) ∧
          (2 ≤ n → (t.dev.bbs[p]).state = 2 ∧ (t.dev.bbs[p]).tx = none)) ∧
    (∀ k : BusErr, s.dev.bbUp p → b.mode = 0 → b.tx = none → Answers (.mstpFrameError p k) s fun t =>
      ((t.dev.bbs[p]).frameErr = if k = .frameType then b.frameErr else b.frameErr + 1) ∧ (t.dev.bbs[p]).queue = b.queue) ∧
    (Listens s p → b.node = .idle → s.dev.handling (hBb p) = false → Answers (.tnoTokenExpiry p) s fun t =>
      let c := t.dev.bbs[p]
      c.tokenLost = b.tokenLost + 1 ∧ c.tokSeen ∧ c.ns = b.ts ∧ c.node = .poll ∧ c.tx = some (.pfm (BitVec.ofNat 8 (b.after b.ts))) ∧
      ∃ r ∈ t.dev.log.errs, r.source = hBb p ∧ r.cls = .warn ∧ r.code = LG_BB_TOKEN_LOST) ∧
    (b.node ≠ .idle → Answers (.tnoTokenExpiry p) s fun t => t = s) ∧
    (Listens s p → b.node = .passToken → b.passTries = 0 → Answers (.tUsageExpiry p) s fun t =>
      s.becomes t (Dev.withBB s.dev p { b with passTries := 1, tx := some (.token (BitVec.ofNat 8 b.ns)) })) ∧
    (Listens s p → b.node = .passToken → b.passTries = 1 → b.after b.ns ≠ b.ts → Answers (.tUsageExpiry p) s fun t =>
      (t.dev.bbs[p]).node = .poll ∧ (t.dev.bbs[p]).tx = some (.pfm (BitVec.ofNat 8 (b.after b.ns)))) ∧
    (Listens s p → b.node = .poll → b.sole = false → b.ns = b.ts → b.after b.ps ≠ b.ts → Answers (.tUsageExpiry p) s fun t =>
      (t.dev.bbs[p]).node = .poll ∧ (t.dev.bbs[p]).tx = some (.pfm (BitVec.ofNat 8 (b.after b.ps)))) ∧
    (Listens s p → b.node = .poll → b.sole = false → b.ns = b.ts → b.after b.ps = b.ts → Answers (.tUsageExpiry p) s fun t =>
      (t.dev.bbs[p]).sole ∧ (t.dev.bbs[p]).ns = b.ts) ∧
    (Listens s p → b.node = .poll → b.sole = false → b.ns ≠ b.ts → Answers (.tUsageExpiry p) s fun t =>
      (t.dev.bbs[p]).node = .passToken ∧ (t.dev.bbs[p]).tx = some (.token (BitVec.ofNat 8 b.ns)) ∧ (t.dev.bbs[p]).tokens = 0) ∧
    ((∀ g ∈ b.segs, g.waits = none) → Answers (.tsegExpiry p) s fun t => t = s) ∧
    (∀ (g : BbSeg) (u : Nat), s.dev.bbUp p → b.segs = [g] → g.waits = some u → b.queue = [] →
      (g.tries < g.d.bits 23 0 8 → Answers (.tsegExpiry p) s fun t =>
        let hi := min (g.base + g.window) g.body.length
        (t.dev.bbs[p]).segs = [{ g with tries := g.tries + 1, used := g.used + 1, top := hi, waits := none }] ∧
        (t.dev.bbs[p]).queue = g.frames g.base hi ∧ t.dev.done = s.dev.done) ∧
      (g.d.bits 23 0 8 ≤ g.tries → Calm s → Answers (.tsegExpiry p) s fun t =>
        t.answered g.d .timeout 0 ∧ (t.dev.bbs[p]).segs = [])) ∧
    (∀ invoke : Byte,
      (∀ (r : BbRx) (u w : List BbRx), b.rxs = u ++ r :: w → r.src = src → r.invoke = invoke →
        (∀ y ∈ u, y.src = src → y.invoke = invoke → r.last < y.last) → (∀ y ∈ w, y.src = src → y.invoke = invoke → r.last ≤ y.last) →
        Answers (.tsegRxExpiry p src invoke) s fun t => (t.dev.bbs[p]).rxs = u ++ w) ∧
      ((∀ r ∈ b.rxs, r.src = src → r.invoke ≠ invoke) → Answers (.tsegRxExpiry p src invoke) s fun t => t = s)) ∧
    (∀ f a, b.mode = 0 → b.tx = some (.frame f) → f.d = some a → f.seg = false → f.late = false → Calm s →
      ((f.expect = false ∨ f.dst = 255) → Answers (.bbTransmissionEnd p) s fun t => t.okd a ∧ (t.dev.bbs[p]).expect = none) ∧
      (f.expect → f.dst ≠ 255 → Answers (.bbTransmissionEnd p) s fun t =>
        s.becomes t (Dev.withBB s.dev p { b with tx := none, node := .waitReply, expect := some (f, f.dst) }) ∧
        t.dev.done = s.dev.done)) ∧
    (b.tx = none → Answers (.bbTransmissionEnd p) s fun t => t = s)

/-- 13 R388 to R392: Modbus RTU and raw UART.
(Rests in part on log entries 180, 221: the model's reading or choice.) -/
def Obligations.ModbusUart : Prop :=
  ∀ (s : State) (p : Fin 8),
    let b := s.dev.bbs[p]
    (s.dev.bbUp p → b.mode = 1 → b.tx = none →
      (∀ bytes : List Byte, bytes.length < 4 → b.cur = none → Answers (.modbusFrame p bytes) s fun t =>
        (t.dev.bbs[p]).frameErr = b.frameErr + 1 ∧ (t.dev.bbs[p]).entries = b.entries) ∧
      (∀ (addr : Byte) (pdu : List Byte), pdu ≠ [] → b.cur = none → Answers (.modbusFrame p (mbFrame addr pdu)) s fun t => t = s) ∧
      (∀ (e : Fin 64) (due n : Nat) (hi lo : Byte), b.cur = some (.entry e due, n) → b.curVoid = false →
        let x := b.entries[e]
        b.curX.request = x.request → 1 ≤ x.slave → x.slave ≤ 247 → 3 ≤ x.func → x.func ≤ 4 → x.format ≤ 1 →
        Answers (.modbusFrame p (mbFrame (BitVec.ofNat 8 x.slave) [BitVec.ofNat 8 x.func, 2, hi, lo])) s fun t =>
          let y := (t.dev.bbs[p]).entries[e]
          y.valid ∧ y.timeout = false ∧ y.fails = 0 ∧ y.time = s.dev.now ∧
          y.x = sat32 ((if x.format = 0 then ((hi ++ lo : BitVec 16).toNat : Int) else (hi ++ lo : BitVec 16).toInt) * 2 ^ x.lshift)) ∧
      (∀ (e : Fin 64) (due n : Nat) (code : Byte), b.cur = some (.entry e due, n) → b.curVoid = false →
        let x := b.entries[e]
        b.curX.request = x.request → 1 ≤ x.slave → x.slave ≤ 247 → 1 ≤ x.func → x.func ≤ 4 →
        Answers (.modbusFrame p (mbFrame (BitVec.ofNat 8 x.slave) [BitVec.ofNat 8 (0x80 + x.func), code])) s fun t =>
          let y := (t.dev.bbs[p]).entries[e]
          y.fails = x.fails + 1 ∧ y.exc = code ∧ y.x = x.x ∧ (x.failN ≤ x.fails + 1 → y.timeout)) ∧
      (∀ (a : Desc) (slave : Byte) (q pdu : List Byte) (n : Nat), b.cur = some (.req a slave q, n) → slave ≠ 0 → pdu ≠ [] → Calm s →
        pdu.getD 0 0 = q.getD 0 0 → Answers (.modbusFrame p (mbFrame slave pdu)) s fun t =>
          t.answered a .ok (mkRes [(8, 0, 16, pdu.length)]) ∧
          ∃ c, t.dev.done.getLast? = some c ∧ c.bulk = [(bulkAddr a, pdu)]) ∧
      (∀ (w : MbWork) (n : Nat), b.cur = some (w, n) → n < b.retries → Answers (.rspToExpiry p) s fun t =>
        (t.dev.bbs[p]).cur = some (w, n + 1) ∧ (t.dev.bbs[p]).tx.isSome ∧ t.dev.done = s.dev.done) ∧
      (∀ (a : Desc) (slave : Byte) (q : List Byte) (n : Nat), b.cur = some (.req a slave q, n) → b.retries ≤ n → Calm s →
        Answers (.rspToExpiry p) s fun t => t.answered a .timeout 0) ∧
      (∀ (e : Fin 64) (due n : Nat), b.cur = some (.entry e due, n) → b.retries ≤ n → b.curVoid = false → Answers (.rspToExpiry p) s fun t =>
        ((t.dev.bbs[p]).entries[e]).fails = (b.entries[e]).fails + 1 ∧ ((t.dev.bbs[p]).entries[e]).exc = 0xFF) ∧
      (b.cur = none → Answers (.rspToExpiry p) s fun t => t = s) ∧
      (b.work = [] → Answers (.mbTurnExpiry p) s fun t => s.becomes t (Dev.withBB s.dev p { b with turn := false })) ∧
      (∀ e : Fin 64,
        let x := b.entries[e]
        (x.en → s.dev.now ≤ x.time + 4 * x.period * 400000 → b.work = [] → b.cur = none → b.turn = false →
          Answers (.pollEntryDue p e) s fun t =>
            (t.dev.bbs[p]).cur = some (.entry e s.dev.now, 0) ∧ (t.dev.bbs[p]).entries = b.entries ∧
            (t.dev.bbs[p]).tx = some (.raw none (mbFrame (BitVec.ofNat 8 x.slave)
              [BitVec.ofNat 8 x.func, BitVec.ofNat 8 (x.reg / 256), BitVec.ofNat 8 x.reg, 0,
               if 2 ≤ x.format ∧ x.format ≤ 5 then 2 else 1]))) ∧
        (x.en = false → Answers (.pollEntryDue p e) s fun t => t = s))) ∧
    (s.dev.bbUp p → b.mode = 2 → b.tx = none → b.slaveAddr ≠ 0 →
      (∀ (addr : Byte) (pdu : List Byte), pdu ≠ [] → addr ≠ 0 → addr.toNat ≠ b.slaveAddr →
        Answers (.modbusFrame p (mbFrame addr pdu)) s fun t => t = s) ∧
      (∀ (addr f : Byte) (rest : List Byte), addr.toNat = b.slaveAddr → f ≠ 3 → f ≠ 4 → f ≠ 6 → f ≠ 16 →
        Answers (.modbusFrame p (mbFrame addr (f :: rest))) s fun t =>
          s.becomes t (Dev.withBB s.dev p { b with tx := some (.raw none (mbFrame addr [f ||| 0x80, 1])) })) ∧
      (∀ (addr ahi alo vhi vlo : Byte),
        let a := (ahi ++ alo : BitVec 16).toNat
        let pdu : List Byte := [6, ahi, alo, vhi, vlo]
        (addr.toNat = b.slaveAddr ∨ addr = 0) → b.wrLo ≤ a → a ≤ b.wrHi → (h : a < 1024) →
        Answers (.modbusFrame p (mbFrame addr pdu)) s fun t =>
          (t.dev.bbs[p]).holding[a] = vhi ++ vlo ∧ (∀ (j : Nat) (hj : j < 1024), j ≠ a → (t.dev.bbs[p]).holding[j] = b.holding[j]) ∧
          (t.dev.bbs[p]).input = b.input ∧ ((t.dev.bbs[p]).tx = if addr = 0 then none else some (.raw none (mbFrame addr pdu))) ∧
          ∃ v ∈ t.dev.raised, v.code = EV_BB_MB_WRITE ∧ v.handle = hBb p ∧ v.arg = mkWord [(0, 10, a), (16, 7, 1)]) ∧
      (∀ (addr ahi alo : Byte),
        let a := (ahi ++ alo : BitVec 16).toNat
        addr.toNat = b.slaveAddr → (h : a < 1024) → Answers (.modbusFrame p (mbFrame addr [3, ahi, alo, 0, 1])) s fun t =>
          s.becomes t (Dev.withBB s.dev p { b with
            tx := some (.raw none (mbFrame addr [3, 2, (b.holding[a]).extractLsb' 8 8, (b.holding[a]).extractLsb' 0 8])) }))) ∧
    (s.dev.bbUp p → b.mode = 3 → b.tx = none → Calm s →
      (b.posted = [] → b.chars.length < 4096 → ∀ (c : Byte) (err : Bool), Answers (.uartCharacter p c err) s fun t =>
        s.becomes t (Dev.withBB s.dev p { b with chars := b.chars ++ [(c, err)] })) ∧
      (b.posted = [] → 4096 ≤ b.chars.length → ∀ (c : Byte) (err : Bool), Answers (.uartCharacter p c err) s fun t =>
        s.becomes t (Dev.withBB s.dev p { b with rxdrop := b.rxdrop + 1, rxSeen := true })) ∧
      (∀ (a : Desc) (rest : List Desc) (c : Byte) (err : Bool), b.posted = a :: rest → b.chars.length + 1 = bulkLen a →
        Answers (.uartCharacter p c err) s fun t =>
          (t.dev.bbs[p]).posted = rest ∧ (t.dev.bbs[p]).chars = [] ∧
          t.answered a .ok (mkRes [(8, 0, 16, bulkLen a), (13, 3, 1, (b.chars.any (·.2) || err).toNat)]) ∧
          ∃ e, t.dev.done.getLast? = some e ∧ e.bulk = [(bulkAddr a, b.chars.map (·.1) ++ [c])]) ∧
      (∀ (a : Desc) (rest : List Desc), b.posted = a :: rest → b.chars ≠ [] → b.chars.length ≤ bulkLen a →
        Answers (.uartIdle p) s fun t =>
          (t.dev.bbs[p]).posted = rest ∧ (t.dev.bbs[p]).chars = [] ∧
          t.answered a .ok (mkRes [(8, 0, 16, b.chars.length), (13, 3, 1, (b.chars.any (·.2)).toNat)])) ∧
      (b.chars = [] → Answers (.uartIdle p) s fun t => t = s))

/-- The ranges of an SB_POLL_WRITE (13 R411). -/
def SbRange (d : Desc) : Prop :=
  let wlen := d.bits 10 0 3
  let rlen := d.bits 11 0 4
  let crc : Prop := d.bits 8 2 2 = 2
  d.bits 8 2 2 ≠ 3 ∧ 0x08 ≤ d.bits 9 0 7 ∧ d.bits 9 0 7 ≤ 0x77 ∧ wlen ≤ 4 ∧ rlen ≤ 8 ∧ (crc → rlen % 3 = 0) ∧ 1 ≤ wlen + rlen ∧
  1 ≤ d.bits 18 0 16 ∧ 1 ≤ d.bits 20 3 3 ∧ d.bits 20 3 3 ≤ 4 ∧
  (rlen ≠ 0 → d.bits 20 0 3 + d.bits 20 3 3 ≤ (if d.bits 8 2 2 = 2 then 2 * rlen / 3 else rlen)) ∧
  1 ≤ d.bits 22 0 6 ∧ d.bits 22 0 6 ≤ 32 ∧ d.bits 23 0 5 ≤ 16 ∧ 1 ≤ d.bits 24 0 4

/-- A RUNNING sensor-bus port with nothing to do. -/
def SbIdle (s : State) (p : Fin 8) : Prop :=
  let b := s.dev.sbs[p]
  s.dev.sbUp p ∧ b.state = 1 ∧ b.cur = none ∧ b.due = [] ∧ b.xfers = [] ∧ b.recD = []

/-- 13 R405, R406, R408 to R413: the opcodes of class 0xB.
(Rests in part on log entries 171, 174, 175, 177, 179: the model's reading or choice.) -/
def Obligations.SensorDescriptors : Prop :=
  ∀ (s : State) (d : Desc) (p : Fin 8) (e : Fin 32),
    let b := s.dev.sbs[p]
    let x := b.entries[e]
    (s.admits opSbConfig d (.sbPort p) → d.bits 8 0 2 ≠ 3 → 1 ≤ d.bits 9 0 8 →
      (b.state = 0 → Answers (.sbConfig d) s fun t =>
        t.okd d ∧ s.becomes t (Dev.withSB s.dev p { b with speed := d.bits 8 0 2, stretchT := d.bits 9 0 8 })) ∧
      (b.state ≠ 0 → Answers (.sbConfig d) s fun t => s.onlyAnswers t d .busy 0)) ∧
    (s.admits opSbConfig d (.sbPort p) → (d.bits 8 0 2 = 3 ∨ d.bits 9 0 8 = 0) →
      Answers (.sbConfig d) s fun t => s.onlyAnswers t d .range 0) ∧
    (s.admits opSbPollWrite d (.sbValue p e) → SbRange d → Answers (.sbPollWrite d) s fun t =>
      t.okd d ∧ s.onlyDev t ∧ (∀ j : Fin 32, j ≠ e → (t.dev.sbs[p]).entries[j] = b.entries[j]) ∧
      (t.dev.sbs[p]).entries[e] =
        { en := d.flag 8 0, event := d.flag 8 1, check := d.bits 8 2 2, order := d.flag 8 4, sign := d.flag 8 5, addr := d.bits 9 0 7
          wlen := d.bits 10 0 3, rlen := d.bits 11 0 4, wdata := d.word 12, wait := d.bits 16 0 16, period := d.bits 18 0 16
          ofs := d.bits 20 0 3, width := d.bits 20 3 3, rshift := d.bits 21 0 5, bits := d.bits 22 0 6, lshift := d.bits 23 0 5
          failN := d.bits 24 0 4, x := x.x, valid := false, timeout := true, cause := x.cause, time := s.dev.now }) ∧
    (s.admits opSbPollWrite d (.sbValue p e) → ¬ SbRange d → d.flag 8 0 →
      Answers (.sbPollWrite d) s fun t => s.onlyAnswers t d .range 0) ∧
    (s.admits opSbXfer d (.sbPort p) → s.dev.bulkOk d → d.bits 22 0 16 ≤ 256 → d.bits 24 0 16 ≤ 256 →
      (d.bits 22 0 16 + d.bits 24 0 16 = bulkLen d → d.bits 22 0 16 ≠ 0 → Answers (.sbXfer d) s fun t =>
        t.reading 0xB2 d ∧ t.dev.sbs = s.dev.sbs ∧ s.onlyDev t) ∧
      (d.bits 24 0 16 = bulkLen d → d.bits 22 0 16 = 0 → SbIdle s p → Answers (.sbXfer d) s fun t =>
        t.waiting 0xB2 d ∧ t.dev.done = s.dev.done ∧ (t.dev.sbs[p]).cur = some (.xfer d [], default) ∧ (t.dev.sbs[p]).lastHost) ∧
      (d.bits 24 0 16 = bulkLen d → d.bits 22 0 16 = 0 → b.state = 3 → Answers (.sbXfer d) s fun t =>
        t.answered d .timeout (mkRes [(8, 0, 8, 5)]) ∧ (t.dev.sbs[p]).fails = b.fails + 1) ∧
      (d.bits 22 0 16 + d.bits 24 0 16 ≠ bulkLen d → Answers (.sbXfer d) s fun t => s.onlyAnswers t d .range 0)) ∧
    (∀ (qs : List QDesc) (data : List Byte), s.dev.bulk = { op := 0xB2, d } :: qs → objOf d.handle = some (.sbPort p) → s.qspi = false →
      data.length = d.bits 22 0 16 → SbIdle s p → Answers (.bulkReadCompletion .ok data) s fun t =>
        t.waiting 0xB2 d ∧ t.dev.bulk = qs ∧ (t.dev.sbs[p]).cur = some (.xfer d data, default)) ∧
    (s.admits opSbCtrl d (.sbPort p) → Calm s →
      (d.bits 8 0 2 = 0 → Answers (.sbCtrl d) s fun t =>
        let c := t.dev.sbs[p]
        t.okd d ∧ c.state = 0 ∧ c.cur = none ∧ c.due = [] ∧ c.xfers = [] ∧ c.parked = [] ∧ c.entries = b.entries ∧
        (∀ a w, SbWork.xfer a w ∈ b.xfers → t.ended a .flushed) ∧ (∀ a ∈ b.recD, t.ended a .flushed)) ∧
      (d.bits 8 0 2 = 1 → b.state = 0 → b.recD = [] → Answers (.sbCtrl d) s fun t =>
        t.okd d ∧ (t.dev.sbs[p]).state = 1 ∧ (t.dev.sbs[p]).entries = b.entries) ∧
      (d.bits 8 0 2 = 1 → b.state ≠ 0 → Answers (.sbCtrl d) s fun t => s.onlyAnswers t d .ok 0) ∧
      (d.bits 8 0 2 = 2 → b.state = 1 → b.cur = none → Answers (.sbCtrl d) s fun t =>
        t.waiting 0xB3 d ∧ t.dev.done = s.dev.done ∧
        t.dev.sbs = s.dev.sbs.set p.val { b with recD := b.recD ++ [d], state := 2 }) ∧
      (d.bits 8 0 2 = 3 → Answers (.sbCtrl d) s fun t =>
        t.okd d ∧ s.becomes t (Dev.withSB s.dev p { b with fails := 0, recoveries := 0 }))) ∧
    (s.admits opSbRead d (.sbValue p e) → Answers (.sbRead d) s fun t =>
      s.onlyAnswers t d .ok (mkRes [(8, 0, 32, wrapTo 32 x.x), (12, 0, 1, x.valid.toNat),
        (12, 1, 1, (x.rlen != 0 && (x.timeout || (x.en && decide (x.time + 4 * x.period * 4000000 < s.dev.now)))).toNat),
        (12, 2, 1, (x.rlen == 0).toNat), (13, 0, 8, x.cause), (14, 0, 16, min 65535 ((s.dev.now - x.time) / 4000000))])) ∧
    (s.admits opSbStatusGet d (.sbPort p) → Answers (.sbStatusGet d) s fun t =>
      s.onlyAnswers t d .ok (mkRes [(8, 0, 32, b.status.toNat), (12, 0, 32, b.counts.toNat)]))

/-- 13 R405, R406, R408, R409, R418: transactions, values and recovery. That a wrong number of bytes is no end of a transaction, and
that a recovery's outcome comes with its command, are the model's (log entry 176). -/
def Obligations.SensorMoments : Prop :=
  (∀ (x : SbEntry) (hi lo : Byte) (rest : List Byte), x.ofs = 0 → x.width = 2 → x.rshift = 0 → x.bits = 16 → x.order = false →
    x.extract (hi :: lo :: rest) =
      sat32 ((if x.sign then (hi ++ lo : BitVec 16).toInt else ((hi ++ lo : BitVec 16).toNat : Int)) * 2 ^ x.lshift)) ∧
  ∀ (s : State) (p : Fin 8) (e : Fin 32),
    let b := s.dev.sbs[p]
    let x := b.entries[e]
    (SbIdle s p → x.en → b.parked = [] → s.dev.now ≤ x.time + 4 * x.period * 4000000 → Answers (.sbEntryDue p e) s fun t =>
      (t.dev.sbs[p]).cur = some (.entry e s.dev.now, x) ∧ (t.dev.sbs[p]).entries = b.entries ∧ (t.dev.sbs[p]).state = 1) ∧
    (x.en = false → Answers (.sbEntryDue p e) s fun t => t = s) ∧
    (∀ v, SbIdle s p → b.parked = [(e, x, v)] → Answers (.sbWaitExpiry p e) s fun t =>
      (t.dev.sbs[p]).cur = some (.readPhase e s.dev.now x v, x) ∧ (t.dev.sbs[p]).parked = []) ∧
    (b.parked = [] → Answers (.sbWaitExpiry p e) s fun t => t = s) ∧
    (∀ due : Nat, s.dev.sbUp p → b.state = 1 → b.cur = some (.entry e due, x) → b.curVoid = false →
      (∀ data : List Byte, x.wait = 0 → x.check = 0 → x.rlen ≠ 0 → data.length = x.rlen →
        Answers (.sbTransactionEnd p (.done data)) s fun t =>
          let y := (t.dev.sbs[p]).entries[e]
          y.x = x.extract data ∧ y.valid ∧ y.timeout = false ∧ y.fails = 0 ∧ y.time = s.dev.now ∧ (t.dev.sbs[p]).fails = b.fails ∧
          (x.event → x.x = x.extract data → t.dev.raised = s.dev.raised) ∧
          (x.event → x.x ≠ x.extract data → ∃ v ∈ t.dev.raised, v.code = EV_SB_VALUE ∧ v.handle = hSbVal p e ∧
            v.arg = BitVec.ofInt 32 (x.extract data))) ∧
      (∀ data : List Byte, x.wait ≠ 0 → x.wlen ≠ 0 → x.rlen ≠ 0 → Answers (.sbTransactionEnd p (.done data)) s fun t =>
        (t.dev.sbs[p]).parked = b.parked ++ [(e, x, false)] ∧ (t.dev.sbs[p]).entries = b.entries) ∧
      (∀ data : List Byte, x.wait = 0 → x.check = 2 → x.rlen ≠ 0 → data.length = x.rlen → words31 data = none →
        Answers (.sbTransactionEnd p (.done data)) s fun t =>
          ((t.dev.sbs[p]).entries[e]).cause = 3 ∧ ((t.dev.sbs[p]).entries[e]).x = x.x ∧ (t.dev.sbs[p]).fails = b.fails + 1) ∧
      (Answers (.sbTransactionEnd p .addrNack) s fun t =>
        let y := (t.dev.sbs[p]).entries[e]
        y.cause = 1 ∧ y.fails = x.fails + 1 ∧ y.x = x.x ∧ (t.dev.sbs[p]).fails = b.fails + 1 ∧
        (x.rlen ≠ 0 → x.failN ≤ x.fails + 1 → y.timeout)) ∧
      (Answers (.sbTransactionEnd p .dataNack) s fun t => ((t.dev.sbs[p]).entries[e]).cause = 2 ∧ (t.dev.sbs[p]).fails = b.fails + 1) ∧
      (Answers (.sbTransactionEnd p .bus) s fun t => ((t.dev.sbs[p]).entries[e]).cause = 6 ∧ (t.dev.sbs[p]).state = 2) ∧
      (b.due = [] → Answers (.stretchTExpiry p true) s fun t =>
        ((t.dev.sbs[p]).entries[e]).cause = 4 ∧ (t.dev.sbs[p]).stretchSeen ∧ (t.dev.sbs[p]).recoveries = b.recoveries + 1 ∧
        (t.dev.sbs[p]).state = 1) ∧
      (b.due = [] → Answers (.stretchTExpiry p false) s fun t =>
        ((t.dev.sbs[p]).entries[e]).cause = 4 ∧ (t.dev.sbs[p]).stretchSeen ∧ (t.dev.sbs[p]).stuckSeen ∧ (t.dev.sbs[p]).state = 3)) ∧
    (∀ (a : Desc) (w r : List Byte) (y : SbEntry), s.dev.sbUp p → b.cur = some (.xfer a w, y) → Calm s →
      (a.flag 21 0 = false → r.length = a.bits 24 0 16 → r ≠ [] → Answers (.sbTransactionEnd p (.done r)) s fun t =>
        ∃ c, t.dev.done.getLast? = some c ∧ c.tag = a.tag ∧ c.handle = a.handle ∧ c.status = .ok ∧ c.result = 0 ∧
          c.bulk = [(bulkAddr a + w.length, r)]) ∧
      (Answers (.sbTransactionEnd p .addrNack) s fun t => t.answered a .peerError (mkRes [(8, 0, 8, 1)])) ∧
      (Answers (.sbTransactionEnd p .dataNack) s fun t => t.answered a .peerError (mkRes [(8, 0, 8, 2)])) ∧
      (Answers (.sbTransactionEnd p .bus) s fun t => t.answered a .peerError (mkRes [(8, 0, 8, 6)]))) ∧
    (b.cur = none → ∀ r : SbEnd, Answers (.sbTransactionEnd p r) s fun t => t = s) ∧
    ((b.state = 0 ∨ b.state = 3) → ∀ g, Answers (.stretchTExpiry p g) s fun t => t = s) ∧
    (s.dev.sbUp p → Calm s →
      (Answers (.sbRecoveryTimer p true) s fun t =>
        (t.dev.sbs[p]).state = 1 ∧ (t.dev.sbs[p]).recD = [] ∧ (t.dev.sbs[p]).recoveries = b.recoveries + 1 ∧ ∀ a ∈ b.recD, t.ended a .ok) ∧
      (Answers (.sbRecoveryTimer p false) s fun t =>
        (t.dev.sbs[p]).state = 3 ∧ (t.dev.sbs[p]).cur = none ∧ (t.dev.sbs[p]).due = [] ∧ (t.dev.sbs[p]).xfers = [] ∧
        (t.dev.sbs[p]).recoveries = b.recoveries + 1 ∧ (∀ a ∈ b.recD, t.ended a .timeout) ∧
        (∀ a w, SbWork.xfer a w ∈ b.xfers → t.ended a .timeout) ∧
        (b.state ≠ 3 → s.dev.handling (hSb p) = false →
          ∃ r ∈ t.dev.log.errs, r.source = hSb p ∧ r.cls = .fault ∧ r.code = LG_SB_STUCK))) ∧
    (b.state = 0 → ∀ g, Answers (.sbRecoveryTimer p g) s fun t => t = s)
end

