-- ==== Sys2Proof/Laws/Memory.lean ====
section
/-! SUPPORT. Laws of vectors and of the byte memories: a read after a write, and that every write keeps the canonical form. -/

namespace Sys2Proof.Machine

/-! ## Vectors -/

/-- The entry changed. -/
@[simp] theorem vmod_self {α : Type} {n : Nat} (v : Vector α n) (i : Fin n) (f : α → α) : (vmod v i f)[i.val] = f v[i.val] := by
  simp [vmod]

/-- The other entries stay. -/
theorem vmod_other {α : Type} {n : Nat} (v : Vector α n) (i j : Fin n) (f : α → α) (h : j ≠ i) : (vmod v i f)[j.val] = v[j.val] := by
  simp [vmod, Fin.val_ne_of_ne (Ne.symm h)]

/-! ## One byte -/

/-- Every address listed after a write is the one written or was listed before. -/
theorem mem_memWrite {m : Memory} {a : Nat} {b : Byte} {c : Host.Cell} (h : c ∈ memWrite m a b) : c ∈ m ∨ (c = (a, b) ∧ b ≠ 0) := by
  induction m with
  | nil =>
    simp only [memWrite] at h
    split at h
    · cases h
    · exact .inr ⟨List.mem_singleton.1 h, ‹_›⟩
  | cons x m ih =>
    simp only [memWrite] at h
    split at h
    · split at h
      · exact .inl h
      · rcases List.mem_cons.1 h with h | h
        · exact .inr ⟨h, ‹_›⟩
        · exact .inl h
    · split at h
      · split at h
        · exact .inl (List.mem_cons_of_mem _ h)
        · rcases List.mem_cons.1 h with h | h
          · exact .inr ⟨h, ‹_›⟩
          · exact .inl (List.mem_cons_of_mem _ h)
      · rcases List.mem_cons.1 h with h | h
        · exact .inl (h ▸ List.mem_cons_self ..)
        · exact (ih h).imp_left (List.mem_cons_of_mem _)

/-- A write keeps the canonical form. -/
theorem memWrite_wf {m : Memory} (a : Nat) (b : Byte) (h : Memory.wf m) : Memory.wf (memWrite m a b) := by
  refine ⟨?_, fun c hc => ?_⟩
  · induction m with
    | nil => simp only [memWrite]; split <;> simp
    | cons x m ih =>
      obtain ⟨hp, hz⟩ := h
      have hp' := List.pairwise_cons.1 hp
      simp only [memWrite]
      split
      · split
        · exact hp
        · refine List.pairwise_cons.2 ⟨fun y hy => ?_, hp⟩
          rcases List.mem_cons.1 hy with rfl | hy
          · assumption
          · exact Nat.lt_trans ‹_› (hp'.1 y hy)
      · split
        · split
          · exact hp'.2
          · refine List.pairwise_cons.2 ⟨fun y hy => ?_, hp'.2⟩
            have := hp'.1 y hy
            simp_all
        · refine List.pairwise_cons.2 ⟨fun y hy => ?_, ih ⟨hp'.2, fun c hc => hz c (List.mem_cons_of_mem _ hc)⟩⟩
          rcases mem_memWrite hy with hy | ⟨rfl, -⟩
          · exact hp'.1 y hy
          · simp only; omega
  · rcases mem_memWrite hc with hc | ⟨rfl, hb⟩
    · exact h.2 c hc
    · exact hb

/-- An address below every listed one reads 0. -/
theorem memRead_below {m : Memory} {a : Nat} (h : ∀ c ∈ m, a < c.1) : memRead m a = 0 := by
  induction m with
  | nil => rfl
  | cons x m ih =>
    have hx := h x (List.mem_cons_self ..)
    simp [memRead, Nat.ne_of_gt hx, ih fun c hc => h c (List.mem_cons_of_mem _ hc)]

/-- The byte written reads back. -/
theorem memRead_memWrite_self {m : Memory} (a : Nat) (b : Byte) (h : Memory.wf m) : memRead (memWrite m a b) a = b := by
  induction m with
  | nil => simp only [memWrite]; split <;> simp_all [memRead]
  | cons x m ih =>
    obtain ⟨hp, hz⟩ := h
    have hp' := List.pairwise_cons.1 hp
    simp only [memWrite]
    split
    · split
      · rename_i hlt hb
        have : memRead (x :: m) a = 0 := memRead_below fun c hc => by
          rcases List.mem_cons.1 hc with rfl | hc
          · exact hlt
          · exact Nat.lt_trans hlt (hp'.1 c hc)
        simp [this, hb]
      · simp [memRead]
    · split
      · split
        · rename_i heq hb
          have : memRead m a = 0 := memRead_below fun c hc => heq ▸ hp'.1 c hc
          simp [this, hb]
        · simp [memRead]
      · rename_i hne
        simp only [memRead, if_neg (Ne.symm hne)]
        exact ih ⟨hp'.2, fun c hc => hz c (List.mem_cons_of_mem _ hc)⟩

/-- Every other byte reads as before. -/
theorem memRead_memWrite_other {m : Memory} {a c : Nat} (b : Byte) (h : c ≠ a) (hw : Memory.wf m) :
    memRead (memWrite m a b) c = memRead m c := by
  induction m with
  | nil => simp only [memWrite]; split <;> simp [memRead, Ne.symm h]
  | cons x m ih =>
    obtain ⟨hp, hz⟩ := hw
    have hp' := List.pairwise_cons.1 hp
    have ih := ih ⟨hp'.2, fun c hc => hz c (List.mem_cons_of_mem _ hc)⟩
    simp only [memWrite]
    split
    · split <;> simp [memRead, Ne.symm h]
    · split
      · rename_i heq
        have hx : x.1 ≠ c := fun e => h (e ▸ heq.symm)
        split <;> simp [memRead, Ne.symm h, hx]
      · simp only [memRead, ih]

/-! ## Runs of bytes -/

/-- Writing a run keeps the canonical form. -/
theorem memWriteBytes_wf {m : Memory} (a : Nat) (bs : List Byte) (h : Memory.wf m) : Memory.wf (memWriteBytes m a bs) := by
  induction bs generalizing m a with
  | nil => exact h
  | cons b bs ih => exact ih (a + 1) (memWrite_wf a b h)

/-- A byte outside the run reads as before. -/
theorem memRead_memWriteBytes_other {m : Memory} {a c : Nat} (bs : List Byte) (h : c < a ∨ a + bs.length ≤ c) (hw : Memory.wf m) :
    memRead (memWriteBytes m a bs) c = memRead m c := by
  induction bs generalizing m a with
  | nil => rfl
  | cons b bs ih =>
    simp only [List.length_cons] at h
    rw [memWriteBytes, ih (by omega) (memWrite_wf a b hw), memRead_memWrite_other b (by omega) hw]

/-- A run read back is the run written. -/
theorem memReadBytes_memWriteBytes {m : Memory} (a : Nat) (bs : List Byte) (h : Memory.wf m) :
    memReadBytes (memWriteBytes m a bs) a bs.length = bs := by
  induction bs generalizing m a with
  | nil => rfl
  | cons b bs ih =>
    have hw := memWrite_wf a b h
    simp only [List.length_cons, memReadBytes, memWriteBytes]
    rw [ih (a + 1) hw, memRead_memWriteBytes_other bs (by omega) hw, memRead_memWrite_self a b h]

/-- The memories of the state after reset are in canonical form. -/
theorem reset_memory_wf : Memory.wf State.reset.mem.host ∧ Memory.wf State.reset.mem.win := by
  simp [State.reset, Memory.wf]

end Sys2Proof.Machine
end

