-- ==== Sys2Proof/Laws/Nv.lean ====
section
/-! SUPPORT. What the NV store's headers hold: the banks and slots that the device writes are valid (18 R501, R502). -/

namespace Sys2Proof.Machine

theorem bytesLE_length (n x : Nat) : (bytesLE n x).length = n := by
  induction n generalizing x with
  | zero => rfl
  | succ n ih => simp [bytesLE, ih]

/-- A field reads back as it was laid down. -/
theorem ofBytesLE_bytesLE (n x : Nat) : ofBytesLE (bytesLE n x) = x % 256 ^ n := by
  induction n generalizing x with
  | zero => simp [bytesLE, ofBytesLE, Nat.mod_one]
  | succ n ih =>
    have h : 256 ^ (n + 1) = 256 * 256 ^ n := by rw [Nat.pow_succ, Nat.mul_comm]
    simp [bytesLE, ofBytesLE, ih, h, Nat.mod_mul]

/-- A field of bytes that follow `pre`. -/
theorem leAt_append {pre : List Byte} {n off : Nat} (x : Nat) (rest : List Byte) (h : pre.length = off) :
    leAt (pre ++ (bytesLE n x ++ rest)) off n = x % 256 ^ n := by
  subst h
  simp [leAt, bytesLE_length, ofBytesLE_bytesLE]

/-- The first field of bytes. -/
theorem leAt_first (n x : Nat) (rest : List Byte) : leAt (bytesLE n x ++ rest) 0 n = x % 256 ^ n :=
  leAt_append (pre := []) x rest rfl

/-- What makes a bank valid, by its fields (18 R501, R502). -/
theorem Bank.valid_eq (b : Bank) :
    b.valid = (b.magic == bankMagic && b.lenOk && b.crc == crc32 (b.head ++ b.image.take b.len.toNat)) := by
  have hh : b.head.length = 16 := by simp [Bank.head, bytesLE_length]
  have magic : leAt b.bytes 0 4 = b.magic.toNat := by
    simp only [Bank.bytes, Bank.head, List.append_assoc]
    rw [leAt_first]; omega
  have len : leAt b.bytes 8 4 = b.len.toNat := by
    simp only [Bank.bytes, Bank.head, List.append_assoc]
    rw [← List.append_assoc, leAt_append _ _ (by simp [bytesLE_length])]
    omega
  have crc : leAt b.bytes 16 4 = b.crc.toNat := by
    simp only [Bank.bytes, List.append_assoc]
    rw [leAt_append _ _ hh]
    omega
  have body : b.bytes.drop 64 = b.image := by
    have : b.bytes = (b.head ++ bytesLE 4 b.crc.toNat ++ List.replicate 44 0) ++ b.image := rfl
    rw [this, List.drop_append_of_le_length (by simp [hh, bytesLE_length]), List.drop_eq_nil_of_le (by simp [hh, bytesLE_length])]
    simp
  have head : b.bytes.take 16 = b.head := by
    simp only [Bank.bytes, List.append_assoc]
    rw [List.take_append_of_le_length (by omega), List.take_of_length_le (by omega)]
  have eqNat (x y : Word) : (x.toNat == y.toNat) = (x == y) := by
    rw [Bool.eq_iff_iff]; simp [BitVec.toNat_inj]
  have hm : (b.magic.toNat == 1111709274) = (b.magic == bankMagic) := eqNat b.magic bankMagic
  simp only [Bank.valid, bankBytesOk, magic, len, crc, body, head, Bank.lenOk, eqNat, hm]

/-- A bank that a commit has written is valid (18 R501 to R503). -/
theorem Bank.written_valid (seq c : Word) (image : List Byte) (h : 16 ≤ image.length) (h' : image.length ≤ 65472) :
    (Bank.written seq c image).valid = true := by
  have n : image.length % 4294967296 = image.length := by omega
  simp [Bank.valid_eq, Bank.written, Bank.lenOk, Bank.head, n, h, h']

/-- A bank whose commit does not read back is not valid (18 R504). -/
theorem Bank.flawed_not_valid (seq c : Word) (image : List Byte) (x : BitVec 96) : (Bank.flawed seq c image x).valid = false := by
  unfold Bank.flawed
  dsimp only
  split
  · simp [Bank.valid_eq]
  · rename_i h
    simpa using h

/-- A bank whose header is erased is not valid (18 R503). -/
theorem Bank.erased_not_valid (b : Bank) : ({ b with magic := 0 } : Bank).valid = false := by simp [Bank.valid_eq]

/-- A firmware slot whose header LAST has written is valid (18 R501, R502, R510). -/
theorem FwSlot.written_valid (x : FwSlot) (seq len : Word) (h : 256 ≤ len.toNat) (h' : len.toNat ≤ 163840) :
    (x.written seq len).valid = true := by
  let y := x.written seq len
  show y.valid = true
  have ym : y.magic = slotMagic := rfl
  have yl : y.len = len := rfl
  have yc : y.crc = crc32 (y.head ++ y.body) := rfl
  have hh : y.head.length = 12 := by simp [FwSlot.head, bytesLE_length]
  have hb : y.body.length = len.toNat - 16 := by simp [FwSlot.body, partBytes, yl]
  have magic : leAt y.bytes 0 4 = 0x5746565A := by
    simp only [FwSlot.bytes, FwSlot.head, List.append_assoc]
    rw [leAt_first, ym]; rfl
  have ln : leAt y.bytes 8 4 = len.toNat := by
    simp only [FwSlot.bytes, FwSlot.head, List.append_assoc]
    rw [← List.append_assoc, leAt_append _ _ (by simp [bytesLE_length]), yl]
    omega
  have crc : leAt y.bytes 12 4 = y.crc.toNat := by
    simp only [FwSlot.bytes, List.append_assoc]
    rw [leAt_append _ _ hh]
    omega
  have rest : (y.bytes.take len.toNat).drop 16 = y.body := by
    rw [List.take_of_length_le (by simp [FwSlot.bytes, hh, hb, bytesLE_length]; omega)]
    simp [FwSlot.bytes, hh, bytesLE_length, List.drop_append]
  have head : y.bytes.take 12 = y.head := by
    simp only [FwSlot.bytes, List.append_assoc]
    rw [List.take_append_of_le_length (by omega), List.take_of_length_le (by omega)]
  simp [FwSlot.valid, slotBytesOk, magic, ln, crc, rest, head, yc, h, h']

/-- An entry that a VALE_KEY_SET writes reads right (18 R512). -/
theorem keyEntry_good (uid : DWord) (key : Option (BitVec 128)) : (keyEntry uid key).good = true := by
  simp [keyEntry, KeyEntry.good, KeyEntry.head]

/-- An entry within its write fails its CRC (18 R503, R512). -/
theorem torn_not_good (uid : DWord) (key : Option (BitVec 128)) :
    ({ keyEntry uid key with crc := ~~~ (keyEntry uid key).crc } : KeyEntry).good = false := by
  have h (x : Word) : (~~~ x == x) = false := by
    rw [beq_eq_false_iff_ne]; intro e
    have := congrArg (fun y : Word => y.getLsbD 0) e
    simp at this
  simp only [keyEntry, KeyEntry.good, KeyEntry.head]
  exact h _

end Sys2Proof.Machine
end

