-- ==== Sys2Proof/Laws/State.lean ====
section
/-! SUPPORT. Small laws of the state: what an update of one part leaves of the others, one law for each update and field. -/

namespace Sys2Proof.Machine

/-! ## The parts of the state -/

@[simp] theorem State.onDev_pending (s : State) (f : Dev → Dev) : (s.onDev f).pending = s.pending := rfl
@[simp] theorem State.onDev_dev (s : State) (f : Dev → Dev) : (s.onDev f).dev = f s.dev := rfl
@[simp] theorem State.onDev_ring (s : State) (f : Dev → Dev) : (s.onDev f).ring = s.ring := rfl
@[simp] theorem State.onDev_mem (s : State) (f : Dev → Dev) : (s.onDev f).mem = s.mem := rfl
@[simp] theorem State.onRing_pending (s : State) (f : Rings → Rings) : (s.onRing f).pending = s.pending := rfl
@[simp] theorem State.onRing_dev (s : State) (f : Rings → Rings) : (s.onRing f).dev = s.dev := rfl
@[simp] theorem State.onRing_ring (s : State) (f : Rings → Rings) : (s.onRing f).ring = f s.ring := rfl
@[simp] theorem State.onRing_mem (s : State) (f : Rings → Rings) : (s.onRing f).mem = s.mem := rfl
@[simp] theorem State.onSq_pending (s : State) (n : Fin 16) (f : Sq → Sq) : (s.onSq n f).pending = s.pending := rfl
@[simp] theorem State.onSq_dev (s : State) (n : Fin 16) (f : Sq → Sq) : (s.onSq n f).dev = s.dev := rfl
@[simp] theorem State.onSq_mem (s : State) (n : Fin 16) (f : Sq → Sq) : (s.onSq n f).mem = s.mem := rfl
@[simp] theorem State.onCq_pending (s : State) (n : Fin 16) (f : Cq → Cq) : (s.onCq n f).pending = s.pending := rfl
@[simp] theorem State.onCq_dev (s : State) (n : Fin 16) (f : Cq → Cq) : (s.onCq n f).dev = s.dev := rfl
@[simp] theorem State.onCq_mem (s : State) (n : Fin 16) (f : Cq → Cq) : (s.onCq n f).mem = s.mem := rfl
@[simp] theorem State.onIrqRing_pending (s : State) (i : IrqRing) (f : Ring → Ring) : (s.onIrqRing i f).pending = s.pending := rfl
@[simp] theorem State.onIrqRing_dev (s : State) (i : IrqRing) (f : Ring → Ring) : (s.onIrqRing i f).dev = s.dev := rfl
@[simp] theorem State.onIrqRing_mem (s : State) (i : IrqRing) (f : Ring → Ring) : (s.onIrqRing i f).mem = s.mem := rfl
@[simp] theorem State.onRegs_pending (s : State) (f : Regs → Regs) : (s.onRegs f).pending = s.pending := rfl
@[simp] theorem State.onRegs_ring (s : State) (f : Regs → Regs) : (s.onRegs f).ring = s.ring := rfl
@[simp] theorem State.onRegs_mem (s : State) (f : Regs → Regs) : (s.onRegs f).mem = s.mem := rfl
@[simp] theorem State.desc_pending (s : State) (i : OpInfo) (d : Desc) (body : Obj → Dev → Dev × Res) :
    (s.desc i d body).pending = s.pending := rfl
@[simp] theorem State.desc_dev (s : State) (i : OpInfo) (d : Desc) (body : Obj → Dev → Dev × Res) :
    (s.desc i d body).dev = s.dev.runDesc i d body := rfl
@[simp] theorem State.desc_ring (s : State) (i : OpInfo) (d : Desc) (body : Obj → Dev → Dev × Res) : (s.desc i d body).ring = s.ring := rfl
@[simp] theorem State.desc_mem (s : State) (i : OpInfo) (d : Desc) (body : Obj → Dev → Dev × Res) : (s.desc i d body).mem = s.mem := rfl

/-! ## The parts of the device -/

@[simp] theorem Dev.onTb_now (s : Dev) (f : Tb → Tb) : (s.onTb f).now = s.now := rfl
@[simp] theorem Dev.onTb_fresh (s : Dev) (f : Tb → Tb) : (s.onTb f).fresh = s.fresh := rfl
@[simp] theorem Dev.onTb_fq (s : Dev) (f : Tb → Tb) : (s.onTb f).fq = s.fq := rfl
@[simp] theorem Dev.onTb_waits (s : Dev) (f : Tb → Tb) : (s.onTb f).waits = s.waits := rfl
@[simp] theorem Dev.onTb_bulk (s : Dev) (f : Tb → Tb) : (s.onTb f).bulk = s.bulk := rfl
@[simp] theorem Dev.onTb_done (s : Dev) (f : Tb → Tb) : (s.onTb f).done = s.done := rfl
@[simp] theorem Dev.onTb_raised (s : Dev) (f : Tb → Tb) : (s.onTb f).raised = s.raised := rfl
@[simp] theorem Dev.onTb_loading (s : Dev) (f : Tb → Tb) : (s.onTb f).loading = s.loading := rfl
@[simp] theorem Dev.onTb_tb (s : Dev) (f : Tb → Tb) : (s.onTb f).tb = f s.tb := rfl
@[simp] theorem Dev.onTb_convs (s : Dev) (f : Tb → Tb) : (s.onTb f).convs = s.convs := rfl
@[simp] theorem Dev.onTb_loops (s : Dev) (f : Tb → Tb) : (s.onTb f).loops = s.loops := rfl
@[simp] theorem Dev.onTb_trigs (s : Dev) (f : Tb → Tb) : (s.onTb f).trigs = s.trigs := rfl
@[simp] theorem Dev.onTb_lePeak (s : Dev) (f : Tb → Tb) : (s.onTb f).lePeak = s.lePeak := rfl
@[simp] theorem Dev.onTb_zones (s : Dev) (f : Tb → Tb) : (s.onTb f).zones = s.zones := rfl
@[simp] theorem Dev.onTb_dates (s : Dev) (f : Tb → Tb) : (s.onTb f).dates = s.dates := rfl
@[simp] theorem Dev.onTb_pwms (s : Dev) (f : Tb → Tb) : (s.onTb f).pwms = s.pwms := rfl
@[simp] theorem Dev.onTb_trips (s : Dev) (f : Tb → Tb) : (s.onTb f).trips = s.trips := rfl
@[simp] theorem Dev.onTb_valves (s : Dev) (f : Tb → Tb) : (s.onTb f).valves = s.valves := rfl
@[simp] theorem Dev.onTb_pairs (s : Dev) (f : Tb → Tb) : (s.onTb f).pairs = s.pairs := rfl
@[simp] theorem Dev.onTb_vboost (s : Dev) (f : Tb → Tb) : (s.onTb f).vboost = s.vboost := rfl
@[simp] theorem Dev.onTb_vboostAt (s : Dev) (f : Tb → Tb) : (s.onTb f).vboostAt = s.vboostAt := rfl
@[simp] theorem Dev.onTb_fans (s : Dev) (f : Tb → Tb) : (s.onTb f).fans = s.fans := rfl
@[simp] theorem Dev.onTb_dampers (s : Dev) (f : Tb → Tb) : (s.onTb f).dampers = s.dampers := rfl
@[simp] theorem Dev.onTb_panel (s : Dev) (f : Tb → Tb) : (s.onTb f).panel = s.panel := rfl
@[simp] theorem Dev.onTb_vports (s : Dev) (f : Tb → Tb) : (s.onTb f).vports = s.vports := rfl
@[simp] theorem Dev.onTb_bbs (s : Dev) (f : Tb → Tb) : (s.onTb f).bbs = s.bbs := rfl
@[simp] theorem Dev.onTb_sbs (s : Dev) (f : Tb → Tb) : (s.onTb f).sbs = s.sbs := rfl
@[simp] theorem Dev.onTb_hollow (s : Dev) (f : Tb → Tb) : (s.onTb f).hollow = s.hollow := rfl
@[simp] theorem Dev.onTb_power (s : Dev) (f : Tb → Tb) : (s.onTb f).power = s.power := rfl
@[simp] theorem Dev.onTb_log (s : Dev) (f : Tb → Tb) : (s.onTb f).log = s.log := rfl
@[simp] theorem Dev.onTb_nv (s : Dev) (f : Tb → Tb) : (s.onTb f).nv = s.nv := rfl
@[simp] theorem Dev.onTb_regs (s : Dev) (f : Tb → Tb) : (s.onTb f).regs = s.regs := rfl
@[simp] theorem Dev.onConv_now (s : Dev) (c : Fin 3) (f : Conv → Conv) : (s.onConv c f).now = s.now := rfl
@[simp] theorem Dev.onConv_fresh (s : Dev) (c : Fin 3) (f : Conv → Conv) : (s.onConv c f).fresh = s.fresh := rfl
@[simp] theorem Dev.onConv_fq (s : Dev) (c : Fin 3) (f : Conv → Conv) : (s.onConv c f).fq = s.fq := rfl
@[simp] theorem Dev.onConv_waits (s : Dev) (c : Fin 3) (f : Conv → Conv) : (s.onConv c f).waits = s.waits := rfl
@[simp] theorem Dev.onConv_bulk (s : Dev) (c : Fin 3) (f : Conv → Conv) : (s.onConv c f).bulk = s.bulk := rfl
@[simp] theorem Dev.onConv_done (s : Dev) (c : Fin 3) (f : Conv → Conv) : (s.onConv c f).done = s.done := rfl
@[simp] theorem Dev.onConv_raised (s : Dev) (c : Fin 3) (f : Conv → Conv) : (s.onConv c f).raised = s.raised := rfl
@[simp] theorem Dev.onConv_loading (s : Dev) (c : Fin 3) (f : Conv → Conv) : (s.onConv c f).loading = s.loading := rfl
@[simp] theorem Dev.onConv_tb (s : Dev) (c : Fin 3) (f : Conv → Conv) : (s.onConv c f).tb = s.tb := rfl
@[simp] theorem Dev.onConv_convs (s : Dev) (c : Fin 3) (f : Conv → Conv) : (s.onConv c f).convs = vmod s.convs c f := rfl
@[simp] theorem Dev.onConv_loops (s : Dev) (c : Fin 3) (f : Conv → Conv) : (s.onConv c f).loops = s.loops := rfl
@[simp] theorem Dev.onConv_trigs (s : Dev) (c : Fin 3) (f : Conv → Conv) : (s.onConv c f).trigs = s.trigs := rfl
@[simp] theorem Dev.onConv_lePeak (s : Dev) (c : Fin 3) (f : Conv → Conv) : (s.onConv c f).lePeak = s.lePeak := rfl
@[simp] theorem Dev.onConv_zones (s : Dev) (c : Fin 3) (f : Conv → Conv) : (s.onConv c f).zones = s.zones := rfl
@[simp] theorem Dev.onConv_dates (s : Dev) (c : Fin 3) (f : Conv → Conv) : (s.onConv c f).dates = s.dates := rfl
@[simp] theorem Dev.onConv_pwms (s : Dev) (c : Fin 3) (f : Conv → Conv) : (s.onConv c f).pwms = s.pwms := rfl
@[simp] theorem Dev.onConv_trips (s : Dev) (c : Fin 3) (f : Conv → Conv) : (s.onConv c f).trips = s.trips := rfl
@[simp] theorem Dev.onConv_valves (s : Dev) (c : Fin 3) (f : Conv → Conv) : (s.onConv c f).valves = s.valves := rfl
@[simp] theorem Dev.onConv_pairs (s : Dev) (c : Fin 3) (f : Conv → Conv) : (s.onConv c f).pairs = s.pairs := rfl
@[simp] theorem Dev.onConv_vboost (s : Dev) (c : Fin 3) (f : Conv → Conv) : (s.onConv c f).vboost = s.vboost := rfl
@[simp] theorem Dev.onConv_vboostAt (s : Dev) (c : Fin 3) (f : Conv → Conv) : (s.onConv c f).vboostAt = s.vboostAt := rfl
@[simp] theorem Dev.onConv_fans (s : Dev) (c : Fin 3) (f : Conv → Conv) : (s.onConv c f).fans = s.fans := rfl
@[simp] theorem Dev.onConv_dampers (s : Dev) (c : Fin 3) (f : Conv → Conv) : (s.onConv c f).dampers = s.dampers := rfl
@[simp] theorem Dev.onConv_panel (s : Dev) (c : Fin 3) (f : Conv → Conv) : (s.onConv c f).panel = s.panel := rfl
@[simp] theorem Dev.onConv_vports (s : Dev) (c : Fin 3) (f : Conv → Conv) : (s.onConv c f).vports = s.vports := rfl
@[simp] theorem Dev.onConv_bbs (s : Dev) (c : Fin 3) (f : Conv → Conv) : (s.onConv c f).bbs = s.bbs := rfl
@[simp] theorem Dev.onConv_sbs (s : Dev) (c : Fin 3) (f : Conv → Conv) : (s.onConv c f).sbs = s.sbs := rfl
@[simp] theorem Dev.onConv_hollow (s : Dev) (c : Fin 3) (f : Conv → Conv) : (s.onConv c f).hollow = s.hollow := rfl
@[simp] theorem Dev.onConv_power (s : Dev) (c : Fin 3) (f : Conv → Conv) : (s.onConv c f).power = s.power := rfl
@[simp] theorem Dev.onConv_log (s : Dev) (c : Fin 3) (f : Conv → Conv) : (s.onConv c f).log = s.log := rfl
@[simp] theorem Dev.onConv_nv (s : Dev) (c : Fin 3) (f : Conv → Conv) : (s.onConv c f).nv = s.nv := rfl
@[simp] theorem Dev.onConv_regs (s : Dev) (c : Fin 3) (f : Conv → Conv) : (s.onConv c f).regs = s.regs := rfl
@[simp] theorem Dev.onLoop_now (s : Dev) (n : Fin 144) (f : Loop → Loop) : (s.onLoop n f).now = s.now := rfl
@[simp] theorem Dev.onLoop_fresh (s : Dev) (n : Fin 144) (f : Loop → Loop) : (s.onLoop n f).fresh = s.fresh := rfl
@[simp] theorem Dev.onLoop_fq (s : Dev) (n : Fin 144) (f : Loop → Loop) : (s.onLoop n f).fq = s.fq := rfl
@[simp] theorem Dev.onLoop_waits (s : Dev) (n : Fin 144) (f : Loop → Loop) : (s.onLoop n f).waits = s.waits := rfl
@[simp] theorem Dev.onLoop_bulk (s : Dev) (n : Fin 144) (f : Loop → Loop) : (s.onLoop n f).bulk = s.bulk := rfl
@[simp] theorem Dev.onLoop_done (s : Dev) (n : Fin 144) (f : Loop → Loop) : (s.onLoop n f).done = s.done := rfl
@[simp] theorem Dev.onLoop_raised (s : Dev) (n : Fin 144) (f : Loop → Loop) : (s.onLoop n f).raised = s.raised := rfl
@[simp] theorem Dev.onLoop_loading (s : Dev) (n : Fin 144) (f : Loop → Loop) : (s.onLoop n f).loading = s.loading := rfl
@[simp] theorem Dev.onLoop_tb (s : Dev) (n : Fin 144) (f : Loop → Loop) : (s.onLoop n f).tb = s.tb := rfl
@[simp] theorem Dev.onLoop_convs (s : Dev) (n : Fin 144) (f : Loop → Loop) : (s.onLoop n f).convs = s.convs := rfl
@[simp] theorem Dev.onLoop_loops (s : Dev) (n : Fin 144) (f : Loop → Loop) : (s.onLoop n f).loops = vmod s.loops n f := rfl
@[simp] theorem Dev.onLoop_trigs (s : Dev) (n : Fin 144) (f : Loop → Loop) : (s.onLoop n f).trigs = s.trigs := rfl
@[simp] theorem Dev.onLoop_lePeak (s : Dev) (n : Fin 144) (f : Loop → Loop) : (s.onLoop n f).lePeak = s.lePeak := rfl
@[simp] theorem Dev.onLoop_zones (s : Dev) (n : Fin 144) (f : Loop → Loop) : (s.onLoop n f).zones = s.zones := rfl
@[simp] theorem Dev.onLoop_dates (s : Dev) (n : Fin 144) (f : Loop → Loop) : (s.onLoop n f).dates = s.dates := rfl
@[simp] theorem Dev.onLoop_pwms (s : Dev) (n : Fin 144) (f : Loop → Loop) : (s.onLoop n f).pwms = s.pwms := rfl
@[simp] theorem Dev.onLoop_trips (s : Dev) (n : Fin 144) (f : Loop → Loop) : (s.onLoop n f).trips = s.trips := rfl
@[simp] theorem Dev.onLoop_valves (s : Dev) (n : Fin 144) (f : Loop → Loop) : (s.onLoop n f).valves = s.valves := rfl
@[simp] theorem Dev.onLoop_pairs (s : Dev) (n : Fin 144) (f : Loop → Loop) : (s.onLoop n f).pairs = s.pairs := rfl
@[simp] theorem Dev.onLoop_vboost (s : Dev) (n : Fin 144) (f : Loop → Loop) : (s.onLoop n f).vboost = s.vboost := rfl
@[simp] theorem Dev.onLoop_vboostAt (s : Dev) (n : Fin 144) (f : Loop → Loop) : (s.onLoop n f).vboostAt = s.vboostAt := rfl
@[simp] theorem Dev.onLoop_fans (s : Dev) (n : Fin 144) (f : Loop → Loop) : (s.onLoop n f).fans = s.fans := rfl
@[simp] theorem Dev.onLoop_dampers (s : Dev) (n : Fin 144) (f : Loop → Loop) : (s.onLoop n f).dampers = s.dampers := rfl
@[simp] theorem Dev.onLoop_panel (s : Dev) (n : Fin 144) (f : Loop → Loop) : (s.onLoop n f).panel = s.panel := rfl
@[simp] theorem Dev.onLoop_vports (s : Dev) (n : Fin 144) (f : Loop → Loop) : (s.onLoop n f).vports = s.vports := rfl
@[simp] theorem Dev.onLoop_bbs (s : Dev) (n : Fin 144) (f : Loop → Loop) : (s.onLoop n f).bbs = s.bbs := rfl
@[simp] theorem Dev.onLoop_sbs (s : Dev) (n : Fin 144) (f : Loop → Loop) : (s.onLoop n f).sbs = s.sbs := rfl
@[simp] theorem Dev.onLoop_hollow (s : Dev) (n : Fin 144) (f : Loop → Loop) : (s.onLoop n f).hollow = s.hollow := rfl
@[simp] theorem Dev.onLoop_power (s : Dev) (n : Fin 144) (f : Loop → Loop) : (s.onLoop n f).power = s.power := rfl
@[simp] theorem Dev.onLoop_log (s : Dev) (n : Fin 144) (f : Loop → Loop) : (s.onLoop n f).log = s.log := rfl
@[simp] theorem Dev.onLoop_nv (s : Dev) (n : Fin 144) (f : Loop → Loop) : (s.onLoop n f).nv = s.nv := rfl
@[simp] theorem Dev.onLoop_regs (s : Dev) (n : Fin 144) (f : Loop → Loop) : (s.onLoop n f).regs = s.regs := rfl
@[simp] theorem Dev.onZone_now (s : Dev) (z : Fin 16) (f : Zone → Zone) : (s.onZone z f).now = s.now := rfl
@[simp] theorem Dev.onZone_fresh (s : Dev) (z : Fin 16) (f : Zone → Zone) : (s.onZone z f).fresh = s.fresh := rfl
@[simp] theorem Dev.onZone_fq (s : Dev) (z : Fin 16) (f : Zone → Zone) : (s.onZone z f).fq = s.fq := rfl
@[simp] theorem Dev.onZone_waits (s : Dev) (z : Fin 16) (f : Zone → Zone) : (s.onZone z f).waits = s.waits := rfl
@[simp] theorem Dev.onZone_bulk (s : Dev) (z : Fin 16) (f : Zone → Zone) : (s.onZone z f).bulk = s.bulk := rfl
@[simp] theorem Dev.onZone_done (s : Dev) (z : Fin 16) (f : Zone → Zone) : (s.onZone z f).done = s.done := rfl
@[simp] theorem Dev.onZone_raised (s : Dev) (z : Fin 16) (f : Zone → Zone) : (s.onZone z f).raised = s.raised := rfl
@[simp] theorem Dev.onZone_loading (s : Dev) (z : Fin 16) (f : Zone → Zone) : (s.onZone z f).loading = s.loading := rfl
@[simp] theorem Dev.onZone_tb (s : Dev) (z : Fin 16) (f : Zone → Zone) : (s.onZone z f).tb = s.tb := rfl
@[simp] theorem Dev.onZone_convs (s : Dev) (z : Fin 16) (f : Zone → Zone) : (s.onZone z f).convs = s.convs := rfl
@[simp] theorem Dev.onZone_loops (s : Dev) (z : Fin 16) (f : Zone → Zone) : (s.onZone z f).loops = s.loops := rfl
@[simp] theorem Dev.onZone_trigs (s : Dev) (z : Fin 16) (f : Zone → Zone) : (s.onZone z f).trigs = s.trigs := rfl
@[simp] theorem Dev.onZone_lePeak (s : Dev) (z : Fin 16) (f : Zone → Zone) : (s.onZone z f).lePeak = s.lePeak := rfl
@[simp] theorem Dev.onZone_zones (s : Dev) (z : Fin 16) (f : Zone → Zone) : (s.onZone z f).zones = vmod s.zones z f := rfl
@[simp] theorem Dev.onZone_dates (s : Dev) (z : Fin 16) (f : Zone → Zone) : (s.onZone z f).dates = s.dates := rfl
@[simp] theorem Dev.onZone_pwms (s : Dev) (z : Fin 16) (f : Zone → Zone) : (s.onZone z f).pwms = s.pwms := rfl
@[simp] theorem Dev.onZone_trips (s : Dev) (z : Fin 16) (f : Zone → Zone) : (s.onZone z f).trips = s.trips := rfl
@[simp] theorem Dev.onZone_valves (s : Dev) (z : Fin 16) (f : Zone → Zone) : (s.onZone z f).valves = s.valves := rfl
@[simp] theorem Dev.onZone_pairs (s : Dev) (z : Fin 16) (f : Zone → Zone) : (s.onZone z f).pairs = s.pairs := rfl
@[simp] theorem Dev.onZone_vboost (s : Dev) (z : Fin 16) (f : Zone → Zone) : (s.onZone z f).vboost = s.vboost := rfl
@[simp] theorem Dev.onZone_vboostAt (s : Dev) (z : Fin 16) (f : Zone → Zone) : (s.onZone z f).vboostAt = s.vboostAt := rfl
@[simp] theorem Dev.onZone_fans (s : Dev) (z : Fin 16) (f : Zone → Zone) : (s.onZone z f).fans = s.fans := rfl
@[simp] theorem Dev.onZone_dampers (s : Dev) (z : Fin 16) (f : Zone → Zone) : (s.onZone z f).dampers = s.dampers := rfl
@[simp] theorem Dev.onZone_panel (s : Dev) (z : Fin 16) (f : Zone → Zone) : (s.onZone z f).panel = s.panel := rfl
@[simp] theorem Dev.onZone_vports (s : Dev) (z : Fin 16) (f : Zone → Zone) : (s.onZone z f).vports = s.vports := rfl
@[simp] theorem Dev.onZone_bbs (s : Dev) (z : Fin 16) (f : Zone → Zone) : (s.onZone z f).bbs = s.bbs := rfl
@[simp] theorem Dev.onZone_sbs (s : Dev) (z : Fin 16) (f : Zone → Zone) : (s.onZone z f).sbs = s.sbs := rfl
@[simp] theorem Dev.onZone_hollow (s : Dev) (z : Fin 16) (f : Zone → Zone) : (s.onZone z f).hollow = s.hollow := rfl
@[simp] theorem Dev.onZone_power (s : Dev) (z : Fin 16) (f : Zone → Zone) : (s.onZone z f).power = s.power := rfl
@[simp] theorem Dev.onZone_log (s : Dev) (z : Fin 16) (f : Zone → Zone) : (s.onZone z f).log = s.log := rfl
@[simp] theorem Dev.onZone_nv (s : Dev) (z : Fin 16) (f : Zone → Zone) : (s.onZone z f).nv = s.nv := rfl
@[simp] theorem Dev.onZone_regs (s : Dev) (z : Fin 16) (f : Zone → Zone) : (s.onZone z f).regs = s.regs := rfl
@[simp] theorem Dev.onPwm_now (s : Dev) (c : Fin 48) (f : Pwm → Pwm) : (s.onPwm c f).now = s.now := rfl
@[simp] theorem Dev.onPwm_fresh (s : Dev) (c : Fin 48) (f : Pwm → Pwm) : (s.onPwm c f).fresh = s.fresh := rfl
@[simp] theorem Dev.onPwm_fq (s : Dev) (c : Fin 48) (f : Pwm → Pwm) : (s.onPwm c f).fq = s.fq := rfl
@[simp] theorem Dev.onPwm_waits (s : Dev) (c : Fin 48) (f : Pwm → Pwm) : (s.onPwm c f).waits = s.waits := rfl
@[simp] theorem Dev.onPwm_bulk (s : Dev) (c : Fin 48) (f : Pwm → Pwm) : (s.onPwm c f).bulk = s.bulk := rfl
@[simp] theorem Dev.onPwm_done (s : Dev) (c : Fin 48) (f : Pwm → Pwm) : (s.onPwm c f).done = s.done := rfl
@[simp] theorem Dev.onPwm_raised (s : Dev) (c : Fin 48) (f : Pwm → Pwm) : (s.onPwm c f).raised = s.raised := rfl
@[simp] theorem Dev.onPwm_loading (s : Dev) (c : Fin 48) (f : Pwm → Pwm) : (s.onPwm c f).loading = s.loading := rfl
@[simp] theorem Dev.onPwm_tb (s : Dev) (c : Fin 48) (f : Pwm → Pwm) : (s.onPwm c f).tb = s.tb := rfl
@[simp] theorem Dev.onPwm_convs (s : Dev) (c : Fin 48) (f : Pwm → Pwm) : (s.onPwm c f).convs = s.convs := rfl
@[simp] theorem Dev.onPwm_loops (s : Dev) (c : Fin 48) (f : Pwm → Pwm) : (s.onPwm c f).loops = s.loops := rfl
@[simp] theorem Dev.onPwm_trigs (s : Dev) (c : Fin 48) (f : Pwm → Pwm) : (s.onPwm c f).trigs = s.trigs := rfl
@[simp] theorem Dev.onPwm_lePeak (s : Dev) (c : Fin 48) (f : Pwm → Pwm) : (s.onPwm c f).lePeak = s.lePeak := rfl
@[simp] theorem Dev.onPwm_zones (s : Dev) (c : Fin 48) (f : Pwm → Pwm) : (s.onPwm c f).zones = s.zones := rfl
@[simp] theorem Dev.onPwm_dates (s : Dev) (c : Fin 48) (f : Pwm → Pwm) : (s.onPwm c f).dates = s.dates := rfl
@[simp] theorem Dev.onPwm_pwms (s : Dev) (c : Fin 48) (f : Pwm → Pwm) : (s.onPwm c f).pwms = vmod s.pwms c f := rfl
@[simp] theorem Dev.onPwm_trips (s : Dev) (c : Fin 48) (f : Pwm → Pwm) : (s.onPwm c f).trips = s.trips := rfl
@[simp] theorem Dev.onPwm_valves (s : Dev) (c : Fin 48) (f : Pwm → Pwm) : (s.onPwm c f).valves = s.valves := rfl
@[simp] theorem Dev.onPwm_pairs (s : Dev) (c : Fin 48) (f : Pwm → Pwm) : (s.onPwm c f).pairs = s.pairs := rfl
@[simp] theorem Dev.onPwm_vboost (s : Dev) (c : Fin 48) (f : Pwm → Pwm) : (s.onPwm c f).vboost = s.vboost := rfl
@[simp] theorem Dev.onPwm_vboostAt (s : Dev) (c : Fin 48) (f : Pwm → Pwm) : (s.onPwm c f).vboostAt = s.vboostAt := rfl
@[simp] theorem Dev.onPwm_fans (s : Dev) (c : Fin 48) (f : Pwm → Pwm) : (s.onPwm c f).fans = s.fans := rfl
@[simp] theorem Dev.onPwm_dampers (s : Dev) (c : Fin 48) (f : Pwm → Pwm) : (s.onPwm c f).dampers = s.dampers := rfl
@[simp] theorem Dev.onPwm_panel (s : Dev) (c : Fin 48) (f : Pwm → Pwm) : (s.onPwm c f).panel = s.panel := rfl
@[simp] theorem Dev.onPwm_vports (s : Dev) (c : Fin 48) (f : Pwm → Pwm) : (s.onPwm c f).vports = s.vports := rfl
@[simp] theorem Dev.onPwm_bbs (s : Dev) (c : Fin 48) (f : Pwm → Pwm) : (s.onPwm c f).bbs = s.bbs := rfl
@[simp] theorem Dev.onPwm_sbs (s : Dev) (c : Fin 48) (f : Pwm → Pwm) : (s.onPwm c f).sbs = s.sbs := rfl
@[simp] theorem Dev.onPwm_hollow (s : Dev) (c : Fin 48) (f : Pwm → Pwm) : (s.onPwm c f).hollow = s.hollow := rfl
@[simp] theorem Dev.onPwm_power (s : Dev) (c : Fin 48) (f : Pwm → Pwm) : (s.onPwm c f).power = s.power := rfl
@[simp] theorem Dev.onPwm_log (s : Dev) (c : Fin 48) (f : Pwm → Pwm) : (s.onPwm c f).log = s.log := rfl
@[simp] theorem Dev.onPwm_nv (s : Dev) (c : Fin 48) (f : Pwm → Pwm) : (s.onPwm c f).nv = s.nv := rfl
@[simp] theorem Dev.onPwm_regs (s : Dev) (c : Fin 48) (f : Pwm → Pwm) : (s.onPwm c f).regs = s.regs := rfl
@[simp] theorem Dev.onValve_now (s : Dev) (c : Fin 16) (f : Valve → Valve) : (s.onValve c f).now = s.now := rfl
@[simp] theorem Dev.onValve_fresh (s : Dev) (c : Fin 16) (f : Valve → Valve) : (s.onValve c f).fresh = s.fresh := rfl
@[simp] theorem Dev.onValve_fq (s : Dev) (c : Fin 16) (f : Valve → Valve) : (s.onValve c f).fq = s.fq := rfl
@[simp] theorem Dev.onValve_waits (s : Dev) (c : Fin 16) (f : Valve → Valve) : (s.onValve c f).waits = s.waits := rfl
@[simp] theorem Dev.onValve_bulk (s : Dev) (c : Fin 16) (f : Valve → Valve) : (s.onValve c f).bulk = s.bulk := rfl
@[simp] theorem Dev.onValve_done (s : Dev) (c : Fin 16) (f : Valve → Valve) : (s.onValve c f).done = s.done := rfl
@[simp] theorem Dev.onValve_raised (s : Dev) (c : Fin 16) (f : Valve → Valve) : (s.onValve c f).raised = s.raised := rfl
@[simp] theorem Dev.onValve_loading (s : Dev) (c : Fin 16) (f : Valve → Valve) : (s.onValve c f).loading = s.loading := rfl
@[simp] theorem Dev.onValve_tb (s : Dev) (c : Fin 16) (f : Valve → Valve) : (s.onValve c f).tb = s.tb := rfl
@[simp] theorem Dev.onValve_convs (s : Dev) (c : Fin 16) (f : Valve → Valve) : (s.onValve c f).convs = s.convs := rfl
@[simp] theorem Dev.onValve_loops (s : Dev) (c : Fin 16) (f : Valve → Valve) : (s.onValve c f).loops = s.loops := rfl
@[simp] theorem Dev.onValve_trigs (s : Dev) (c : Fin 16) (f : Valve → Valve) : (s.onValve c f).trigs = s.trigs := rfl
@[simp] theorem Dev.onValve_lePeak (s : Dev) (c : Fin 16) (f : Valve → Valve) : (s.onValve c f).lePeak = s.lePeak := rfl
@[simp] theorem Dev.onValve_zones (s : Dev) (c : Fin 16) (f : Valve → Valve) : (s.onValve c f).zones = s.zones := rfl
@[simp] theorem Dev.onValve_dates (s : Dev) (c : Fin 16) (f : Valve → Valve) : (s.onValve c f).dates = s.dates := rfl
@[simp] theorem Dev.onValve_pwms (s : Dev) (c : Fin 16) (f : Valve → Valve) : (s.onValve c f).pwms = s.pwms := rfl
@[simp] theorem Dev.onValve_trips (s : Dev) (c : Fin 16) (f : Valve → Valve) : (s.onValve c f).trips = s.trips := rfl
@[simp] theorem Dev.onValve_valves (s : Dev) (c : Fin 16) (f : Valve → Valve) : (s.onValve c f).valves = vmod s.valves c f := rfl
@[simp] theorem Dev.onValve_pairs (s : Dev) (c : Fin 16) (f : Valve → Valve) : (s.onValve c f).pairs = s.pairs := rfl
@[simp] theorem Dev.onValve_vboost (s : Dev) (c : Fin 16) (f : Valve → Valve) : (s.onValve c f).vboost = s.vboost := rfl
@[simp] theorem Dev.onValve_vboostAt (s : Dev) (c : Fin 16) (f : Valve → Valve) : (s.onValve c f).vboostAt = s.vboostAt := rfl
@[simp] theorem Dev.onValve_fans (s : Dev) (c : Fin 16) (f : Valve → Valve) : (s.onValve c f).fans = s.fans := rfl
@[simp] theorem Dev.onValve_dampers (s : Dev) (c : Fin 16) (f : Valve → Valve) : (s.onValve c f).dampers = s.dampers := rfl
@[simp] theorem Dev.onValve_panel (s : Dev) (c : Fin 16) (f : Valve → Valve) : (s.onValve c f).panel = s.panel := rfl
@[simp] theorem Dev.onValve_vports (s : Dev) (c : Fin 16) (f : Valve → Valve) : (s.onValve c f).vports = s.vports := rfl
@[simp] theorem Dev.onValve_bbs (s : Dev) (c : Fin 16) (f : Valve → Valve) : (s.onValve c f).bbs = s.bbs := rfl
@[simp] theorem Dev.onValve_sbs (s : Dev) (c : Fin 16) (f : Valve → Valve) : (s.onValve c f).sbs = s.sbs := rfl
@[simp] theorem Dev.onValve_hollow (s : Dev) (c : Fin 16) (f : Valve → Valve) : (s.onValve c f).hollow = s.hollow := rfl
@[simp] theorem Dev.onValve_power (s : Dev) (c : Fin 16) (f : Valve → Valve) : (s.onValve c f).power = s.power := rfl
@[simp] theorem Dev.onValve_log (s : Dev) (c : Fin 16) (f : Valve → Valve) : (s.onValve c f).log = s.log := rfl
@[simp] theorem Dev.onValve_nv (s : Dev) (c : Fin 16) (f : Valve → Valve) : (s.onValve c f).nv = s.nv := rfl
@[simp] theorem Dev.onValve_regs (s : Dev) (c : Fin 16) (f : Valve → Valve) : (s.onValve c f).regs = s.regs := rfl
@[simp] theorem Dev.onPair_now (s : Dev) (k : Fin 8) (f : Pair → Pair) : (s.onPair k f).now = s.now := rfl
@[simp] theorem Dev.onPair_fresh (s : Dev) (k : Fin 8) (f : Pair → Pair) : (s.onPair k f).fresh = s.fresh := rfl
@[simp] theorem Dev.onPair_fq (s : Dev) (k : Fin 8) (f : Pair → Pair) : (s.onPair k f).fq = s.fq := rfl
@[simp] theorem Dev.onPair_waits (s : Dev) (k : Fin 8) (f : Pair → Pair) : (s.onPair k f).waits = s.waits := rfl
@[simp] theorem Dev.onPair_bulk (s : Dev) (k : Fin 8) (f : Pair → Pair) : (s.onPair k f).bulk = s.bulk := rfl
@[simp] theorem Dev.onPair_done (s : Dev) (k : Fin 8) (f : Pair → Pair) : (s.onPair k f).done = s.done := rfl
@[simp] theorem Dev.onPair_raised (s : Dev) (k : Fin 8) (f : Pair → Pair) : (s.onPair k f).raised = s.raised := rfl
@[simp] theorem Dev.onPair_loading (s : Dev) (k : Fin 8) (f : Pair → Pair) : (s.onPair k f).loading = s.loading := rfl
@[simp] theorem Dev.onPair_tb (s : Dev) (k : Fin 8) (f : Pair → Pair) : (s.onPair k f).tb = s.tb := rfl
@[simp] theorem Dev.onPair_convs (s : Dev) (k : Fin 8) (f : Pair → Pair) : (s.onPair k f).convs = s.convs := rfl
@[simp] theorem Dev.onPair_loops (s : Dev) (k : Fin 8) (f : Pair → Pair) : (s.onPair k f).loops = s.loops := rfl
@[simp] theorem Dev.onPair_trigs (s : Dev) (k : Fin 8) (f : Pair → Pair) : (s.onPair k f).trigs = s.trigs := rfl
@[simp] theorem Dev.onPair_lePeak (s : Dev) (k : Fin 8) (f : Pair → Pair) : (s.onPair k f).lePeak = s.lePeak := rfl
@[simp] theorem Dev.onPair_zones (s : Dev) (k : Fin 8) (f : Pair → Pair) : (s.onPair k f).zones = s.zones := rfl
@[simp] theorem Dev.onPair_dates (s : Dev) (k : Fin 8) (f : Pair → Pair) : (s.onPair k f).dates = s.dates := rfl
@[simp] theorem Dev.onPair_pwms (s : Dev) (k : Fin 8) (f : Pair → Pair) : (s.onPair k f).pwms = s.pwms := rfl
@[simp] theorem Dev.onPair_trips (s : Dev) (k : Fin 8) (f : Pair → Pair) : (s.onPair k f).trips = s.trips := rfl
@[simp] theorem Dev.onPair_valves (s : Dev) (k : Fin 8) (f : Pair → Pair) : (s.onPair k f).valves = s.valves := rfl
@[simp] theorem Dev.onPair_pairs (s : Dev) (k : Fin 8) (f : Pair → Pair) : (s.onPair k f).pairs = vmod s.pairs k f := rfl
@[simp] theorem Dev.onPair_vboost (s : Dev) (k : Fin 8) (f : Pair → Pair) : (s.onPair k f).vboost = s.vboost := rfl
@[simp] theorem Dev.onPair_vboostAt (s : Dev) (k : Fin 8) (f : Pair → Pair) : (s.onPair k f).vboostAt = s.vboostAt := rfl
@[simp] theorem Dev.onPair_fans (s : Dev) (k : Fin 8) (f : Pair → Pair) : (s.onPair k f).fans = s.fans := rfl
@[simp] theorem Dev.onPair_dampers (s : Dev) (k : Fin 8) (f : Pair → Pair) : (s.onPair k f).dampers = s.dampers := rfl
@[simp] theorem Dev.onPair_panel (s : Dev) (k : Fin 8) (f : Pair → Pair) : (s.onPair k f).panel = s.panel := rfl
@[simp] theorem Dev.onPair_vports (s : Dev) (k : Fin 8) (f : Pair → Pair) : (s.onPair k f).vports = s.vports := rfl
@[simp] theorem Dev.onPair_bbs (s : Dev) (k : Fin 8) (f : Pair → Pair) : (s.onPair k f).bbs = s.bbs := rfl
@[simp] theorem Dev.onPair_sbs (s : Dev) (k : Fin 8) (f : Pair → Pair) : (s.onPair k f).sbs = s.sbs := rfl
@[simp] theorem Dev.onPair_hollow (s : Dev) (k : Fin 8) (f : Pair → Pair) : (s.onPair k f).hollow = s.hollow := rfl
@[simp] theorem Dev.onPair_power (s : Dev) (k : Fin 8) (f : Pair → Pair) : (s.onPair k f).power = s.power := rfl
@[simp] theorem Dev.onPair_log (s : Dev) (k : Fin 8) (f : Pair → Pair) : (s.onPair k f).log = s.log := rfl
@[simp] theorem Dev.onPair_nv (s : Dev) (k : Fin 8) (f : Pair → Pair) : (s.onPair k f).nv = s.nv := rfl
@[simp] theorem Dev.onPair_regs (s : Dev) (k : Fin 8) (f : Pair → Pair) : (s.onPair k f).regs = s.regs := rfl
@[simp] theorem Dev.onFan_now (s : Dev) (n : Fin 12) (f : Fan → Fan) : (s.onFan n f).now = s.now := rfl
@[simp] theorem Dev.onFan_fresh (s : Dev) (n : Fin 12) (f : Fan → Fan) : (s.onFan n f).fresh = s.fresh := rfl
@[simp] theorem Dev.onFan_fq (s : Dev) (n : Fin 12) (f : Fan → Fan) : (s.onFan n f).fq = s.fq := rfl
@[simp] theorem Dev.onFan_waits (s : Dev) (n : Fin 12) (f : Fan → Fan) : (s.onFan n f).waits = s.waits := rfl
@[simp] theorem Dev.onFan_bulk (s : Dev) (n : Fin 12) (f : Fan → Fan) : (s.onFan n f).bulk = s.bulk := rfl
@[simp] theorem Dev.onFan_done (s : Dev) (n : Fin 12) (f : Fan → Fan) : (s.onFan n f).done = s.done := rfl
@[simp] theorem Dev.onFan_raised (s : Dev) (n : Fin 12) (f : Fan → Fan) : (s.onFan n f).raised = s.raised := rfl
@[simp] theorem Dev.onFan_loading (s : Dev) (n : Fin 12) (f : Fan → Fan) : (s.onFan n f).loading = s.loading := rfl
@[simp] theorem Dev.onFan_tb (s : Dev) (n : Fin 12) (f : Fan → Fan) : (s.onFan n f).tb = s.tb := rfl
@[simp] theorem Dev.onFan_convs (s : Dev) (n : Fin 12) (f : Fan → Fan) : (s.onFan n f).convs = s.convs := rfl
@[simp] theorem Dev.onFan_loops (s : Dev) (n : Fin 12) (f : Fan → Fan) : (s.onFan n f).loops = s.loops := rfl
@[simp] theorem Dev.onFan_trigs (s : Dev) (n : Fin 12) (f : Fan → Fan) : (s.onFan n f).trigs = s.trigs := rfl
@[simp] theorem Dev.onFan_lePeak (s : Dev) (n : Fin 12) (f : Fan → Fan) : (s.onFan n f).lePeak = s.lePeak := rfl
@[simp] theorem Dev.onFan_zones (s : Dev) (n : Fin 12) (f : Fan → Fan) : (s.onFan n f).zones = s.zones := rfl
@[simp] theorem Dev.onFan_dates (s : Dev) (n : Fin 12) (f : Fan → Fan) : (s.onFan n f).dates = s.dates := rfl
@[simp] theorem Dev.onFan_pwms (s : Dev) (n : Fin 12) (f : Fan → Fan) : (s.onFan n f).pwms = s.pwms := rfl
@[simp] theorem Dev.onFan_trips (s : Dev) (n : Fin 12) (f : Fan → Fan) : (s.onFan n f).trips = s.trips := rfl
@[simp] theorem Dev.onFan_valves (s : Dev) (n : Fin 12) (f : Fan → Fan) : (s.onFan n f).valves = s.valves := rfl
@[simp] theorem Dev.onFan_pairs (s : Dev) (n : Fin 12) (f : Fan → Fan) : (s.onFan n f).pairs = s.pairs := rfl
@[simp] theorem Dev.onFan_vboost (s : Dev) (n : Fin 12) (f : Fan → Fan) : (s.onFan n f).vboost = s.vboost := rfl
@[simp] theorem Dev.onFan_vboostAt (s : Dev) (n : Fin 12) (f : Fan → Fan) : (s.onFan n f).vboostAt = s.vboostAt := rfl
@[simp] theorem Dev.onFan_fans (s : Dev) (n : Fin 12) (f : Fan → Fan) : (s.onFan n f).fans = vmod s.fans n f := rfl
@[simp] theorem Dev.onFan_dampers (s : Dev) (n : Fin 12) (f : Fan → Fan) : (s.onFan n f).dampers = s.dampers := rfl
@[simp] theorem Dev.onFan_panel (s : Dev) (n : Fin 12) (f : Fan → Fan) : (s.onFan n f).panel = s.panel := rfl
@[simp] theorem Dev.onFan_vports (s : Dev) (n : Fin 12) (f : Fan → Fan) : (s.onFan n f).vports = s.vports := rfl
@[simp] theorem Dev.onFan_bbs (s : Dev) (n : Fin 12) (f : Fan → Fan) : (s.onFan n f).bbs = s.bbs := rfl
@[simp] theorem Dev.onFan_sbs (s : Dev) (n : Fin 12) (f : Fan → Fan) : (s.onFan n f).sbs = s.sbs := rfl
@[simp] theorem Dev.onFan_hollow (s : Dev) (n : Fin 12) (f : Fan → Fan) : (s.onFan n f).hollow = s.hollow := rfl
@[simp] theorem Dev.onFan_power (s : Dev) (n : Fin 12) (f : Fan → Fan) : (s.onFan n f).power = s.power := rfl
@[simp] theorem Dev.onFan_log (s : Dev) (n : Fin 12) (f : Fan → Fan) : (s.onFan n f).log = s.log := rfl
@[simp] theorem Dev.onFan_nv (s : Dev) (n : Fin 12) (f : Fan → Fan) : (s.onFan n f).nv = s.nv := rfl
@[simp] theorem Dev.onFan_regs (s : Dev) (n : Fin 12) (f : Fan → Fan) : (s.onFan n f).regs = s.regs := rfl
@[simp] theorem Dev.onDm_now (s : Dev) (n : Fin 12) (f : Damper → Damper) : (s.onDm n f).now = s.now := rfl
@[simp] theorem Dev.onDm_fresh (s : Dev) (n : Fin 12) (f : Damper → Damper) : (s.onDm n f).fresh = s.fresh := rfl
@[simp] theorem Dev.onDm_fq (s : Dev) (n : Fin 12) (f : Damper → Damper) : (s.onDm n f).fq = s.fq := rfl
@[simp] theorem Dev.onDm_waits (s : Dev) (n : Fin 12) (f : Damper → Damper) : (s.onDm n f).waits = s.waits := rfl
@[simp] theorem Dev.onDm_bulk (s : Dev) (n : Fin 12) (f : Damper → Damper) : (s.onDm n f).bulk = s.bulk := rfl
@[simp] theorem Dev.onDm_done (s : Dev) (n : Fin 12) (f : Damper → Damper) : (s.onDm n f).done = s.done := rfl
@[simp] theorem Dev.onDm_raised (s : Dev) (n : Fin 12) (f : Damper → Damper) : (s.onDm n f).raised = s.raised := rfl
@[simp] theorem Dev.onDm_loading (s : Dev) (n : Fin 12) (f : Damper → Damper) : (s.onDm n f).loading = s.loading := rfl
@[simp] theorem Dev.onDm_tb (s : Dev) (n : Fin 12) (f : Damper → Damper) : (s.onDm n f).tb = s.tb := rfl
@[simp] theorem Dev.onDm_convs (s : Dev) (n : Fin 12) (f : Damper → Damper) : (s.onDm n f).convs = s.convs := rfl
@[simp] theorem Dev.onDm_loops (s : Dev) (n : Fin 12) (f : Damper → Damper) : (s.onDm n f).loops = s.loops := rfl
@[simp] theorem Dev.onDm_trigs (s : Dev) (n : Fin 12) (f : Damper → Damper) : (s.onDm n f).trigs = s.trigs := rfl
@[simp] theorem Dev.onDm_lePeak (s : Dev) (n : Fin 12) (f : Damper → Damper) : (s.onDm n f).lePeak = s.lePeak := rfl
@[simp] theorem Dev.onDm_zones (s : Dev) (n : Fin 12) (f : Damper → Damper) : (s.onDm n f).zones = s.zones := rfl
@[simp] theorem Dev.onDm_dates (s : Dev) (n : Fin 12) (f : Damper → Damper) : (s.onDm n f).dates = s.dates := rfl
@[simp] theorem Dev.onDm_pwms (s : Dev) (n : Fin 12) (f : Damper → Damper) : (s.onDm n f).pwms = s.pwms := rfl
@[simp] theorem Dev.onDm_trips (s : Dev) (n : Fin 12) (f : Damper → Damper) : (s.onDm n f).trips = s.trips := rfl
@[simp] theorem Dev.onDm_valves (s : Dev) (n : Fin 12) (f : Damper → Damper) : (s.onDm n f).valves = s.valves := rfl
@[simp] theorem Dev.onDm_pairs (s : Dev) (n : Fin 12) (f : Damper → Damper) : (s.onDm n f).pairs = s.pairs := rfl
@[simp] theorem Dev.onDm_vboost (s : Dev) (n : Fin 12) (f : Damper → Damper) : (s.onDm n f).vboost = s.vboost := rfl
@[simp] theorem Dev.onDm_vboostAt (s : Dev) (n : Fin 12) (f : Damper → Damper) : (s.onDm n f).vboostAt = s.vboostAt := rfl
@[simp] theorem Dev.onDm_fans (s : Dev) (n : Fin 12) (f : Damper → Damper) : (s.onDm n f).fans = s.fans := rfl
@[simp] theorem Dev.onDm_dampers (s : Dev) (n : Fin 12) (f : Damper → Damper) : (s.onDm n f).dampers = vmod s.dampers n f := rfl
@[simp] theorem Dev.onDm_panel (s : Dev) (n : Fin 12) (f : Damper → Damper) : (s.onDm n f).panel = s.panel := rfl
@[simp] theorem Dev.onDm_vports (s : Dev) (n : Fin 12) (f : Damper → Damper) : (s.onDm n f).vports = s.vports := rfl
@[simp] theorem Dev.onDm_bbs (s : Dev) (n : Fin 12) (f : Damper → Damper) : (s.onDm n f).bbs = s.bbs := rfl
@[simp] theorem Dev.onDm_sbs (s : Dev) (n : Fin 12) (f : Damper → Damper) : (s.onDm n f).sbs = s.sbs := rfl
@[simp] theorem Dev.onDm_hollow (s : Dev) (n : Fin 12) (f : Damper → Damper) : (s.onDm n f).hollow = s.hollow := rfl
@[simp] theorem Dev.onDm_power (s : Dev) (n : Fin 12) (f : Damper → Damper) : (s.onDm n f).power = s.power := rfl
@[simp] theorem Dev.onDm_log (s : Dev) (n : Fin 12) (f : Damper → Damper) : (s.onDm n f).log = s.log := rfl
@[simp] theorem Dev.onDm_nv (s : Dev) (n : Fin 12) (f : Damper → Damper) : (s.onDm n f).nv = s.nv := rfl
@[simp] theorem Dev.onDm_regs (s : Dev) (n : Fin 12) (f : Damper → Damper) : (s.onDm n f).regs = s.regs := rfl
@[simp] theorem Dev.onPanel_now (s : Dev) (f : Panel → Panel) : (s.onPanel f).now = s.now := rfl
@[simp] theorem Dev.onPanel_fresh (s : Dev) (f : Panel → Panel) : (s.onPanel f).fresh = s.fresh := rfl
@[simp] theorem Dev.onPanel_fq (s : Dev) (f : Panel → Panel) : (s.onPanel f).fq = s.fq := rfl
@[simp] theorem Dev.onPanel_waits (s : Dev) (f : Panel → Panel) : (s.onPanel f).waits = s.waits := rfl
@[simp] theorem Dev.onPanel_bulk (s : Dev) (f : Panel → Panel) : (s.onPanel f).bulk = s.bulk := rfl
@[simp] theorem Dev.onPanel_done (s : Dev) (f : Panel → Panel) : (s.onPanel f).done = s.done := rfl
@[simp] theorem Dev.onPanel_raised (s : Dev) (f : Panel → Panel) : (s.onPanel f).raised = s.raised := rfl
@[simp] theorem Dev.onPanel_loading (s : Dev) (f : Panel → Panel) : (s.onPanel f).loading = s.loading := rfl
@[simp] theorem Dev.onPanel_tb (s : Dev) (f : Panel → Panel) : (s.onPanel f).tb = s.tb := rfl
@[simp] theorem Dev.onPanel_convs (s : Dev) (f : Panel → Panel) : (s.onPanel f).convs = s.convs := rfl
@[simp] theorem Dev.onPanel_loops (s : Dev) (f : Panel → Panel) : (s.onPanel f).loops = s.loops := rfl
@[simp] theorem Dev.onPanel_trigs (s : Dev) (f : Panel → Panel) : (s.onPanel f).trigs = s.trigs := rfl
@[simp] theorem Dev.onPanel_lePeak (s : Dev) (f : Panel → Panel) : (s.onPanel f).lePeak = s.lePeak := rfl
@[simp] theorem Dev.onPanel_zones (s : Dev) (f : Panel → Panel) : (s.onPanel f).zones = s.zones := rfl
@[simp] theorem Dev.onPanel_dates (s : Dev) (f : Panel → Panel) : (s.onPanel f).dates = s.dates := rfl
@[simp] theorem Dev.onPanel_pwms (s : Dev) (f : Panel → Panel) : (s.onPanel f).pwms = s.pwms := rfl
@[simp] theorem Dev.onPanel_trips (s : Dev) (f : Panel → Panel) : (s.onPanel f).trips = s.trips := rfl
@[simp] theorem Dev.onPanel_valves (s : Dev) (f : Panel → Panel) : (s.onPanel f).valves = s.valves := rfl
@[simp] theorem Dev.onPanel_pairs (s : Dev) (f : Panel → Panel) : (s.onPanel f).pairs = s.pairs := rfl
@[simp] theorem Dev.onPanel_vboost (s : Dev) (f : Panel → Panel) : (s.onPanel f).vboost = s.vboost := rfl
@[simp] theorem Dev.onPanel_vboostAt (s : Dev) (f : Panel → Panel) : (s.onPanel f).vboostAt = s.vboostAt := rfl
@[simp] theorem Dev.onPanel_fans (s : Dev) (f : Panel → Panel) : (s.onPanel f).fans = s.fans := rfl
@[simp] theorem Dev.onPanel_dampers (s : Dev) (f : Panel → Panel) : (s.onPanel f).dampers = s.dampers := rfl
@[simp] theorem Dev.onPanel_panel (s : Dev) (f : Panel → Panel) : (s.onPanel f).panel = f s.panel := rfl
@[simp] theorem Dev.onPanel_vports (s : Dev) (f : Panel → Panel) : (s.onPanel f).vports = s.vports := rfl
@[simp] theorem Dev.onPanel_bbs (s : Dev) (f : Panel → Panel) : (s.onPanel f).bbs = s.bbs := rfl
@[simp] theorem Dev.onPanel_sbs (s : Dev) (f : Panel → Panel) : (s.onPanel f).sbs = s.sbs := rfl
@[simp] theorem Dev.onPanel_hollow (s : Dev) (f : Panel → Panel) : (s.onPanel f).hollow = s.hollow := rfl
@[simp] theorem Dev.onPanel_power (s : Dev) (f : Panel → Panel) : (s.onPanel f).power = s.power := rfl
@[simp] theorem Dev.onPanel_log (s : Dev) (f : Panel → Panel) : (s.onPanel f).log = s.log := rfl
@[simp] theorem Dev.onPanel_nv (s : Dev) (f : Panel → Panel) : (s.onPanel f).nv = s.nv := rfl
@[simp] theorem Dev.onPanel_regs (s : Dev) (f : Panel → Panel) : (s.onPanel f).regs = s.regs := rfl
@[simp] theorem Dev.onVP_now (s : Dev) (p : Fin 16) (f : VPort → VPort) : (s.onVP p f).now = s.now := rfl
@[simp] theorem Dev.onVP_fresh (s : Dev) (p : Fin 16) (f : VPort → VPort) : (s.onVP p f).fresh = s.fresh := rfl
@[simp] theorem Dev.onVP_fq (s : Dev) (p : Fin 16) (f : VPort → VPort) : (s.onVP p f).fq = s.fq := rfl
@[simp] theorem Dev.onVP_waits (s : Dev) (p : Fin 16) (f : VPort → VPort) : (s.onVP p f).waits = s.waits := rfl
@[simp] theorem Dev.onVP_bulk (s : Dev) (p : Fin 16) (f : VPort → VPort) : (s.onVP p f).bulk = s.bulk := rfl
@[simp] theorem Dev.onVP_done (s : Dev) (p : Fin 16) (f : VPort → VPort) : (s.onVP p f).done = s.done := rfl
@[simp] theorem Dev.onVP_raised (s : Dev) (p : Fin 16) (f : VPort → VPort) : (s.onVP p f).raised = s.raised := rfl
@[simp] theorem Dev.onVP_loading (s : Dev) (p : Fin 16) (f : VPort → VPort) : (s.onVP p f).loading = s.loading := rfl
@[simp] theorem Dev.onVP_tb (s : Dev) (p : Fin 16) (f : VPort → VPort) : (s.onVP p f).tb = s.tb := rfl
@[simp] theorem Dev.onVP_convs (s : Dev) (p : Fin 16) (f : VPort → VPort) : (s.onVP p f).convs = s.convs := rfl
@[simp] theorem Dev.onVP_loops (s : Dev) (p : Fin 16) (f : VPort → VPort) : (s.onVP p f).loops = s.loops := rfl
@[simp] theorem Dev.onVP_trigs (s : Dev) (p : Fin 16) (f : VPort → VPort) : (s.onVP p f).trigs = s.trigs := rfl
@[simp] theorem Dev.onVP_lePeak (s : Dev) (p : Fin 16) (f : VPort → VPort) : (s.onVP p f).lePeak = s.lePeak := rfl
@[simp] theorem Dev.onVP_zones (s : Dev) (p : Fin 16) (f : VPort → VPort) : (s.onVP p f).zones = s.zones := rfl
@[simp] theorem Dev.onVP_dates (s : Dev) (p : Fin 16) (f : VPort → VPort) : (s.onVP p f).dates = s.dates := rfl
@[simp] theorem Dev.onVP_pwms (s : Dev) (p : Fin 16) (f : VPort → VPort) : (s.onVP p f).pwms = s.pwms := rfl
@[simp] theorem Dev.onVP_trips (s : Dev) (p : Fin 16) (f : VPort → VPort) : (s.onVP p f).trips = s.trips := rfl
@[simp] theorem Dev.onVP_valves (s : Dev) (p : Fin 16) (f : VPort → VPort) : (s.onVP p f).valves = s.valves := rfl
@[simp] theorem Dev.onVP_pairs (s : Dev) (p : Fin 16) (f : VPort → VPort) : (s.onVP p f).pairs = s.pairs := rfl
@[simp] theorem Dev.onVP_vboost (s : Dev) (p : Fin 16) (f : VPort → VPort) : (s.onVP p f).vboost = s.vboost := rfl
@[simp] theorem Dev.onVP_vboostAt (s : Dev) (p : Fin 16) (f : VPort → VPort) : (s.onVP p f).vboostAt = s.vboostAt := rfl
@[simp] theorem Dev.onVP_fans (s : Dev) (p : Fin 16) (f : VPort → VPort) : (s.onVP p f).fans = s.fans := rfl
@[simp] theorem Dev.onVP_dampers (s : Dev) (p : Fin 16) (f : VPort → VPort) : (s.onVP p f).dampers = s.dampers := rfl
@[simp] theorem Dev.onVP_panel (s : Dev) (p : Fin 16) (f : VPort → VPort) : (s.onVP p f).panel = s.panel := rfl
@[simp] theorem Dev.onVP_vports (s : Dev) (p : Fin 16) (f : VPort → VPort) : (s.onVP p f).vports = vmod s.vports p f := rfl
@[simp] theorem Dev.onVP_bbs (s : Dev) (p : Fin 16) (f : VPort → VPort) : (s.onVP p f).bbs = s.bbs := rfl
@[simp] theorem Dev.onVP_sbs (s : Dev) (p : Fin 16) (f : VPort → VPort) : (s.onVP p f).sbs = s.sbs := rfl
@[simp] theorem Dev.onVP_hollow (s : Dev) (p : Fin 16) (f : VPort → VPort) : (s.onVP p f).hollow = s.hollow := rfl
@[simp] theorem Dev.onVP_power (s : Dev) (p : Fin 16) (f : VPort → VPort) : (s.onVP p f).power = s.power := rfl
@[simp] theorem Dev.onVP_log (s : Dev) (p : Fin 16) (f : VPort → VPort) : (s.onVP p f).log = s.log := rfl
@[simp] theorem Dev.onVP_nv (s : Dev) (p : Fin 16) (f : VPort → VPort) : (s.onVP p f).nv = s.nv := rfl
@[simp] theorem Dev.onVP_regs (s : Dev) (p : Fin 16) (f : VPort → VPort) : (s.onVP p f).regs = s.regs := rfl
@[simp] theorem Dev.onBb_now (s : Dev) (p : Fin 8) (f : BbPort → BbPort) : (s.onBb p f).now = s.now := rfl
@[simp] theorem Dev.onBb_fresh (s : Dev) (p : Fin 8) (f : BbPort → BbPort) : (s.onBb p f).fresh = s.fresh := rfl
@[simp] theorem Dev.onBb_fq (s : Dev) (p : Fin 8) (f : BbPort → BbPort) : (s.onBb p f).fq = s.fq := rfl
@[simp] theorem Dev.onBb_waits (s : Dev) (p : Fin 8) (f : BbPort → BbPort) : (s.onBb p f).waits = s.waits := rfl
@[simp] theorem Dev.onBb_bulk (s : Dev) (p : Fin 8) (f : BbPort → BbPort) : (s.onBb p f).bulk = s.bulk := rfl
@[simp] theorem Dev.onBb_done (s : Dev) (p : Fin 8) (f : BbPort → BbPort) : (s.onBb p f).done = s.done := rfl
@[simp] theorem Dev.onBb_raised (s : Dev) (p : Fin 8) (f : BbPort → BbPort) : (s.onBb p f).raised = s.raised := rfl
@[simp] theorem Dev.onBb_loading (s : Dev) (p : Fin 8) (f : BbPort → BbPort) : (s.onBb p f).loading = s.loading := rfl
@[simp] theorem Dev.onBb_tb (s : Dev) (p : Fin 8) (f : BbPort → BbPort) : (s.onBb p f).tb = s.tb := rfl
@[simp] theorem Dev.onBb_convs (s : Dev) (p : Fin 8) (f : BbPort → BbPort) : (s.onBb p f).convs = s.convs := rfl
@[simp] theorem Dev.onBb_loops (s : Dev) (p : Fin 8) (f : BbPort → BbPort) : (s.onBb p f).loops = s.loops := rfl
@[simp] theorem Dev.onBb_trigs (s : Dev) (p : Fin 8) (f : BbPort → BbPort) : (s.onBb p f).trigs = s.trigs := rfl
@[simp] theorem Dev.onBb_lePeak (s : Dev) (p : Fin 8) (f : BbPort → BbPort) : (s.onBb p f).lePeak = s.lePeak := rfl
@[simp] theorem Dev.onBb_zones (s : Dev) (p : Fin 8) (f : BbPort → BbPort) : (s.onBb p f).zones = s.zones := rfl
@[simp] theorem Dev.onBb_dates (s : Dev) (p : Fin 8) (f : BbPort → BbPort) : (s.onBb p f).dates = s.dates := rfl
@[simp] theorem Dev.onBb_pwms (s : Dev) (p : Fin 8) (f : BbPort → BbPort) : (s.onBb p f).pwms = s.pwms := rfl
@[simp] theorem Dev.onBb_trips (s : Dev) (p : Fin 8) (f : BbPort → BbPort) : (s.onBb p f).trips = s.trips := rfl
@[simp] theorem Dev.onBb_valves (s : Dev) (p : Fin 8) (f : BbPort → BbPort) : (s.onBb p f).valves = s.valves := rfl
@[simp] theorem Dev.onBb_pairs (s : Dev) (p : Fin 8) (f : BbPort → BbPort) : (s.onBb p f).pairs = s.pairs := rfl
@[simp] theorem Dev.onBb_vboost (s : Dev) (p : Fin 8) (f : BbPort → BbPort) : (s.onBb p f).vboost = s.vboost := rfl
@[simp] theorem Dev.onBb_vboostAt (s : Dev) (p : Fin 8) (f : BbPort → BbPort) : (s.onBb p f).vboostAt = s.vboostAt := rfl
@[simp] theorem Dev.onBb_fans (s : Dev) (p : Fin 8) (f : BbPort → BbPort) : (s.onBb p f).fans = s.fans := rfl
@[simp] theorem Dev.onBb_dampers (s : Dev) (p : Fin 8) (f : BbPort → BbPort) : (s.onBb p f).dampers = s.dampers := rfl
@[simp] theorem Dev.onBb_panel (s : Dev) (p : Fin 8) (f : BbPort → BbPort) : (s.onBb p f).panel = s.panel := rfl
@[simp] theorem Dev.onBb_vports (s : Dev) (p : Fin 8) (f : BbPort → BbPort) : (s.onBb p f).vports = s.vports := rfl
@[simp] theorem Dev.onBb_bbs (s : Dev) (p : Fin 8) (f : BbPort → BbPort) : (s.onBb p f).bbs = vmod s.bbs p f := rfl
@[simp] theorem Dev.onBb_sbs (s : Dev) (p : Fin 8) (f : BbPort → BbPort) : (s.onBb p f).sbs = s.sbs := rfl
@[simp] theorem Dev.onBb_hollow (s : Dev) (p : Fin 8) (f : BbPort → BbPort) : (s.onBb p f).hollow = s.hollow := rfl
@[simp] theorem Dev.onBb_power (s : Dev) (p : Fin 8) (f : BbPort → BbPort) : (s.onBb p f).power = s.power := rfl
@[simp] theorem Dev.onBb_log (s : Dev) (p : Fin 8) (f : BbPort → BbPort) : (s.onBb p f).log = s.log := rfl
@[simp] theorem Dev.onBb_nv (s : Dev) (p : Fin 8) (f : BbPort → BbPort) : (s.onBb p f).nv = s.nv := rfl
@[simp] theorem Dev.onBb_regs (s : Dev) (p : Fin 8) (f : BbPort → BbPort) : (s.onBb p f).regs = s.regs := rfl
@[simp] theorem Dev.onSb_now (s : Dev) (p : Fin 8) (f : SbPort → SbPort) : (s.onSb p f).now = s.now := rfl
@[simp] theorem Dev.onSb_fresh (s : Dev) (p : Fin 8) (f : SbPort → SbPort) : (s.onSb p f).fresh = s.fresh := rfl
@[simp] theorem Dev.onSb_fq (s : Dev) (p : Fin 8) (f : SbPort → SbPort) : (s.onSb p f).fq = s.fq := rfl
@[simp] theorem Dev.onSb_waits (s : Dev) (p : Fin 8) (f : SbPort → SbPort) : (s.onSb p f).waits = s.waits := rfl
@[simp] theorem Dev.onSb_bulk (s : Dev) (p : Fin 8) (f : SbPort → SbPort) : (s.onSb p f).bulk = s.bulk := rfl
@[simp] theorem Dev.onSb_done (s : Dev) (p : Fin 8) (f : SbPort → SbPort) : (s.onSb p f).done = s.done := rfl
@[simp] theorem Dev.onSb_raised (s : Dev) (p : Fin 8) (f : SbPort → SbPort) : (s.onSb p f).raised = s.raised := rfl
@[simp] theorem Dev.onSb_loading (s : Dev) (p : Fin 8) (f : SbPort → SbPort) : (s.onSb p f).loading = s.loading := rfl
@[simp] theorem Dev.onSb_tb (s : Dev) (p : Fin 8) (f : SbPort → SbPort) : (s.onSb p f).tb = s.tb := rfl
@[simp] theorem Dev.onSb_convs (s : Dev) (p : Fin 8) (f : SbPort → SbPort) : (s.onSb p f).convs = s.convs := rfl
@[simp] theorem Dev.onSb_loops (s : Dev) (p : Fin 8) (f : SbPort → SbPort) : (s.onSb p f).loops = s.loops := rfl
@[simp] theorem Dev.onSb_trigs (s : Dev) (p : Fin 8) (f : SbPort → SbPort) : (s.onSb p f).trigs = s.trigs := rfl
@[simp] theorem Dev.onSb_lePeak (s : Dev) (p : Fin 8) (f : SbPort → SbPort) : (s.onSb p f).lePeak = s.lePeak := rfl
@[simp] theorem Dev.onSb_zones (s : Dev) (p : Fin 8) (f : SbPort → SbPort) : (s.onSb p f).zones = s.zones := rfl
@[simp] theorem Dev.onSb_dates (s : Dev) (p : Fin 8) (f : SbPort → SbPort) : (s.onSb p f).dates = s.dates := rfl
@[simp] theorem Dev.onSb_pwms (s : Dev) (p : Fin 8) (f : SbPort → SbPort) : (s.onSb p f).pwms = s.pwms := rfl
@[simp] theorem Dev.onSb_trips (s : Dev) (p : Fin 8) (f : SbPort → SbPort) : (s.onSb p f).trips = s.trips := rfl
@[simp] theorem Dev.onSb_valves (s : Dev) (p : Fin 8) (f : SbPort → SbPort) : (s.onSb p f).valves = s.valves := rfl
@[simp] theorem Dev.onSb_pairs (s : Dev) (p : Fin 8) (f : SbPort → SbPort) : (s.onSb p f).pairs = s.pairs := rfl
@[simp] theorem Dev.onSb_vboost (s : Dev) (p : Fin 8) (f : SbPort → SbPort) : (s.onSb p f).vboost = s.vboost := rfl
@[simp] theorem Dev.onSb_vboostAt (s : Dev) (p : Fin 8) (f : SbPort → SbPort) : (s.onSb p f).vboostAt = s.vboostAt := rfl
@[simp] theorem Dev.onSb_fans (s : Dev) (p : Fin 8) (f : SbPort → SbPort) : (s.onSb p f).fans = s.fans := rfl
@[simp] theorem Dev.onSb_dampers (s : Dev) (p : Fin 8) (f : SbPort → SbPort) : (s.onSb p f).dampers = s.dampers := rfl
@[simp] theorem Dev.onSb_panel (s : Dev) (p : Fin 8) (f : SbPort → SbPort) : (s.onSb p f).panel = s.panel := rfl
@[simp] theorem Dev.onSb_vports (s : Dev) (p : Fin 8) (f : SbPort → SbPort) : (s.onSb p f).vports = s.vports := rfl
@[simp] theorem Dev.onSb_bbs (s : Dev) (p : Fin 8) (f : SbPort → SbPort) : (s.onSb p f).bbs = s.bbs := rfl
@[simp] theorem Dev.onSb_sbs (s : Dev) (p : Fin 8) (f : SbPort → SbPort) : (s.onSb p f).sbs = vmod s.sbs p f := rfl
@[simp] theorem Dev.onSb_hollow (s : Dev) (p : Fin 8) (f : SbPort → SbPort) : (s.onSb p f).hollow = s.hollow := rfl
@[simp] theorem Dev.onSb_power (s : Dev) (p : Fin 8) (f : SbPort → SbPort) : (s.onSb p f).power = s.power := rfl
@[simp] theorem Dev.onSb_log (s : Dev) (p : Fin 8) (f : SbPort → SbPort) : (s.onSb p f).log = s.log := rfl
@[simp] theorem Dev.onSb_nv (s : Dev) (p : Fin 8) (f : SbPort → SbPort) : (s.onSb p f).nv = s.nv := rfl
@[simp] theorem Dev.onSb_regs (s : Dev) (p : Fin 8) (f : SbPort → SbPort) : (s.onSb p f).regs = s.regs := rfl
@[simp] theorem Dev.onHollow_now (s : Dev) (f : Hollow → Hollow) : (s.onHollow f).now = s.now := rfl
@[simp] theorem Dev.onHollow_fresh (s : Dev) (f : Hollow → Hollow) : (s.onHollow f).fresh = s.fresh := rfl
@[simp] theorem Dev.onHollow_fq (s : Dev) (f : Hollow → Hollow) : (s.onHollow f).fq = s.fq := rfl
@[simp] theorem Dev.onHollow_waits (s : Dev) (f : Hollow → Hollow) : (s.onHollow f).waits = s.waits := rfl
@[simp] theorem Dev.onHollow_bulk (s : Dev) (f : Hollow → Hollow) : (s.onHollow f).bulk = s.bulk := rfl
@[simp] theorem Dev.onHollow_done (s : Dev) (f : Hollow → Hollow) : (s.onHollow f).done = s.done := rfl
@[simp] theorem Dev.onHollow_raised (s : Dev) (f : Hollow → Hollow) : (s.onHollow f).raised = s.raised := rfl
@[simp] theorem Dev.onHollow_loading (s : Dev) (f : Hollow → Hollow) : (s.onHollow f).loading = s.loading := rfl
@[simp] theorem Dev.onHollow_tb (s : Dev) (f : Hollow → Hollow) : (s.onHollow f).tb = s.tb := rfl
@[simp] theorem Dev.onHollow_convs (s : Dev) (f : Hollow → Hollow) : (s.onHollow f).convs = s.convs := rfl
@[simp] theorem Dev.onHollow_loops (s : Dev) (f : Hollow → Hollow) : (s.onHollow f).loops = s.loops := rfl
@[simp] theorem Dev.onHollow_trigs (s : Dev) (f : Hollow → Hollow) : (s.onHollow f).trigs = s.trigs := rfl
@[simp] theorem Dev.onHollow_lePeak (s : Dev) (f : Hollow → Hollow) : (s.onHollow f).lePeak = s.lePeak := rfl
@[simp] theorem Dev.onHollow_zones (s : Dev) (f : Hollow → Hollow) : (s.onHollow f).zones = s.zones := rfl
@[simp] theorem Dev.onHollow_dates (s : Dev) (f : Hollow → Hollow) : (s.onHollow f).dates = s.dates := rfl
@[simp] theorem Dev.onHollow_pwms (s : Dev) (f : Hollow → Hollow) : (s.onHollow f).pwms = s.pwms := rfl
@[simp] theorem Dev.onHollow_trips (s : Dev) (f : Hollow → Hollow) : (s.onHollow f).trips = s.trips := rfl
@[simp] theorem Dev.onHollow_valves (s : Dev) (f : Hollow → Hollow) : (s.onHollow f).valves = s.valves := rfl
@[simp] theorem Dev.onHollow_pairs (s : Dev) (f : Hollow → Hollow) : (s.onHollow f).pairs = s.pairs := rfl
@[simp] theorem Dev.onHollow_vboost (s : Dev) (f : Hollow → Hollow) : (s.onHollow f).vboost = s.vboost := rfl
@[simp] theorem Dev.onHollow_vboostAt (s : Dev) (f : Hollow → Hollow) : (s.onHollow f).vboostAt = s.vboostAt := rfl
@[simp] theorem Dev.onHollow_fans (s : Dev) (f : Hollow → Hollow) : (s.onHollow f).fans = s.fans := rfl
@[simp] theorem Dev.onHollow_dampers (s : Dev) (f : Hollow → Hollow) : (s.onHollow f).dampers = s.dampers := rfl
@[simp] theorem Dev.onHollow_panel (s : Dev) (f : Hollow → Hollow) : (s.onHollow f).panel = s.panel := rfl
@[simp] theorem Dev.onHollow_vports (s : Dev) (f : Hollow → Hollow) : (s.onHollow f).vports = s.vports := rfl
@[simp] theorem Dev.onHollow_bbs (s : Dev) (f : Hollow → Hollow) : (s.onHollow f).bbs = s.bbs := rfl
@[simp] theorem Dev.onHollow_sbs (s : Dev) (f : Hollow → Hollow) : (s.onHollow f).sbs = s.sbs := rfl
@[simp] theorem Dev.onHollow_hollow (s : Dev) (f : Hollow → Hollow) : (s.onHollow f).hollow = f s.hollow := rfl
@[simp] theorem Dev.onHollow_power (s : Dev) (f : Hollow → Hollow) : (s.onHollow f).power = s.power := rfl
@[simp] theorem Dev.onHollow_log (s : Dev) (f : Hollow → Hollow) : (s.onHollow f).log = s.log := rfl
@[simp] theorem Dev.onHollow_nv (s : Dev) (f : Hollow → Hollow) : (s.onHollow f).nv = s.nv := rfl
@[simp] theorem Dev.onHollow_regs (s : Dev) (f : Hollow → Hollow) : (s.onHollow f).regs = s.regs := rfl
@[simp] theorem Dev.onPower_now (s : Dev) (f : Power → Power) : (s.onPower f).now = s.now := rfl
@[simp] theorem Dev.onPower_fresh (s : Dev) (f : Power → Power) : (s.onPower f).fresh = s.fresh := rfl
@[simp] theorem Dev.onPower_fq (s : Dev) (f : Power → Power) : (s.onPower f).fq = s.fq := rfl
@[simp] theorem Dev.onPower_waits (s : Dev) (f : Power → Power) : (s.onPower f).waits = s.waits := rfl
@[simp] theorem Dev.onPower_bulk (s : Dev) (f : Power → Power) : (s.onPower f).bulk = s.bulk := rfl
@[simp] theorem Dev.onPower_done (s : Dev) (f : Power → Power) : (s.onPower f).done = s.done := rfl
@[simp] theorem Dev.onPower_raised (s : Dev) (f : Power → Power) : (s.onPower f).raised = s.raised := rfl
@[simp] theorem Dev.onPower_loading (s : Dev) (f : Power → Power) : (s.onPower f).loading = s.loading := rfl
@[simp] theorem Dev.onPower_tb (s : Dev) (f : Power → Power) : (s.onPower f).tb = s.tb := rfl
@[simp] theorem Dev.onPower_convs (s : Dev) (f : Power → Power) : (s.onPower f).convs = s.convs := rfl
@[simp] theorem Dev.onPower_loops (s : Dev) (f : Power → Power) : (s.onPower f).loops = s.loops := rfl
@[simp] theorem Dev.onPower_trigs (s : Dev) (f : Power → Power) : (s.onPower f).trigs = s.trigs := rfl
@[simp] theorem Dev.onPower_lePeak (s : Dev) (f : Power → Power) : (s.onPower f).lePeak = s.lePeak := rfl
@[simp] theorem Dev.onPower_zones (s : Dev) (f : Power → Power) : (s.onPower f).zones = s.zones := rfl
@[simp] theorem Dev.onPower_dates (s : Dev) (f : Power → Power) : (s.onPower f).dates = s.dates := rfl
@[simp] theorem Dev.onPower_pwms (s : Dev) (f : Power → Power) : (s.onPower f).pwms = s.pwms := rfl
@[simp] theorem Dev.onPower_trips (s : Dev) (f : Power → Power) : (s.onPower f).trips = s.trips := rfl
@[simp] theorem Dev.onPower_valves (s : Dev) (f : Power → Power) : (s.onPower f).valves = s.valves := rfl
@[simp] theorem Dev.onPower_pairs (s : Dev) (f : Power → Power) : (s.onPower f).pairs = s.pairs := rfl
@[simp] theorem Dev.onPower_vboost (s : Dev) (f : Power → Power) : (s.onPower f).vboost = s.vboost := rfl
@[simp] theorem Dev.onPower_vboostAt (s : Dev) (f : Power → Power) : (s.onPower f).vboostAt = s.vboostAt := rfl
@[simp] theorem Dev.onPower_fans (s : Dev) (f : Power → Power) : (s.onPower f).fans = s.fans := rfl
@[simp] theorem Dev.onPower_dampers (s : Dev) (f : Power → Power) : (s.onPower f).dampers = s.dampers := rfl
@[simp] theorem Dev.onPower_panel (s : Dev) (f : Power → Power) : (s.onPower f).panel = s.panel := rfl
@[simp] theorem Dev.onPower_vports (s : Dev) (f : Power → Power) : (s.onPower f).vports = s.vports := rfl
@[simp] theorem Dev.onPower_bbs (s : Dev) (f : Power → Power) : (s.onPower f).bbs = s.bbs := rfl
@[simp] theorem Dev.onPower_sbs (s : Dev) (f : Power → Power) : (s.onPower f).sbs = s.sbs := rfl
@[simp] theorem Dev.onPower_hollow (s : Dev) (f : Power → Power) : (s.onPower f).hollow = s.hollow := rfl
@[simp] theorem Dev.onPower_power (s : Dev) (f : Power → Power) : (s.onPower f).power = f s.power := rfl
@[simp] theorem Dev.onPower_log (s : Dev) (f : Power → Power) : (s.onPower f).log = s.log := rfl
@[simp] theorem Dev.onPower_nv (s : Dev) (f : Power → Power) : (s.onPower f).nv = s.nv := rfl
@[simp] theorem Dev.onPower_regs (s : Dev) (f : Power → Power) : (s.onPower f).regs = s.regs := rfl
@[simp] theorem Dev.onLog_now (s : Dev) (f : Log → Log) : (s.onLog f).now = s.now := rfl
@[simp] theorem Dev.onLog_fresh (s : Dev) (f : Log → Log) : (s.onLog f).fresh = s.fresh := rfl
@[simp] theorem Dev.onLog_fq (s : Dev) (f : Log → Log) : (s.onLog f).fq = s.fq := rfl
@[simp] theorem Dev.onLog_waits (s : Dev) (f : Log → Log) : (s.onLog f).waits = s.waits := rfl
@[simp] theorem Dev.onLog_bulk (s : Dev) (f : Log → Log) : (s.onLog f).bulk = s.bulk := rfl
@[simp] theorem Dev.onLog_done (s : Dev) (f : Log → Log) : (s.onLog f).done = s.done := rfl
@[simp] theorem Dev.onLog_raised (s : Dev) (f : Log → Log) : (s.onLog f).raised = s.raised := rfl
@[simp] theorem Dev.onLog_loading (s : Dev) (f : Log → Log) : (s.onLog f).loading = s.loading := rfl
@[simp] theorem Dev.onLog_tb (s : Dev) (f : Log → Log) : (s.onLog f).tb = s.tb := rfl
@[simp] theorem Dev.onLog_convs (s : Dev) (f : Log → Log) : (s.onLog f).convs = s.convs := rfl
@[simp] theorem Dev.onLog_loops (s : Dev) (f : Log → Log) : (s.onLog f).loops = s.loops := rfl
@[simp] theorem Dev.onLog_trigs (s : Dev) (f : Log → Log) : (s.onLog f).trigs = s.trigs := rfl
@[simp] theorem Dev.onLog_lePeak (s : Dev) (f : Log → Log) : (s.onLog f).lePeak = s.lePeak := rfl
@[simp] theorem Dev.onLog_zones (s : Dev) (f : Log → Log) : (s.onLog f).zones = s.zones := rfl
@[simp] theorem Dev.onLog_dates (s : Dev) (f : Log → Log) : (s.onLog f).dates = s.dates := rfl
@[simp] theorem Dev.onLog_pwms (s : Dev) (f : Log → Log) : (s.onLog f).pwms = s.pwms := rfl
@[simp] theorem Dev.onLog_trips (s : Dev) (f : Log → Log) : (s.onLog f).trips = s.trips := rfl
@[simp] theorem Dev.onLog_valves (s : Dev) (f : Log → Log) : (s.onLog f).valves = s.valves := rfl
@[simp] theorem Dev.onLog_pairs (s : Dev) (f : Log → Log) : (s.onLog f).pairs = s.pairs := rfl
@[simp] theorem Dev.onLog_vboost (s : Dev) (f : Log → Log) : (s.onLog f).vboost = s.vboost := rfl
@[simp] theorem Dev.onLog_vboostAt (s : Dev) (f : Log → Log) : (s.onLog f).vboostAt = s.vboostAt := rfl
@[simp] theorem Dev.onLog_fans (s : Dev) (f : Log → Log) : (s.onLog f).fans = s.fans := rfl
@[simp] theorem Dev.onLog_dampers (s : Dev) (f : Log → Log) : (s.onLog f).dampers = s.dampers := rfl
@[simp] theorem Dev.onLog_panel (s : Dev) (f : Log → Log) : (s.onLog f).panel = s.panel := rfl
@[simp] theorem Dev.onLog_vports (s : Dev) (f : Log → Log) : (s.onLog f).vports = s.vports := rfl
@[simp] theorem Dev.onLog_bbs (s : Dev) (f : Log → Log) : (s.onLog f).bbs = s.bbs := rfl
@[simp] theorem Dev.onLog_sbs (s : Dev) (f : Log → Log) : (s.onLog f).sbs = s.sbs := rfl
@[simp] theorem Dev.onLog_hollow (s : Dev) (f : Log → Log) : (s.onLog f).hollow = s.hollow := rfl
@[simp] theorem Dev.onLog_power (s : Dev) (f : Log → Log) : (s.onLog f).power = s.power := rfl
@[simp] theorem Dev.onLog_log (s : Dev) (f : Log → Log) : (s.onLog f).log = f s.log := rfl
@[simp] theorem Dev.onLog_nv (s : Dev) (f : Log → Log) : (s.onLog f).nv = s.nv := rfl
@[simp] theorem Dev.onLog_regs (s : Dev) (f : Log → Log) : (s.onLog f).regs = s.regs := rfl
@[simp] theorem Dev.onNv_now (s : Dev) (f : Nv → Nv) : (s.onNv f).now = s.now := rfl
@[simp] theorem Dev.onNv_fresh (s : Dev) (f : Nv → Nv) : (s.onNv f).fresh = s.fresh := rfl
@[simp] theorem Dev.onNv_fq (s : Dev) (f : Nv → Nv) : (s.onNv f).fq = s.fq := rfl
@[simp] theorem Dev.onNv_waits (s : Dev) (f : Nv → Nv) : (s.onNv f).waits = s.waits := rfl
@[simp] theorem Dev.onNv_bulk (s : Dev) (f : Nv → Nv) : (s.onNv f).bulk = s.bulk := rfl
@[simp] theorem Dev.onNv_done (s : Dev) (f : Nv → Nv) : (s.onNv f).done = s.done := rfl
@[simp] theorem Dev.onNv_raised (s : Dev) (f : Nv → Nv) : (s.onNv f).raised = s.raised := rfl
@[simp] theorem Dev.onNv_loading (s : Dev) (f : Nv → Nv) : (s.onNv f).loading = s.loading := rfl
@[simp] theorem Dev.onNv_tb (s : Dev) (f : Nv → Nv) : (s.onNv f).tb = s.tb := rfl
@[simp] theorem Dev.onNv_convs (s : Dev) (f : Nv → Nv) : (s.onNv f).convs = s.convs := rfl
@[simp] theorem Dev.onNv_loops (s : Dev) (f : Nv → Nv) : (s.onNv f).loops = s.loops := rfl
@[simp] theorem Dev.onNv_trigs (s : Dev) (f : Nv → Nv) : (s.onNv f).trigs = s.trigs := rfl
@[simp] theorem Dev.onNv_lePeak (s : Dev) (f : Nv → Nv) : (s.onNv f).lePeak = s.lePeak := rfl
@[simp] theorem Dev.onNv_zones (s : Dev) (f : Nv → Nv) : (s.onNv f).zones = s.zones := rfl
@[simp] theorem Dev.onNv_dates (s : Dev) (f : Nv → Nv) : (s.onNv f).dates = s.dates := rfl
@[simp] theorem Dev.onNv_pwms (s : Dev) (f : Nv → Nv) : (s.onNv f).pwms = s.pwms := rfl
@[simp] theorem Dev.onNv_trips (s : Dev) (f : Nv → Nv) : (s.onNv f).trips = s.trips := rfl
@[simp] theorem Dev.onNv_valves (s : Dev) (f : Nv → Nv) : (s.onNv f).valves = s.valves := rfl
@[simp] theorem Dev.onNv_pairs (s : Dev) (f : Nv → Nv) : (s.onNv f).pairs = s.pairs := rfl
@[simp] theorem Dev.onNv_vboost (s : Dev) (f : Nv → Nv) : (s.onNv f).vboost = s.vboost := rfl
@[simp] theorem Dev.onNv_vboostAt (s : Dev) (f : Nv → Nv) : (s.onNv f).vboostAt = s.vboostAt := rfl
@[simp] theorem Dev.onNv_fans (s : Dev) (f : Nv → Nv) : (s.onNv f).fans = s.fans := rfl
@[simp] theorem Dev.onNv_dampers (s : Dev) (f : Nv → Nv) : (s.onNv f).dampers = s.dampers := rfl
@[simp] theorem Dev.onNv_panel (s : Dev) (f : Nv → Nv) : (s.onNv f).panel = s.panel := rfl
@[simp] theorem Dev.onNv_vports (s : Dev) (f : Nv → Nv) : (s.onNv f).vports = s.vports := rfl
@[simp] theorem Dev.onNv_bbs (s : Dev) (f : Nv → Nv) : (s.onNv f).bbs = s.bbs := rfl
@[simp] theorem Dev.onNv_sbs (s : Dev) (f : Nv → Nv) : (s.onNv f).sbs = s.sbs := rfl
@[simp] theorem Dev.onNv_hollow (s : Dev) (f : Nv → Nv) : (s.onNv f).hollow = s.hollow := rfl
@[simp] theorem Dev.onNv_power (s : Dev) (f : Nv → Nv) : (s.onNv f).power = s.power := rfl
@[simp] theorem Dev.onNv_log (s : Dev) (f : Nv → Nv) : (s.onNv f).log = s.log := rfl
@[simp] theorem Dev.onNv_nv (s : Dev) (f : Nv → Nv) : (s.onNv f).nv = f s.nv := rfl
@[simp] theorem Dev.onNv_regs (s : Dev) (f : Nv → Nv) : (s.onNv f).regs = s.regs := rfl
@[simp] theorem Dev.complete_now (s : Dev) (d : Desc) (st : Status) (res : DWord) (bulk : List (Nat × List Byte)) :
    (s.complete d st res bulk).now = s.now := rfl
@[simp] theorem Dev.complete_fresh (s : Dev) (d : Desc) (st : Status) (res : DWord) (bulk : List (Nat × List Byte)) :
    (s.complete d st res bulk).fresh = s.fresh := rfl
@[simp] theorem Dev.complete_fq (s : Dev) (d : Desc) (st : Status) (res : DWord) (bulk : List (Nat × List Byte)) :
    (s.complete d st res bulk).fq = s.fq := rfl
@[simp] theorem Dev.complete_waits (s : Dev) (d : Desc) (st : Status) (res : DWord) (bulk : List (Nat × List Byte)) :
    (s.complete d st res bulk).waits = s.waits := rfl
@[simp] theorem Dev.complete_bulk (s : Dev) (d : Desc) (st : Status) (res : DWord) (bulk : List (Nat × List Byte)) :
    (s.complete d st res bulk).bulk = s.bulk := rfl
@[simp] theorem Dev.complete_raised (s : Dev) (d : Desc) (st : Status) (res : DWord) (bulk : List (Nat × List Byte)) :
    (s.complete d st res bulk).raised = s.raised := rfl
@[simp] theorem Dev.complete_loading (s : Dev) (d : Desc) (st : Status) (res : DWord) (bulk : List (Nat × List Byte)) :
    (s.complete d st res bulk).loading = s.loading := rfl
@[simp] theorem Dev.complete_tb (s : Dev) (d : Desc) (st : Status) (res : DWord) (bulk : List (Nat × List Byte)) :
    (s.complete d st res bulk).tb = s.tb := rfl
@[simp] theorem Dev.complete_convs (s : Dev) (d : Desc) (st : Status) (res : DWord) (bulk : List (Nat × List Byte)) :
    (s.complete d st res bulk).convs = s.convs := rfl
@[simp] theorem Dev.complete_loops (s : Dev) (d : Desc) (st : Status) (res : DWord) (bulk : List (Nat × List Byte)) :
    (s.complete d st res bulk).loops = s.loops := rfl
@[simp] theorem Dev.complete_trigs (s : Dev) (d : Desc) (st : Status) (res : DWord) (bulk : List (Nat × List Byte)) :
    (s.complete d st res bulk).trigs = s.trigs := rfl
@[simp] theorem Dev.complete_lePeak (s : Dev) (d : Desc) (st : Status) (res : DWord) (bulk : List (Nat × List Byte)) :
    (s.complete d st res bulk).lePeak = s.lePeak := rfl
@[simp] theorem Dev.complete_zones (s : Dev) (d : Desc) (st : Status) (res : DWord) (bulk : List (Nat × List Byte)) :
    (s.complete d st res bulk).zones = s.zones := rfl
@[simp] theorem Dev.complete_dates (s : Dev) (d : Desc) (st : Status) (res : DWord) (bulk : List (Nat × List Byte)) :
    (s.complete d st res bulk).dates = s.dates := rfl
@[simp] theorem Dev.complete_pwms (s : Dev) (d : Desc) (st : Status) (res : DWord) (bulk : List (Nat × List Byte)) :
    (s.complete d st res bulk).pwms = s.pwms := rfl
@[simp] theorem Dev.complete_trips (s : Dev) (d : Desc) (st : Status) (res : DWord) (bulk : List (Nat × List Byte)) :
    (s.complete d st res bulk).trips = s.trips := rfl
@[simp] theorem Dev.complete_valves (s : Dev) (d : Desc) (st : Status) (res : DWord) (bulk : List (Nat × List Byte)) :
    (s.complete d st res bulk).valves = s.valves := rfl
@[simp] theorem Dev.complete_pairs (s : Dev) (d : Desc) (st : Status) (res : DWord) (bulk : List (Nat × List Byte)) :
    (s.complete d st res bulk).pairs = s.pairs := rfl
@[simp] theorem Dev.complete_vboost (s : Dev) (d : Desc) (st : Status) (res : DWord) (bulk : List (Nat × List Byte)) :
    (s.complete d st res bulk).vboost = s.vboost := rfl
@[simp] theorem Dev.complete_vboostAt (s : Dev) (d : Desc) (st : Status) (res : DWord) (bulk : List (Nat × List Byte)) :
    (s.complete d st res bulk).vboostAt = s.vboostAt := rfl
@[simp] theorem Dev.complete_fans (s : Dev) (d : Desc) (st : Status) (res : DWord) (bulk : List (Nat × List Byte)) :
    (s.complete d st res bulk).fans = s.fans := rfl
@[simp] theorem Dev.complete_dampers (s : Dev) (d : Desc) (st : Status) (res : DWord) (bulk : List (Nat × List Byte)) :
    (s.complete d st res bulk).dampers = s.dampers := rfl
@[simp] theorem Dev.complete_panel (s : Dev) (d : Desc) (st : Status) (res : DWord) (bulk : List (Nat × List Byte)) :
    (s.complete d st res bulk).panel = s.panel := rfl
@[simp] theorem Dev.complete_vports (s : Dev) (d : Desc) (st : Status) (res : DWord) (bulk : List (Nat × List Byte)) :
    (s.complete d st res bulk).vports = s.vports := rfl
@[simp] theorem Dev.complete_bbs (s : Dev) (d : Desc) (st : Status) (res : DWord) (bulk : List (Nat × List Byte)) :
    (s.complete d st res bulk).bbs = s.bbs := rfl
@[simp] theorem Dev.complete_sbs (s : Dev) (d : Desc) (st : Status) (res : DWord) (bulk : List (Nat × List Byte)) :
    (s.complete d st res bulk).sbs = s.sbs := rfl
@[simp] theorem Dev.complete_hollow (s : Dev) (d : Desc) (st : Status) (res : DWord) (bulk : List (Nat × List Byte)) :
    (s.complete d st res bulk).hollow = s.hollow := rfl
@[simp] theorem Dev.complete_power (s : Dev) (d : Desc) (st : Status) (res : DWord) (bulk : List (Nat × List Byte)) :
    (s.complete d st res bulk).power = s.power := rfl
@[simp] theorem Dev.complete_log (s : Dev) (d : Desc) (st : Status) (res : DWord) (bulk : List (Nat × List Byte)) :
    (s.complete d st res bulk).log = s.log := rfl
@[simp] theorem Dev.complete_nv (s : Dev) (d : Desc) (st : Status) (res : DWord) (bulk : List (Nat × List Byte)) :
    (s.complete d st res bulk).nv = s.nv := rfl
@[simp] theorem Dev.complete_regs (s : Dev) (d : Desc) (st : Status) (res : DWord) (bulk : List (Nat × List Byte)) :
    (s.complete d st res bulk).regs = s.regs := rfl
@[simp] theorem Dev.raise_now (s : Dev) (code : BitVec 16) (src : Nat) (handle arg : Word) (lost : Nat) :
    (s.raise code src handle arg lost).now = s.now := rfl
@[simp] theorem Dev.raise_fresh (s : Dev) (code : BitVec 16) (src : Nat) (handle arg : Word) (lost : Nat) :
    (s.raise code src handle arg lost).fresh = s.fresh := rfl
@[simp] theorem Dev.raise_fq (s : Dev) (code : BitVec 16) (src : Nat) (handle arg : Word) (lost : Nat) :
    (s.raise code src handle arg lost).fq = s.fq := rfl
@[simp] theorem Dev.raise_waits (s : Dev) (code : BitVec 16) (src : Nat) (handle arg : Word) (lost : Nat) :
    (s.raise code src handle arg lost).waits = s.waits := rfl
@[simp] theorem Dev.raise_bulk (s : Dev) (code : BitVec 16) (src : Nat) (handle arg : Word) (lost : Nat) :
    (s.raise code src handle arg lost).bulk = s.bulk := rfl
@[simp] theorem Dev.raise_done (s : Dev) (code : BitVec 16) (src : Nat) (handle arg : Word) (lost : Nat) :
    (s.raise code src handle arg lost).done = s.done := rfl
@[simp] theorem Dev.raise_loading (s : Dev) (code : BitVec 16) (src : Nat) (handle arg : Word) (lost : Nat) :
    (s.raise code src handle arg lost).loading = s.loading := rfl
@[simp] theorem Dev.raise_tb (s : Dev) (code : BitVec 16) (src : Nat) (handle arg : Word) (lost : Nat) :
    (s.raise code src handle arg lost).tb = s.tb := rfl
@[simp] theorem Dev.raise_convs (s : Dev) (code : BitVec 16) (src : Nat) (handle arg : Word) (lost : Nat) :
    (s.raise code src handle arg lost).convs = s.convs := rfl
@[simp] theorem Dev.raise_loops (s : Dev) (code : BitVec 16) (src : Nat) (handle arg : Word) (lost : Nat) :
    (s.raise code src handle arg lost).loops = s.loops := rfl
@[simp] theorem Dev.raise_trigs (s : Dev) (code : BitVec 16) (src : Nat) (handle arg : Word) (lost : Nat) :
    (s.raise code src handle arg lost).trigs = s.trigs := rfl
@[simp] theorem Dev.raise_lePeak (s : Dev) (code : BitVec 16) (src : Nat) (handle arg : Word) (lost : Nat) :
    (s.raise code src handle arg lost).lePeak = s.lePeak := rfl
@[simp] theorem Dev.raise_zones (s : Dev) (code : BitVec 16) (src : Nat) (handle arg : Word) (lost : Nat) :
    (s.raise code src handle arg lost).zones = s.zones := rfl
@[simp] theorem Dev.raise_dates (s : Dev) (code : BitVec 16) (src : Nat) (handle arg : Word) (lost : Nat) :
    (s.raise code src handle arg lost).dates = s.dates := rfl
@[simp] theorem Dev.raise_pwms (s : Dev) (code : BitVec 16) (src : Nat) (handle arg : Word) (lost : Nat) :
    (s.raise code src handle arg lost).pwms = s.pwms := rfl
@[simp] theorem Dev.raise_trips (s : Dev) (code : BitVec 16) (src : Nat) (handle arg : Word) (lost : Nat) :
    (s.raise code src handle arg lost).trips = s.trips := rfl
@[simp] theorem Dev.raise_valves (s : Dev) (code : BitVec 16) (src : Nat) (handle arg : Word) (lost : Nat) :
    (s.raise code src handle arg lost).valves = s.valves := rfl
@[simp] theorem Dev.raise_pairs (s : Dev) (code : BitVec 16) (src : Nat) (handle arg : Word) (lost : Nat) :
    (s.raise code src handle arg lost).pairs = s.pairs := rfl
@[simp] theorem Dev.raise_vboost (s : Dev) (code : BitVec 16) (src : Nat) (handle arg : Word) (lost : Nat) :
    (s.raise code src handle arg lost).vboost = s.vboost := rfl
@[simp] theorem Dev.raise_vboostAt (s : Dev) (code : BitVec 16) (src : Nat) (handle arg : Word) (lost : Nat) :
    (s.raise code src handle arg lost).vboostAt = s.vboostAt := rfl
@[simp] theorem Dev.raise_fans (s : Dev) (code : BitVec 16) (src : Nat) (handle arg : Word) (lost : Nat) :
    (s.raise code src handle arg lost).fans = s.fans := rfl
@[simp] theorem Dev.raise_dampers (s : Dev) (code : BitVec 16) (src : Nat) (handle arg : Word) (lost : Nat) :
    (s.raise code src handle arg lost).dampers = s.dampers := rfl
@[simp] theorem Dev.raise_panel (s : Dev) (code : BitVec 16) (src : Nat) (handle arg : Word) (lost : Nat) :
    (s.raise code src handle arg lost).panel = s.panel := rfl
@[simp] theorem Dev.raise_vports (s : Dev) (code : BitVec 16) (src : Nat) (handle arg : Word) (lost : Nat) :
    (s.raise code src handle arg lost).vports = s.vports := rfl
@[simp] theorem Dev.raise_bbs (s : Dev) (code : BitVec 16) (src : Nat) (handle arg : Word) (lost : Nat) :
    (s.raise code src handle arg lost).bbs = s.bbs := rfl
@[simp] theorem Dev.raise_sbs (s : Dev) (code : BitVec 16) (src : Nat) (handle arg : Word) (lost : Nat) :
    (s.raise code src handle arg lost).sbs = s.sbs := rfl
@[simp] theorem Dev.raise_hollow (s : Dev) (code : BitVec 16) (src : Nat) (handle arg : Word) (lost : Nat) :
    (s.raise code src handle arg lost).hollow = s.hollow := rfl
@[simp] theorem Dev.raise_power (s : Dev) (code : BitVec 16) (src : Nat) (handle arg : Word) (lost : Nat) :
    (s.raise code src handle arg lost).power = s.power := rfl
@[simp] theorem Dev.raise_log (s : Dev) (code : BitVec 16) (src : Nat) (handle arg : Word) (lost : Nat) :
    (s.raise code src handle arg lost).log = s.log := rfl
@[simp] theorem Dev.raise_nv (s : Dev) (code : BitVec 16) (src : Nat) (handle arg : Word) (lost : Nat) :
    (s.raise code src handle arg lost).nv = s.nv := rfl
@[simp] theorem Dev.raise_regs (s : Dev) (code : BitVec 16) (src : Nat) (handle arg : Word) (lost : Nat) :
    (s.raise code src handle arg lost).regs = s.regs := rfl
@[simp] theorem Dev.logPut_now (s : Dev) (o : Occ) : (s.logPut o).1.now = s.now := rfl
@[simp] theorem Dev.logPut_fresh (s : Dev) (o : Occ) : (s.logPut o).1.fresh = s.fresh := rfl
@[simp] theorem Dev.logPut_fq (s : Dev) (o : Occ) : (s.logPut o).1.fq = s.fq := rfl
@[simp] theorem Dev.logPut_waits (s : Dev) (o : Occ) : (s.logPut o).1.waits = s.waits := rfl
@[simp] theorem Dev.logPut_bulk (s : Dev) (o : Occ) : (s.logPut o).1.bulk = s.bulk := rfl
@[simp] theorem Dev.logPut_done (s : Dev) (o : Occ) : (s.logPut o).1.done = s.done := rfl
@[simp] theorem Dev.logPut_raised (s : Dev) (o : Occ) : (s.logPut o).1.raised = s.raised := rfl
@[simp] theorem Dev.logPut_loading (s : Dev) (o : Occ) : (s.logPut o).1.loading = s.loading := rfl
@[simp] theorem Dev.logPut_tb (s : Dev) (o : Occ) : (s.logPut o).1.tb = s.tb := rfl
@[simp] theorem Dev.logPut_convs (s : Dev) (o : Occ) : (s.logPut o).1.convs = s.convs := rfl
@[simp] theorem Dev.logPut_loops (s : Dev) (o : Occ) : (s.logPut o).1.loops = s.loops := rfl
@[simp] theorem Dev.logPut_trigs (s : Dev) (o : Occ) : (s.logPut o).1.trigs = s.trigs := rfl
@[simp] theorem Dev.logPut_lePeak (s : Dev) (o : Occ) : (s.logPut o).1.lePeak = s.lePeak := rfl
@[simp] theorem Dev.logPut_zones (s : Dev) (o : Occ) : (s.logPut o).1.zones = s.zones := rfl
@[simp] theorem Dev.logPut_dates (s : Dev) (o : Occ) : (s.logPut o).1.dates = s.dates := rfl
@[simp] theorem Dev.logPut_pwms (s : Dev) (o : Occ) : (s.logPut o).1.pwms = s.pwms := rfl
@[simp] theorem Dev.logPut_trips (s : Dev) (o : Occ) : (s.logPut o).1.trips = s.trips := rfl
@[simp] theorem Dev.logPut_valves (s : Dev) (o : Occ) : (s.logPut o).1.valves = s.valves := rfl
@[simp] theorem Dev.logPut_pairs (s : Dev) (o : Occ) : (s.logPut o).1.pairs = s.pairs := rfl
@[simp] theorem Dev.logPut_vboost (s : Dev) (o : Occ) : (s.logPut o).1.vboost = s.vboost := rfl
@[simp] theorem Dev.logPut_vboostAt (s : Dev) (o : Occ) : (s.logPut o).1.vboostAt = s.vboostAt := rfl
@[simp] theorem Dev.logPut_fans (s : Dev) (o : Occ) : (s.logPut o).1.fans = s.fans := rfl
@[simp] theorem Dev.logPut_dampers (s : Dev) (o : Occ) : (s.logPut o).1.dampers = s.dampers := rfl
@[simp] theorem Dev.logPut_panel (s : Dev) (o : Occ) : (s.logPut o).1.panel = s.panel := rfl
@[simp] theorem Dev.logPut_vports (s : Dev) (o : Occ) : (s.logPut o).1.vports = s.vports := rfl
@[simp] theorem Dev.logPut_bbs (s : Dev) (o : Occ) : (s.logPut o).1.bbs = s.bbs := rfl
@[simp] theorem Dev.logPut_sbs (s : Dev) (o : Occ) : (s.logPut o).1.sbs = s.sbs := rfl
@[simp] theorem Dev.logPut_hollow (s : Dev) (o : Occ) : (s.logPut o).1.hollow = s.hollow := rfl
@[simp] theorem Dev.logPut_power (s : Dev) (o : Occ) : (s.logPut o).1.power = s.power := rfl
@[simp] theorem Dev.logPut_nv (s : Dev) (o : Occ) : (s.logPut o).1.nv = s.nv := rfl
@[simp] theorem Dev.logPut_regs (s : Dev) (o : Occ) : (s.logPut o).1.regs = s.regs := rfl
@[simp] theorem Dev.note_now (s : Dev) (sev : Sev) (f : Nat) (code : BitVec 11) (arg : Word) : (s.note sev f code arg).now = s.now := rfl
@[simp] theorem Dev.note_fresh (s : Dev) (sev : Sev) (f : Nat) (code : BitVec 11) (arg : Word) :
    (s.note sev f code arg).fresh = s.fresh := rfl
@[simp] theorem Dev.note_fq (s : Dev) (sev : Sev) (f : Nat) (code : BitVec 11) (arg : Word) : (s.note sev f code arg).fq = s.fq := rfl
@[simp] theorem Dev.note_waits (s : Dev) (sev : Sev) (f : Nat) (code : BitVec 11) (arg : Word) :
    (s.note sev f code arg).waits = s.waits := rfl
@[simp] theorem Dev.note_bulk (s : Dev) (sev : Sev) (f : Nat) (code : BitVec 11) (arg : Word) : (s.note sev f code arg).bulk = s.bulk := rfl
@[simp] theorem Dev.note_done (s : Dev) (sev : Sev) (f : Nat) (code : BitVec 11) (arg : Word) : (s.note sev f code arg).done = s.done := rfl
@[simp] theorem Dev.note_raised (s : Dev) (sev : Sev) (f : Nat) (code : BitVec 11) (arg : Word) :
    (s.note sev f code arg).raised = s.raised := rfl
@[simp] theorem Dev.note_loading (s : Dev) (sev : Sev) (f : Nat) (code : BitVec 11) (arg : Word) :
    (s.note sev f code arg).loading = s.loading := rfl
@[simp] theorem Dev.note_tb (s : Dev) (sev : Sev) (f : Nat) (code : BitVec 11) (arg : Word) : (s.note sev f code arg).tb = s.tb := rfl
@[simp] theorem Dev.note_convs (s : Dev) (sev : Sev) (f : Nat) (code : BitVec 11) (arg : Word) :
    (s.note sev f code arg).convs = s.convs := rfl
@[simp] theorem Dev.note_loops (s : Dev) (sev : Sev) (f : Nat) (code : BitVec 11) (arg : Word) :
    (s.note sev f code arg).loops = s.loops := rfl
@[simp] theorem Dev.note_trigs (s : Dev) (sev : Sev) (f : Nat) (code : BitVec 11) (arg : Word) :
    (s.note sev f code arg).trigs = s.trigs := rfl
@[simp] theorem Dev.note_lePeak (s : Dev) (sev : Sev) (f : Nat) (code : BitVec 11) (arg : Word) :
    (s.note sev f code arg).lePeak = s.lePeak := rfl
@[simp] theorem Dev.note_zones (s : Dev) (sev : Sev) (f : Nat) (code : BitVec 11) (arg : Word) :
    (s.note sev f code arg).zones = s.zones := rfl
@[simp] theorem Dev.note_dates (s : Dev) (sev : Sev) (f : Nat) (code : BitVec 11) (arg : Word) :
    (s.note sev f code arg).dates = s.dates := rfl
@[simp] theorem Dev.note_pwms (s : Dev) (sev : Sev) (f : Nat) (code : BitVec 11) (arg : Word) : (s.note sev f code arg).pwms = s.pwms := rfl
@[simp] theorem Dev.note_trips (s : Dev) (sev : Sev) (f : Nat) (code : BitVec 11) (arg : Word) :
    (s.note sev f code arg).trips = s.trips := rfl
@[simp] theorem Dev.note_valves (s : Dev) (sev : Sev) (f : Nat) (code : BitVec 11) (arg : Word) :
    (s.note sev f code arg).valves = s.valves := rfl
@[simp] theorem Dev.note_pairs (s : Dev) (sev : Sev) (f : Nat) (code : BitVec 11) (arg : Word) :
    (s.note sev f code arg).pairs = s.pairs := rfl
@[simp] theorem Dev.note_vboost (s : Dev) (sev : Sev) (f : Nat) (code : BitVec 11) (arg : Word) :
    (s.note sev f code arg).vboost = s.vboost := rfl
@[simp] theorem Dev.note_vboostAt (s : Dev) (sev : Sev) (f : Nat) (code : BitVec 11) (arg : Word) :
    (s.note sev f code arg).vboostAt = s.vboostAt := rfl
@[simp] theorem Dev.note_fans (s : Dev) (sev : Sev) (f : Nat) (code : BitVec 11) (arg : Word) : (s.note sev f code arg).fans = s.fans := rfl
@[simp] theorem Dev.note_dampers (s : Dev) (sev : Sev) (f : Nat) (code : BitVec 11) (arg : Word) :
    (s.note sev f code arg).dampers = s.dampers := rfl
@[simp] theorem Dev.note_panel (s : Dev) (sev : Sev) (f : Nat) (code : BitVec 11) (arg : Word) :
    (s.note sev f code arg).panel = s.panel := rfl
@[simp] theorem Dev.note_vports (s : Dev) (sev : Sev) (f : Nat) (code : BitVec 11) (arg : Word) :
    (s.note sev f code arg).vports = s.vports := rfl
@[simp] theorem Dev.note_bbs (s : Dev) (sev : Sev) (f : Nat) (code : BitVec 11) (arg : Word) : (s.note sev f code arg).bbs = s.bbs := rfl
@[simp] theorem Dev.note_sbs (s : Dev) (sev : Sev) (f : Nat) (code : BitVec 11) (arg : Word) : (s.note sev f code arg).sbs = s.sbs := rfl
@[simp] theorem Dev.note_hollow (s : Dev) (sev : Sev) (f : Nat) (code : BitVec 11) (arg : Word) :
    (s.note sev f code arg).hollow = s.hollow := rfl
@[simp] theorem Dev.note_power (s : Dev) (sev : Sev) (f : Nat) (code : BitVec 11) (arg : Word) :
    (s.note sev f code arg).power = s.power := rfl
@[simp] theorem Dev.note_nv (s : Dev) (sev : Sev) (f : Nat) (code : BitVec 11) (arg : Word) : (s.note sev f code arg).nv = s.nv := rfl
@[simp] theorem Dev.note_regs (s : Dev) (sev : Sev) (f : Nat) (code : BitVec 11) (arg : Word) : (s.note sev f code arg).regs = s.regs := rfl
@[simp] theorem Dev.endErr_now (s : Dev) (src : Word) : (s.endErr src).now = s.now := rfl
@[simp] theorem Dev.endErr_fresh (s : Dev) (src : Word) : (s.endErr src).fresh = s.fresh := rfl
@[simp] theorem Dev.endErr_fq (s : Dev) (src : Word) : (s.endErr src).fq = s.fq := rfl
@[simp] theorem Dev.endErr_waits (s : Dev) (src : Word) : (s.endErr src).waits = s.waits := rfl
@[simp] theorem Dev.endErr_bulk (s : Dev) (src : Word) : (s.endErr src).bulk = s.bulk := rfl
@[simp] theorem Dev.endErr_done (s : Dev) (src : Word) : (s.endErr src).done = s.done := rfl
@[simp] theorem Dev.endErr_raised (s : Dev) (src : Word) : (s.endErr src).raised = s.raised := rfl
@[simp] theorem Dev.endErr_loading (s : Dev) (src : Word) : (s.endErr src).loading = s.loading := rfl
@[simp] theorem Dev.endErr_tb (s : Dev) (src : Word) : (s.endErr src).tb = s.tb := rfl
@[simp] theorem Dev.endErr_convs (s : Dev) (src : Word) : (s.endErr src).convs = s.convs := rfl
@[simp] theorem Dev.endErr_loops (s : Dev) (src : Word) : (s.endErr src).loops = s.loops := rfl
@[simp] theorem Dev.endErr_trigs (s : Dev) (src : Word) : (s.endErr src).trigs = s.trigs := rfl
@[simp] theorem Dev.endErr_lePeak (s : Dev) (src : Word) : (s.endErr src).lePeak = s.lePeak := rfl
@[simp] theorem Dev.endErr_zones (s : Dev) (src : Word) : (s.endErr src).zones = s.zones := rfl
@[simp] theorem Dev.endErr_dates (s : Dev) (src : Word) : (s.endErr src).dates = s.dates := rfl
@[simp] theorem Dev.endErr_pwms (s : Dev) (src : Word) : (s.endErr src).pwms = s.pwms := rfl
@[simp] theorem Dev.endErr_trips (s : Dev) (src : Word) : (s.endErr src).trips = s.trips := rfl
@[simp] theorem Dev.endErr_valves (s : Dev) (src : Word) : (s.endErr src).valves = s.valves := rfl
@[simp] theorem Dev.endErr_pairs (s : Dev) (src : Word) : (s.endErr src).pairs = s.pairs := rfl
@[simp] theorem Dev.endErr_vboost (s : Dev) (src : Word) : (s.endErr src).vboost = s.vboost := rfl
@[simp] theorem Dev.endErr_vboostAt (s : Dev) (src : Word) : (s.endErr src).vboostAt = s.vboostAt := rfl
@[simp] theorem Dev.endErr_fans (s : Dev) (src : Word) : (s.endErr src).fans = s.fans := rfl
@[simp] theorem Dev.endErr_dampers (s : Dev) (src : Word) : (s.endErr src).dampers = s.dampers := rfl
@[simp] theorem Dev.endErr_panel (s : Dev) (src : Word) : (s.endErr src).panel = s.panel := rfl
@[simp] theorem Dev.endErr_vports (s : Dev) (src : Word) : (s.endErr src).vports = s.vports := rfl
@[simp] theorem Dev.endErr_bbs (s : Dev) (src : Word) : (s.endErr src).bbs = s.bbs := rfl
@[simp] theorem Dev.endErr_sbs (s : Dev) (src : Word) : (s.endErr src).sbs = s.sbs := rfl
@[simp] theorem Dev.endErr_hollow (s : Dev) (src : Word) : (s.endErr src).hollow = s.hollow := rfl
@[simp] theorem Dev.endErr_power (s : Dev) (src : Word) : (s.endErr src).power = s.power := rfl
@[simp] theorem Dev.endErr_nv (s : Dev) (src : Word) : (s.endErr src).nv = s.nv := rfl
@[simp] theorem Dev.endErr_regs (s : Dev) (src : Word) : (s.endErr src).regs = s.regs := rfl

end Sys2Proof.Machine
end

