-- ==== Sys2Proof/Laws/Ops.lean ====
section
/-! SUPPORT. One law for each shared operation, which says what it does: completions, events, errors, the run of a descriptor. -/

namespace Sys2Proof.Machine

/-! ## Completions and events -/

/-- The completion that answers `d`. -/
def answerOf (d : Desc) (st : Status) (res : DWord) (bulk : List (Nat × List Byte)) : Completion :=
  { sq := d.sq, tag := d.tag, status := st, handle := d.handle, result := res, notify := d.flags.getLsbD 1, member := d.member, bulk }

@[simp] theorem Dev.complete_done (s : Dev) (d : Desc) (st : Status) (res : DWord) (bulk : List (Nat × List Byte)) :
    (s.complete d st res bulk).done = s.done ++ [answerOf d st res bulk] := rfl

/-- The newest completion answers `d`. -/
theorem Dev.complete_last (s : Dev) (d : Desc) (st : Status) (res : DWord) (bulk : List (Nat × List Byte)) :
    (s.complete d st res bulk).done.getLast? = some (answerOf d st res bulk) := by simp

@[simp] theorem Dev.conclude_false (s : Dev) (d : Desc) (st : Status) (res : DWord) (bulk : List (Nat × List Byte)) :
    s.conclude false d st res bulk = s.complete d st res bulk := rfl

/-- Of a descriptor whose completion has been given up only the bulk data go out (02 R74, R76). -/
@[simp] theorem Dev.conclude_ghost (s : Dev) (d : Desc) (st : Status) (res : DWord) : s.conclude true d st res [] = s := rfl

@[simp] theorem Dev.raise_raised (s : Dev) (code : BitVec 16) (src : Nat) (handle arg : Word) (lost : Nat) :
    (s.raise code src handle arg lost).raised = s.raised ++ [{ code, src, handle, arg, time := s.tick, lost }] := rfl

/-! ## Errors -/

/-- Writing a record leaves the error states alone. -/
theorem Log.join_errs (g : Log) (r : LogRec) : (g.join r).errs = g.errs := by
  unfold Log.join; dsimp only; split <;> rfl

theorem logPut_errs (n : Nat) (g : Log) (held : Bool) (t : Word) (o : Occ) : (Log.put n g held t o).1.errs = g.errs := by
  induction n generalizing g o with
  | zero =>
    unfold Log.put Log.dropOne; dsimp only; repeat' split
    all_goals first | rfl | exact Log.join_errs ..
  | succ n ih =>
    unfold Log.put Log.dropOne; dsimp only; repeat' split
    all_goals first | rfl | exact Log.join_errs .. | simp [ih]

/-- An error of a function that is held is not raised (17 R482). -/
theorem Dev.report_held (s : Dev) (src : Word) (f : Nat) (sev : Sev) (code : BitVec 11) (arg : Word) (h : s.held f) :
    s.report src f sev code arg = (s, false) := by simp [Dev.report, h]

/-- The first error of a source starts its handling (17 R482). -/
theorem Dev.report_idle (s : Dev) (src : Word) (f : Nat) (sev : Sev) (code : BitVec 11) (arg : Word) (h : s.held f = false)
    (hi : s.handling src = false) :
    (s.report src f sev code arg).2 = true ∧
      ∃ e, (s.report src f sev code arg).1.log.errs = s.log.errs ++ [e] ∧ e.source = src ∧ e.func = f ∧ e.cls = sev ∧ e.code = code := by
  have hf : s.log.errs.find? (fun e => e.source == src) = none := by
    simp only [Dev.handling, List.any_eq_false] at hi
    exact List.find?_eq_none.2 hi
  have he : ∀ n g hd t o, (Log.put n g hd t o).1.errs = g.errs := logPut_errs
  unfold Dev.report
  simp only [h, Bool.false_eq_true, if_false, hf, Dev.logPut, true_and]
  exact ⟨_, by rw [he], rfl, rfl, rfl, rfl⟩

/-- An error's report changes the log alone (17 R482). -/
theorem Dev.report_shape (s : Dev) (src : Word) (f : Nat) (sev : Sev) (code : BitVec 11) (arg : Word) :
    ∃ g, (s.report src f sev code arg).1 = { s with log := g } := by
  unfold Dev.report; repeat' split
  all_goals exact ⟨_, rfl⟩

@[simp] theorem Dev.report_now (s : Dev) (src : Word) (f : Nat) (sev : Sev) (code : BitVec 11) (arg : Word) :
    (s.report src f sev code arg).1.now = s.now := by
  obtain ⟨_, h⟩ := s.report_shape src f sev code arg; rw [h]
@[simp] theorem Dev.report_fresh (s : Dev) (src : Word) (f : Nat) (sev : Sev) (code : BitVec 11) (arg : Word) :
    (s.report src f sev code arg).1.fresh = s.fresh := by
  obtain ⟨_, h⟩ := s.report_shape src f sev code arg; rw [h]
@[simp] theorem Dev.report_fq (s : Dev) (src : Word) (f : Nat) (sev : Sev) (code : BitVec 11) (arg : Word) :
    (s.report src f sev code arg).1.fq = s.fq := by
  obtain ⟨_, h⟩ := s.report_shape src f sev code arg; rw [h]
@[simp] theorem Dev.report_waits (s : Dev) (src : Word) (f : Nat) (sev : Sev) (code : BitVec 11) (arg : Word) :
    (s.report src f sev code arg).1.waits = s.waits := by
  obtain ⟨_, h⟩ := s.report_shape src f sev code arg; rw [h]
@[simp] theorem Dev.report_bulk (s : Dev) (src : Word) (f : Nat) (sev : Sev) (code : BitVec 11) (arg : Word) :
    (s.report src f sev code arg).1.bulk = s.bulk := by
  obtain ⟨_, h⟩ := s.report_shape src f sev code arg; rw [h]
@[simp] theorem Dev.report_done (s : Dev) (src : Word) (f : Nat) (sev : Sev) (code : BitVec 11) (arg : Word) :
    (s.report src f sev code arg).1.done = s.done := by
  obtain ⟨_, h⟩ := s.report_shape src f sev code arg; rw [h]
@[simp] theorem Dev.report_raised (s : Dev) (src : Word) (f : Nat) (sev : Sev) (code : BitVec 11) (arg : Word) :
    (s.report src f sev code arg).1.raised = s.raised := by
  obtain ⟨_, h⟩ := s.report_shape src f sev code arg; rw [h]
@[simp] theorem Dev.report_loading (s : Dev) (src : Word) (f : Nat) (sev : Sev) (code : BitVec 11) (arg : Word) :
    (s.report src f sev code arg).1.loading = s.loading := by
  obtain ⟨_, h⟩ := s.report_shape src f sev code arg; rw [h]
@[simp] theorem Dev.report_tb (s : Dev) (src : Word) (f : Nat) (sev : Sev) (code : BitVec 11) (arg : Word) :
    (s.report src f sev code arg).1.tb = s.tb := by
  obtain ⟨_, h⟩ := s.report_shape src f sev code arg; rw [h]
@[simp] theorem Dev.report_convs (s : Dev) (src : Word) (f : Nat) (sev : Sev) (code : BitVec 11) (arg : Word) :
    (s.report src f sev code arg).1.convs = s.convs := by
  obtain ⟨_, h⟩ := s.report_shape src f sev code arg; rw [h]
@[simp] theorem Dev.report_loops (s : Dev) (src : Word) (f : Nat) (sev : Sev) (code : BitVec 11) (arg : Word) :
    (s.report src f sev code arg).1.loops = s.loops := by
  obtain ⟨_, h⟩ := s.report_shape src f sev code arg; rw [h]
@[simp] theorem Dev.report_trigs (s : Dev) (src : Word) (f : Nat) (sev : Sev) (code : BitVec 11) (arg : Word) :
    (s.report src f sev code arg).1.trigs = s.trigs := by
  obtain ⟨_, h⟩ := s.report_shape src f sev code arg; rw [h]
@[simp] theorem Dev.report_lePeak (s : Dev) (src : Word) (f : Nat) (sev : Sev) (code : BitVec 11) (arg : Word) :
    (s.report src f sev code arg).1.lePeak = s.lePeak := by
  obtain ⟨_, h⟩ := s.report_shape src f sev code arg; rw [h]
@[simp] theorem Dev.report_zones (s : Dev) (src : Word) (f : Nat) (sev : Sev) (code : BitVec 11) (arg : Word) :
    (s.report src f sev code arg).1.zones = s.zones := by
  obtain ⟨_, h⟩ := s.report_shape src f sev code arg; rw [h]
@[simp] theorem Dev.report_dates (s : Dev) (src : Word) (f : Nat) (sev : Sev) (code : BitVec 11) (arg : Word) :
    (s.report src f sev code arg).1.dates = s.dates := by
  obtain ⟨_, h⟩ := s.report_shape src f sev code arg; rw [h]
@[simp] theorem Dev.report_pwms (s : Dev) (src : Word) (f : Nat) (sev : Sev) (code : BitVec 11) (arg : Word) :
    (s.report src f sev code arg).1.pwms = s.pwms := by
  obtain ⟨_, h⟩ := s.report_shape src f sev code arg; rw [h]
@[simp] theorem Dev.report_trips (s : Dev) (src : Word) (f : Nat) (sev : Sev) (code : BitVec 11) (arg : Word) :
    (s.report src f sev code arg).1.trips = s.trips := by
  obtain ⟨_, h⟩ := s.report_shape src f sev code arg; rw [h]
@[simp] theorem Dev.report_valves (s : Dev) (src : Word) (f : Nat) (sev : Sev) (code : BitVec 11) (arg : Word) :
    (s.report src f sev code arg).1.valves = s.valves := by
  obtain ⟨_, h⟩ := s.report_shape src f sev code arg; rw [h]
@[simp] theorem Dev.report_pairs (s : Dev) (src : Word) (f : Nat) (sev : Sev) (code : BitVec 11) (arg : Word) :
    (s.report src f sev code arg).1.pairs = s.pairs := by
  obtain ⟨_, h⟩ := s.report_shape src f sev code arg; rw [h]
@[simp] theorem Dev.report_vboost (s : Dev) (src : Word) (f : Nat) (sev : Sev) (code : BitVec 11) (arg : Word) :
    (s.report src f sev code arg).1.vboost = s.vboost := by
  obtain ⟨_, h⟩ := s.report_shape src f sev code arg; rw [h]
@[simp] theorem Dev.report_vboostAt (s : Dev) (src : Word) (f : Nat) (sev : Sev) (code : BitVec 11) (arg : Word) :
    (s.report src f sev code arg).1.vboostAt = s.vboostAt := by
  obtain ⟨_, h⟩ := s.report_shape src f sev code arg; rw [h]
@[simp] theorem Dev.report_fans (s : Dev) (src : Word) (f : Nat) (sev : Sev) (code : BitVec 11) (arg : Word) :
    (s.report src f sev code arg).1.fans = s.fans := by
  obtain ⟨_, h⟩ := s.report_shape src f sev code arg; rw [h]
@[simp] theorem Dev.report_dampers (s : Dev) (src : Word) (f : Nat) (sev : Sev) (code : BitVec 11) (arg : Word) :
    (s.report src f sev code arg).1.dampers = s.dampers := by
  obtain ⟨_, h⟩ := s.report_shape src f sev code arg; rw [h]
@[simp] theorem Dev.report_panel (s : Dev) (src : Word) (f : Nat) (sev : Sev) (code : BitVec 11) (arg : Word) :
    (s.report src f sev code arg).1.panel = s.panel := by
  obtain ⟨_, h⟩ := s.report_shape src f sev code arg; rw [h]
@[simp] theorem Dev.report_vports (s : Dev) (src : Word) (f : Nat) (sev : Sev) (code : BitVec 11) (arg : Word) :
    (s.report src f sev code arg).1.vports = s.vports := by
  obtain ⟨_, h⟩ := s.report_shape src f sev code arg; rw [h]
@[simp] theorem Dev.report_bbs (s : Dev) (src : Word) (f : Nat) (sev : Sev) (code : BitVec 11) (arg : Word) :
    (s.report src f sev code arg).1.bbs = s.bbs := by
  obtain ⟨_, h⟩ := s.report_shape src f sev code arg; rw [h]
@[simp] theorem Dev.report_sbs (s : Dev) (src : Word) (f : Nat) (sev : Sev) (code : BitVec 11) (arg : Word) :
    (s.report src f sev code arg).1.sbs = s.sbs := by
  obtain ⟨_, h⟩ := s.report_shape src f sev code arg; rw [h]
@[simp] theorem Dev.report_hollow (s : Dev) (src : Word) (f : Nat) (sev : Sev) (code : BitVec 11) (arg : Word) :
    (s.report src f sev code arg).1.hollow = s.hollow := by
  obtain ⟨_, h⟩ := s.report_shape src f sev code arg; rw [h]
@[simp] theorem Dev.report_power (s : Dev) (src : Word) (f : Nat) (sev : Sev) (code : BitVec 11) (arg : Word) :
    (s.report src f sev code arg).1.power = s.power := by
  obtain ⟨_, h⟩ := s.report_shape src f sev code arg; rw [h]
@[simp] theorem Dev.report_nv (s : Dev) (src : Word) (f : Nat) (sev : Sev) (code : BitVec 11) (arg : Word) :
    (s.report src f sev code arg).1.nv = s.nv := by
  obtain ⟨_, h⟩ := s.report_shape src f sev code arg; rw [h]
@[simp] theorem Dev.report_regs (s : Dev) (src : Word) (f : Nat) (sev : Sev) (code : BitVec 11) (arg : Word) :
    (s.report src f sev code arg).1.regs = s.regs := by
  obtain ⟨_, h⟩ := s.report_shape src f sev code arg; rw [h]

/-- The end of a source's handling. -/
@[simp] theorem Dev.endErr_handling (s : Dev) (src : Word) : (s.endErr src).handling src = false := by
  simp [Dev.endErr, Dev.handling]

/-! ## The end of a descriptor that waits -/

/-- The end of a descriptor adds at most a completion, and changes the log of one that stands in an image (18 R507). -/
theorem Dev.ends_shape (s : Dev) (q : QDesc) (st : Status) (res : DWord) (bulk : List (Nat × List Byte)) :
    ∃ g dn, s.ends q st res bulk = { s with log := g, done := dn } := by
  unfold Dev.ends
  split
  · split
    · exact ⟨_, _, rfl⟩
    · obtain ⟨g, h⟩ := s.report_shape hNv 57 .warn LG_NV_BANK_BAD _
      exact ⟨g, _, h⟩
  · unfold Dev.conclude; repeat' split
    all_goals exact ⟨_, _, rfl⟩

/-- All that the end of a descriptor that waits can do. -/
theorem Dev.finish_shape (s : Dev) (op : Nat) (d : Desc) (st : Status) (res : DWord) (bulk : List (Nat × List Byte)) :
    ∃ g dn, s.finish op d st res bulk =
      { s with waits := s.waits.eraseP (fun q => q.op == op && q.d == d), log := g, done := dn } :=
  Dev.ends_shape _ _ st res bulk

/-- A descriptor whose completion has not been given up leaves the waits and is answered, and nothing else changes. -/
theorem Dev.finish_calm (s : Dev) (op : Nat) (d : Desc) (st : Status) (res : DWord) (bulk : List (Nat × List Byte))
    (h : ∀ q ∈ s.waits, q.ghost = false) :
    s.finish op d st res bulk =
      { s with waits := s.waits.eraseP (fun q => q.op == op && q.d == d), done := s.done ++ [answerOf d st res bulk] } := by
  unfold Dev.finish
  cases hf : s.waits.find? (fun q => q.op == op && q.d == d) with
  | none => rfl
  | some q =>
    have hg := h q (List.mem_of_find?_eq_some hf)
    have hd : q.d = d := by
      have := List.find?_some hf
      simp only [Bool.and_eq_true, beq_iff_eq] at this
      exact this.2
    simp only [Option.getD_some, Dev.ends, hg, Dev.conclude, hd]
    rfl

/-- Of the descriptors that wait, none appears. -/
theorem Dev.finish_waits_sub (s : Dev) (op : Nat) (d : Desc) (st : Status) (res : DWord) (bulk : List (Nat × List Byte)) :
    ∀ q ∈ (s.finish op d st res bulk).waits, q ∈ s.waits := by
  intro q hq
  obtain ⟨_, _, h⟩ := s.finish_shape op d st res bulk
  rw [h] at hq
  exact List.mem_of_mem_eraseP hq

@[simp] theorem Dev.finish_now (s : Dev) (op : Nat) (d : Desc) (st : Status) (res : DWord) (bulk : List (Nat × List Byte)) :
    (s.finish op d st res bulk).now = s.now := by
  obtain ⟨_, _, h⟩ := s.finish_shape op d st res bulk; rw [h]
@[simp] theorem Dev.finish_fresh (s : Dev) (op : Nat) (d : Desc) (st : Status) (res : DWord) (bulk : List (Nat × List Byte)) :
    (s.finish op d st res bulk).fresh = s.fresh := by
  obtain ⟨_, _, h⟩ := s.finish_shape op d st res bulk; rw [h]
@[simp] theorem Dev.finish_fq (s : Dev) (op : Nat) (d : Desc) (st : Status) (res : DWord) (bulk : List (Nat × List Byte)) :
    (s.finish op d st res bulk).fq = s.fq := by
  obtain ⟨_, _, h⟩ := s.finish_shape op d st res bulk; rw [h]
@[simp] theorem Dev.finish_bulk (s : Dev) (op : Nat) (d : Desc) (st : Status) (res : DWord) (bulk : List (Nat × List Byte)) :
    (s.finish op d st res bulk).bulk = s.bulk := by
  obtain ⟨_, _, h⟩ := s.finish_shape op d st res bulk; rw [h]
@[simp] theorem Dev.finish_raised (s : Dev) (op : Nat) (d : Desc) (st : Status) (res : DWord) (bulk : List (Nat × List Byte)) :
    (s.finish op d st res bulk).raised = s.raised := by
  obtain ⟨_, _, h⟩ := s.finish_shape op d st res bulk; rw [h]
@[simp] theorem Dev.finish_loading (s : Dev) (op : Nat) (d : Desc) (st : Status) (res : DWord) (bulk : List (Nat × List Byte)) :
    (s.finish op d st res bulk).loading = s.loading := by
  obtain ⟨_, _, h⟩ := s.finish_shape op d st res bulk; rw [h]
@[simp] theorem Dev.finish_tb (s : Dev) (op : Nat) (d : Desc) (st : Status) (res : DWord) (bulk : List (Nat × List Byte)) :
    (s.finish op d st res bulk).tb = s.tb := by
  obtain ⟨_, _, h⟩ := s.finish_shape op d st res bulk; rw [h]
@[simp] theorem Dev.finish_convs (s : Dev) (op : Nat) (d : Desc) (st : Status) (res : DWord) (bulk : List (Nat × List Byte)) :
    (s.finish op d st res bulk).convs = s.convs := by
  obtain ⟨_, _, h⟩ := s.finish_shape op d st res bulk; rw [h]
@[simp] theorem Dev.finish_loops (s : Dev) (op : Nat) (d : Desc) (st : Status) (res : DWord) (bulk : List (Nat × List Byte)) :
    (s.finish op d st res bulk).loops = s.loops := by
  obtain ⟨_, _, h⟩ := s.finish_shape op d st res bulk; rw [h]
@[simp] theorem Dev.finish_trigs (s : Dev) (op : Nat) (d : Desc) (st : Status) (res : DWord) (bulk : List (Nat × List Byte)) :
    (s.finish op d st res bulk).trigs = s.trigs := by
  obtain ⟨_, _, h⟩ := s.finish_shape op d st res bulk; rw [h]
@[simp] theorem Dev.finish_lePeak (s : Dev) (op : Nat) (d : Desc) (st : Status) (res : DWord) (bulk : List (Nat × List Byte)) :
    (s.finish op d st res bulk).lePeak = s.lePeak := by
  obtain ⟨_, _, h⟩ := s.finish_shape op d st res bulk; rw [h]
@[simp] theorem Dev.finish_zones (s : Dev) (op : Nat) (d : Desc) (st : Status) (res : DWord) (bulk : List (Nat × List Byte)) :
    (s.finish op d st res bulk).zones = s.zones := by
  obtain ⟨_, _, h⟩ := s.finish_shape op d st res bulk; rw [h]
@[simp] theorem Dev.finish_dates (s : Dev) (op : Nat) (d : Desc) (st : Status) (res : DWord) (bulk : List (Nat × List Byte)) :
    (s.finish op d st res bulk).dates = s.dates := by
  obtain ⟨_, _, h⟩ := s.finish_shape op d st res bulk; rw [h]
@[simp] theorem Dev.finish_pwms (s : Dev) (op : Nat) (d : Desc) (st : Status) (res : DWord) (bulk : List (Nat × List Byte)) :
    (s.finish op d st res bulk).pwms = s.pwms := by
  obtain ⟨_, _, h⟩ := s.finish_shape op d st res bulk; rw [h]
@[simp] theorem Dev.finish_trips (s : Dev) (op : Nat) (d : Desc) (st : Status) (res : DWord) (bulk : List (Nat × List Byte)) :
    (s.finish op d st res bulk).trips = s.trips := by
  obtain ⟨_, _, h⟩ := s.finish_shape op d st res bulk; rw [h]
@[simp] theorem Dev.finish_valves (s : Dev) (op : Nat) (d : Desc) (st : Status) (res : DWord) (bulk : List (Nat × List Byte)) :
    (s.finish op d st res bulk).valves = s.valves := by
  obtain ⟨_, _, h⟩ := s.finish_shape op d st res bulk; rw [h]
@[simp] theorem Dev.finish_pairs (s : Dev) (op : Nat) (d : Desc) (st : Status) (res : DWord) (bulk : List (Nat × List Byte)) :
    (s.finish op d st res bulk).pairs = s.pairs := by
  obtain ⟨_, _, h⟩ := s.finish_shape op d st res bulk; rw [h]
@[simp] theorem Dev.finish_vboost (s : Dev) (op : Nat) (d : Desc) (st : Status) (res : DWord) (bulk : List (Nat × List Byte)) :
    (s.finish op d st res bulk).vboost = s.vboost := by
  obtain ⟨_, _, h⟩ := s.finish_shape op d st res bulk; rw [h]
@[simp] theorem Dev.finish_vboostAt (s : Dev) (op : Nat) (d : Desc) (st : Status) (res : DWord) (bulk : List (Nat × List Byte)) :
    (s.finish op d st res bulk).vboostAt = s.vboostAt := by
  obtain ⟨_, _, h⟩ := s.finish_shape op d st res bulk; rw [h]
@[simp] theorem Dev.finish_fans (s : Dev) (op : Nat) (d : Desc) (st : Status) (res : DWord) (bulk : List (Nat × List Byte)) :
    (s.finish op d st res bulk).fans = s.fans := by
  obtain ⟨_, _, h⟩ := s.finish_shape op d st res bulk; rw [h]
@[simp] theorem Dev.finish_dampers (s : Dev) (op : Nat) (d : Desc) (st : Status) (res : DWord) (bulk : List (Nat × List Byte)) :
    (s.finish op d st res bulk).dampers = s.dampers := by
  obtain ⟨_, _, h⟩ := s.finish_shape op d st res bulk; rw [h]
@[simp] theorem Dev.finish_panel (s : Dev) (op : Nat) (d : Desc) (st : Status) (res : DWord) (bulk : List (Nat × List Byte)) :
    (s.finish op d st res bulk).panel = s.panel := by
  obtain ⟨_, _, h⟩ := s.finish_shape op d st res bulk; rw [h]
@[simp] theorem Dev.finish_vports (s : Dev) (op : Nat) (d : Desc) (st : Status) (res : DWord) (bulk : List (Nat × List Byte)) :
    (s.finish op d st res bulk).vports = s.vports := by
  obtain ⟨_, _, h⟩ := s.finish_shape op d st res bulk; rw [h]
@[simp] theorem Dev.finish_bbs (s : Dev) (op : Nat) (d : Desc) (st : Status) (res : DWord) (bulk : List (Nat × List Byte)) :
    (s.finish op d st res bulk).bbs = s.bbs := by
  obtain ⟨_, _, h⟩ := s.finish_shape op d st res bulk; rw [h]
@[simp] theorem Dev.finish_sbs (s : Dev) (op : Nat) (d : Desc) (st : Status) (res : DWord) (bulk : List (Nat × List Byte)) :
    (s.finish op d st res bulk).sbs = s.sbs := by
  obtain ⟨_, _, h⟩ := s.finish_shape op d st res bulk; rw [h]
@[simp] theorem Dev.finish_hollow (s : Dev) (op : Nat) (d : Desc) (st : Status) (res : DWord) (bulk : List (Nat × List Byte)) :
    (s.finish op d st res bulk).hollow = s.hollow := by
  obtain ⟨_, _, h⟩ := s.finish_shape op d st res bulk; rw [h]
@[simp] theorem Dev.finish_power (s : Dev) (op : Nat) (d : Desc) (st : Status) (res : DWord) (bulk : List (Nat × List Byte)) :
    (s.finish op d st res bulk).power = s.power := by
  obtain ⟨_, _, h⟩ := s.finish_shape op d st res bulk; rw [h]
@[simp] theorem Dev.finish_nv (s : Dev) (op : Nat) (d : Desc) (st : Status) (res : DWord) (bulk : List (Nat × List Byte)) :
    (s.finish op d st res bulk).nv = s.nv := by
  obtain ⟨_, _, h⟩ := s.finish_shape op d st res bulk; rw [h]
@[simp] theorem Dev.finish_regs (s : Dev) (op : Nat) (d : Desc) (st : Status) (res : DWord) (bulk : List (Nat × List Byte)) :
    (s.finish op d st res bulk).regs = s.regs := by
  obtain ⟨_, _, h⟩ := s.finish_shape op d st res bulk; rw [h]

/-! ## A descriptor runs -/

/-- The checks do not read the function's queue. -/
@[simp] theorem Dev.opCheck_fq (s : Dev) (q : List QDesc) (i : OpInfo) (d : Desc) : Dev.opCheck { s with fq := q } i d = s.opCheck i d := rfl

/-- The device once a descriptor has left its function's queue. -/
def Dev.taken (s : Dev) (op : Nat) (d : Desc) : Dev := { s with fq := s.fq.eraseP fun q => q.op == op && q.d == d }

/-- A descriptor that stands behind another waits (02 R60). -/
theorem Dev.runDesc_behind {s : Dev} {i : OpInfo} {d : Desc} (body : Obj → Dev → Dev × Res) (h : s.behind i.op d) :
    s.runDesc i d body = s := by simp [Dev.runDesc, h]

/-- A descriptor that fails a check is answered with that check's status and does nothing (01 R32). -/
theorem Dev.runDesc_refused {s : Dev} {i : OpInfo} {d : Desc} {st : Status} (body : Obj → Dev → Dev × Res) (h : s.behind i.op d = false)
    (hq : ∀ q ∈ s.fq, q.ghost = false) (hc : s.opCheck i d = .error st) :
    s.runDesc i d body = (s.taken i.op d).complete d st 0 [] := by
  have hn : (s.fq.any fun q => q.op == i.op && q.d == d && q.ghost) = false := by
    simp only [List.any_eq_false, Bool.and_eq_true, not_and]
    intro q hm _; simp [hq q hm]
  simp [Dev.runDesc, h, hn, hc, Dev.taken]

/-- A descriptor that its function takes does what its opcode does (01 R32). -/
theorem State.desc_admitted {s : State} {i : OpInfo} {d : Desc} {o : Obj} (body : Obj → Dev → Dev × Res) (h : s.admits i d o) :
    (s.desc i d body).dev =
      match (body o (s.dev.taken i.op d)).2 with
      | .done st res bulk => (body o (s.dev.taken i.op d)).1.complete d st res bulk
      | .wait => { (body o (s.dev.taken i.op d)).1 with waits := (body o (s.dev.taken i.op d)).1.waits ++ [{ op := i.op, d }] }
      | .read => { (body o (s.dev.taken i.op d)).1 with bulk := (body o (s.dev.taken i.op d)).1.bulk ++ [{ op := i.op, d }] } := by
  obtain ⟨hb, hq, hc⟩ := h
  have hn : (s.dev.fq.any fun q => q.op == i.op && q.d == d && q.ghost) = false := by
    simp only [List.any_eq_false, Bool.and_eq_true, not_and]
    intro q hm _; simp [hq q hm]
  simp only [State.desc_dev, Dev.runDesc, hb, hn, hc, Dev.opCheck_fq, Dev.taken, Bool.false_eq_true, if_false]
  split <;> simp_all

/-- A descriptor whose opcode answers at once, leaving the device `v`. -/
theorem State.desc_done {s : State} {i : OpInfo} {d : Desc} {o : Obj} {body : Obj → Dev → Dev × Res} {v : Dev} {st : Status} {res : DWord}
    {bulk : List (Nat × List Byte)} (h : s.admits i d o) (hb : body o (s.dev.taken i.op d) = (v, .done st res bulk)) :
    s.desc i d body = { s with dev := v.complete d st res bulk } := by
  have := State.desc_admitted body h
  rw [hb] at this
  simp only at this
  rw [← this]
  rfl

/-- It is answered so. -/
theorem State.desc_answered {s : State} {i : OpInfo} {d : Desc} {o : Obj} {body : Obj → Dev → Dev × Res} {v : Dev} {st : Status} {res : DWord}
    {bulk : List (Nat × List Byte)} (h : s.admits i d o) (hb : body o (s.dev.taken i.op d) = (v, .done st res bulk)) :
    (s.desc i d body).answered d st res := by
  rw [State.desc_done h hb]
  exact ⟨_, Dev.complete_last .., rfl, rfl, rfl, rfl, rfl⟩

end Sys2Proof.Machine
end

