-- ==== Sys2Proof/Machine/Pins.lean ====
section
/-! DEFINITION. What the device drives its balls to: the reset and SLEEP levels of 20 R533, and what the functions drive. -/

namespace Sys2Proof.Machine

/-- The balls that the device drives (20 R533), but for the analog ones. -/
inductive Ball where
  | pwm (c : Fin 48)
  | hsg (k : Fin 8)
  | bg (k : Fin 8)
  | lsg (c : Fin 16)
  | panel (b : Fin 28)
  | bbTx (p : Fin 8)
  | bbDe (p : Fin 8)
  | sbScl (p : Fin 8)
  | sbSda (p : Fin 8)
  | vlTx (p : Fin 16)
  | qspiIo (b : Fin 4)
  | qspiIrqN
  | jtagTdo
  | pwron
  deriving DecidableEq, Repr

/-- What a ball is driven to: low, high, nothing (high-impedance, released or its driver off), or the moving waveform of a transmission that
runs, whose bits the model does not hold. -/
inductive Drive where
  | low | high | off | moving
  deriving DecidableEq, Repr

/-- A ball's level. -/
def Drive.ofBool (x : Bool) : Drive := if x then .high else .low

/-- The I/O bank that supplies a ball (20 R533); none is VHOLLOW. -/
def Ball.bank : Ball → Option (Fin 8)
  | .pwm c => some (if c.val < 24 then 1 else 2)
  | .hsg _ | .bg _ | .lsg _ => some 3
  | .panel _ => some 5
  | .bbTx _ | .bbDe _ | .sbScl _ | .sbSda _ => some 6
  | .vlTx _ => some 7
  | .qspiIo _ | .qspiIrqN | .jtagTdo => some 0
  | .pwron => none

/-- The function that owns a ball, 1 for those of the host attachment and of JTAG. -/
def Ball.func : Ball → Nat
  | .pwm c => pwmFunc c
  | .hsg k | .bg k => pairFunc k
  | .lsg c => pairFunc (pairOf c)
  | .panel _ => 54
  | .bbTx p | .bbDe p => bbFunc p
  | .sbScl p | .sbSda p => sbFunc p
  | .vlTx p => valeFunc p
  | .pwron => 55
  | _ => 1

/-- A ball in its reset state, which it has in SLEEP too (20 R533): `quad` is the Quad-SPI attachment. -/
def Ball.rest (quad : Bool) : Ball → Drive
  | .panel b => if b.val < 20 then .off else .low
  | .bbTx _ => .high
  | .bbDe _ | .vlTx _ => .low
  | .qspiIrqN => if quad then .high else .off
  | .pwron => .high
  | _ => .off

/-- QSPI_IRQ_N (02 R45): low while an unmasked bit of IRQ_PEND is set; in PCI Express attachment inert (R35). -/
def State.irqN (s : State) : Drive := if s.qspi then Drive.ofBool (s.ring.irqPend &&& ~~~ s.ring.irqMask == 0) else .off

/-- What a panel ball is driven to; a pull-up does not drive it. -/
def Dev.panelDrive (s : Dev) (b : Nat) : Drive :=
  match s.ballLine b with
  | .low => .low
  | .high => .high
  | _ => .off

/-- What a PWM ball is driven to (07 R214). -/
def Dev.pwmDrive (s : Dev) (c : Fin 48) : Drive :=
  match s.pwmOut c with
  | .low => .low
  | .high => .high
  | _ => .off

/-- What a function that works drives its ball to: gates by the pair's node (08 R229, R231, R232), a building-bus port DE while it transmits
(13 R376), a sensor bus only while a transaction or a recovery runs (13 R405, R406), a Vale port dominant only while it sends (11 R303).
QSPI_IO and JTAG_TDO are as between two transactions, since each transaction is one step. -/
def State.drives (s : State) (x : Ball) : Drive :=
  let v := s.dev
  match x with
  | .pwm c => v.pwmDrive c
  | .hsg k => Drive.ofBool (v.pairs[k.val]).hsg
  | .bg k => Drive.ofBool (v.pairs[k.val]).bg
  | .lsg c => Drive.ofBool (v.valves[c.val].chop == .on)
  | .panel b => v.panelDrive b.val
  | .bbTx p => if (v.bbs[p.val]).tx.isSome then .moving else .high
  | .bbDe p => Drive.ofBool (v.bbs[p.val]).tx.isSome
  | .sbScl p | .sbSda p => if (v.sbs[p.val]).cur.isSome || (v.sbs[p.val]).state == 2 then .moving else .off
  | .vlTx p => if (v.vports[p.val]).wire.isSome then .moving else .low
  | .qspiIo _ | .jtagTdo => .off
  | .qspiIrqN => s.irqN
  | .pwron => Drive.ofBool v.hollow.pwron

/-- A ball has its reset state: the device is in reset, or SLEEP's commit point has passed, or the owning function is held or stopped
(20 R533). PWRON is unchanged by both (15 R449); the panel's own rule is `Dev.ballLine`. -/
def State.ballRests (s : State) (x : Ball) : Bool :=
  match x with
  | .pwron | .panel _ => false
  | _ => s.dev.dark || s.dev.held x.func || s.dev.stopped x.func || !s.dev.enabled x.func && (match x with
    | .pwm _ => false
    | _ => true)

/-- What a ball is driven to (20 R533): nothing where its bank is unpowered, though its function runs (R537). -/
def State.ball (s : State) (x : Ball) : Drive :=
  if x.bank.any fun b => s.dev.regs.bankOff.getLsbD b.val then .off
  else if s.ballRests x then x.rest s.qspi
  else s.drives x

end Sys2Proof.Machine
end

