-- ==== Sys2Proof/WellFormed.lean ====
section
/-! DEFINITION. Which commands are well formed: the limits of the manual that the types of `Instr` do not carry. `exec` answers on the
others too; a statement that needs a limit says so. -/

namespace Sys2Proof

/-- What a converter can deliver (04 R102, R104): FA a code of 14 bits, PA a signed one of 24. -/
def rawInRange (c : Fin 3) (raw : Int) : Bool :=
  if c.val = 2 then -8388608 ≤ raw && raw ≤ 8388607 else 0 ≤ raw && raw ≤ 16383

/-- The values of DST (11 R309): an address, or 63 for broadcast. -/
def dstOk (dst : Fin 64) : Bool := dst.val ≤ 32 || dst.val == 63

/-- A frame comes from a satellite's short address (11 R309). -/
def VFrame.fromSat (f : VFrame) : Bool := 1 ≤ f.src.val && f.src.val ≤ 32 && dstOk f.dst

/-- 255 is no station's own address (13 R378). -/
def stationOk (src : Byte) : Bool := src != 255

/-- The limits on the operands of a command. -/
def Instr.wf : Instr → Bool
  -- a read asks for at most 8 descriptors (02 R58)
  | .fetchCompletion _ _ ds => ds.length ≤ 8
  -- an access has a width
  | .registerWrite _ width _ => width ≠ 0
  | .endOfConversion c raw _ | .urgentConversionEnd c raw _ => rawInRange c raw
  -- a bit error is the sender's own; in the device's own frame a timing violation is that of the satellite it goes to (11 R314, R323,
  -- R335); reserved SRC and DST values (11 R309)
  | .valeFrameError _ own e a _ => (e != .bit || own) && (a.src.val ≤ 32 || a.src.val == 62) && dstOk a.dst
  -- an unaddressed satellite sends with SRC 62 (11 R309)
  | .announce _ f _ _ => f.src.val == 62 && dstOk f.dst
  -- COUNT 1 to 8, 1 to 48 data bytes, the classes of NAK (12 R340)
  | .notify _ f _ values | .readRsp _ f _ _ values => f.fromSat && 1 ≤ values.length && values.length ≤ 8
  | .data _ f _ _ bytes => f.fromSat && 1 ≤ bytes.length && bytes.length ≤ 48
  | .nak _ f cls _ _ _ => f.fromSat && (cls == 2 || cls == 4 || cls == 5 || cls == 6)
  | .identRsp _ f _ _ items _ maxsess => f.fromSat && 1 ≤ items.toNat && items.toNat ≤ 32 && 1 ≤ maxsess.toNat && maxsess.toNat ≤ 4
  | .prove _ f _ _ | .writeRsp _ f _ _ _ | .openAck _ f _ _ | .sack _ f _ _ _ | .resumeAck _ f _ | .closeAck _ f _ _ => f.fromSat
  -- 0 to 501 data octets (13 R378)
  | .testRequest _ src _ bytes | .testResponse _ src _ bytes | .bacnetDataExpectingReply _ src _ bytes
  | .bacnetDataNotExpectingReply _ src _ bytes => stationOk src && bytes.length ≤ 501
  | .token _ src _ | .pollForMaster _ src _ | .replyToPollForMaster _ src _ | .replyPostponed _ src _ => stationOk src
  -- at most 256 bytes and a PEC (13 R407, R412)
  | .sbTransactionEnd _ (.done bs) => bs.length ≤ 257
  -- a bulk buffer (02 R53)
  | .bulkReadCompletion _ bytes => bytes.length ≤ 65536
  | _ => true

end Sys2Proof
end

