-- ==== Sys2Proof/Tests/Slice0.lean ====
section
/-! SUPPORT. The model's own tests: an ill-formed term for each check of WellFormed, values that the manual works out, and for each
statement small states and operands that meet the hypotheses of its clauses, with what the command then does. -/

namespace Sys2Proof.Tests

set_option Elab.async false

open Sys2Proof.Machine

/-! ## Small states -/

/-- The machine after reset with every function enabled. -/
def up : State := State.reset.onDev fun v => { v with power := { v.power with fen := 0xFFFFFFFFFFFFFFFFFFFFFFFF } }

/-- A descriptor of SQ0 with TAG 7. -/
def dsc (handle pay : Nat) : Desc :=
  { sq := 0, flags := 0, tag := 7, handle := BitVec.ofNat 32 handle, pay := BitVec.ofNat 192 pay }

/-- A value at a byte offset of the payload. -/
def at_ (off val : Nat) : Nat := val * 2 ^ (8 * (off - 8))

/-- The command answers a next state of which `p` holds. -/
def run (c : Instr) (s : State) (p : State → Bool) : Bool :=
  match exec c s with
  | .next t => p t
  | _ => false

/-- The newest completion answers `d`. -/
def ans (t : State) (d : Desc) (st : Status) (res : Nat) : Bool :=
  match t.dev.done.getLast? with
  | some c => c.sq == d.sq && c.tag == d.tag && c.handle == d.handle && c.status == st && c.result.toNat == res
  | none => false

/-- The descriptor is admitted, as a computation. -/
def admitted (s : State) (i : OpInfo) (d : Desc) (o : Obj) : Bool :=
  !s.dev.behind i.op d && s.dev.fq.all (fun q => !q.ghost) && decide (s.dev.opCheck i d = .ok o)

/-- What that computation says. -/
theorem admits_of_admitted {s : State} {i : OpInfo} {d : Desc} {o : Obj} (h : admitted s i d o = true) : s.admits i d o := by
  simp only [admitted, Bool.and_eq_true, Bool.not_eq_true', List.all_eq_true, decide_eq_true_eq] at h
  exact ⟨h.1.1, h.1.2, h.2⟩

/-- Command `c` answers a next state of which `P` holds, if the computation says so. -/
theorem answers_of_run {c : Instr} {s : State} {p : State → Bool} (h : run c s p = true) : Answers c s fun t => p t = true := by
  unfold run at h
  split at h
  · exact ⟨_, ‹_›, h⟩
  · cases h

/-- A change of the device. -/
def dev (s : State) (f : Dev → Dev) : State := s.onDev f

/-- A change of the host attachment. -/
def ring (s : State) (f : Rings → Rings) : State := { s with ring := f s.ring }

/-- A change of an SQ. -/
def sq (s : State) (n : Fin 16) (f : Sq → Sq) : State := ring s fun r => { r with sqs := vmod r.sqs n f }

/-- A change of a CQ's ring. -/
def cq (s : State) (n : Fin 16) (f : Ring → Ring) : State := ring s fun r => { r with cqs := vmod r.cqs n fun c => { c with ring := f c.ring } }

/-- Quad-SPI attachment. -/
def qspi (s : State) : State := dev s fun v => { v with regs := { v.regs with attach := true } }

/-- A change of the power block. -/
def power (s : State) (f : Power → Power) : State := dev s fun v => { v with power := f v.power }

/-- SQ0 ACTIVE on CQ0, which is enabled, and EQ and LQ enabled. -/
def rings : State :=
  ring (cq (sq up 0 fun q => { q with phase := .active }) 0 fun r => { r with en := true }) fun r =>
    { r with eq := { r.eq with en := true }, lq := { r.lq with en := true } }

/-! ## Ill-formed commands -/

/-- A frame of the satellite at address 1. -/
def sat : VFrame := { src := 1, epoch := 1 }

theorem test_wf_fetch : Instr.wf (.fetchCompletion 0 .ok (List.replicate 9 0)) = false := by decide
theorem test_wf_width : Instr.wf (.registerWrite 0 0 0) = false := by decide
theorem test_wf_raw_fa : Instr.wf (.endOfConversion 0 16384 false) = false ∧ Instr.wf (.endOfConversion 2 (-8388608) false) = true := by decide
theorem test_wf_raw_urgent : Instr.wf (.urgentConversionEnd 1 (-1) false) = false := by decide
theorem test_wf_frame_error : Instr.wf (.valeFrameError 0 false .bit { src := 1, dst := 0 } []) = false ∧ Instr.wf (.valeFrameError 0 true .crc { src := 40, dst := 0 } []) = false ∧ Instr.wf (.valeFrameError 0 true .crc { src := 62, dst := 0 } []) = true := by
  decide
theorem test_wf_announce : Instr.wf (.announce 0 sat 0 0) = false := by decide
theorem test_wf_notify : Instr.wf (.notify 0 sat 0 []) = false := by decide
theorem test_wf_read_rsp : Instr.wf (.readRsp 0 sat 0 0 (List.replicate 9 0)) = false := by decide
theorem test_wf_data : Instr.wf (.data 0 sat 0 0 (List.replicate 49 0)) = false := by decide +kernel
theorem test_wf_nak : Instr.wf (.nak 0 sat 3 0 0 0) = false := by decide
theorem test_wf_ident : Instr.wf (.identRsp 0 sat 0 0 33 0 1) = false ∧ Instr.wf (.identRsp 0 sat 0 0 1 0 5) = false := by decide
theorem test_wf_sat : Instr.wf (.resumeAck 0 { src := 33, epoch := 1 } 0) = false := by decide
theorem test_wf_mstp : Instr.wf (.testRequest 0 1 2 (List.replicate 502 0)) = false := by
  simp only [Instr.wf, List.length_replicate]; decide
theorem test_wf_station : Instr.wf (.token 0 255 1) = false := by decide
theorem test_wf_sb : Instr.wf (.sbTransactionEnd 0 (.done (List.replicate 258 0))) = false := by
  simp only [Instr.wf, List.length_replicate]; decide
theorem test_wf_bulk : Instr.wf (.bulkReadCompletion .ok (List.replicate 65537 0)) = false := by
  simp only [Instr.wf, List.length_replicate]; decide

/-! ## Values the manual works out -/

/-- The handles of the example of 01. -/
theorem test_handles : objOf 0x20200015 = some (.pwm 21) ∧ objOf 0x10100087 = some (.convResult 2 7) ∧
    objOf 0x60300124 = some (.satellite 9 4) ∧ objOf 0x20200030 = none ∧ objOf 0x10500040 = some (.sbValue 2 0) := by decide

/-- The event record of the example of 14. -/
theorem test_event_record :
    ({ code := 0x0302, src := 8, handle := 0x30100035, arg := 0x135, time := 0x12C40 } : Event).bytes true =
      [0x02, 0x03, 0x00, 0x88, 0x35, 0x00, 0x10, 0x30, 0x35, 0x01, 0x00, 0x00, 0x40, 0x2C, 0x01, 0x00] := by decide

/-- The log record of step 2 of the example of 17. -/
theorem test_log_record :
    ({ code := 0x181, sev := .fault, link := .supersedes, repeated := 0, src := 8, num := 0x411, ref := 0x410, arg := 0x135,
       time := 0x12C40 } : LogRec).bytes false =
      [0x81, 0x89, 0x00, 0x08, 0x11, 0x04, 0x10, 0x04, 0x35, 0x01, 0x00, 0x00, 0x40, 0x2C, 0x01, 0x00] := by decide

/-- The CO2 word of the example of 13. -/
theorem test_co2 : crc31 0x03 0x84 = 0x12 ∧ words31 [0x03, 0x84, 0x12] = some [0x03, 0x84] ∧ words31 [0x03, 0x84, 0x13] = none ∧
    ({ width := 2, bits := 16, lshift := 16 } : SbEntry).extract [0x03, 0x84, 0, 0] = 0x03840000 := by decide +kernel

/-- The damper's position of the example of 09. -/
theorem test_damper_position : ({ calClosed := 1200, calOpen := 14800 } : Damper).posOf 8000 = 0x320000 := by decide

/-- The valve codes of the example of 08: 2400, 1200 and 400 mA at 100 units of 0.1 milliohm. -/
theorem test_valve_codes : codeOf 2400 100 false = 600 ∧ codeOf 1200 100 false = 300 ∧ codeOf 400 100 false = 100 := by decide

/-- 31 April and its midnight in the example of 15. -/
def april : Cal := { second := 59, minute := 59, hour := 23, weekday := 1, day := 31, month := 4, year := 23 }

theorem test_april : cal0Word { april with second := 58 } = 0x01173B3A ∧ cal1Word april true = 0x8017041F ∧
    cal1Word april.second_ true = 0x80170501 ∧ cal0Word april.second_ = 0x02000000 := by decide

/-- The function enables of the example of 19. -/
theorem test_fen : run (.fenWrite 0 0x02040010) State.reset (fun t => (t.readReg 0x20).1 == 0x0204FFD3) = true := by decide

/-- The ghost of the example of 10. -/
theorem test_ghost_arg : mkWord [(0, 3, 2), (3, 3, 5), (8, 4, 3), (12, 4, 7), (16, 1, 0)] = 0x732A := by decide

/-! ## The machine and the host attachment -/

/-- The clauses of StepRunsFront and EveryCommandCompletes have no hypothesis; IdleStepIsTick, ResetState. -/
theorem test_idle : State.reset.pending = [] ∧ State.reset.mem = {} ∧ State.reset.ring.eqCache = [] := ⟨rfl, rfl, rfl⟩

/-- StepKeepsMemoryAndCache: the invariant at reset, and a step from it. -/
theorem test_step_keeps : State.reset.mem.ok ∧ State.reset.ring.eqCache.length ≤ 256 ∧ State.reset.steps :=
  ⟨⟨by decide, by decide⟩, by decide, ⟨_, rfl⟩⟩

/-- ColWritesAndRejects: accepted indices; 16 of 16 entries is the most an SQ may be ahead. -/
theorem test_col_accepted : rings.reach = true ∧ rings.ring.sqs[0].phase = .active ∧
    run (.sqProducerCol 0 16) rings (fun t => t.ring.sqs[0].prod == 16) = true ∧
    run (.cqConsumerCol 0 3) (cq rings 0 fun r => { r with prod := 3 }) (fun t => t.ring.cqs[0].ring.cons == 3) = true ∧
    run (.eqConsumerCol 1) (ring rings fun r => { r with eq := { r.eq with prod := 1 } }) (fun t => t.ring.eq.cons == 1) = true ∧
    run (.lqConsumerCol 1) (ring rings fun r => { r with lq := { r.lq with prod := 1 } }) (fun t => t.ring.lq.cons == 1) = true := by
  decide +kernel

/-- ColWritesAndRejects: 17 ahead, a disabled SQ, and a consumer beyond the producer. -/
theorem test_col_rejected : rings.dev.held 1 = false ∧ rings.dev.handling hHe = false ∧ up.reach = true ∧
    run (.sqProducerCol 0 17) rings (fun t => t.ring.sqs[0].prod == 0 && t.ring.sqs[0].phase == .error &&
      t.dev.log.errs.any (fun e => e.source == hHe && e.code == LG_RING_PROD) &&
      t.dev.raised.any (fun e => e.code == EV_RING_ERROR && e.handle == hRing 0)) = true ∧
    run (.sqProducerCol 0 1) up (fun t => t.ring.sqs[0].rejects == 1 && t.ring.sqs[0].prod == 0) = true ∧
    run (.cqConsumerCol 0 1) rings (fun t => t.ring.cqs[0].ring.cons == 0) = true := by decide +kernel

/-- SQ0 has 9 descriptors to fetch. -/
def toFetch : State := sq rings 0 fun q => { q with prod := 9, base := 0x2000 }

/-- Fetching: a read of 8, its retry, its data, and its failures. -/
theorem test_fetch : toFetch.dev.dark = false ∧ toFetch.ring.sqs[0].openRun = 0 ∧ toFetch.ring.sqs[0].inFlight < 32 ∧
    0 < toFetch.ring.unreserved 0 ∧
    run (.descriptorFetch 0) toFetch (fun t => t.ring.sqs[0].reading == some 8 && t.ring.sqs[0].readAddr == 0x2000) = true ∧
    run (.fetchRetryTimer 0) (sq toFetch 0 fun q => { q with retryWait := true, prod := 1 })
      (fun t => t.ring.sqs[0].reading == some 1 && !t.ring.sqs[0].retryWait && t.ring.sqs[0].readAddr == 0x2000) = true := by decide +kernel

theorem test_fetch_data : toFetch.qspi = false ∧
    run (.fetchCompletion 0 .ok [5]) (sq toFetch 0 fun q => { q with reading := some 1, retries := 2 })
      (fun t => t.ring.sqs[0].fetched == [5] && t.ring.sqs[0].cons == 1 && t.ring.sqs[0].retries == 0) = true ∧
    run (.pcieCompletionTimeout (some 0)) (sq toFetch 0 fun q => { q with reading := some 1, retries := 2 })
      (fun t => t.ring.sqs[0].retries == 3 && t.ring.sqs[0].retryWait && t.ring.aer.unc.getLsbD 14 && t.ring.sqs[0].phase == .active) = true ∧
    run (.pcieCompletionTimeout (some 0)) (sq toFetch 0 fun q => { q with reading := some 1, retries := 3 })
      (fun t => t.ring.sqs[0].phase == .error && t.dev.log.errs.any (fun e => e.code == LG_RING_DMA)) = true := by decide +kernel

/-- A raw SYS_NOP, and one of an unassigned opcode. -/
def rawNop : RawDesc := BitVec.ofNat 256 (0x50100000 * 2 ^ 32)

/-- Dispatching. -/
theorem test_dispatch : rawChain rawNop = false ∧ rawOp rawNop = 0 ∧ opInfo 0 = some opSysNop ∧ rawOp (rawNop + 0x09) = 9 ∧
    opInfo 9 = none ∧ (sq rings 0 fun q => { q with fetched := [rawNop], disp := 0 }).ring.choose.map (·.1) = some 0 ∧
    run .descriptorDispatch (sq rings 0 fun q => { q with fetched := [rawNop] })
      (fun t => t.ring.sqs[0].fetched == [] && t.ring.sqs[0].disp == 1 && t.dev.fq.length == 1 && t.dev.done == []) = true ∧
    run .descriptorDispatch (sq rings 0 fun q => { q with fetched := [rawNop + 9] })
      (fun t => t.dev.fq == [] && t.dev.done.any (fun c => c.status == .badOpcode)) = true := by decide +kernel

/-- Dispatching: SQ1's URGENT descriptor goes before SQ0's. -/
theorem test_urgent :
    let s := sq (sq rings 0 fun q => { q with fetched := [rawNop] }) 1 fun q => { q with phase := .active, cq := 0, fetched := [rawNop + 0x800] }
    rawUrgent (rawNop + 0x800) = true ∧ s.ring.ready 0 = true ∧ s.ring.ready 1 = true ∧ s.ring.choose.map (·.1) = some 1 := by
  decide +kernel

/-- A completion of SQ0. -/
def compl : Completion := { sq := 0, tag := 7, status := .ok, handle := 0x50100000, result := 5, notify := false }

/-- CompletionRecord: into slot 0 of CQ0 at 0x1000, PHASE 1. -/
theorem test_completion : rings.ring.hold = false ∧ rings.ring.cqs[0].ring.full = false ∧
    run .completionWrite (cq (dev rings fun v => { v with done := [compl] }) 0 fun r => { r with base := 0x1000 }) (fun t =>
      t.dev.done == [] && t.ring.cqs[0].ring.prod == 1 && memReadBytes t.mem.host 0x1000 16 == compl.bytes true &&
      memRead t.mem.host 0x1010 == 0) = true := by decide +kernel

/-- An event. -/
def evt : Event := { code := 0x0302, src := 8, handle := 0x30100035, arg := 0x135, time := 0x12C40 }

/-- EventRecord: EQ takes it; disabled, the cache takes it; the full cache drops it. -/
theorem test_event : rings.ring.eq.full = false ∧ up.ring.eq.en = false ∧
    run .eventWrite (dev rings fun v => { v with raised := [evt] }) (fun t =>
      t.dev.raised == [] && t.ring.eq.prod == 1 && memReadBytes t.mem.host 0 16 == evt.bytes true) = true ∧
    run .eventWrite (dev up fun v => { v with raised := [evt] }) (fun t => t.ring.eqCache == [evt] && t.ring.eqDrop == 0) = true ∧
    run .eventWrite (ring (dev up fun v => { v with raised := [evt] }) fun r => { r with eqCache := List.replicate 256 evt, eqDrop := 0xFFFFFFFF })
      (fun t => t.ring.eqDrop == 0 && t.ring.eqLost == 1 && t.ring.eq.dropWrap) = true := by decide +kernel

/-- A stored log record. -/
def rec0 : LogRec :=
  { code := 0x181, sev := .fault, link := .none, repeated := 0, src := 8, num := 0, ref := 0, arg := 0, time := 0, mirrored := true }

/-- A change of the log. -/
def log (s : State) (f : Log → Log) : State := dev s fun v => { v with log := f v.log }

/-- MirrorVectorsStall. -/
theorem test_mirror_vectors_stall :
    run .lqMirror (log rings fun g => { g with recs := [rec0], mirrorQ := [(0, false)] })
      (fun t => t.ring.lq.prod == 1 && t.dev.log.mirrorQ == [] && t.ring.lqNums == [0]) = true ∧
    run (.modTimeExpiry (.cq 0)) (qspi (cq rings 0 fun r => { r with timer := true, ie := true, count := 3, vec := 31 }))
      (fun t => t.ring.irqPend == 0x80000000 && t.ring.cqs[0].ring.count == 0) = true ∧
    run (.modTimeExpiry (.cq 0)) (cq rings 0 fun r => { r with timer := true, ie := true, count := 3 })
      (fun t => (t.ring.msix[0]).pending && t.ring.cqs[0].ring.count == 0) = true ∧
    run (.ringStall 0) (cq rings 0 fun r => { r with prod := 16 })
      (fun t => t.ring.cqs[0].ring.stall && t.dev.raised.any (fun e => e.code == EV_RING_STALL && e.handle == hRing 16)) = true := by
  decide +kernel

/-- RingEnables: over PCI Express, function 1 not held. -/
theorem test_ring_enables : up.reach = true ∧ up.qspi = false ∧ up.dev.held 1 = false ∧
    run (.sqEnable 0 0x0F05) rings (fun t => t.ring.sqs[0].phase == .active) = true ∧
    run (.sqEnable 1 0x305) rings (fun t => t.ring.sqs[1].phase == .active && t.ring.sqs[1].weight == 3) = true ∧
    run (.sqEnable 1 0x15) rings (fun t => t.ring.sqs[1].phase == .disabled && t.ring.sqs[1].cfgErr) = true ∧
    run (.sqDisable 0 0) (sq rings 0 fun q => { q with disp := 2 }) (fun t => t.ring.sqs[0].phase == .draining) = true ∧
    run (.sqEnable 1 0x303) rings (fun t => t.ring.sqs[1] == rings.ring.sqs[1]) = true ∧
    run (.cqEnable 1 5) up (fun t => t.ring.cqs[1].ring.en) = true ∧
    run (.cqDisable 0 0) rings (fun t => t.ring.cqs[0].ring.en) = true ∧
    run (.cqDisable 1 0) (cq (sq rings 1 fun q => { q with cq := 2 }) 1 fun r => { r with en := true }) (fun t => !t.ring.cqs[1].ring.en) = true ∧
    run (.eqEnable 12) up (fun t => t.ring.eq.en) = true ∧ run (.eqDisable 0) rings (fun t => !t.ring.eq.en) = true ∧
    run (.lqEnable 4) (log up fun g => { g with recs := [rec0] }) (fun t => t.ring.lq.en && t.dev.log.mirrorQ == [(0, false)]) = true ∧
    run (.lqDisable 0) rings (fun t => !t.ring.lq.en) = true := by decide +kernel

/-- A raw SYS_RING_RESYNC: KEEP, and one with a reserved mode. -/
def rawResync : RawDesc := BitVec.ofNat 256 (0x0F + 0x50100000 * 2 ^ 32)

/-- HostHold: every way in, and a resync that is taken, refused, and outside host hold. -/
theorem test_host_hold :
    let h := ring rings fun r => { r with hold := true, holdSizes := (List.range 34).map fun i => if i = 0 ∨ i = 16 ∨ i = 32 ∨ i = 33 then some 4 else none }
    rings.dev.dark = false ∧ h.reach = true ∧ rings.dev.power.wdtEn = false ∧
    run .ringCtlHold rings (fun t => t.ring.hold) = true ∧
    run .dlDown rings (fun t => t.ring.hold && t.ring.linkLost && t.ring.sqs[0].phase == .active && (t.ring.msix[3]).mask) = true ∧
    run .hotReset rings (fun t => t.ring.hold && !t.ring.linkLost) = true ∧
    run .d3hotEntry rings (fun t => t.ring.hold && t.ring.d3hot) = true ∧
    h.resyncStatus (rawResync + 0xF0 * 2 ^ 64) ≠ .ok ∧
    run (.sysRingResync (rawResync + 0xF0 * 2 ^ 64)) h (fun t => t.ring.hold && t.ring.resyncSt != 0 && t.ring.resyncSeen) = true ∧
    h.resyncStatus rawResync = .ok ∧ run (.sysRingResync rawResync) h (fun t => !t.ring.hold && t.ring.resyncSt == 0) = true ∧
    run (.sysRingResync rawResync) rings (fun t => !t.ring.hold && !t.ring.resyncSeen) = true := by decide +kernel

/-- QuadSpi: the first and the last words of the window, a write that is not aligned, the status. -/
theorem test_qspi : (qspi up).qspi = true ∧ (qspi up).dev.dark = false ∧ (qspi up).mem.ok ∧
    run (.write 0x020000 [1, 2, 3, 4]) (qspi up) (fun t => memReadBytes t.mem.win 0x020000 4 == [1, 2, 3, 4] && memRead t.mem.win 0x020004 == 0) = true ∧
    run (.quadWrite 0x03FFFC [1, 2, 3, 4]) (qspi up) (fun t => memReadBytes t.mem.win 0x03FFFC 4 == [1, 2, 3, 4] && !t.ring.qerr) = true ∧
    run (.write 0x020001 [1, 2, 3, 4]) (qspi up) (fun t => t.ring.qerr && t.mem == {}) = true := by
  refine ⟨rfl, by decide +kernel, ⟨by decide, by decide⟩, by decide +kernel, by decide +kernel, by decide +kernel⟩

theorem test_qspi_read :
    let s := { qspi up with mem := { win := [(0x03FFFF, 9)] } }
    run (.read 0x03FFFC 4) s (fun t => t.ring.rdata == [0, 0, 0, 9]) = true ∧ run (.fastRead 0x03FFFC 4) s (fun t => t.ring.rdata == [0, 0, 0, 9]) = true ∧
    run (.quadRead 0x03FFFC 4) s (fun t => t.ring.rdata == [0, 0, 0, 9]) = true ∧
    run .readStatus (qspi up) (fun t => t.ring.rdata == [(qspi up).qStatus]) = true := by decide +kernel

/-- Endpoint. -/
theorem test_endpoint :
    let s := ring up fun r => { r with msix := r.msix.set 3 { addrLo := 0x100, data := 0x1234, pending := true } }
    let u := dev up fun v => { v with regs := { v.regs with ready := true } }
    u.dev.regs.ready = true ∧ up.dev.regs.ready = false ∧ s.qspi = false ∧ s.reach = true ∧ s.ring.msixEn = true ∧ (∀ u : Fin 32, u ≠ 3 → (s.ring.msix[u]).pending = false) ∧
    run (.msixVectorUnmask 3) s (fun t => !(t.ring.msix[3]).mask && !(t.ring.msix[3]).pending && memReadBytes t.mem.host 0x100 4 == [0x34, 0x12, 0, 0]) = true ∧
    run (.pcieConfigWrite .powerStateD3hot) u (fun t => t.ring.hold && t.ring.d3hot) = true ∧
    run (.pcieConfigWrite (.command false true)) u (fun t => !t.ring.cfg.memSpace && t.ring.cfg.busMaster) = true ∧
    run (.pcieConfigWrite (.command false false)) up (fun t => t.ring.cfg == up.ring.cfg) = true ∧
    run (.pcieConfigWrite (.maxReadRequestSize 5)) u (fun t => t.ring.cfg.maxRead == 5) = true ∧
    run (.pcieConfigWrite .powerStateD0) (ring u fun r => { r with d3hot := true }) (fun t => !t.ring.d3hot) = true ∧
    run .aspmL1Request (power (ring up fun r => { r with aspmL1 := true }) fun p => { p with state := 1 }) (fun t => t.ring.l1) = true := by
  decide +kernel

/-! ## Setup registers, power, resets -/

/-- RegisterWrites: SCRATCH3, a width of 3, a read-only register, LOCK and what it protects. -/
theorem test_registers :
    let l := dev up fun v => { v with regs := { v.regs with lock := true } }
    up.reach = true ∧ up.dev.regs.lock = false ∧
    run (.registerWrite 0x3C 4 0x55) up (fun t => t.dev.regs.scratch[3] == 0x55 && t.dev.regs.scratch[2] == 0) = true ∧
    run (.registerWrite 0x30 3 0x55) up (fun t => t.dev.regs.scratch[0] == 0) = true ∧
    run (.registerWrite 0x3800 4 0x55) up (fun t => t.dev.regs == up.dev.regs) = true ∧
    run .setupLock up (fun t => t.dev.regs.lock) = true ∧
    run (.registerWrite 0x508 4 0x55) l (fun t => t.dev.regs.lockWr && t.dev.power.wake1 == 0x02060604) = true ∧
    run (.registerWrite 0x504 4 0x55) up (fun t => t.dev.power.wake0 == 0x55) = true := by decide +kernel

/-- PWR_STATE's descriptor with a TARGET. -/
def pwr (target : Nat) : Desc := dsc 0x50100000 (at_ 8 target)

/-- A change of a loop. -/
def loop (s : State) (n : Fin 144) (f : Loop → Loop) : State := dev s fun v => { v with loops := vmod v.loops n f }

/-- PwrState. -/
theorem test_pwr_state :
    let fast := loop up 143 fun l => { l with state := .run, fast := true, trig := 0, periodUs := 40 }
    admitted up opPwrState (pwr 1) .controller = true ∧ up.dev.power.sleep = .none ∧ up.dev.power.state = 0 ∧
    (∀ n : Fin 144, (up.dev.loops[n]).fastDeclared = false) ∧
    run (.pwrState (pwr 1)) up (fun t => ans t (pwr 1) .ok 0 && t.dev.power.state == 1 && t.dev.raised.any fun e => e.code == EV_PWR_STATE && e.arg == 1) = true ∧
    run (.pwrState (pwr 0)) (power up fun p => { p with state := 1 }) (fun t => ans t (pwr 0) .ok 0 && t.dev.power.state == 0) = true ∧
    run (.pwrState (pwr 1)) fast (fun t => ans t (pwr 1) .busy 0 && t.dev.power.ecoRefused) = true ∧
    up.dev.wakeLevels = [] ∧ (power up fun p => { p with wakeHost := true }).dev.wakeLevels = [9] ∧ up.dev.waits = [] ∧
    run (.pwrState (pwr 2)) up (fun t => t.ring.hold && t.dev.power.sleep == .requested (pwr 2) && t.dev.waits == [{ op := 0xD0, d := pwr 2 }]) = true ∧
    run (.pwrState (pwr 3)) (power up fun p => { p with wakeHost := true }) (fun t => t.ring.hold) = true := by
  decide +kernel

/-- SystemAndPowerDescriptors: class 0x0. -/
theorem test_sys :
    let d (p : Nat) := dsc 0x50100000 p
    admitted up opSysNop (d 5) .controller = true ∧ run (.sysNop (d 5)) up (fun t => ans t (d 5) .ok 5) = true ∧
    admitted up opSysInfoGet (d 2) .controller = true ∧ run (.sysInfoGet (d 2)) (dev up fun v => { v with nv := { v.nv with slot := 0 } }) (fun t => ans t (d 2) .ok 1) = true ∧
    run (.sysInfoGet (d 0)) up (fun t => ans t (d 0) .ok 0) = true ∧ run (.sysInfoGet (d 3)) up (fun t => ans t (d 3) .range 0) = true ∧
    admitted up opSysCountersGet (d 1) .controller = true ∧
    run (.sysCountersGet (d 1)) (power up fun p => { p with clkFails := 2 }) (fun t => ans t (d 1) .ok (2 * 2 ^ 32)) = true ∧
    run (.sysCountersGet (d 0)) (power up fun p => { p with memCe := p.memCe.set 3 2, memUe := 1 }) (fun t => ans t (d 0) .ok (2 + 2 ^ 32)) = true := by
  decide +kernel

/-- SystemAndPowerDescriptors: class 0xD. -/
theorem test_pwr :
    let d (p : Nat) := dsc 0x50100000 p
    admitted up opPwrIdleConfig (d 3600) .controller = true ∧
    run (.pwrIdleConfig (d 3600)) up (fun t => t.dev.power.idleS == 3600 && ans t (d 3600) .ok 0) = true ∧
    run (.pwrIdleConfig (d 3601)) up (fun t => ans t (d 3601) .range 0) = true ∧
    admitted up opPwrWakeConfig (d (0x95 + at_ 12 0x8001)) .controller = true ∧
    run (.pwrWakeConfig (d (0x95 + at_ 12 0x8001))) up (fun t => t.dev.power.wakePins == 5 && t.dev.power.wakeKeys && t.dev.power.wakeHost &&
      !t.dev.power.wakeAlarm && t.dev.power.wakeVale == 0x8001) = true ∧
    admitted up opPwrWatchdog (d (1 + at_ 12 100)) .controller = true ∧
    run (.pwrWatchdog (d (1 + at_ 12 100))) up (fun t => t.dev.power.wdtEn && t.dev.power.timeout == 100 && ans t (d (1 + at_ 12 100)) .ok 0) = true ∧
    admitted up opPwrStatusGet (d 0) .controller = true ∧ run (.pwrStatusGet (d 0)) up (fun t => ans t (d 0) .ok 0x4000) = true := by
  decide +kernel

/-- FunctionHolds: PWR_FRESET of a loop engine's function and of function 1, and FRST_WRITE. -/
theorem test_function_holds :
    let d (f h : Nat) := dsc (0x50200000 + f) h
    admitted up opPwrFreset (d 2 1) (.function 2) = true ∧ admitted up opPwrFreset (d 1 1) (.function 1) = true ∧
    run (.pwrFreset (d 2 1)) up (fun t => t.dev.power.frst == 4 && ans t (d 2 1) .ok 0) = true ∧
    run (.pwrFreset (d 91 0)) (power up fun p => { p with frst := 5 <<< 89 }) (fun t => t.dev.power.frst == 1 <<< 89) = true ∧
    run (.pwrFreset (d 1 1)) up (fun t => ans t (d 1 1) .conflict 0 && t.dev.power.frst == 0) = true ∧
    run (.frstWrite 0 4) up (fun t => t.dev.power.frst == 4 && t.dev.raised.any fun e =>
      e.code == EV_FUNC_RESET && e.handle == hFunc 2 && e.arg == mkWord [(0, 7, 2), (8, 1, 1)]) = true ∧
    run (.frstWrite 0 2) rings (fun t => t.ring.sqs[0].phase == .disabled && !t.ring.eq.en && t.dev.power.frst == 2) = true := by decide +kernel

/-- FunctionEnables: FEN2's last function. -/
theorem test_function_enables : up.reach = true ∧ alwaysOn 89 = false ∧
    run (.fenWrite 2 0x02000000) State.reset (fun t => t.dev.enabled 89 && !t.dev.enabled 91 && !t.dev.enabled 5) = true := by decide +kernel

/-- DeviceResets. -/
theorem test_device_resets : up.dev.power.vmainHold = false ∧
    run .devrst rings (fun t => t.ring.sqs[0].phase == .disabled && t.dev.regs.ready && t.dev.regs.rstCause == 1) = true ∧
    run .svWatchdogReset rings (fun t => t.ring.sqs[0].phase == .disabled && t.dev.regs.rstCause == 2) = true ∧
    run (.porst true) (dev rings fun v => { v with hollow := { v.hollow with vmainBad := false } })
      (fun t => t.dev.regs.attach && t.dev.regs.rstCause == 0 && t.dev.power.fen == 0) = true ∧
    run (.porst true) (dev rings fun v => { v with hollow := { v.hollow with vmainBad := true } })
      (fun t => t.dev.power.vmainHold && !t.dev.regs.ready) = true ∧
    run .vcoreBrownOut { rings with mem := { host := [(1, 1)], win := [(2, 2)] } } (fun t => t.mem == { host := [(1, 1)] }) = true := by
  decide +kernel

/-- IdleAndCommit. -/
theorem test_idle_commit :
    let s := dev (power up fun p => { p with idleS := 1 }) fun v => { v with now := 1 }
    s.dev.power.idleAt ≠ s.dev.now ∧ run .idleTimerExpiry (power up fun p => { p with idleS := 1 }) (fun t => t.dev.power.state == 0) = true ∧
    (∀ n : Fin 144, (s.dev.loops[n]).fastDeclared = false) ∧ s.dev.power.sleep = .none ∧ s.dev.nv.busy = none ∧
    run .idleTimerExpiry s (fun t => t.dev.power.state == 1) = true ∧
    run .idleTimerExpiry (loop s 143 fun l => { l with state := .run, fast := true, trig := 0, periodUs := 40 }) (fun t => t.dev.power.state == 0 && t.dev.power.ecoRefused) = true ∧
    run .sleepCommit (power up fun p => { p with sleep := .requested (pwr 2) }) (fun t => t.dev.power.state == 2 && t.dev.power.sleep == .asleep (pwr 2)) = true ∧
    run .sleepCommit (power up fun p => { p with sleep := .requested (pwr 3) })
      (fun t => t.dev.power.state == 3 && t.dev.power.sleep == .hibernating && t.dev.hollow.release == some 32) = true := by decide +kernel

/-- Asleep, with every wake source enabled. -/
def asleep : State :=
  power up fun p => { p with
    sleep := .asleep (pwr 2), state := 2, wakePins := 15, wakeKeys := true, wakeHost := true, wakeVale := 0xFFFF }

/-- Wakes: each source in SLEEP, during the request, and one that is not enabled. -/
theorem test_wakes :
    let req := power asleep fun p => { p with sleep := .requested (pwr 2), state := 0 }
    asleep.dev.waits = [] ∧ asleep.dev.power.wakeEnabled 4 = true ∧ asleep.dev.power.wakeEnabled 31 = true ∧
    run (.wakePinEdge 3) asleep (fun t => t.dev.power.state == 0 && t.dev.power.wakeSrc == 4 && ans t (pwr 2) .ok 4) = true ∧
    run .hostWake asleep (fun t => t.dev.power.wakeSrc == 9 && ans t (pwr 2) .ok 9) = true ∧
    run (.valeWake 15) asleep (fun t => t.dev.power.wakeSrc == 31 && ans t (pwr 2) .ok 31) = true ∧
    run .keyWake (dev asleep fun v => { v with panel := { v.panel with mode := 1 } }) (fun t => ans t (pwr 2) .ok 5) = true ∧
    run (.wakePinEdge 0) req (fun t => t.dev.power.sleepAbort && ans t (pwr 2) .conflict 1) = true ∧
    run .hostWake (power asleep fun p => { p with wakeHost := false }) (fun t => t.dev.power.sleep == .asleep (pwr 2)) = true := by decide +kernel

/-- GroupsAndClocks. -/
theorem test_groups_clocks :
    let s := power up fun p => { p with groups := 0x82, pllbLock := true }
    run (.wakeGroupStart 7) s (fun t => t.dev.power.groups == 2) = true ∧ s.dev.power.sleep = .none ∧
    run (.wakeGroupStart 0) (power up fun p => { p with groups := 1, pllbDown := true }) (fun t => t.dev.power.groups == 0) = true ∧
    run (.wakeGroupStart 1) (power s fun p => { p with pllbLock := false }) (fun t => t.dev.power.groups == 0x82 && t.dev.power.groupsDue == 2) = true ∧
    run (.pllLock .pllA) up (fun t => t.dev.power.pllaLock) = true ∧ run (.pllLock .pllB) up (fun t => t.dev.power.pllbLock) = true := by
  decide +kernel

theorem test_clocks :
    run (.clockFail .pllA) up (fun t => t.dev.power.pllaFail && !t.dev.held 2) = true ∧
    up.dev.power.pllaDown = false ∧ up.dev.power.pllbDown = false ∧ up.dev.power.xclkDown = false ∧
    run (.clockRetry .pllA true) (power up fun p => { p with pllaDown := true }) (fun t => t.dev.power.pllaLock && t.dev.power.pllaDown) = true ∧
    asleep.dev.dark = true ∧ up.dev.dark = false ∧
    run (.clockRestored .xclk) (power asleep fun p => { p with xclkDown := true }) (fun t => t.dev.power.xclkDown) = true ∧
    run (.clockRetry .pllA true) (power asleep fun p => { p with pllaDown := true, pllaLock := false }) (fun t => !t.dev.power.pllaLock) = true ∧
    run (.clockRestored .xclk) (power up fun p => { p with xclkDown := true }) (fun t => t.dev.power.xclkOk && !t.dev.power.xclkDown) = true := by
  decide +kernel

/-- Supervision: heartbeats, host loss, memory errors. -/
theorem test_supervision : up.dev.power.halted.getLsbD 2 = false ∧ up.dev.dark = false ∧
    run (.heartbeatTimeout 2) up (fun t => t.dev.power.frst == 0 && t.dev.raised.length == 2 && t.dev.raised.all fun e => e.code == EV_FUNC_RESET) = true ∧
    run .hostLossTimeout (dev (power up fun p => { p with wdtEn := true }) fun v => { v with now := 1 }) (fun t => t.dev.power.policy && t.dev.raised.any fun e => e.code == EV_HOST_LOSS) = true ∧
    run (.sramEccError .plain true) up (fun t => t.dev.power.memUe == 1) = true ∧
    run (.sramEccError .plain false) up (fun t => t.dev.power.memUe == 0 && t.dev.power.memCe.toList.any (· == 1)) = true := by decide +kernel

/-- An empty Atost image. -/
def image0 : List Byte := [0x41, 0x54, 0x53, 0x54, 1, 0, 0, 0, 0, 0, 0, 0, 0x16, 0x48, 0, 0]

/-- Supervision: AUTORUN of an active bank, and the TAP. -/
theorem test_autorun_tap :
    let s := dev up fun v => { v with regs := { v.regs with ready := true }, power := { v.power with fen := 0 }, nv := { v.nv with bank := 0, autoPend := true, banks := v.nv.banks.set 0 (Bank.written 1 1 image0) } }
    s.dev.nv.activeBank = some 0 ∧
    run .autorun s (fun t => !t.dev.nv.autoPend && t.dev.raised.any fun e => e.code == EV_AUTORUN) = true ∧
    run .autorun up (fun t => t.dev.raised == []) = true ∧
    run (.jtagTapAccess .leaveReset) up (fun t => t.dev.regs.tapSeen) = true ∧
    run (.jtagTapAccess (.halt 11)) up (fun t => t.dev.power.halted.getLsbD 11) = true ∧
    run (.jtagTapAccess (.halt 11)) (dev up fun v => { v with nv := { v.nv with dbgLock := true } }) (fun t => t.dev.power.halted == 0) = true := by
  decide +kernel

/-! ## The log and the NV store -/

/-- A record of severity `v`. -/
def recOf (v : Sev) : LogRec := { rec0 with sev := v, mirrored := false }

/-- An occurrence of severity `v`. -/
def occ (v : Sev) : Occ := { sev := v, src := 8, code := 0x181, arg := 0 }

/-- LogStorageAndNesting: log RAM full of WARNs gives its oldest record to an ALARM, and drops an INFO. -/
theorem test_log_full (n : Nat) : (List.replicate 4096 (recOf .warn)).length = 4096 ∧
    ¬ (∃ r ∈ List.replicate 4096 (recOf .warn), r.sev = .trace) ∧ (occ .alarm).single = false ∧
    ((List.replicate n (recOf .info)).all fun r => (occ .alarm).sameAs false r = false) = true := by
  refine ⟨List.length_replicate .., ?_, rfl, ?_⟩
  · rintro ⟨r, hr, h⟩; rw [(List.mem_replicate.mp hr).2] at h; cases h
  · rw [List.all_eq_true]; intro r hr; rw [(List.mem_replicate.mp hr).2]; decide

/-- The slots taken: the oldest of a severity, and the ALARM after the two oldest. -/
theorem test_log_room : dropOldest [recOf .alarm, recOf .warn, recOf .info, recOf .warn] .warn = [recOf .alarm, recOf .info, recOf .warn] ∧
    dropAlarmAfter 2 [recOf .alarm, recOf .fault, recOf .alarm, recOf .alarm] = [recOf .alarm, recOf .fault, recOf .alarm] ∧
    logRoom [recOf .warn] .info = some [recOf .warn] := by decide +kernel

/-- An error of a WARN being handled for loop 3. -/
def err : ErrState := { source := hLoop 3, func := 6, cls := .warn, code := LG_LOOP_FOLLOW, curSeq := some 0 }

/-- LogStorageAndNesting: a source of a held function, one that is idle, a second WARN, and a FAULT that supersedes. -/
theorem test_nesting :
    let s := (log up fun g => { g with errs := [err] }).dev
    up.dev.errOf (hLoop 3) = none ∧ s.errOf (hLoop 3) = some err ∧
    ((power up fun p => { p with frst := 64 }).dev.report (hLoop 3) 6 .fault LG_LOOP_FEEDBACK 0).2 = false ∧
    (up.dev.report (hLoop 3) 6 .fault LG_LOOP_FEEDBACK 0).2 = true ∧ (s.report (hLoop 3) 6 .warn LG_LOOP_FOLLOW 0).2 = false ∧
    ((s.report (hLoop 3) 6 .fault LG_LOOP_FEEDBACK 0).1.errOf (hLoop 3)).map (·.cls) = some .fault := by decide +kernel

/-- LogDescriptors. -/
theorem test_log_read :
    let d := dsc 0x50200038 (at_ 8 0x1000 + at_ 16 32 + at_ 22 1)
    let s := log up fun g => { g with recs := [rec0, { rec0 with num := 1 }, { rec0 with num := 2 }], count := 3 }
    admitted s opLogRead d (.function 56) = true ∧ s.dev.bulkOk d = true ∧ bulkLen d % 16 = 0 ∧ d.flag 22 0 = true ∧
    run (.logRead d) s (fun t => ans t d .ok 2 && t.dev.done.any fun c => c.bulk.any fun b => b.1 == 0x1000 && b.2.length == 32) = true := by decide +kernel

theorem test_log_class :
    let d (p : Nat) := dsc 0x50200038 p
    let s := log up fun g => { g with errs := [{ err with source := hLoop 3, cls := .fault, code := LG_LOOP_FEEDBACK }], recs := [rec0], count := 1 }
    admitted s opLogConfig (d 4) (.function 56) = true ∧ run (.logConfig (d 4)) s (fun t => t.dev.log.lqMin == 4 && ans t (d 4) .ok 0) = true ∧
    run (.logConfig (d 5)) s (fun t => ans t (d 5) .range 0) = true ∧
    admitted s opLogAck (dsc 0x30100003 0) (.loop 3) = true ∧ s.dev.ownAck (.loop 3) err = false ∧
    run (.logAck (dsc 0x30100003 0)) s (fun t => ans t (dsc 0x30100003 0) .ok 1 && !t.dev.handling (hLoop 3)) = true ∧
    run (.logAck (dsc 0x30100004 0)) s (fun t => ans t (dsc 0x30100004 0) .conflict 0) = true ∧
    admitted s opLogStatsGet (d 4) (.function 56) = true ∧ run (.logStatsGet (d 4)) s (fun t => ans t (d 4) .ok 0) = true ∧
    admitted s opLogMark (d 0x77) (.function 56) = true ∧
    run (.logMark (d 0x77)) s (fun t => ans t (d 0x77) .ok 1 && t.dev.log.count == 2 && t.dev.log.recs.any fun r => r.code == LG_HOST_MARK && r.arg == 0x77) = true ∧
    admitted s opDiagEngineGet (dsc 0x50300005 0) (.engine 5) = true := by decide +kernel

/-- LogMoments: the window, the load, the summary, the quiet second. -/
theorem test_log_moments :
    let s := log up fun g => { g with recs := [rec0], flood := true, supTrace := 3, inCnt := 5 }
    s.dev.held 56 = false ∧ s.dev.asleep = false ∧ s.dev.log.fill < 2048 ∧ up.dev.log.fill ≤ 3072 ∧
    run (.coalesceWindowClose 0) s (fun t => t.dev.log.recs.all fun r => !r.open_) = true ∧
    run .logLoadEval s (fun t => !t.dev.log.flood && t.dev.log.inCnt == 0 && t.dev.raised.any fun e => e.code == EV_LOG_FLOOD) = true ∧
    run .logLoadEval (log up fun g => { g with inCnt := 2 }) (fun t => t.dev.log.inCnt == 0 && !t.dev.log.flood) = true ∧
    run .summaryTimer s (fun t => t.dev.log.supTrace == 0 && t.dev.log.recs.any fun r => r.code == LG_LOG_SUMMARY && r.arg == 3) = true ∧
    warnEndsItself.contains LG_RING_STALL = false ∧
    run (.warnQuietExpiry hHe) (log up fun g => { g with errs := [{ err with source := hHe, code := LG_RING_STALL }] }) (fun t => !t.dev.handling hHe) = true := by
  decide +kernel

/-- LogMoments: more than 3072 records wait. -/
theorem test_log_flood : (List.replicate 3073 rec0).countP (fun r => !r.delivered) = 3073 := by
  rw [List.countP_replicate]; rfl

/-- NvStore: NV_CONFIG_WRITE and NV_CONFIG_READ. -/
theorem test_nv_config :
    let d := dsc 0x50200039 (at_ 16 16)
    let s := dev up fun v => { v with bulk := [{ op := 0xF0, d }] }
    let b := dev up fun v => { v with nv := { v.nv with busy := some (.config d 0 image0) } }
    admitted up opNvConfigWrite d (.function 57) = true ∧ up.dev.bulkOk d = true ∧ objOf d.handle = some (.function 57) ∧
    imageOk false image0 = true ∧ image0.length = bulkLen d ∧ up.dev.nv.busy = none ∧ up.dev.nvRuns = true ∧
    run (.nvConfigWrite d) up (fun t => t.dev.bulk == [{ op := 0xF0, d }]) = true ∧
    run (.bulkReadCompletion .ok image0) s (fun t => t.dev.nv.busy == some (.config d 0 image0) && t.dev.bulk == []) = true ∧
    run (.nvWriteComplete true) b (fun t => (t.dev.nv.banks[0]).valid && (t.dev.nv.banks[0]).image == image0 && t.dev.nv.busy == none) = true ∧
    run (.nvWriteComplete false) b (fun t => ans t d .nvFail 0) = true ∧
    run (.nvConfigRead d) (dev up fun v => { v with nv := { v.nv with banks := v.nv.banks.set 0 (Bank.written 1 1 image0) } })
      (fun t => ans t d .ok (16 + 2 ^ 32)) = true := by decide +kernel

theorem test_nv_others :
    let f := dsc 0x50200039 (at_ 16 16)
    let g := dsc 0x50200039 (at_ 16 16 + at_ 20 16)
    let i := dsc 0x50200039 0x5A5AA5A5
    let k := dsc 0x50100000 (5 + at_ 16 9)
    admitted up opNvStatusGet (dsc 0x50200039 0) (.function 57) = true ∧ run (.fwWrite f) up (fun t => t.dev.bulk == [{ op := 0xF3, d := f }]) = true ∧
    run (.fwWrite g) up (fun t => ans t g .range 0) = true ∧
    run (.nvInvalidate i) up (fun t => t.dev.nv.busy == some (.invalidate i)) = true ∧
    run (.nvWriteComplete true) (dev up fun v => { v with nv := { v.nv with busy := some (.invalidate i), banks := #v[Bank.written 1 1 image0, Bank.written 2 1 image0] } })
      (fun t => !(t.dev.nv.banks[0]).valid && !(t.dev.nv.banks[1]).valid && t.dev.nv.bank == 3) = true ∧
    admitted up opValeKeySet k .controller = true ∧ up.dev.nv.keyFits k = true ∧
    run (.valeKeySet k) up (fun t => t.dev.nv.busy == some (.key k 5 (some 9))) = true := by decide +kernel

/-- NvStore: a key in both copies, and start-up's repair of each from the other. -/
theorem test_keys :
    let d := dsc 0x50100000 (5 + at_ 16 9)
    let e := keyEntry 5 (some 9)
    let s := dev up fun v => { v with nv := { v.nv with busy := some (.key d 5 (some 9)) } }
    let n := s.dev.nv
    e.good = true ∧ n.keyWrite 5 (some 9) = some (0, e) ∧ goodEntry n.keyA[0] = none ∧
    run (.nvWriteComplete true) s (fun t => t.dev.nv.keyA[0] == some e && t.dev.nv.keyB[0] == some e && t.dev.nv.busy == none) = true ∧
    ({ n with keyB := n.keyB.set 0 (some e) } : Nv).checkKeys.keyA[0] = some e ∧
    ({ n with keyA := n.keyA.set 0 (some e) } : Nv).checkKeys.keyB[0] = some e := by decide +kernel

/-- NvStore: a bulk-data read that fails or times out. -/
theorem test_bulk_failures :
    let d := dsc 0x50200039 (at_ 16 16)
    let s := dev up fun v => { v with bulk := [{ op := 0xF0, d }] }
    s.qspi = false ∧ run (.bulkReadCompletion .poisoned image0) s (fun t => ans t d .peerError 0 && t.dev.bulk == []) = true ∧
    run (.pcieCompletionTimeout none) s (fun t => ans t d .timeout 0 && t.dev.bulk == []) = true := by decide +kernel

/-! ## Hollow -/

/-- Hollow in use: past start-up, its oscillator running. -/
def hol (s : State) (f : Hollow → Hollow) : State := dev s fun v => { v with hollow := f v.hollow }
def live : State := hol up fun h => { h with lockout := false, oscRun := true, vmainBad := false, cnt := 100 }

/-- HollowDescriptors. -/
theorem test_hollow_time :
    let d (p : Nat) := dsc 0x50200037 p
    let set := d (2 + at_ 20 0x1704_1F_01_17_3B_3A)
    let g : Staged := { cnt := some 5, cal := none, d := { d 0 with sq := 1 } }
    live.dev.hollow.staged = none ∧ live.dev.hollow.stageQ = [] ∧ live.dev.hollow.lockout = false ∧ live.dev.hollow.awaits 0 = false ∧
    (hol live fun h => { h with staged := some { g with d := d 0 } }).dev.hollow.awaits 0 = true ∧
    run (.hollowTimeGet (d 0)) (hol live fun h => { h with staged := some { g with d := d 0 } }) (fun t => t.dev.done == []) = true ∧
    run (.hollowTimeGet (d 0)) (hol live fun h => { h with staged := some g }) (fun t => ans t (d 0) .ok (100 + 3 * 2 ^ 48)) = true ∧
    run (.hollowTimeSet set) (hol live fun h => { h with staged := some g }) (fun t => t.dev.hollow.stageQ == [set] && t.dev.done == []) = true ∧ admitted live opHollowTimeGet (d 0) (.function 55) = true ∧
    run (.hollowTimeGet (d 0)) live (fun t => ans t (d 0) .ok (100 + 2 ^ 48)) = true ∧
    run (.hollowCalGet (d 0)) live (fun t => ans t (d 0) .ok (2 ^ 56)) = true ∧
    admitted live opHollowTimeSet set (.function 55) = true ∧ timeSetBad set = false ∧
    run (.hollowTimeSet set) live (fun t => t.dev.hollow.staged.any (fun g => g.cal == some { april with second := 58 })) = true ∧
    timeSetBad (d (2 + at_ 20 60)) = true ∧ run (.hollowTimeSet (d (2 + at_ 20 60))) live (fun t => ans t (d (2 + at_ 20 60)) .range 0) = true := by
  decide +kernel

theorem test_hollow_set :
    let d (p : Nat) := dsc 0x50200037 p
    admitted live opHollowAlarmSet (d (0x81 + at_ 12 101)) (.function 55) = true ∧
    run (.hollowAlarmSet (d (0x81 + at_ 12 101))) live (fun t => t.dev.hollow.alarm1.armed && t.dev.hollow.alarm1.value == 101 && !t.dev.hollow.alarm0.armed) = true ∧
    run (.hollowAlarmSet (d (0x80 + at_ 12 100))) live (fun t => ans t (d (0x80 + at_ 12 100)) .late 0 && !t.dev.hollow.alarm0.armed && t.dev.hollow.alarm0.value == 0) = true ∧
    admitted live opHollowWakeSet (d 0x98) (.function 55) = true ∧ run (.hollowWakeSet (d 0x98)) live (fun t => t.dev.hollow.wakeEn && t.dev.hollow.wakeExp == 24) = true ∧
    admitted live opHollowTrim (d 0xFFEC) (.function 55) = true ∧ run (.hollowTrim (d 0xFFEC)) live (fun t => t.dev.hollow.trimNext == -20) = true ∧
    admitted live opHollowBackupWrite (d (56 + at_ 16 7)) (.function 55) = true ∧
    run (.hollowBackupWrite (d (56 + at_ 16 7))) live (fun t => t.dev.hollow.backup[56] == 7 && t.dev.hollow.backup[55] == 0) = true ∧
    run (.hollowBackupRead (d 56)) (hol live fun h => { h with backup := h.backup.set 57 1 }) (fun t => ans t (d 56) .ok 256) = true ∧
    run (.hollowPwron (d (1 + at_ 12 9))) live (fun t => t.dev.hollow.release == some 9 && t.dev.hollow.pwron) = true ∧
    run (.hollowPwron (d 0)) (hol live fun h => { h with pwron := false }) (fun t => t.dev.hollow.pwron) = true ∧
    run (.hollowOsfClear (d 0)) live (fun t => !t.dev.hollow.osf && ans t (d 0) .ok 1) = true := by decide +kernel

/-- HollowReads: without a freeze, with one of each group, its end, and the roll from 31 April. -/
theorem test_hollow_reads :
    let z := hol live fun h => { h with freeze := some { byCal := false, cnt := 0x7FFF_0000_0005, cal := april }, cal := april }
    live.reach = true ∧ live.dev.hollowUp = true ∧ live.dev.hollow.freeze = none ∧
    run .hollowCntLoRead live (fun t => t.ring.rdata == [100, 0, 0, 0] && t.dev.hollow.freeze.isSome) = true ∧
    run .hollowCal0Read live (fun t => t.dev.hollow.freeze.any (·.byCal)) = true ∧
    run .hollowCntHiRead live (fun t => t.ring.rdata == [0, 0, 0, 0]) = true ∧
    run .hollowCntHiRead z (fun t => t.ring.rdata == [0xFF, 0x7F, 0, 0x80] && t.dev.hollow.freeze == none) = true ∧
    run .hollowCal1Read z (fun t => t.ring.rdata == [0x1F, 0x04, 0x17, 0x80] && t.dev.hollow.freeze.isSome) = true ∧
    run .freezeExpiry z (fun t => t.dev.hollow.freeze == none) = true ∧
    run .calendarSecond live (fun t => t.dev.hollow.cal == live.dev.hollow.cal) = true ∧
    run .calendarSecond (hol live fun h => { h with secDue := true, cal := { april with day := 30 } }) (fun t => t.dev.hollow.cal.day == 1 && t.dev.hollow.cal.month == 5) = true := by
  decide +kernel

/-- HollowMoments. -/
theorem test_hollow_moments :
    let d := dsc 0x50200037 3
    let g : Staged := { cnt := some 5, cal := some april, d }
    let s := dev (hol live fun h => { h with staged := some g }) fun v => { v with waits := [{ op := 0xC2, d }] }
    run .stagedCommit s (fun t => t.dev.hollow.cnt == 5 && t.dev.hollow.cal == april && t.dev.hollow.staged == none && ans t d .ok 100) = true ∧
    run (.alarmFire 1) live (fun t => !t.dev.hollow.alarm1.hit) = true ∧
    run (.alarmFire 1) (hol live fun h => { h with alarm1 := { h.alarm1 with armed := true, due := true } })
      (fun t => !t.dev.hollow.alarm1.armed && t.dev.hollow.alarm1.hit && t.dev.raised.any fun e => e.code == EV_HOLLOW_ALARM && e.arg == 1) = true ∧
    live.dev.hollow.counts = true ∧
    run .periodicWake (hol live fun h => { h with wakeEn := true, wakeExp := 24, perDue := true }) (fun t => t.dev.raised.any fun e => e.code == EV_HOLLOW_WAKE && e.arg == 24) = true ∧
    run .pwronRelease (hol live fun h => { h with release := some 0 }) (fun t => !t.dev.hollow.pwron) = true ∧
    run .oscillatorStop live (fun t => t.dev.hollow.osf && !t.dev.hollow.oscRun) = true ∧
    run .oscillatorRestart up (fun t => t.dev.hollow.oscRun) = true := by decide +kernel

theorem test_hollow_supply :
    let bad := hol live fun h => { h with vmainBad := true, cnt := 7 }
    run .vmainFail live (fun t => t.dev.hollow.lockout && t.dev.power.vmainHold && t.dev.hollow.cnt == 100) = true ∧
    run .vhollowBor bad (fun t => t.dev.hollow.cnt == 0 && t.dev.hollow.osf) = true ∧
    run .vbatReturn (hol bad fun h => { h with inReset := true }) (fun t => !t.dev.hollow.inReset) = true ∧
    bad.dev.regs.porstN = true ∧ run .vmainQualified bad (fun t => !t.dev.hollow.vmainBad && t.dev.hollow.cnt == 7 && t.dev.regs.ready) = true ∧
    run .vmainQualified (dev bad fun v => { v with regs := { v.regs with porstN := false } }) (fun t => t.dev.power.vmainHold && !t.dev.regs.ready) = true := by
  decide +kernel

/-! ## The checks of descriptors -/

/-- DescriptorChecks: a reserved payload bit, a handle of no object, one of another kind, a held and a disabled function, and a
descriptor behind another. -/
theorem test_checks :
    let d := dsc 0x30100003 0
    let q := dev up fun v => { v with fq := [{ op := 0x36, d := dsc 0x30100004 0 }, { op := 0x36, d }] }
    up.dev.hollow.awaits 0 = false ∧ up.dev.regs.recovery = false ∧ (∀ p : Fin 8, (up.dev.bb p).work = []) ∧ up.dev.behind 0x36 d = false ∧ q.dev.behind 0x36 d = true ∧
    run (.loopSet (dsc 0x30100003 (at_ 31 1))) up (fun t => ans t d .range 0) = true ∧
    run (.loopSet (dsc 0x30100090 0)) up (fun t => ans t (dsc 0x30100090 0) .badHandle 0) = true ∧
    run (.loopSet (dsc 0x20200000 0)) up (fun t => ans t (dsc 0x20200000 0) .badHandle 0) = true ∧
    run (.loopSet d) (power up fun p => { p with frst := 64 }) (fun t => ans t d .inReset 0) = true ∧
    run (.valveAck (dsc 0x20300000 0)) State.reset (fun t => ans t (dsc 0x20300000 0) .disabled 0) = true ∧
    run (.loopSet d) q (fun t => t.dev.fq.length == 2 && t.dev.done == []) = true := by decide +kernel

/-! ## The timebase -/

/-- A change of the timebase. -/
def tb (s : State) (f : Tb → Tb) : State := dev s fun v => { v with tb := f v.tb }

/-- TB_CONFIG with the reset values and a MODE. -/
def tbc (mode : Nat) : Desc := dsc 0x50200002 (mode + at_ 10 8 + at_ 11 8 + at_ 12 16 + at_ 14 1311 + at_ 20 2 + at_ 22 3)

/-- TimebaseConfig: out of range, disabled, OFF, LINE, SYNTHETIC, and SYNTHETIC to LINE. -/
theorem test_tb_config :
    let free := tb up fun t => { t with mode := 2, state := .free, valid := true, inc := 35184372, acc := 5 }
    admitted up opTbConfig (tbc 1) (.function 2) = true ∧ tbConfigOk (tbc 0) = true ∧ tbConfigOk (dsc 0x50200002 0) = false ∧ up.dev.active 2 = true ∧
    run (.tbConfig (dsc 0x50200002 0)) up (fun t => ans t (tbc 0) .range 0) = true ∧
    run (.tbConfig (tbc 1)) State.reset (fun t => ans t (tbc 1) .disabled 0) = true ∧
    run (.tbConfig (tbc 0)) free (fun t => t.dev.tb.state == .off && t.dev.tb.acc == 0 && !t.dev.tb.valid) = true ∧
    run (.tbConfig (tbc 1)) up (fun t => t.dev.tb.state == .acquire && t.dev.tb.mode == 1 && ans t (tbc 1) .ok 0) = true ∧
    run (.tbConfig (tbc 6)) up (fun t => t.dev.tb.state == .free && t.dev.tb.valid && t.dev.tb.inc == 42221247) = true ∧
    run (.tbConfig (tbc 1)) free (fun t => t.dev.tb.state == .unlocked && t.dev.tb.valid && t.dev.tb.acc == 5) = true := by decide +kernel

/-- An angle event of FUNC 22, REPEAT 2, at ANGLE and CYCLE. -/
def tbe (func rep cycle : Nat) : Desc := dsc 0x20E000FF (0x99999999 + at_ 12 func + at_ 13 rep + at_ 15 2 + at_ 16 cycle)

/-- CalendarDescriptors: entry 255. -/
theorem test_calendar_descriptors :
    let s := tb up fun t => { t with cycle := 5, valid := true, state := .locked }
    admitted s opTbEventSet (tbe 22 2 6) (.angleEvent 255) = true ∧ subscriber 22 = true ∧ subscriber 2 = false ∧
    s.dev.tb.late 6 0x99999999 = false ∧ s.dev.tb.late 4 0x99999999 = true ∧
    run (.tbEventSet (tbe 22 2 6)) s (fun t => (t.dev.tb.cal[255]).en && (t.dev.tb.cal[255]).angle == 0x99999999 && ans t (tbe 22 2 6) .ok 0) = true ∧
    run (.tbEventSet (tbe 22 3 3)) s (fun t => (t.dev.tb.cal[255]).wait == 1) = true ∧
    run (.tbEventSet (tbe 22 2 4)) s (fun t => ans t (tbe 22 2 4) .late 0 && !(t.dev.tb.cal[255]).en) = true ∧
    run (.tbEventSet (tbe 2 0 0)) s (fun t => ans t (tbe 2 0 0) .range 0) = true ∧
    run (.tbEventClear (dsc 0x20E00001 0)) (tb s fun t => { t with cal := t.cal.set 1 { en := true } }) (fun t => !(t.dev.tb.cal[1]).en) = true ∧
    admitted s opTbStatusGet (dsc 0x50200002 0) (.function 2) = true := by decide +kernel

/-- TimebaseMoments: crossings in ACQUIRE, at 8 000 000 TCLK of 50 Hz. -/
theorem test_crossings :
    let a := tb (dev up fun v => { v with now := 24000000 }) fun t => { t with mode := 1, state := .acquire }
    let b := tb a fun t => { t with goods := 2, prevX := some 16000000, prevPer := some 8000000, p1 := some 8000000 }
    inRange 8000000 = true ∧ within1 8000000 8000000 = true ∧ b.dev.tb.filt = 0 ∧ b.dev.tb.comp = 0 ∧
    run .lineCrossing a (fun t => t.dev.tb.goods == 1 && t.dev.tb.prevX == some 24000000) = true ∧
    run .lineCrossing (tb a fun t => { t with goods := 1, prevX := some 16000000 }) (fun t => t.dev.tb.goods == 2 && t.dev.tb.p1 == some 8000000) = true ∧
    run .lineCrossing b (fun t => t.dev.tb.goods == 3 && t.dev.tb.acc == 0) = true ∧
    (tb b fun t => { t with goods := 3, prevX := some 23000000 }).dev.tb.judge 24000000 = (false, some 1000000) := by decide +kernel

/-- TimebaseMoments: judgements in LOCKED and HOLDOVER. -/
theorem test_judgements :
    let l := tb up fun t => { t with mode := 1, state := .locked, valid := true, inc := 35184372 }
    let h := tb l fun t => { t with state := .holdover, misses := 8 }
    incMin ≤ 35184372 ∧ 35184372 ≤ incMax ∧ h.dev.handling hTb = false ∧
    run .cycleJudgement l (fun t => t.dev.tb.state == .holdover && t.dev.tb.misses == 1 && t.dev.raised.any fun e => e.code == EV_TB_STATE && e.arg == 0x00010203) = true ∧
    run .cycleJudgement h (fun t => t.dev.tb.state == .unlocked && t.dev.tb.unlocks == 1 && t.dev.log.errs.any fun e => e.code == LG_TB_UNLOCKED) = true ∧
    run .cycleJudgement (tb h fun t => { t with xIn := 1 }) (fun t => t.dev.tb.state == .locked && t.dev.tb.misses == 0) = true := by decide +kernel

/-- TimebaseMoments: what an entry does as the angle moves. -/
theorem test_calendar_move :
    let e : CalEntry := { en := true, angle := 10, div := 2 }
    (e.move 9 10 0 0 true 5).due = some 5 ∧ (e.move 10 11 0 0 true 5).due = none ∧ ({ e with rest := true }.move 10 11 0 0 true 5).due = some 5 ∧
    ({ e with wait := 1 }.move 0 0 7 8 false 5).wait = 0 ∧ (e.move 0 0 7 8 true 5).wait = 2 ∧ (e.move 9 10 0 0 false 5).due = none := by decide +kernel

/-- TimebaseMoments: the calendar fires, a Vale slot opens and closes, TB_ANGLE is read. -/
theorem test_fire :
    let c (e : CalEntry) := tb up fun t => { t with valid := true, cycle := 7, acc := 0x123456789ABC, cal := t.cal.set 255 e }
    run (.calendarEntryFire 255) (c { en := true, rep := 2, func := 22, cycle := 7, due := some 0 }) (fun t => !(t.dev.tb.cal[255]).en) = true ∧
    run (.calendarEntryFire 255) (c { en := true, func := 14, arg := 7, due := some 0 }) (fun t => (t.dev.vports[15]).slotOpen) = true ∧
    run (.calendarEntryFire 255) (c { en := true, func := 13, arg := 15, due := some 0 }) (fun t => !(t.dev.vports[7]).slotOpen) = true ∧
    run (.calendarEntryFire 255) (c {}) (fun t => t.dev.vports == up.dev.vports) = true ∧
    run .tbAngleRead (c {}) (fun t => t.dev.tb.cycLatch == 7) = true := by decide +kernel

/-! ## The converters -/

/-- A change of a converter. -/
def conv (s : State) (c : Fin 3) (f : Conv → Conv) : State := dev s fun v => { v with convs := vmod v.convs c f }

/-- ConverterDescriptors. -/
theorem test_adc_config :
    let d (p : Nat) := dsc 0x50200003 p
    let on := conv up 0 fun c => { c with run := true }
    admitted up opAdcConfig (d (at_ 8 1 + at_ 9 31)) (.function 3) = true ∧
    run (.adcConfig (d (at_ 8 1 + at_ 9 31))) (conv up 0 fun c => { c with refOk := true }) (fun t => (t.dev.convs[0]).refsel == 1 && (t.dev.convs[0]).last == 31 && !(t.dev.convs[0]).refOk) = true ∧
    run (.adcConfig (d 3)) up (fun t => ans t (d 3) .range 0) = true ∧
    entryOk false (BitVec.ofNat 128 15) = true ∧ entryOk false (BitVec.ofNat 128 16) = false ∧
    run (.adcSeqWrite (d (31 + at_ 16 15))) up (fun t => (t.dev.convs[0]).table[31] == 15) = true ∧
    run (.adcSeqWrite (d (31 + at_ 16 16))) up (fun t => ans t (d (31 + at_ 16 16)) .range 0) = true ∧
    admitted up opAdcRun (d 1) (.function 3) = true ∧ up.dev.active 3 = true ∧ up.dev.faEco 0 = false ∧
    run (.adcRun (d 1)) up (fun t => (t.dev.convs[0]).run && (t.dev.convs[0]).phase != .stopped && ans t (d 1) .ok 0) = true ∧
    run (.adcRun (d 0)) on (fun t => !(t.dev.convs[0]).run && (t.dev.convs[0]).phase == .stopped) = true ∧
    run (.adcRun (d 2)) State.reset (fun t => ans t (d 2) .disabled 0) = true ∧ up.dev.inEco 0 = false ∧ up.dev.convWaits 0 = false ∧
    run (.adcRun (d 2)) (conv on 0 fun c => { c with entry := 3 }) (fun t => (t.dev.convs[0]).entry == 0 && (t.dev.convs[0]).run && ans t (d 2) .ok 0) = true ∧
    (power up fun p => { p with groups := 0xFE }).dev.convWaits 0 = true ∧ (power up fun p => { p with groups := 0xFE }).dev.inEco 0 = false ∧
    run (.adcRun (d 2)) (power up fun p => { p with groups := 0xFE })
      (fun t => t.dev.waits == [{ op := 0x22, d := d 2 }] && (t.dev.convs[0]).phase == .stopped) = true := by decide +kernel

theorem test_adc_input :
    let c := dsc 0x2010003F (at_ 8 0xFF800000 + at_ 12 0x7FFFFFFF)
    let c0 := dsc 0x20100037 (at_ 8 0xFF800000 + at_ 12 0x7FFFFFFF)
    let u := dsc 0x2010000F 15
    let post := conv up 0 fun c => { c with run := true, phase := .postDelay }
    objOf c.handle = none ∧ admitted up opAdcCal c0 (.convInput 0 55) = true ∧
    run (.adcCal c0) up (fun t => ((t.dev.convs[0]).inputs[55]).offset == -8388608 && ((t.dev.convs[0]).inputs[55]).gain == 0x7FFFFFFF && ans t c0 .ok (0x40000000 * 2 ^ 32)) = true ∧
    admitted up opAdcRead (dsc 0x10100000 0) (.convResult 0 0) = true ∧ run (.adcRead (dsc 0x10100000 0)) up (fun t => ans t (dsc 0x10100000 0) .ok 0) = true ∧
    admitted up opAdcUrgent u (.convInput 0 15) = true ∧ (post.dev.convs[0]).inPost = true ∧ (up.dev.convs[0]).inPost = false ∧
    run (.adcUrgent u) post (fun t => (t.dev.convs[0]).urgent.any (·.d == u) && t.dev.waits == [{ op := 0x23, d := u }]) = true ∧
    run (.adcUrgent u) (conv up 0 fun c => { c with run := true, phase := .convert }) (fun t => ans t u .dropped 0 && (t.dev.convs[0]).urgentDrop == 1) = true := by
  decide +kernel

/-- ConverterMoments: a sample of FA0 at full gain, the expiries, the reference. -/
theorem test_conversion :
    let k (f : Conv → Conv) := conv up 0 fun c => f { c with run := true, refOk := true, refMark := 0, phase := .convert }
    run (.settleExpiry 0) (k fun c => { c with phase := .settle }) (fun t => (t.dev.convs[0]).phase == .convert) = true ∧
    run (.endOfConversion 0 16382 false) (k id) (fun t => (t.dev.convs[0]).prev.isSome && ((t.dev.convs[0]).inputs[0]).count == 1 && ((t.dev.convs[0]).inputs[0]).word == BitVec.ofNat 32 (0x80000000 + 16382 * 1024)) = true ∧
    run (.endOfConversion 0 5 false) (k fun c => { c with cur := 1#128 <<< 20, wordsLeft := 1 }) (fun t => (t.dev.convs[0]).phase == .convert) = true ∧
    run (.postDelayExpiry 0) (k fun c => { c with phase := .postDelay, last := 31, entry := 30 }) (fun t => (t.dev.convs[0]).entry == 31) = true ∧
    run (.waitLimitExpiry 0) (k fun c => { c with phase := .wait, last := 31, entry := 31 }) (fun t => (t.dev.convs[0]).entry == 0 && (t.dev.convs[0]).timeouts == 1) = true ∧
    run (.refOkRise 0) up (fun t => (t.dev.convs[0]).refOk && t.dev.raised.any fun e => e.code == EV_ADC_REF && e.arg == 1) = true ∧
    run (.refLost 0) (k id) (fun t => (t.dev.convs[0]).refLost && t.dev.log.errs.any fun e => e.code == LG_ADC_REF_LOST) = true := by decide +kernel

theorem test_urgent_end :
    let u : Urgent := { d := dsc 0x2010000F 15, entry := 15 }
    let s := conv up 0 fun c => { c with run := true, refOk := true, refMark := 0, phase := .postDelay, urgent := some u }
    u.entry.avg = 0 ∧ u.entry.skip = false ∧ u.group = {} ∧
    run (.urgentConversionEnd 0 9 false) s (fun t => (t.dev.convs[0]).urgent == none && t.dev.done.any fun c => c.status == .ok) = true ∧
    run (.postDelayExpiry 0) s (fun t => (t.dev.convs[0]).urgent.any (·.ended)) = true := by decide +kernel

/-! ## The loops -/

/-- Loop 143 bound to FA0 input 0 and PWM channel 47, on a timer of 1 ms. -/
def lo (f : Loop → Loop) : State :=
  loop up 143 fun l => f { l with bound := true, input := 0x10100000, output := 0x2020002F, periodUs := 1000 }

/-- Its descriptors. -/
def ld (p : Nat) : Desc := dsc 0x3010008F p

/-- LoopDescriptors: parameters. -/
theorem test_loop_parameters :
    let bind := ld (at_ 8 0x10100000 + at_ 12 0x2020002F + at_ 20 1000)
    admitted up opLoopBind bind (.loop 143) = true ∧ bindBad bind = false ∧ bindBad (ld 0) = true ∧ up.dev.isAttached 143 = false ∧
    run (.loopBind bind) up (fun t => (t.dev.loops[143]).bound && (t.dev.loops[143]).periodUs == 1000 && ans t bind .ok 0) = true ∧
    run (.loopBind bind) (lo fun l => { l with state := .run }) (fun t => ans t bind .busy 0) = true ∧
    run (.loopBind (ld 0)) up (fun t => ans t (ld 0) .range 0) = true ∧
    run (.loopScale (ld 5)) up (fun t => (t.dev.loops[143]).inGain == 5) = true ∧
    run (.loopGains (ld (1 + at_ 28 64))) up (fun t => (t.dev.loops[143]).kp == 1 && (t.dev.loops[143]).nn == 64) = true ∧
    run (.loopGains (ld (1 + at_ 28 65))) up (fun t => ans t (ld 0) .range 0) = true ∧
    run (.loopLimits (ld (at_ 12 9))) up (fun t => (t.dev.loops[143]).outMax == 9 && ans t (ld 0) .ok 0) = true ∧
    run (.loopLimits (ld 0)) up (fun t => ans t (ld 0) .range 0) = true ∧
    run (.loopProfile (ld 7)) up (fun t => (t.dev.loops[143]).vmax == 7) = true ∧
    run (.loopSupervise (ld (at_ 12 1 + at_ 14 1 + at_ 15 1 + at_ 22 2))) up (fun t => (t.dev.loops[143]).policy == 2) = true ∧
    run (.loopSet (ld 9)) up (fun t => (t.dev.loops[143]).target == 9) = true ∧
    run (.loopSet (ld 9)) (lo fun l => { l with spSrc := 1 }) (fun t => ans t (ld 9) .conflict 0) = true := by decide +kernel

/-- LoopDescriptors: LOOP_CTRL, whose ENABLE LoopMoments speaks of too, and LOOP_STATUS_GET. -/
theorem test_loop_ctrl :
    let f := lo fun l => { l with state := .safe }
    (lo id).dev.loopEnableCheck 143 = .ok ∧ ((lo id).dev.loopInput 143).cls ≠ .reset ∧ up.dev.loopEnableCheck 143 = .range ∧
    run (.loopCtrl (ld 1)) (lo id) (fun t => (t.dev.loops[143]).state == .run && (t.dev.loops[143]).first && ans t (ld 1) .ok 0) = true ∧
    run (.loopCtrl (ld 1)) up (fun t => ans t (ld 1) .range 0) = true ∧
    run (.loopCtrl (ld 0)) (lo fun l => { l with state := .run, u := 5 }) (fun t => (t.dev.loops[143]).state == .disabled && (t.dev.loops[143]).u == 5) = true ∧
    run (.loopCtrl (ld (2 + at_ 12 3))) (lo fun l => { l with state := .run }) (fun t => (t.dev.loops[143]).state == .manual && (t.dev.loops[143]).manual == 3) = true ∧
    run (.loopCtrl (ld 2)) f (fun t => ans t (ld 2) .conflict 0) = true ∧
    run (.loopCtrl (ld 3)) (lo fun l => { l with state := .manual }) (fun t => (t.dev.loops[143]).state == .run && (t.dev.loops[143]).bumpless) = true ∧
    f.dev.faultPersists 143 = false ∧ run (.loopCtrl (ld 4)) f (fun t => (t.dev.loops[143]).state == .run) = true ∧
    run (.loopCtrl (ld 4)) (lo id) (fun t => ans t (ld 4) .conflict 0) = true ∧
    run (.loopStatusGet (ld 3)) (lo fun l => { l with runs := 7 }) (fun t => ans t (ld 3) .ok 7) = true ∧
    run (.loopStatusGet (ld 0)) (lo fun l => { l with y := -1 }) (fun t => ans t (ld 0) .ok 0xFFFFFFFF) = true := by decide +kernel

/-- The same loop running, its input valid. -/
def lr (w : Word) (f : Loop → Loop) : State :=
  conv (lo fun l => f { l with state := .run, due := true }) 0 fun c => { c with inputs := c.inputs.set 0 { word := w, count := 1 } }

/-- LoopMoments: runs with a usable, a transient and a bad input. -/
theorem test_loop_runs :
    (lr 0x80000000 id).dev.loopLive 143 = true ∧ (lr 0x80000000 id).dev.isAttached 143 = false ∧
    ((lr 0x80000000 id).dev.loopInput 143).cls = .usable ∧ (∀ k : Fin 12, objOf 0x10100000 ≠ some (.position k)) ∧
    run (.loopRun 143) (lr 0x80000000 id) (fun t => (t.dev.loops[143]).runs == 1 && (t.dev.loops[143]).state == .run && !(t.dev.loops[143]).due) = true ∧
    ((lr 0x10000000 id).dev.loopInput 143).cls = .transient ∧
    run (.loopRun 143) (lr 0x10000000 id) (fun t => (t.dev.loops[143]).badIn == 1 && (t.dev.loops[143]).badRun == 0) = true ∧
    ((lr 0x20000000 id).dev.loopInput 143).cls = .bad 2 ∧
    run (.loopRun 143) (lr 0x20000000 fun l => { l with lossN := 1, policy := 1 }) (fun t => (t.dev.loops[143]).state == .safe &&
      t.dev.raised.any fun e => e.code == EV_LOOP_FEEDBACK && e.arg == mkWord [(0, 8, 143), (8, 8, 2)]) = true ∧
    run (.loopRun 143) (lr 0x80000000 fun l => { l with state := .safe, safeVal := 3, outMax := 9 }) (fun t => (t.dev.loops[143]).u == 3) = true ∧
    run (.loopRun 143) (lo fun l => { l with state := .run }) (fun t => (t.dev.loops[143]).runs == 0) = true := by decide +kernel

theorem test_loop_moments :
    let n := lo fun l => { l with state := .run }
    run (.loopTimerExpiry 143) n (fun t => (t.dev.loops[143]).due) = true ∧
    run (.loopTimerExpiry 143) (lr 0x80000000 id) (fun t => (t.dev.loops[143]).overruns == 1) = true ∧
    run (.feTimeExpiry 143) (lo fun l => { l with state := .run, feTimer := true })
      (fun t => (t.dev.loops[143]).feRaised && t.dev.raised.any fun e => e.code == EV_LOOP_FOLLOW) = true ∧
    run (.feTimeExpiry 143) (lo fun l => { l with state := .run, feTimer := true, feAct := true, policy := 2 })
      (fun t => (t.dev.loops[143]).state == .open_ && (t.dev.loops[143]).faultBy == 7) = true := by decide +kernel

/-! ## The zones -/

/-- Zone 15, enabled without a schedule. -/
def zo (f : Zone → Zone) : State := dev up fun v => { v with zones := vmod v.zones 15 fun z => f { z with en := true } }

/-- Its descriptors. -/
def zd (p : Nat) : Desc := dsc 0x4010000F p

/-- ZONE_CONFIG with the reset values and EN. -/
def zc (en : Nat) : Desc :=
  zd (en + at_ 9 0x24 + at_ 10 15 + at_ 11 30 + at_ 12 0x100 + at_ 14 0x300 + at_ 16 800 + at_ 18 1400 + at_ 21 100 + at_ 22 0x200 + at_ 24 0x1000 + at_ 26 0x1400)

/-- ZoneDescriptors. -/
theorem test_zone_descriptors :
    let o : Override := { mode := 1, expiry := 2, shift := 0, deadline := 0, point := none }
    admitted up opZoneConfig (zc 1) (.zone 15) = true ∧ zoneConfigBad (zc 1) = false ∧ zoneConfigBad (zd 1) = true ∧
    run (.zoneConfig (zc 1)) up (fun t => (t.dev.zones[15]).en && (t.dev.zones[15]).defMode == 4 && ans t (zc 1) .ok 0) = true ∧
    run (.zoneConfig (zc 0)) (zo fun z => { z with ovr := some o }) (fun t => (t.dev.zones[15]).ovr == none && t.dev.raised.any fun e => e.code == EV_ZONE_OVR_END && e.arg == 2) = true ∧
    run (.zoneConfig (zd 1)) up (fun t => ans t (zd 1) .range 0) = true ∧
    run (.zoneConfig (zc 1)) (zo fun z => { z with en := false, outs := z.outs.set 3 { handle := 0x30100000 } }) (fun t => ans t (zc 1) .conflict 0) = true ∧
    run (.zoneSetpoints (zd (at_ 10 1))) up (fun t => (t.dev.zones[15]).spC[0] == 1 && ans t (zd 0) .ok 0) = true ∧
    run (.zoneSetpoints (zd (at_ 20 1))) up (fun t => ans t (zd 0) .range 0) = true ∧
    run (.zoneInput (zd (5 + at_ 12 0x10100000))) up (fun t => ((t.dev.zones[15]).ins[5]).handle == 0x10100000) = true ∧
    run (.zoneInput (zd (5 + at_ 12 0x50100000))) up (fun t => ans t (zd 0) .badHandle 0) = true ∧
    run (.zoneOutput (zd (at_ 12 0x30100000))) up (fun t => ((t.dev.zones[15]).outs[0]).handle == 0x30100000) = true ∧
    run (.zoneOutput (zd (1 + at_ 12 0x30100000))) (zo fun z => { z with en := false, outs := z.outs.set 0 { handle := 0x30100000 } }) (fun t => ans t (zd 0) .conflict 0) = true := by
  decide +kernel

theorem test_zone_others :
    let p (i v : Nat) := at_ (16 + 2 * i) v
    let w := zd (6 + p 0 0x0010 + p 1 0x0820 + p 2 0x07FF + p 3 0x07FF + p 4 0x07FF + p 5 0x07FF + p 6 0x07FF + p 7 0x07FF)
    let x := dsc 0x4020001F (31 + at_ 9 12 + at_ 10 255 + at_ 11 0x86 + at_ 12 0x8000)
    run (.zoneOverride (zd (1 + at_ 10 1))) (zo id) (fun t => (t.dev.zones[15]).ovr.any (·.mode == 1)) = true ∧
    run (.zoneOverride (zd 8)) (zo id) (fun t => ans t (zd 8) .ok 0 && t.dev.raised == []) = true ∧
    run (.zoneOverride (zd (1 + at_ 10 1))) up (fun t => ans t (zd 0) .disabled 0) = true ∧ run (.zoneOverride (zd 5)) up (fun t => ans t (zd 0) .disabled 0) = true ∧
    run (.zoneOverride (zd 5)) (zo id) (fun t => ans t (zd 0) .range 0) = true ∧
    run (.zoneStatusGet (zd 0)) (zo fun z => { z with mode := 1, wroteH := 0x100, wroteC := 0x200 }) (fun t => t.dev.done.any fun c => c.result.toNat / 2 ^ 32 == 0x02000100) = true ∧
    run (.zoneStatusGet (zd 0)) (zo fun z => { z with mode := 0, wroteH := 0x100 }) (fun t => t.dev.done.any fun c => c.result.toNat / 2 ^ 32 == 0x7FFF8000) = true ∧
    admitted up opZoneStatusGet (zd 0) (.zone 15) = true ∧
    admitted up opSchedWrite w (.zone 15) = true ∧ (∀ i : Fin 8, pointOk (schedPoint w i.val) = true) ∧ pointsClash w = false ∧
    run (.schedWrite w) up (fun t => (t.dev.zones[15]).sched8[49] == 0x0820 && (t.dev.zones[15]).sched8[47] == 0x07FF) = true ∧
    pointsClash (zd (p 0 0x0010 + p 1 0x0010)) = true ∧
    admitted up opSchedExcept x (.exDate 31) = true ∧ run (.schedExcept x) up (fun t => (t.dev.dates[31]).en && (t.dev.dates[31]).month == 12) = true := by
  decide +kernel

/-- ZoneCycles: the engine stopped, a mode, a written target. -/
theorem test_zone_cycle :
    let s := loop (zo fun z => { z with defMode := 1, outs := z.outs.set 0 { handle := 0x30100000 } }) 0 fun l => { l with spSrc := 1 }
    up.dev.active 15 = true ∧ (∀ k : Fin 6, ((s.dev.zones[15]).ins[k]).handle = 0) ∧ (s.dev.zones[15]).ovr = none ∧ (s.dev.zones[15]).fresh = true ∧
    (∀ y : Fin 16, (s.dev.zones[y]).en = decide (y = 15)) ∧
    run .zoneCycle s (fun t => (t.dev.zones[15]).mode == 1 && !(t.dev.zones[15]).fresh && (t.dev.loops[0]).target == 0x150000 && (t.dev.loops[0]).jump &&
      t.dev.raised.any fun e => e.code == EV_ZONE_MODE && e.handle == hZone 15) = true := by decide +kernel

theorem test_zone_modes :
    let z := (zo id).dev.zones[15]
    { z with winOpen := true }.resolve (1, 1) = (4, 5) ∧ z.resolve (1, 1) = (1, 1) ∧ z.setpoints 0 = (-65536, 65536) ∧
    { z with schedEn := true }.baseMode false none = (2, 2) ∧ z.dewTarget 0 = (0x140000, false) := by decide +kernel

/-! ## PWM -/

/-- A change of PWM channel 47, the last of bank 5. -/
def pw (f : Pwm → Pwm) : State := dev up fun v => { v with pwms := vmod v.pwms 47 f }

/-- The set that the tests write: PERIOD 40, SET 40, CLEAR 40. -/
def aSet : Sys2Proof.Machine.PSet := { period := 40, set := 40, clear := 40 }

/-- A descriptor of channel 47, and of its bank. -/
def pd (p : Nat) : Desc := dsc 0x2020002F p
def pb (p : Nat) : Desc := dsc 0x20F00005 p

/-- PwmDescriptors: PWM_CH_CONFIG, PWM_SET. -/
theorem test_pwm_set :
    let d := pd (40 + at_ 10 40 + at_ 12 40)
    let run' := fun p : Pwm => { p with en := true, run := true, active := { period := 50 }, periods := 8 }
    admitted up opPwmChConfig (pd (at_ 8 16)) (.pwm 47) = true ∧ chConfigBad (pd (at_ 8 16)) = false ∧ chConfigBad (pd 24) = true ∧
    run (.pwmChConfig (pd (at_ 8 16))) (pw fun p => { p with active := aSet })
      (fun t => (t.dev.pwms[47]).inert == 2 && (t.dev.pwms[47]).active == aSet && ans t (pd 0) .ok 0) = true ∧
    run (.pwmChConfig (pd (at_ 9 3))) (pw fun p => { p with active := aSet })
      (fun t => (t.dev.pwms[47]).presc == 3 && (t.dev.pwms[47]).active == {}) = true ∧
    run (.pwmChConfig (pd 0)) (pw run') (fun t => ans t (pd 0) .busy 0) = true ∧
    run (.pwmChConfig (pd 24)) up (fun t => ans t (pd 0) .range 0) = true ∧
    admitted up opPwmSet d (.pwm 47) = true ∧ descSet d = aSet ∧ up.dev.pwmOwned 47 = false ∧
    run (.pwmSet d) up (fun t => (t.dev.pwms[47]).active == aSet && ans t d .ok 0) = true ∧
    (pw run').dev.inWindow 47 = false ∧ ((pw run').dev.pwms[47]).direct = false ∧
    run (.pwmSet d) (pw run') (fun t => (t.dev.pwms[47]).shadow == some aSet && (t.dev.pwms[47]).active == { period := 50 } && ans t d .ok 9) = true ∧
    run (.pwmSet d) (pw fun p => { run' p with active := { period := 4 } })
      (fun t => (t.dev.pwms[47]).window == some aSet && (t.dev.pwms[47]).late == 1 && ans t d .late 10) = true ∧
    run (.pwmSet (pd 39)) up (fun t => ans t d .range 0) = true ∧
    run (.pwmSet d) (loop up 143 fun l => { l with state := .run, output := 0x2020002F }) (fun t => ans t d .conflict 0) = true := by decide +kernel

/-- PwmDescriptors: PWM_FIELD, PWM_COMMIT, PWM_CTRL. -/
theorem test_pwm_commit :
    let r := fun p : Pwm => { p with en := true, run := true, active := { period := 50 }, periods := 8 }
    let g := fun p : Pwm => { r p with staging := { clear := some 7 } }
    admitted up opPwmField (pd (2 + at_ 10 7)) (.pwm 47) = true ∧
    run (.pwmField (pd (2 + at_ 10 7))) up (fun t => (t.dev.pwms[47]).staging == { clear := some 7 } && ans t (pd 0) .ok 0) = true ∧
    run (.pwmField (pd (2 + at_ 10 7))) (pw fun p => { r p with upd := true })
      (fun t => (t.dev.pwms[47]).shadow == some { period := 50, clear := 7 } && ans t (pd 0) .ok 9) = true ∧
    run (.pwmField (pd 5)) up (fun t => ans t (pd 0) .range 0) = true ∧
    admitted up opPwmCommit (pb 128) (.bank 5) = true ∧
    run (.pwmCommit (pb 128)) (pw g) (fun t => (t.dev.pwms[47]).shadow == some { period := 50, clear := 7 } && (t.dev.pwms[47]).staging == {} && ans t (pb 0) .ok 0) = true ∧
    run (.pwmCommit (pb 128)) (pw fun p => { g p with shadow := some { aSet with period := 50 }, active := { period := 4 } })
      (fun t => (t.dev.pwms[47]).window == some { aSet with period := 50, clear := 7 } && (t.dev.pwms[47]).late == 1 && ans t (pb 128) .late 128) = true ∧
    run (.pwmCommit (pb 128)) (pw r) (fun t => t.dev.pwms == (pw r).dev.pwms && ans t (pb 0) .ok 0) = true ∧
    run (.pwmCommit (pb 128)) (pw fun p => { p with upd := true }) (fun t => ans t (pb 0) .conflict 0) = true ∧
    admitted up opPwmCtrl (pb 128) (.bank 5) = true ∧
    run (.pwmCtrl (pb 128)) (pw fun p => { p with active := aSet })
      (fun t => (t.dev.pwms[47]).en && (t.dev.pwms[47]).run && (t.dev.pwms[47]).periods == 1 && ans t (pb 0) .ok 0) = true ∧
    run (.pwmCtrl (pb (at_ 9 128))) (pw fun p => { g p with shadow := some { aSet with clear := 41 } })
      (fun t => !(t.dev.pwms[47]).en && (t.dev.pwms[47]).active == aSet && (t.dev.pwms[47]).staging == { clear := some 7 }) = true ∧
    run (.pwmCtrl (pb 128)) (pw fun p => { p with amode := true })
      (fun t => (t.dev.pwms[47]).en && (t.dev.pwms[47]).starting && !(t.dev.pwms[47]).run && t.dev.done == [] && t.dev.waits == [{ op := 0x54, d := pb 128 }]) = true ∧
    (List.finRange 48).all (fun k : Fin 48 => !(up.dev.pwms[k]).starting && !(up.dev.pwms[k]).amode) = true ∧
    run (.pwmCtrl (pb (128 + at_ 9 128))) up (fun t => ans t (pb 0) .range 0) = true := by decide +kernel

/-- PwmDescriptors: trips and PWM_STATUS_GET. -/
theorem test_pwm_trips :
    let c := dsc 0x20A00007 (1 + at_ 10 255)
    let l := fun p : Pwm => { p with force := true, latched := true, tripMask := 128 }
    let on (s : State) := dev s fun v => { v with trips := vmod v.trips 7 fun x => { x with en := true, active := true } }
    admitted up opPwmTripConfig c (.trip 7) = true ∧
    run (.pwmTripConfig c) up (fun t => (t.dev.trips[7]).en && (t.dev.trips[7]).filt == 255 && ans t c .ok 0) = true ∧
    admitted (pw l) opPwmTripClear (pd 0) (.pwm 47) = true ∧
    run (.pwmTripClear (pd 0)) (pw l) (fun t => !(t.dev.pwms[47]).latched && !(t.dev.pwms[47]).force && ans t (pd 0) .ok 0) = true ∧
    run (.pwmTripClear (pd 0)) (on (pw l)) (fun t => ans t (pd 0) .busy 0) = true ∧
    run (.pwmTripClear (pd 0)) up (fun t => ans t (pd 0) .conflict 0) = true ∧
    run (.pwmStatusGet (pd 0)) (pw fun p => { p with active := aSet }) (fun t => ans t (pd 0) .ok (40 + at_ 10 40 + at_ 12 40)) = true ∧
    run (.pwmStatusGet (pd 1)) (pw fun p => { p with shadow := some aSet }) (fun t => ans t (pd 0) .ok (40 + at_ 10 40 + at_ 12 40)) = true ∧
    run (.pwmStatusGet (pd 2)) (pw fun p => { p with periods := 1, trips := 2 }) (fun t => ans t (pd 0) .ok (1 + at_ 14 2)) = true ∧
    run (.pwmStatusGet (pd 3)) up (fun t => ans t (pd 0) .range 0) = true := by decide +kernel

/-- PwmMoments. -/
theorem test_pwm_moments :
    let r := fun p : Pwm => { p with en := true, run := true, active := { period := 50, set := 9, clear := 49 } }
    let st := fun p : Pwm => { r p with staging := { set := some 1 }, staleCnt := 255 }
    let on (e : Trip → Trip) (s : State) := dev s fun v => { v with trips := vmod v.trips 7 fun x => e { x with en := true } }
    let w := tb (dev (pw fun p => { r p with amode := true, run := false, starting := true }) fun v => { v with waits := [{ op := 0x54, d := pb 128 }] })
      fun t => { t with valid := true, state := .locked }
    (({} : Pwm).clampSet { aSet with clear := 41 }).1 = aSet ∧ queueFunc 0x54 (pb 128).handle = 21 ∧
    run (.pwmPeriodBoundary 47) w (fun t => (t.dev.pwms[47]).run && !(t.dev.pwms[47]).starting && ans t (pb 128) .ok 0 && t.dev.waits == []) = true ∧ up.dev.pwmCanStart 47 = false ∧ (pw r).dev.pwmCanStart 47 = true ∧
    run (.pwmPeriodBoundary 47) (pw fun p => { r p with shadow := some aSet, window := some {} })
      (fun t => (t.dev.pwms[47]).active == aSet && (t.dev.pwms[47]).shadow == none && (t.dev.pwms[47]).window == some {} && (t.dev.pwms[47]).periods == 1) = true ∧
    run (.pwmPeriodBoundary 47) (pw st) (fun t => (t.dev.pwms[47]).staleCnt == 256 && !(t.dev.pwms[47]).stale) = true ∧
    (((pw fun p => { r p with window := some aSet }).dev.pwms[47]).begun 0 && !((pw fun p => { r p with t0 := 1 }).dev.pwms[47]).begun 0) = true ∧
    ((pw fun p => { r p with window := some aSet }).dev.pwmTick.pwms[47]).shadow = some aSet ∧
    ((pw fun p => { r p with t0 := 1, window := some aSet }).dev.pwmTick.pwms[47]).shadow = none ∧
    (∀ k : Fin 48, k ≠ 47 → (up.dev.pwms[k]).begun 0 = false) ∧
    ((pw fun p => { st p with staleCnt := 256 }).dev.pwmTick.raised.any fun e => e.code == EV_PWM_STALE && e.handle == hPwm 47) = true ∧
    run (.pwmCompareMatch 47 .set) (pw r) (fun t => (t.dev.pwms[47]).level) = true ∧
    run (.pwmCompareMatch 47 .clear) (pw fun p => { r p with level := true }) (fun t => !(t.dev.pwms[47]).level) = true ∧
    (on id up).dev.active 91 = true ∧ up.dev.held 21 = false ∧ up.dev.stopped 21 = false ∧
    run (.tripActive 7) (on id (pw fun p => { r p with tripMask := 128, tripLatch := true }))
      (fun t => (t.dev.pwms[47]).force && (t.dev.pwms[47]).latched && (t.dev.pwms[47]).trips == 1 && (t.dev.trips[7]).seen) = true ∧
    run (.tripInactive 7) (on (fun x => { x with active := true }) up) (fun t => !(t.dev.trips[7]).active) = true ∧
    run (.refreshPulseEnd 47) (pw fun p => { r p with pulse := true }) (fun t => !(t.dev.pwms[47]).pulse) = true ∧
    run (.blankWindowEnd 47) (on (fun x => { x with qual := true, active := true }) (pw fun p => { r p with tripMask := 128, edge := some 0 }))
      (fun t => (t.dev.pwms[47]).force && (t.dev.pwms[47]).trips == 1) = true ∧
    (on (fun x => { x with qual := true }) (pw fun p => { p with edge := some 0 })).dev.blankingOn 47 = true := by decide +kernel

/-! ## The valves -/

/-- A change of channel 15, the odd one of pair 7, and of its partner. -/
def va (f : Valve → Valve) : State := dev up fun v => { v with valves := vmod v.valves 15 f }
def vq (s : State) (f : Valve → Valve) : State := dev s fun v => { v with valves := vmod v.valves 14 f }

/-- A change of pair 7. -/
def vp (s : State) (f : Pair → Pair) : State := dev s fun v => { v with pairs := vmod v.pairs 7 f }

/-- A descriptor of channel 15. -/
def vd (p : Nat) : Desc := dsc 0x2030000F p

/-- A profile with BOOST, or without it. -/
def bst : VProfile := { iBoost := 400, tBoostMax := 10000, iPeak := 200, tPeak := 5, iHold := 100, tHold := 5 }

/-- ValveDescriptors: configuration. -/
theorem test_valve_config :
    let c (rs : Nat) := vd (rs + at_ 10 25 + at_ 11 40 + at_ 12 7 + at_ 13 255 + at_ 18 1 + at_ 20 400)
    let p := vd (400 + at_ 10 10000 + at_ 12 400 + at_ 14 5 + at_ 22 50 + at_ 24 25 + at_ 26 1023)
    let k := dsc 0x20400007 (3 + at_ 10 2000 + at_ 12 2000 + at_ 14 260)
    admitted up opValveConfig (c 50) (.valve 15) = true ∧ up.dev.oddPar 15 = false ∧ (up.dev.valves[15]).quiet = true ∧
    run (.valveConfig (c 50)) up (fun t => (t.dev.valves[15]).rshunt == 50 && (t.dev.valves[15]).kinkEn && ans t (c 50) .ok 0) = true ∧
    run (.valveConfig (c 1000)) up (fun t => (t.dev.valves[15]).rshunt == 1000) = true ∧
    run (.valveConfig (c 49)) up (fun t => ans t (c 0) .range 0) = true ∧
    admitted up opValveProfile p (.valve 15) = true ∧
    run (.valveProfile p) up (fun t => (t.dev.valves[15]).prof.tBoostMax == 10000 && (t.dev.valves[15]).prof.propMax == 1023 && ans t p .ok 0) = true ∧
    admitted up opSaddleConfig k (.pair 7) = true ∧
    run (.saddleConfig k) up (fun t => (t.dev.pairs[7]).par && (t.dev.pairs[7]).boostReady == 260 && ans t k .ok 0) = true ∧
    run (.saddleConfig k) (va fun v => { v with phase := .hold }) (fun t => ans t k .busy 0) = true ∧
    run (.valvePropSet (vd 0x640000)) (va fun v => { v with sp := 3 }) (fun t => (t.dev.valves[15]).sp == 0x640000 && ans t (vd 0) .ok 3) = true ∧
    run (.valvePropSet (vd 0xFFFFFFFF)) up (fun t => ans t (vd 0) .range 0) = true ∧
    run (.valvePropSet (vd 0)) (loop up 143 fun l => { l with state := .run, output := 0x2030000F }) (fun t => ans t (vd 0) .conflict 0) = true ∧
    run (.valveAck (vd 0)) (va fun v => { v with phase := .fault, cause := 2 }) (fun t => (t.dev.valves[15]).phase == .idle && ans t (vd 0) .ok 0) = true ∧
    run (.valveAck (vd 0)) up (fun t => ans t (vd 0) .conflict 0) = true ∧
    run (.valveStatusGet (vd 0)) (va fun v => { v with starts := 9 }) (fun t => ans t (vd 0) .ok (at_ 12 0xFFFF + at_ 14 9)) = true ∧
    run (.valveStatusGet (vd 0)) (vp up fun p => { p with par := true }) (fun t => ans t (vd 0) .conflict 0) = true := by decide +kernel

/-- ValveDescriptors: VALVE_CMD. -/
theorem test_valve_cmd :
    let low (s : State) := dev s fun v => { v with vboostAt := some 0 }
    let b := low (va fun v => { v with prof := bst })
    let ready (s : State) := dev s fun v => { v with vboost := 96 }
    let a := va fun v => { v with armed := some (vd 3) }
    let valid (s : State) := tb s fun t => { t with valid := true, state := .locked }
    let w (s : State) := dev s fun v => { v with waits := [{ op := 0x62, d := vd 3 }] }
    admitted up opValveCmd (vd 1) (.valve 15) = true ∧ up.dev.par 15 = false ∧ partnerOf 15 = 14 ∧ pairOf 15 = 7 ∧
    run (.valveCmd (vd 1)) (va fun v => { v with prof := { iHold := 100 } })
      (fun t => (t.dev.valves[15]).phase == .hold && (t.dev.valves[15]).chop == .on && (t.dev.valves[15]).starts == 1 && ans t (vd 0) .ok (t.dev.valveRes false false false).toNat) = true ∧
    run (.valveCmd (vd 1)) (ready b) (fun t => (t.dev.valves[15]).phase == .boost && (t.dev.valves[15]).code == 100 && (t.dev.pairs[7]).rail == some true) = true ∧
    run (.valveCmd (vd 1)) (vp b fun p => { p with rail := some false })
      (fun t => (t.dev.valves[15]).wait == some { d := some (vd 1), rail := true, late := false } && t.dev.done == [] && t.dev.waits == [{ op := 0x62, d := vd 1 }]) = true ∧
    run (.valveCmd (vd 1)) (vp b fun p => { p with bpol := true }) (fun t => (t.dev.valves[15]).phase == .peak && (t.dev.valves[15]).notReady && (t.dev.pairs[7]).rail == none) = true ∧
    run (.valveCmd (vd 1)) b (fun t => (t.dev.valves[15]).phase == .idle && t.dev.done == [] && (t.dev.pairs[7]).rail == some true) = true ∧
    run (.valveCmd (vd 0)) (va fun v => { v with phase := .hold, chop := .on, cur := { dec := 8 } }) (fun t => (t.dev.valves[15]).phase == .off && (t.dev.valves[15]).chop == .fast) = true ∧
    run (.valveCmd (vd 0)) (vq (va fun v => { v with phase := .hold, chop := .on, cur := { dec := 8 } }) fun v => { v with phase := .hold })
      (fun t => (t.dev.valves[15]).chop == .fast && (t.dev.valves[15]).offAt == some 0) = true ∧
    run (.valveCmd (vd 0)) (w (va fun v => { v with wait := some { d := some (vd 3), rail := true, late := false } }))
      (fun t => (t.dev.valves[15]).wait == none && t.dev.done.map (·.status) == [.flushed, .ok] && t.dev.waits == []) = true ∧
    run (.valveCmd (vd 1)) (va fun v => { v with phase := .fault }) (fun t => ans t (vd 0) .busy 0) = true ∧
    run (.valveCmd (vd 0)) (va fun v => { v with phase := .fault }) (fun t => (t.dev.valves[15]).phase == .fault && ans t (vd 0) .ok (t.dev.valveRes false false false).toNat) = true ∧
    run (.valveCmd (vd 0)) (dev (va fun v => { v with phase := .fault, failpos := true }) fun v => { v with power := { v.power with valveFail := false } })
      (fun t => !(t.dev.valves[15]).failpos && (t.dev.valves[15]).phase == .fault) = true ∧
    run (.valveCmd (vd 3)) (valid up) (fun t => (t.dev.valves[15]).armed == some (vd 3) && t.dev.done == []) = true ∧
    run (.valveCmd (vd 2)) (valid (w a)) (fun t => (t.dev.valves[15]).armed == some (vd 2) && ans t (vd 3) .flushed 0 && t.dev.waits == [{ op := 0x62, d := vd 2 }]) = true ∧
    run (.valveCmd (vd 4)) (loop up 143 fun l => { l with state := .run, output := 0x2030000F }) (fun t => ans t (vd 0) .conflict 0) = true := by decide +kernel

/-- ValveMoments: crossings. -/
theorem test_valve_crossing :
    let x (f : Valve → Valve) := va fun v => f { v with chop := .on, cur := bst }
    let rail (s : State) := vp s fun p => { p with rail := some true }
    let w := vq (rail (x fun v => { v with phase := .boost })) fun v => { v with prof := bst, wait := some { d := some (vd 1), rail := true } }
    run (.thresholdCrossing 15) up (fun t => t.dev.valves == up.dev.valves) = true ∧
    run (.thresholdCrossing 15) (rail (x fun v => { v with phase := .boost })) (fun t => (t.dev.valves[15]).phase == .peak && (t.dev.pairs[7]).rail == none) = true ∧
    run (.thresholdCrossing 15) (dev w fun v => { v with vboost := 96, vboostAt := some 0, waits := [{ op := 0x62, d := vd 1 }] })
      (fun t => (t.dev.pairs[7]).rail == some false && (t.dev.valves[14]).phase == .boost && ans t (vd 1) .ok (t.dev.valveRes true false false).toNat) = true ∧
    run (.thresholdCrossing 15) (x fun v => { v with phase := .hold }) (fun t => (t.dev.valves[15]).chop == .slow && (t.dev.valves[15]).phase == .hold) = true ∧
    run (.thresholdCrossing 15) (vq (x fun v => { v with phase := .peak, cur := { bst with dec := 2 } }) fun v => { v with phase := .hold })
      (fun t => (t.dev.valves[15]).chop == .slow && (t.dev.valves[15]).subst) = true ∧
    run (.thresholdCrossing 15) (dev (x fun v => { v with phase := .peak, shortT := 400, blankEnd := some 999 }) fun v => { v with now := 1000 })
      (fun t => (t.dev.valves[15]).phase == .fault && (t.dev.valves[15]).cause == 2 && t.dev.raised.any fun e => e.code == EV_VALVE_FAULT && e.handle == hValve 15) = true := by
  decide +kernel

/-- ValveMoments: expiries and detections. -/
theorem test_valve_moments :
    let ph (p : VPhase) (f : Valve → Valve) := va fun v => f { v with phase := p, chop := .on, cur := bst }
    let wt (r : Bool) := dev (va fun v => { v with prof := bst, wait := some { d := some (vd 1), rail := r } }) fun v => { v with waits := [{ op := 0x62, d := vd 1 }] }
    let ki := va fun v => { v with kink := true, kinkStart := 10, kinkEnd := 11 }
    let vb (s : State) := dev s fun v => { v with vboostAt := some 0 }
    let off := va fun v => { v with phase := .off, chop := .fast, offAt := some 0, cur := { dec := 8 } }
    let armed := dev (vp (va fun v => { v with armed := some (vd 3) }) fun p => { p with strobed := 2 }) fun v => { v with waits := [{ op := 0x62, d := vd 3 }] }
    run (.toffExpiry 15) (ph .hold fun v => { v with chop := .slow }) (fun t => (t.dev.valves[15]).chop == .on && (t.dev.valves[15]).blank) = true ∧
    run (.tblankExpiry 15) (ph .hold fun v => { v with blank := true }) (fun t => !(t.dev.valves[15]).blank && (t.dev.valves[15]).blankEnd == some 0) = true ∧
    run (.tBoostMaxExpiry 15) (ph .boost id) (fun t => (t.dev.valves[15]).phase == .peak && t.dev.handling (hPair 7)) = true ∧
    run (.tPeakExpiry 15) (ph .peak id) (fun t => (t.dev.valves[15]).phase == .hold) = true ∧
    run (.tHoldExpiry 15) (ph .hold id) (fun t => (t.dev.valves[15]).phase == .off) = true ∧
    run (.tHoldExpiry 15) up (fun t => t.dev.valves == up.dev.valves) = true ∧
    run (.offPhaseEnd 15) (ph .off id) (fun t => (t.dev.valves[15]).phase == .idle && (t.dev.valves[15]).chop == .none) = true ∧
    run (.offPhaseEnd 15) (ph .fault id) (fun t => (t.dev.valves[15]).phase == .fault && (t.dev.valves[15]).chop == .none) = true ∧
    run (.openTExpiry 15) (ph .peak fun v => { v with openT := 1 }) (fun t => (t.dev.valves[15]).phase == .fault && (t.dev.valves[15]).cause == 1) = true ∧
    run (.boostWaitExpiry 15) (wt true) (fun t => (t.dev.valves[15]).wait == none && (t.dev.valves[15]).overlap && ans t (vd 1) .conflict 0) = true ∧
    run (.vboostReady 7) (vb (wt false)) (fun t => (t.dev.valves[15]).phase == .boost && t.dev.vboost == 96 && ans t (vd 1) .ok (t.dev.valveRes false true false).toNat) = true ∧
    run (.readyWaitExpiry 7) (wt false) (fun t => (t.dev.valves[15]).phase == .peak && ans t (vd 1) .ok (t.dev.valveRes false true true).toNat) = true ∧
    (ph .hold id).dev.wantGate 7 = some false ∧
    run (.deadTimeEnd 7) (ph .hold id) (fun t => (t.dev.pairs[7]).hsg && !(t.dev.pairs[7]).bg) = true ∧
    run (.ditherStep 15) (ph .prop fun v => { v with cur := { bst with dithF := 50 }, dith := 1 }) (fun t => (t.dev.valves[15]).dith == 0) = true ∧
    (off.dev.valveTick.valves[15]).chop = .fast ∧ (off.dev.valveTick.valves[15]).offAt = none ∧
    ((vq off fun v => { v with phase := .hold }).dev.valveTick.valves[15]).chop = .slow ∧ ((vq off fun v => { v with phase := .hold }).dev.valveTick.valves[15]).subst = true ∧
    up.dev.active (pairFunc 7) = true ∧ ((up.dev.valveStrobe 7 1).pairs[7]).strobed = 2 ∧ strobeMask 2 = 3 ∧
    (armed.dev.valveTick.valves[15]).phase = .hold ∧ armed.dev.valveTick.done.map (·.status) = [.ok] ∧
    run (.closingDetected 15) (dev ki fun v => { v with now := 4000 }) (fun t => (t.dev.valves[15]).closeT == some 10 && t.dev.raised.any fun e => e.code == EV_VALVE_CLOSED && e.arg == 10) = true ∧
    run (.closingDetected 15) (dev ki fun v => { v with now := 4800 }) (fun t => t.dev.valves == ki.dev.valves && t.dev.raised == []) = true ∧
    run (.closingDetected 15) (dev ki fun v => { v with now := 3999 }) (fun t => t.dev.valves == ki.dev.valves && t.dev.raised == []) = true ∧
    run (.kinkWindowEnd 15) ki (fun t => !(t.dev.valves[15]).kink && t.dev.raised.any fun e => e.code == EV_VALVE_CLOSED && e.arg == 0x80000000) = true ∧
    run (.kinkWindowEnd 15) up (fun t => t.dev.valves == up.dev.valves) = true := by decide +kernel

/-! ## Fans and dampers -/

/-- Fan 11 on loop 143 and PWM channel 47. -/
def fa (f : Fan → Fan) : State :=
  dev (loop up 143 fun l => { l with bound := true, spSrc := 2, input := 0x1070000B, output := 0x2020002F, outMax := 65536 }) fun v =>
    { v with fans := v.fans.set 11 (f { v.fans[11] with loop := 143, ch := 47 }) }

/-- The same fan, attached, with a target of 1000 rpm, in a state. -/
def fs (st : FanState) (f : Fan → Fan) : State := fa fun x => f { x with attached := true, state := st, applied := 1000, target := 65536000 }

/-- Its descriptors. -/
def fd (p : Nat) : Desc := dsc 0x2050000B p

/-- Fans: FAN_CONFIG and FAN_BANDS. -/
theorem test_fan_config :
    let c (ppr : Nat) := fd (143 + at_ 9 47 + at_ 11 ppr + at_ 16 200 + at_ 18 20000 + at_ 20 50 + at_ 21 8 + at_ 22 90 + at_ 23 60 + at_ 24 5000 + at_ 28 16383)
    let b := fd (300 + at_ 10 400 + at_ 12 400 + at_ 14 3000)
    admitted up opFanConfig (c 4) (.fan 11) = true ∧ fanConfigBad (c 4) = false ∧ fanConfigBad (c 5) = true ∧
    run (.fanConfig (c 4)) up (fun t => (t.dev.fans[11]).ppr == 4 && (t.dev.fans[11]).maxRpm == 20000 && ans t (fd 0) .ok 0) = true ∧
    run (.fanConfig (c 4)) (fs .stopped id) (fun t => ans t (fd 0) .busy 0) = true ∧
    run (.fanConfig (c 5)) up (fun t => ans t (fd 0) .range 0) = true ∧
    admitted up opFanBands b (.fan 11) = true ∧ bandsOk (up.dev.fans[11]) 300 (bandsUsed b) = true ∧
    run (.fanBands b) up (fun t => (t.dev.fans[11]).hi[1] == 3000 && ans t (fd 0) .ok 0) = true ∧
    run (.fanBands (fd 299)) up (fun t => ans t (fd 0) .range 0) = true := by decide +kernel

/-- Fans: FAN_SET, FAN_CTRL, FAN_STATUS_GET. -/
theorem test_fan_descriptors :
    let o := loop up 0 fun l => { l with state := .run, output := 0x2050000B }
    let pol (s : State) := power s fun p => { p with policy := true }
    admitted up opFanSet (fd 0x3E80000) (.fan 11) = true ∧
    run (.fanSet (fd 0x3E80000)) o (fun t => ans t (fd 0) .conflict 0) = true ∧
    run (.fanSet (fd 0x3E80000)) (fs .run fun f => { f with target := 5 }) (fun t => (t.dev.loops[143]).target == 0x3E80000 && ans t (fd 0) .ok (5 + at_ 12 0x3E80000)) = true ∧
    run (.fanSet (fd 0)) (pol (fs .full fun f => { f with full := true, target := 5 })) (fun t => ans t (fd 0) .ok (5 + at_ 12 65536000)) = true ∧
    run (.fanSet (fd 0x3E80000)) (fs .full fun f => { f with full := true }) (fun t => (t.dev.fans[11]).state == .kick && !(t.dev.fans[11]).full) = true ∧
    run (.fanCtrl (fd 0)) (fs .run id) (fun t => (t.dev.fans[11]).state == .disabled && (t.dev.loops[143]).state == .disabled &&
      t.dev.raised.any fun e => e.code == EV_FAN_STATE && e.arg == 0x30) = true ∧
    (fa id).dev.fanFits 11 = true ∧ (fa id).dev.loopTaken 143 = false ∧ (fa id).dev.pwmOwned 47 = false ∧ (fa id).dev.loopBusy 143 = false ∧
    run (.fanCtrl (fd 1)) (fa id) (fun t => (t.dev.fans[11]).state == .stopped && (t.dev.loops[143]).state == .manual && ans t (fd 0) .ok 0) = true ∧
    run (.fanCtrl (fd 1)) up (fun t => ans t (fd 0) .range 0) = true ∧
    run (.fanCtrl (fd 1)) (loop (fa id) 143 fun l => { l with state := .manual }) (fun t => ans t (fd 0) .conflict 0) = true ∧
    run (.fanCtrl (fd 2)) (fs .locked fun f => { f with stalls := 9 }) (fun t => (t.dev.fans[11]).state == .stopped && (t.dev.fans[11]).stalls == 0) = true ∧
    run (.fanCtrl (fd 2)) up (fun t => ans t (fd 0) .conflict 0) = true ∧ run (.fanCtrl (fd 3)) up (fun t => ans t (fd 0) .range 0) = true ∧
    run (.fanStatusGet (fd 0)) (fs .run fun f => { f with speed := 65536000 }) (fun t => ans t (fd 0) .ok (3 + at_ 10 1000 + at_ 12 65536000)) = true := by decide +kernel

/-- Fans: a fan whose loop is already being released waits for it. -/
theorem test_fan_busy :
    let s := loop (fa id) 143 fun l => { l with input := 0x1070000B }
    (s.dev.loops[143]).bound = true ∧ (s.dev.isAttached 143) = false := by decide +kernel

/-- Fans: what comes about. -/
theorem test_fan_moments :
    let e (f : Fan → Fan) (st : FanState) := dev (fs st fun x => f { x with ppr := 1, edges := [0] }) fun v => { v with now := 4000000 }
    let pol (s : State) := power s fun p => { p with policy := true }
    let cur (s : State) := conv s 0 fun c => { c with inputs := c.inputs.set 0 { word := 0x80000000, count := 1 } }
    tachValue 1000000 = some 393216000 ∧ tachValue 30000001 = none ∧ (fs .run id).dev.fanLive 11 = true ∧ up.dev.fanLive 11 = false ∧
    run (.tachEdge 11) State.reset (fun t => t.dev.fans == State.reset.dev.fans) = true ∧
    run (.tachEdge 11) (fa id) (fun t => (t.dev.fans[11]).edges == [0]) = true ∧
    run (.tachEdge 11) (e id .kick) (fun t => (t.dev.fans[11]).state == .run && (t.dev.fans[11]).speed == 393216000) = true ∧
    run (.tachEdge 11) (e id .open_) (fun t => (t.dev.fans[11]).state == .open_ && (t.dev.fans[11]).okVals == 1) = true ∧
    run (.tachEdge 11) (e (fun f => { f with okVals := 1 }) .open_) (fun t => (t.dev.fans[11]).state == .run) = true ∧
    run (.tachEdge 11) (dev (e id .run) fun v => { v with now := 120000004 }) (fun t => (t.dev.fans[11]).speed == 0 && (t.dev.fans[11]).state == .run) = true ∧
    run .fanEvaluation (fs .stopped id) (fun t => (t.dev.fans[11]).state == .kick) = true ∧
    run .fanEvaluation (fs .stopped fun f => { f with speed := 19660800 }) (fun t => (t.dev.fans[11]).state == .run) = true ∧
    run .fanEvaluation (fs .run fun f => { f with applied := 0 }) (fun t => (t.dev.fans[11]).state == .stopped) = true ∧
    run .fanEvaluation (pol (fs .open_ id)) (fun t => (t.dev.fans[11]).state == .full && (t.dev.fans[11]).full) = true ∧
    run (.tachEdge 11) (e (fun f => { f with full := true }) .kick) (fun t => (t.dev.fans[11]).state == .full) = true ∧
    run (.tachEdge 11) (e (fun f => { f with full := true }) .full) (fun t => (t.dev.fans[11]).state == .full && (t.dev.fans[11]).seen) = true ∧
    run (.kickTimeout 11) (fs .kick fun f => { f with applied := 0 }) (fun t => (t.dev.fans[11]).state == .stopped && (t.dev.fans[11]).stalls == 0) = true ∧
    run (.kickTimeout 11) (fs .full fun f => { f with full := true, seen := true }) (fun t => (t.dev.fans[11]).state == .full && !(t.dev.fans[11]).seen) = true ∧
    run (.kickTimeout 11) (fs .full fun f => { f with full := true }) (fun t => (t.dev.fans[11]).state == .backoff && (t.dev.fans[11]).stalls == 1) = true ∧
    run (.kickTimeout 11) (fs .kick id) (fun t => (t.dev.fans[11]).state == .backoff && (t.dev.fans[11]).stalls == 1) = true ∧
    run (.kickTimeout 11) (fs .kick fun f => { f with stalls := 5 }) (fun t => (t.dev.fans[11]).state == .locked && t.dev.handling (hFan 11)) = true ∧
    run (.tachLostTimeout 11) (fs .kick fun f => { f with speed := 9 }) (fun t => (t.dev.fans[11]).speed == 0 && (t.dev.fans[11]).state == .kick) = true ∧
    (cur (fs .run fun f => { f with isense := 0x10100000 })).dev.fanCurrent 11 = 0 ∧ (fs .run id).dev.fanCurrent 11 = 3 ∧
    run (.tachLostTimeout 11) (cur (fs .run fun f => { f with isense := 0x10100000 })) (fun t => (t.dev.fans[11]).state == .open_ && (t.dev.loops[143]).openVal == 6554) = true ∧
    run (.tachLostTimeout 11) (fs .run id) (fun t => (t.dev.fans[11]).state == .backoff) = true ∧
    run (.backoffEnd 11) (fs .backoff fun f => { f with stalls := 5 }) (fun t => (t.dev.fans[11]).state == .kick && (t.dev.loops[143]).u == 65536) = true ∧
    (fs .run id).dev.fans[11].below = true ∧
    run (.fanSlowTimeout 11) (fs .run id) (fun t => (t.dev.fans[11]).slow && t.dev.handling (hFan 11)) = true := by decide +kernel

/-- Damper 11 on loop 143 and channels 46 and 47, its feedback FA0 input 0. -/
def da (f : Damper → Damper) : State :=
  dev (loop up 143 fun l => { l with bound := true, spSrc := 2, input := 0x1090000B, output := 0x2020002E, outMin := -65536, outMax := 65536 }) fun v =>
    { v with dampers := vmod v.dampers 11 fun x => f { x with loop := 143, chA := 46, chB := 47, fb := 0x10100000 } }

/-- The same damper, attached, in a state; and with a reading of its feedback. -/
def ds (st : DmState) (f : Damper → Damper) : State := da fun x => f { x with attached := true, state := st }
def fed (s : State) (x : Nat) : State :=
  conv s 0 fun c => { c with inputs := c.inputs.set 0 { word := BitVec.ofNat 32 (2 ^ 31 + x * 1024), count := 1 } }

/-- Its descriptors. -/
def dd (p : Nat) : Desc := dsc 0x2060000B p

/-- Dampers: configuration, target and calibration. -/
theorem test_damper_config :
    let c (o : Nat) := dd (143 + at_ 9 46 + at_ 10 47 + at_ 11 7 + at_ 12 0x10100000 + at_ 16 100 + at_ 17 o + at_ 18 255 + at_ 19 255 + at_ 20 1000 + at_ 22 5000 + at_ 24 65535 + at_ 26 20)
    let k := dd (at_ 12 1000)
    admitted up opDamperConfig (c 100) (.damper 11) = true ∧ damperConfigBad (c 100) = false ∧
    run (.damperConfig (c 100)) up (fun t => (t.dev.dampers[11]).chB == 47 && (t.dev.dampers[11]).failMode == 3 && ans t (dd 0) .ok 0) = true ∧
    run (.damperConfig (c 100)) (ds .run id) (fun t => ans t (dd 0) .busy 0) = true ∧
    run (.damperSet (dd 0x640001)) up (fun t => ans t (dd 0) .range 0) = true ∧
    run (.damperSet (dd 0x640000)) (loop up 143 fun l => { l with state := .run, output := 0x2060000B }) (fun t => ans t (dd 0) .conflict 0) = true ∧
    run (.damperSet (dd 0x640000)) (ds .run fun x => { x with target := 3 }) (fun t => (t.dev.loops[143]).target == 0x640000 && ans t (dd 0) .ok 3) = true ∧
    run (.damperCal k) (ds .run id) (fun t => (t.dev.dampers[11]).calOpen == 1000 && (t.dev.dampers[11]).learned && ans t (dd 0) .ok 0) = true ∧
    run (.damperCal (dd 999)) (ds .run id) (fun t => ans t (dd 0) .range 0) = true ∧
    run (.damperStatusGet (dd 0)) (ds .halted id) (fun t => ans t (dd 0) .ok 6) = true := by decide +kernel

/-- Dampers: DAMPER_CTRL. -/
theorem test_damper_ctrl :
    let l := dev (ds .learnOpen fun x => { x with learnD := some (dd 2) }) fun v => { v with waits := [{ op := 0x7A, d := dd 2 }] }
    admitted up opDamperCtrl (dd 1) (.damper 11) = true ∧ (da id).dev.dmFits 11 = true ∧ (da id).dev.loopTaken 143 = false ∧
    ((fed (da id) 500).dev.dmRaw 11).cls = .usable ∧
    run (.damperCtrl (dd 0)) l (fun t => (t.dev.dampers[11]).state == .disabled && t.dev.done.map (·.status) == [.flushed, .ok]) = true ∧
    run (.damperCtrl (dd 1)) (fed (da id) 500) (fun t => (t.dev.dampers[11]).state == .unlearned && (t.dev.loops[143]).state == .manual && ans t (dd 0) .ok 0) = true ∧
    run (.damperCtrl (dd 1)) (fed (da fun x => { x with learned := true, calOpen := 1000 }) 500) (fun t => (t.dev.dampers[11]).state == .run && (t.dev.loops[143]).state == .run) = true ∧
    run (.damperCtrl (dd 1)) up (fun t => ans t (dd 0) .range 0) = true ∧
    run (.damperCtrl (dd 2)) (ds .run id) (fun t => (t.dev.dampers[11]).state == .learnClose && (t.dev.loops[143]).u == -39322 && t.dev.done == []) = true ∧
    run (.damperCtrl (dd 2)) up (fun t => ans t (dd 0) .conflict 0) = true ∧
    run (.damperCtrl (dd 1)) (power (da fun x => { x with failMode := 2 }) fun p => { p with policy := true })
      (fun t => (t.dev.dampers[11]).attached && (t.dev.dampers[11]).failpos && (t.dev.dampers[11]).state == .travel && ans t (dd 0) .ok 0) = true ∧
    (da id).dev.active 53 = true ∧ run (.damperCtrl (dd 2)) (power (ds .run id) fun p => { p with policy := true }) (fun t => ans t (dd 0) .conflict 0) = true ∧
    run (.damperCtrl (dd 3)) (ds .fault id) (fun t => (t.dev.dampers[11]).state == .unlearned && ans t (dd 0) .ok 0) = true ∧
    run (.damperCtrl (dd 3)) up (fun t => ans t (dd 0) .conflict 0) = true := by decide +kernel

/-- Dampers: what comes about. -/
theorem test_damper_moments :
    let l (st : DmState) (f : Damper → Damper) := dev (ds st fun x => f { x with learnD := some (dd 2), learnStill := 1 }) fun v => { v with waits := [{ op := 0x7A, d := dd 2 }] }
    (l .learnClose id).dev.dmLive 11 = true ∧ (ds .run id).dev.active 53 = true ∧ stillWithin 8 [500] = true ∧
    run (.learnTimeout 11) (l .learnClose id) (fun t => (t.dev.dampers[11]).state == .fault && ans t (dd 2) .timeout 1) = true ∧
    run (.learnTimeout 11) (l .learnOpen id) (fun t => ans t (dd 2) .timeout 2) = true ∧
    run (.travelTimeout 11) (ds .travel id) (fun t => (t.dev.dampers[11]).state == .halted) = true ∧
    run .fanEvaluation (fed (ds .run fun x => { x with learned := true, calOpen := 1000 }) 500) (fun t => (t.dev.dampers[11]).pos == 0x320000 && (t.dev.dampers[11]).state == .run) = true ∧
    posOutside (((fed (ds .run fun x => { x with learned := true, calOpen := 1000 }) 5000).dev.dampers[11]).posOf 5000) = true ∧
    run .fanEvaluation (fed (ds .run fun x => { x with learned := true, calOpen := 1000 }) 5000) (fun t => (t.dev.dampers[11]).range && (t.dev.dampers[11]).posCls == .bad 2) = true ∧
    run .fanEvaluation (l .learnClose id) (fun t => (t.dev.dampers[11]).state == .fault && ans t (dd 2) .range 3) = true ∧
    run .fanEvaluation (fed (l .learnClose id) 500) (fun t => (t.dev.dampers[11]).state == .learnOpen && (t.dev.dampers[11]).newClosed == 500) = true ∧
    run .fanEvaluation (fed (l .learnOpen fun x => { x with newClosed := 500 }) 1500) (fun t => (t.dev.dampers[11]).state == .run && (t.dev.dampers[11]).calOpen == 1500) = true ∧
    run .fanEvaluation (fed (l .learnOpen fun x => { x with newClosed := 501 }) 1500) (fun t => (t.dev.dampers[11]).state == .fault) = true := by decide +kernel

/-! ## The panel -/

/-- A change of the panel. -/
def pa (f : Panel → Panel) : State := dev up fun v => { v with panel := f v.panel }

/-- A change of one key. -/
def pk (s : State) (k : Fin 192) (f : Key → Key) : State := dev s fun v => { v with panel := { v.panel with keys := vmod v.panel.keys k f } }

/-- An entry of the panel queue. -/
def pe : PanelEv := { code := EV_GHOST, handle := hPanel, arg := 0, time := 0 }

/-- PANEL_CONFIG with the reset values, a MODE and a DEB. -/
def pc (mode deb : Nat) : Desc := dsc 0x50200036 (mode + at_ 10 20 + at_ 11 (16 * deb) + at_ 12 500 + at_ 14 255)

/-- PanelDescriptors. -/
theorem test_panel_config :
    let w := dsc 0x50200036
    admitted up opPanelConfig (pc 1 1) (.function 54) = true ∧
    run (.panelConfig (pc 3 1)) up (fun t => ans t (w 0) .range 0) = true ∧ run (.panelConfig (pc 1 0)) up (fun t => ans t (w 0) .range 0) = true ∧
    run (.panelConfig (pc 1 1)) (pk up 191 fun k => { k with down := true, reported := true })
      (fun t => t.dev.panel.mode == 1 && !(t.dev.panel.keys[191]).reported && t.dev.panel.queue.any fun e => e.handle == hKey 191 && e.arg == 4) = true ∧
    run (.panelConfig (pc 1 15)) (pa fun p => { p with mode := 1 }) (fun t => t.dev.panel.deb == 15 && t.dev.panel.cfgD == [pc 1 15] && t.dev.done == []) = true ∧
    run (.panelConfig (pc 0 15)) up (fun t => t.dev.panel.deb == 15 && ans t (w 0) .ok 0) = true ∧
    admitted up opPanelLed (w 3) (.function 54) = true ∧ run (.panelLed (w 3)) up (fun t => t.dev.panel.leds == 3 && ans t (w 0) .ok 0) = true ∧
    run (.panelStatusGet (w 2)) (pk up 191 fun k => { k with down := true, reported := true }) (fun t => ans t (w 0) .ok (2 ^ 63)) = true ∧
    run (.panelStatusGet (w 3)) (pa fun p => { p with drops := 5, ghosts := 6 }) (fun t => ans t (w 0) .ok (5 + at_ 12 6)) = true := by decide +kernel

theorem test_panel_ladder :
    let w (src : Nat) := dsc 0x50200036 (15 + at_ 9 1 + at_ 10 1 + at_ 11 255 + at_ 12 src + at_ 16 (2 ^ 96 - 156))
    let on (f : Ladder → Ladder) := pa fun p => { p with ladders := vmod p.ladders 15 f }
    let oth := pa fun p => { p with ladders := vmod p.ladders 0 fun l => { l with source := 0x10100000 } }
    let e := dsc 0x20B00007
    admitted up opPanelLadder (w 0x10100000) (.function 54) = true ∧ ladderBad { tol := 1, tag := 1, idle := 255, nom := 0xFFFFFFFFFFFFFFFFFFFFFF64 } = false ∧ ladderSourceOk 0x10100000 = true ∧
    ladderSourceOk 0 = true ∧
    run (.panelLadder (w 0x10100000)) up (fun t => (t.dev.panel.ladders[15]).source == 0x10100000 && ans t (w 0) .ok 0) = true ∧
    (((on fun l => { l with value := .key 11 }).dev.panel.ladders[15]).key) = some 11 ∧ ladderKey 15 11 = 191 ∧
    run (.panelLadder (w 0)) (pk (on fun l => { l with value := .key 0 }) (ladderKey 15 0) fun k => { k with down := true, reported := true })
      (fun t => !(t.dev.panel.keys[ladderKey 15 0]).reported && t.dev.panel.queue.any fun q => q.handle == hKey (ladderKey 15 0).val && q.arg == 4) = true ∧
    run (.panelLadder (w 0x10100000)) oth (fun t => ans t (w 0) .conflict 0) = true ∧
    ladderBad {} = true ∧ run (.panelLadder (dsc 0x50200036 0)) up (fun t => ans t (w 0) .range 0) = true ∧
    admitted up opEncConfig (e (1 + at_ 10 255)) (.encoder 7) = true ∧
    run (.encConfig (e (1 + at_ 10 255))) (pa fun p => { p with encs := vmod p.encs 7 fun x => { x with count := 9 } })
      (fun t => (t.dev.panel.encs[7]).en && (t.dev.panel.encs[7]).count == 0 && ans t (e 0) .ok 0) = true ∧
    (∀ m : Fin 8, m ≠ 7 → (up.dev.panel.encs[m]).en = false) ∧ up.dev.panel.full = false ∧
    run (.encConfig (e (1 + at_ 10 4))) (pa fun p => { p with encs := vmod p.encs 7 fun x => { x with en := true, count := 9 } })
      (fun t => (t.dev.panel.encs[7]).rep == 8 && t.dev.panel.queue.map (·.code) == [EV_ENC] && ans t (e 0) .ok 0) = true ∧
    run (.encConfig (e 6)) up (fun t => ans t (e 0) .range 0) = true ∧
    run (.encRead (e 0)) (pa fun p => { p with encs := vmod p.encs 7 fun x => { x with count := 9, errors := 1 } }) (fun t => ans t (e 0) .ok (9 + at_ 12 1)) = true := by decide +kernel

/-- PanelMoments: scanning and plain keys. -/
theorem test_panel_scan :
    let m (f : Panel → Panel) := pa fun p => f { p with mode := 1 }
    let q := dev (m fun p => { p with slot := 8, ledSlots := 1, cfgD := [pc 1 15] }) fun v => { v with waits := [{ op := 0x80, d := pc 1 15 }] }
    let full := fun p : Panel => { p with queue := List.replicate 64 pe }
    let on (s : State) := pk s 95 fun k => { k with reads := true, cnt := 15 }
    let off (r : Bool) (s : State) := pk s 95 fun k => { k with down := true, reported := r, cnt := 15 }
    up.dev.active 54 = true ∧ up.dev.krOurs 7 = true ∧ up.dev.kcOurs 11 = true ∧
    run (.scanSlot 0x800) up (fun t => t.dev.panel == up.dev.panel) = true ∧
    run (.scanSlot 0x800) (m id) (fun t => t.dev.panel.slot == 1 && (t.dev.panel.keys[11]).cnt == 1 && (t.dev.panel.keys[10]).cnt == 0) = true ∧
    run (.scanSlot 0) q (fun t => t.dev.panel.slot == 0 && ans t (pc 1 15) .ok 0) = true ∧
    (m id).dev.panel.changed 95 true = false ∧ (on (m id)).dev.panel.changed 95 true = true ∧ (off true (m id)).dev.panel.changed 95 false = true ∧
    run (.keyDebounced 95 true) (pk (m id) 95 fun k => { k with reads := true, cnt := 1 }) (fun t => t.dev.panel.queue == [] && !(t.dev.panel.keys[95]).down) = true ∧
    run (.keyDebounced 95 true) (on (m id)) (fun t => (t.dev.panel.keys[95]).reported && t.dev.panel.queue.map (·.arg) == [1]) = true ∧
    run (.keyDebounced 95 true) (on (m full)) (fun t => (t.dev.panel.keys[95]).down && !(t.dev.panel.keys[95]).reported && t.dev.panel.drops == 1 && t.dev.panel.dropped) = true ∧
    run (.keyDebounced 95 true) (on (m fun p => { p with blocks := [(6, 7, 10, 11)] })) (fun t => !(t.dev.panel.keys[95]).down && t.dev.panel.queue == []) = true ∧
    run (.keyDebounced 95 false) (off true (m id)) (fun t => !(t.dev.panel.keys[95]).reported && t.dev.panel.queue.map (·.arg) == [0]) = true ∧
    run (.keyDebounced 95 false) (off true (m full)) (fun t => (t.dev.panel.keys[95]).late == some (0, 0, false)) = true ∧
    run (.keyDebounced 95 false) (off false (m id)) (fun t => t.dev.panel.queue == [] && !(t.dev.panel.keys[95]).down) = true := by
  decide +kernel

/-- PanelMoments: a rectangle on rows 0 and 1, columns 0 and 1; encoders; the panel queue. -/
theorem test_panel_ghost :
    let dn (r : Bool) := fun k : Key => { k with down := true, reads := true, reported := r }
    let p3 (r : Bool) := pk (pk (pk (pk (pa fun p => { p with mode := 1 }) 0 (dn r)) 1 (dn r)) 12 (dn false)) 13 fun k => { k with reads := true, cnt := 15 }
    let en (f : Enc → Enc) := pa fun p => { p with encs := vmod p.encs 7 fun e => f { e with en := true } }
    let two := pa fun p => { p with queue := [pe] }
    (p3 true).dev.panel.rectangle 1 1 = some (0, 1, 0, 1) ∧
    run (.keyDebounced 13 true) (p3 true) (fun t => t.dev.panel.blocks == [(0, 1, 0, 1)] && t.dev.panel.queue.map (·.code) == [EV_KEY, EV_GHOST]) = true ∧
    run (.keyDebounced 13 true) (p3 false) (fun t => t.dev.panel.queue.any fun e => e.code == EV_GHOST && e.arg == mkWord [(0, 3, 0), (3, 3, 1), (8, 4, 0), (12, 4, 1), (16, 1, 1)]) = true ∧
    run (.encoderTransition 7 false true) up (fun t => !(t.dev.panel.encs[7]).a && (t.dev.panel.encs[7]).count == 0) = true ∧
    run (.encoderTransition 7 false false) (en id) (fun t => (t.dev.panel.encs[7]).errors == 1) = true ∧
    run .panelQueueForward two (fun t => t.dev.panel.queue == [] && t.dev.raised.map (·.code) == [EV_GHOST]) = true ∧
    run .panelQueueForward (pk two 191 fun k => { k with late := some (3, 4, true) }) (fun t => t.dev.panel.queue.any fun e => e.handle == hKey 191 && e.time == 3 && e.arg == 0x40006) = true ∧
    run .panelQueueForward up (fun t => t.dev.raised == []) = true := by decide +kernel

/-- PanelMoments: a movement of one count either way, with none and with 24 or more whole detents in all. -/
theorem test_encoder_counts :
    let e (c : Word) : Enc := { en := true, count := c }
    let y (c : Word) : Enc := { e c with a := false, count := c + BitVec.ofInt 32 ((e c).delta false true) }
    (y 0).detents = 0 ∧ (y 100).detents ≠ 0 ∧ (y 100).errors = 0 := by
  cases h : Config.encPositive <;> simp [Enc.delta, h] <;> decide

/-! ## The Vale ports -/

/-- Vale port 15 running, changed; its slot 31, address 32; an item. -/
def vl (f : VPort → VPort) : State := dev up fun v => { v with vports := vmod v.vports 15 fun x => f { x with state := .normal } }
def vs (f : VSlot → VSlot) : State := vl fun v => { v with slots := vmod v.slots 31 f }

/-- Slot 31 PRESENT with 32 items and CAPS 2, changed. -/
def vpr (f : VSlot → VSlot) : State := vs fun x => f { x with state := .present, uid := some 9, items := 32, caps := 2, maxsess := 1 }

/-- Descriptors of the port, the satellite and item 31; a wait of one. -/
def vpd (p : Nat) : Desc := dsc 0x2070000F p
def vsd (p : Nat) : Desc := dsc 0x603001FF p
def vid (p : Nat) : Desc := dsc 0x10603FFF p
def waits (s : State) (op : Nat) (d : Desc) : State := dev s fun v => { v with waits := [{ op, d }] }

/-- A frame of the satellite. -/
def fr : VFrame := { src := 32, epoch := 0 }

/-- The new state of the port and of the slot. -/
def vport (t : State) : VPort := t.dev.vports[15]
def vslot (t : State) : VSlot := (vport t).slots[31]

/-- ValePorts. -/
theorem test_vale_ports :
    let c (sp : Nat) := vpd (at_ 9 sp + at_ 10 20)
    let st := dev up fun v => v
    let ex (s : State) := dev s fun v => { v with vports := vmod v.vports 15 fun x => { x with excl := 0x80000000 } }
    admitted up opValePortConfig (c (32 + 17)) (.valePort 15) = true ∧
    run (.valePortConfig (c (32 + 17))) up (fun t => (vport t).sp == 17 && (vport t).rxfilt == 20 && ans t (vpd 0) .ok 0) = true ∧
    run (.valePortConfig (c (128 + 16))) (vl id) (fun t => ans t (vpd 0) .busy 0) = true ∧
    run (.valePortConfig (c (128 + 17))) up (fun t => ans t (vpd 0) .range 0) = true ∧
    admitted up opValePortCtrl (vpd 1) (.valePort 15) = true ∧
    run (.valePortCtrl (vpd 0)) (vl id) (fun t => (vport t).state == .stopped && ans t (vpd 0) .ok 0) = true ∧
    run (.valePortCtrl (vpd 1)) st (fun t => (vport t).starting == some [vpd 1] && t.dev.done == []) = true ∧
    run (.valePortCtrl (vpd 1)) (vl fun v => { v with state := .txfault }) (fun t => (vport t).starting == some [vpd 1] && t.dev.done == []) = true ∧
    run (.valePortCtrl (vpd 1)) (vl id) (fun t => ans t (vpd 0) .ok 0) = true ∧
    run (.valePortCtrl (vpd (2 + at_ 9 32))) (vl id) (fun t => ans t (vpd 0) .conflict 0) = true ∧
    run (.valePortCtrl (vpd (2 + at_ 9 32))) (ex (vl id)) (fun t => (vport t).excl == 0 && t.dev.done == [] && (vport t).queue == [{ dst := 32, msg := .readmit }]) = true ∧
    run (.valePortCtrl (vpd (2 + at_ 9 32))) (ex up) (fun t => (vport t).excl == 0 && ans t (vpd 0) .timeout 0) = true ∧
    run (.valePortCtrl (vpd (2 + at_ 9 33))) (ex (vl id)) (fun t => ans t (vpd 0) .conflict 0) = true ∧ run (.valePortCtrl (vpd 2)) (vl id) (fun t => ans t (vpd 0) .conflict 0) = true ∧
    run (.valePortCtrl (vpd 3)) (vl fun v => { v with err := 9, noack := 9, nobuf := 9 }) (fun t => (vport t).err == 0 && (vport t).nobuf == 9) = true ∧
    run (.valePortStatusGet (vpd 0)) (ex (vl id)) (fun t => ans t (vpd 0) .ok ((vport t).status.toNat + at_ 12 0x80000000)) = true := by decide +kernel

/-- ValeWire. -/
theorem test_vale_wire :
    let f : VTx := { dst := 32, msg := .ident }
    let g : VTx := { dst := 32, msg := .exclude }
    let w (v : VPort) : VPort := { v with wire := some f }
    (vl id).dev.vUp 15 = true ∧ up.dev.vUp 15 = false ∧ (vport (vl fun v => { v with queue := [f, g] })).offered = some g ∧
    run (.valeFrameStart 15) (vl fun v => { v with queue := [f, g] }) (fun t => (vport t).queue == [f] && (vport t).wire == some g) = true ∧
    run (.valeFrameStart 15) (vl id) (fun t => vport t == vport (vl id)) = true ∧
    run (.valeArbitrationLost 15) (vl fun v => { w v with queue := [{ g with age := 3 }] }) (fun t => (vport t).wire == none && (vport t).queue.map (·.age) == [1, 3]) = true ∧
    run (.valeFrameSent { port := 15 }) (vl fun v => { w v with err := 0 }) (fun t => (vport t).wire == none && (vport t).err == 0) = true ∧
    run (.valeFrameSent { port := 15, viols := [2] }) (vs fun x => { x with state := .present, viols := 1 }) (fun t => vport t == vport (vs fun x => { x with state := .present, viols := 1 })) = true ∧
    run (.valeFrameSent { port := 15, viols := [2] }) (dev (vs fun x => { x with state := .present, viols := 2 }) fun v => { v with vports := vmod v.vports 15 w })
      (fun t => (vslot t).viols == 3 && (vslot t).lastViol == 2 && (vslot t).state == .excluded) = true ∧
    run (.valeFrameSent { port := 15 }) (vl fun v => { v with wire := some { dst := 63, msg := .probe 0 0 }, sweep := some { stack := [], cur := some (0, 0) } })
      (fun t => (vport t).sweep.any (·.opened)) = true ∧
    run (.valeFrameSent { port := 15 }) (dev (vs fun x => { x with state := .assigning, ident := some (.assign, 2) }) fun v =>
        { v with vports := vmod v.vports 15 fun x => { x with wire := some { dst := 63, msg := .assign 9 32 } } })
      (fun t => (vport t).queue == [{ dst := 32, msg := .ident }] && (vslot t).rsp == [.ident]) = true ∧ (vl w).dev.vMay 15 f = true ∧
    run (.valeFrameError 15 true .crc { src := 0, dst := 32 } []) (vl fun v => { w v with err := 88 })
      (fun t => (vport t).err == 96 && (vport t).state == .warn && (vport t).backoff.isSome && (vport t).queue == [{ f with tries := 1 }]) = true ∧
    run (.valeFrameError 15 true .crc { src := 0, dst := 32 } []) (vl fun v => { w v with err := 87 }) (fun t => (vport t).err == 95 && (vport t).state == .normal) = true ∧
    run (.valeFrameError 15 false .crc { src := 62, dst := 0 } []) (vl fun v => { v with state := .quiet, err := 255 }) (fun t => (vport t).err == 256 && (vport t).state == .quiet) = true ∧
    run (.valeFrameError 15 false .crc { src := 0, dst := 0 } []) (vl fun v => { v with err := 255 }) (fun t => (vport t).err == 256 && (vport t).state == .quiet) = true ∧
    run (.valeFrameError 15 false .crc { src := 32, dst := 0 } []) (vs fun x => { x with state := .present, good := 255 }) (fun t => (vslot t).good == 0) = true ∧
    run (.valeNoAck 15) (vl w) (fun t => (vport t).noack == 1 && (vport t).err == 0 && (vport t).queue == [{ f with tries := 1 }]) = true ∧
    run (.valeRetryBackoffEnd 15) (vl fun v => { v with backoff := some 3 }) (fun t => (vport t).backoff == none) = true ∧
    run (.roundGap 15) (vl fun v => { v with wonTop := true }) (fun t => !(vport t).wonTop) = true ∧
    run (.stuckDetect 15) (vl w) (fun t => (vport t).state == .stuck && (vport t).before == .normal && (vport t).wire == none) = true ∧
    run (.stuckRecovery 15) (vl fun v => { v with state := .stuck, before := .quiet }) (fun t => (vport t).state == .quiet) = true ∧
    run (.quietRecovery 15) (vl fun v => { v with state := .quiet, err := 300 }) (fun t => (vport t).state == .normal && (vport t).err == 0) = true ∧
    run (.txfaultDetect 15) (vl w) (fun t => (vport t).state == .txfault && (vport t).wire == none) = true ∧
    run (.wakePulseSeen 15) (vl id) (fun t => (vport t).wakeSeen == 1) = true ∧
    run (.startRecessiveSeen 15) (waits (vl fun v => { v with state := .stopped, slotEn := true, starting := some [vpd 1] }) 0x91 (vpd 1))
      (fun t => (vport t).state == .normal && (vport t).noslot && ans t (vpd 0) .ok 0) = true ∧
    run (.startTimeout 15) (waits (vl fun v => { v with state := .stopped, starting := some [vpd 1] }) 0x91 (vpd 1))
      (fun t => (vport t).state == .stopped && ans t (vpd 0) .timeout 0) = true := by decide +kernel

/-- ValeDescriptors: the port, requests, items. -/
theorem test_vale_requests :
    let c (r : Nat) := vpd (at_ 9 r + at_ 10 1 + at_ 11 30 + at_ 12 100)
    let q : VTxn := { d := none, write := false, first := 0, count := 1 }
    admitted up opValeConvConfig (c 5) (.valePort 15) = true ∧
    run (.valeConvConfig (c 5)) up (fun t => (vport t).rspT == 5 && (vport t).sackT == 100 && ans t (vpd 0) .ok 0) = true ∧
    run (.valeConvConfig (c 4)) up (fun t => ans t (vpd 0) .range 0) = true ∧
    admitted (vl id) opValeDiscover (vpd 0) (.valePort 15) = true ∧
    run (.valeDiscover (vpd 0)) (vl id) (fun t => (vport t).sweep.isSome && (vport t).queue == [{ dst := 63, msg := .probe 0 0 }]) = true ∧
    run (.valeDiscover (vpd 0)) (vl fun v => { v with sweep := some { stack := [] } }) (fun t => (vport t).again == some [vpd 0]) = true ∧
    run (.valeDiscover (vpd 0)) up (fun t => ans t (vpd 0) .disabled 0) = true ∧
    admitted (vpr id) opValeRead (vid 1) (.valeValue 15 31 31) = true ∧ admitted (vpr id) opValeWrite (vid 1) (.valeValue 15 31 31) = true ∧
    run (.valeRead (vid 1)) up (fun t => ans t (vid 0) .disabled 0) = true ∧
    run (.valeRead (vid 3)) (vpr id) (fun t => ans t (vid 0) .range 0) = true ∧
    run (.valeWrite (vid 2)) (vpr id) (fun t => ans t (vid 0) .badHandle 0) = true ∧
    run (.valeRead (vid 1)) (vpr fun x => { x with txn := some q }) (fun t => (vslot t).txn == some q && (vslot t).queue == [{ q with d := some (vid 1), first := 31 }]) = true ∧
    run (.valeWrite (vid (1 + at_ 12 77))) (vpr id) (fun t => (vslot t).tid == 1 && (vslot t).rsp == [.txn] && (vport t).queue == [{ dst := 32, msg := .write 1 31 [77] }]) = true ∧
    run (.valeItemWatch (vid (10 + at_ 10 9 + at_ 12 1))) (vpr id) (fun t => ((vslot t).vals[31]).poll == 10 && ((vslot t).vals[31]).event && ans t (vid 0) .ok 0) = true ∧
    run (.valeItemWatch (vid 0)) up (fun t => ans t (vid 0) .disabled 0) = true := by decide +kernel

/-- ValeDescriptors: sessions and satellites. -/
theorem test_vale_satellites :
    let b (get : Nat) := vsd (at_ 16 48 + at_ 20 get + at_ 22 5)
    let y : VSess := { slot := 31, get := true, obj := 5, len := 48, d := b 1 }
    let ses (f : VSlot → VSlot) := dev (vpr f) fun v => { v with vports := vmod v.vports 15 fun x => { x with sess := x.sess.set 15 (some y) } }
    let key (s : State) := dev s fun v => { v with nv := { v.nv with keyA := v.nv.keyA.set 0 (some (keyEntry 9 (some 1))) } }
    admitted (vpr id) opValeBulkOpen (b 1) (.satellite 15 31) = true ∧ up.dev.bulkOk (b 1) = true ∧
    run (.valeBulkOpen (b 1)) up (fun t => ans t (vsd 0) .disabled 0) = true ∧
    run (.valeBulkOpen (b 1)) (vpr fun x => { x with caps := 0 }) (fun t => ans t (vsd 0) .range 0) = true ∧
    run (.valeBulkOpen (b 1)) (ses id) (fun t => ans t (vsd 0) .busy 0) = true ∧
    run (.valeBulkOpen (b 0)) (vpr id) (fun t => t.dev.bulk == [{ op := 0x98, d := b 0 }] && t.dev.done == []) = true ∧
    run (.valeBulkOpen (b 1)) (vpr id) (fun t => (vport t).sess[0] == some y && (vport t).queue == [{ dst := 32, msg := .open_ 0 true 5 48 }]) = true ∧
    run (.valeBulkAbort (vsd 15)) (waits (ses id) 0x98 (b 1)) (fun t => t.dev.done.map (·.status) == [.flushed, .ok] && (vport t).sess[15].any (·.aborted)) = true ∧
    run (.valeBulkAbort (vsd 15)) (vpr id) (fun t => ans t (vsd 0) .conflict 0) = true ∧ run (.valeBulkAbort (vsd 15)) (vpr fun x => { x with state := .lost }) (fun t => ans t (vsd 0) .disabled 0) = true ∧
    run (.valeSatCtrl (vsd 0)) (vpr id) (fun t => (vslot t).state == .empty && (vslot t).uid == some 9 && ans t (vsd 0) .ok 0) = true ∧
    run (.valeSatCtrl (vsd 1)) (vpr fun x => { x with state := .quarantine }) (fun t => (vslot t).state == .present && ans t (vsd 0) .ok 0) = true ∧
    run (.valeSatCtrl (vsd 1)) (vpr id) (fun t => ans t (vsd 0) .conflict 0) = true ∧
    run (.valeSatCtrl (vsd 2)) (vpr fun x => { x with viols := 2 }) (fun t => (vslot t).uid == none && (vslot t).viols == 0 && ans t (vsd 0) .ok 0) = true ∧
    run (.valeSatCtrl (vsd 3)) (key (vpr id)) (fun t => (vslot t).state == .auth && (vslot t).reauth == [vsd 3] && t.dev.done == []) = true ∧
    run (.valeSatCtrl (vsd 3)) (key (vpr fun x => { x with state := .auth, reauth := [vsd 4] })) (fun t => (vslot t).reauth == [vsd 4, vsd 3] && t.dev.done == []) = true ∧
    run (.valeSatCtrl (vsd 3)) (vpr id) (fun t => ans t (vsd 0) .conflict 0) = true ∧
    run (.valeSatStatusGet (vsd 0)) (vpr id) (fun t => ans t (vsd 0) .ok 9) = true ∧
    run (.valeSatStatusGet (vsd 1)) (vpr id) (fun t => ans t (vsd 0) .ok (3 + at_ 10 2 + at_ 11 32)) = true := by decide +kernel

/-- ValeConversations: discovery. -/
theorem test_vale_discovery :
    let a : VFrame := { src := 62, epoch := 0 }
    let only := vl fun v => { v with slots := (v.slots.map fun x => { x with state := .excluded, uid := some 1 }).set 31 (vport up).slots[31] }
    let sw (w : VSweep) := vl fun v => { v with sweep := some w }
    (vport only).slotFor 7 = some 31 ∧
    run (.announce 15 a 7 2) only (fun t => (vslot t).state == .assigning && (vslot t).uid == some 7 && (vslot t).epoch == 1 && (vslot t).ident == some (.assign, 0) && (vport t).queue == [{ dst := 63, epoch := 1, msg := .assign 7 32 }]) = true ∧
    run (.announce 15 a 7 2) (dev only fun v => { v with vports := vmod v.vports 15 fun x => { x with slots := vmod x.slots 31 fun y => { y with state := .lost, uid := some 8, viols := 2 } } })
      (fun t => (vslot t).state == .assigning && (vslot t).uid == some 7 && (vslot t).viols == 0) = true ∧
    run (.announce 15 { a with room := false } 7 2) only (fun t => (vport t).nobuf == 1 && (vslot t).state == .empty) = true ∧
    run (.announce 15 a 7 2) (sw { stack := [], cur := some (0, 0), opened := true }) (fun t => (vport t).sweep.any (·.one == some (7, 2))) = true ∧
    run (.annWinEnd 15 true) (sw { stack := [], cur := some (63, 6), opened := true }) (fun t => (vport t).sweep.any fun w => w.cur == some (64, 6) && w.stack == [(64, 7)] && w.collisions == 1) = true ∧
    run (.annWinEnd 15 false) (waits (sw { stack := [], cur := some (0, 0), opened := true, probes := 3, ds := [vpd 0] }) 0x94 (vpd 0))
      (fun t => (vport t).sweep == none && ans t (vpd 0) .ok (at_ 9 3)) = true ∧
    run (.annWinEnd 15 false) (dev only fun v => { v with vports := vmod v.vports 15 fun x => { x with sweep := some { stack := [], cur := some (0, 0), opened := true, one := some (7, 2) } } })
      (fun t => (vslot t).state == .assigning && (vport t).sweep.any fun w => w.busy == some 31 && w.cur == none) = true ∧
    run (.annWinEnd 15 true) (sw { stack := [], cur := some (63, 6) }) (fun t => (vport t).sweep == some { stack := [], cur := some (63, 6) }) = true ∧
    run (.identRsp 15 fr 9 2 0 4 1) (vs fun x => { x with state := .assigning, uid := some 9, ident := some (.assign, 0) })
      (fun t => (vslot t).state == .quarantine && (vslot t).items == 1 && (vslot t).fwver == 4) = true ∧
    run (.identRsp 15 fr 8 2 0 4 1) (vpr id) (fun t => (vslot t).state == .empty && (vslot t).uid == some 9) = true ∧
    run (.identRsp 15 fr 9 2 32 4 1) (vpr fun x => { x with state := .lost, ident := some (.start, 2) }) (fun t => (vslot t).state == .present) = true := by decide +kernel

/-- ValeConversations: requests, time-outs, items; the hypotheses of the handshake. -/
theorem test_vale_conversations :
    let q (w : Bool) : VTxn := { d := some (vid 1), write := w, first := 31, count := 1, tid := 5 }
    let o (w : Bool) (f : VSlot → VSlot) := waits (vpr fun x => f { x with txn := some (q w) }) (if w then 0x97 else 0x96) (vid 1)
    let pol := vpr fun x => { x with vals := vmod x.vals 31 fun i => { i with poll := 10, maxage := 5, time := some 0 } }
    run (.notify 15 fr 24 (List.replicate 8 7)) (vpr id) (fun t => ((vslot t).vals[31]).value == 7 && ((vslot t).vals[23]).value == 0) = true ∧
    run (.notify 15 fr 25 (List.replicate 8 7)) (vpr id) (fun t => ((vslot t).vals[31]).value == 0) = true ∧
    run (.notify 15 fr 25 (List.replicate 8 7)) (vpr fun x => { x with good := 255, viols := 2 }) (fun t => (vslot t).viols == 1 && (vslot t).good == 0) = true ∧
    run (.notify 15 fr 0 [7]) (vl fun v => { v with state := .quiet, err := 300 }) (fun t => (vport t).err == 299 && (vport t).state == .quiet) = true ∧
    run (.readRsp 15 fr 5 31 [77]) (o false id) (fun t => (vslot t).txn == none && ((vslot t).vals[31]).value == 77 && ans t (vid 0) .ok 77) = true ∧
    run (.writeRsp 15 fr 5 31 1) (o true id) (fun t => (vslot t).txn == none && ans t (vid 0) .ok 0) = true ∧
    run (.writeRsp 15 fr 4 31 1) (o true id) (fun t => (vslot t).txn == some (q true) && t.dev.done == []) = true ∧
    run (.nak 15 fr 2 5 3 0) (o true id) (fun t => (vslot t).txn == none && ans t (vid 0) (nakStatus (nakCode 3)) (if nakStatus (nakCode 3) = .peerError then nakCode 3 else 0)) = true ∧
    run (.nak 15 fr 2 5 5 0) (o true id) (fun t => (vslot t).txn == some { q true with tries := 1 } && t.dev.done == []) = true ∧
    run (.rspTExpiry 15 31) (o true fun x => { x with rsp := [.txn] }) (fun t => (vslot t).txn == some { q true with tries := 1 }) = true ∧
    run (.rspTExpiry 15 31) (o true fun x => { x with rsp := [.txn], txn := some { q true with tries := 2 }, timeouts := 1 })
      (fun t => (vslot t).txn == none && (vslot t).timeouts == 2 && (vslot t).state == .present && ans t (vid 0) .timeout 0) = true ∧
    run (.rspTExpiry 15 31) (o true fun x => { x with rsp := [.txn], txn := some { q true with tries := 2 }, timeouts := 2 }) (fun t => (vslot t).state == .lost) = true ∧
    run (.rspTExpiry 15 31) (dev (o true fun x => { x with rsp := [.txn], txn := some { q true with tries := 2 }, timeouts := 2 }) fun v =>
        { v with vports := vmod v.vports 15 fun x => { x with sess := x.sess.set 15 (some { slot := 31, get := true, obj := 5, len := 48, d := vsd 0 }) } })
      (fun t => (vport t).sess[15].any (·.phase == .suspended)) = true ∧
    run (.aliveTExpiry 15 31) (vpr id) (fun t => (vslot t).ident == some (.alive, 0)) = true ∧
    run (.probeTExpiry 15) (vl fun v => { v with probeT := 1 }) (fun t => (vport t).sweep == some { stack := [], cur := some (0, 0), probes := 1 }) = true ∧
    run (.itemPollTimer 15 31 31) pol (fun t => (vslot t).txn == some { d := none, write := false, first := 31, count := 1, tid := 1 }) = true ∧
    run (.maxageExpiry 15 31 31) pol (fun t => ((vslot t).vals[31]).old) = true := by decide +kernel

/-- ValeConversations: the key of a satellite in AUTH, and a CONFIRM that has been sent. -/
theorem test_vale_handshake :
    let s := dev (vs fun x => { x with state := .auth, uid := some 9, hs := some (1, 0) }) fun v => { v with nv := { v.nv with keyA := v.nv.keyA.set 0 (some (keyEntry 9 (some 1))) } }
    s.dev.keyOf (some 9) = some 1 ∧ (vslot s).ks = none ∧
    run (.valeFrameSent { port := 15 }) (vl fun v => { v with wire := some { dst := 32, msg := .confirm 5 }, slots := vmod v.slots 31 fun x => { x with state := .auth, uid := some 9, conf := some 6, txCnt := 3 } })
      (fun t => (vslot t).state == .present && (vslot t).ks == some 6 && (vslot t).conf == none && (vslot t).txCnt == 0) = true := by decide +kernel

/-- ValeSessions: session 15 of slot 31, of two segments. -/
theorem test_vale_sessions :
    let y : VSess := { slot := 31, get := false, obj := 5, len := 60, d := vsd 0, bytes := List.replicate 60 1 }
    let st (y : VSess) := waits (dev (vpr id) fun v => { v with vports := vmod v.vports 15 fun x => { x with sess := x.sess.set 15 (some y) } }) 0x98 (vsd 0)
    let g : VSess := { y with get := true, bytes := [], phase := .xfer }
    let se (t : State) := (vport t).sess[15]
    y.nseg = 2 ∧
    run (.openAck 15 fr 15 0) (st y) (fun t => (se t).any fun z => z.phase == .xfer && z.next == 2) = true ∧
    run (.openAck 15 fr 15 49) (st { g with phase := .opening }) (fun t => (se t).any fun z => z.phase == .xfer && z.len == 49) = true ∧
    run (.sack 15 fr 15 2 0) (st { y with phase := .suspended, next := 2 }) (fun t => (se t).any fun z => z.phase == .closing && z.base == 2 && z.resumed) = true ∧
    run (.sack 15 fr 15 1 0) (st { y with phase := .xfer, next := 2 }) (fun t => (se t).any fun z => z.phase == .xfer && z.base == 1) = true ∧
    run (.data 15 fr 15 0 (List.replicate 48 3)) (st g) (fun t => (se t).any fun z => z.phase == .xfer && z.next == 1 && z.bytes.length == 48) = true ∧
    run (.data 15 fr 15 1 (List.replicate 12 3)) (st { g with next := 1, bytes := List.replicate 48 3 }) (fun t => (se t).any fun z => z.phase == .closing && z.next == 2) = true ∧
    run (.resumeAck 15 fr 15) (st { g with phase := .suspended }) (fun t => (se t).any (fun z => z.phase == .opening) && (vport t).queue == [{ dst := 32, msg := .open_ 15 true 5 60 }]) = true ∧
    run (.resumeAck 15 fr 15) (st { g with phase := .suspended, acked := true }) (fun t => (se t).any fun z => z.phase == .xfer && z.resumed) = true ∧
    run (.closeAck 15 fr 15 0) (st { y with phase := .closing, base := 2 }) (fun t => se t == none && ans t (vsd 0) .ok (60 + at_ 12 15)) = true ∧
    run (.closeAck 15 fr 15 3) (st { y with phase := .closing, base := 2 }) (fun t => se t == none && ans t (vsd 0) .peerError (60 + at_ 12 15 + at_ 13 3)) = true ∧
    run (.closeAck 15 fr 15 0) (st g) (fun t => se t == some g) = true ∧
    run (.sackTExpiry 15 15) (st { g with next := 1, since := 1 }) (fun t => (se t).any (·.since == 0) && (vport t).queue == [{ dst := 32, msg := .sack 15 1 0 }]) = true ∧
    run (.resumeTimer 15 15) (st { g with phase := .suspended, next := 1 }) (fun t => (vport t).queue == [{ dst := 32, msg := .resume 15 1 0 }]) = true ∧
    run (.resumeTExpiry 15 15) (st { y with phase := .suspended, base := 1 }) (fun t => se t == none && ans t (vsd 0) .timeout (48 + at_ 12 15)) = true := by decide +kernel

/-- The check value of 11 R310, and the example of 11: EXCLUDE to satellite 9, whose first 25 bits are sent as 28 of its at most 81. -/
theorem test_vale_wire_bits :
    let f : VTx := { dst := 9, msg := .exclude }
    let bits (x : Nat) := ((List.range 28).map fun i => x.testBit (27 - i))
    crcV [0x31, 0x32, 0x33, 0x34, 0x35, 0x36, 0x37, 0x38, 0x39] = 0x29B1 ∧ f.octets = [0xC0, 0x00, 0x49, 0x01, 0x01] ∧
    f.wireBits.take 28 = bits 0b0110000010000010000011001001 ∧ f.wireBits.length ≤ 81 := by decide +kernel

/-! ## The building-bus ports -/

/-- Building-bus port 7 changed; running as an MS/TP master; of a mode. -/
def bb (f : BbPort → BbPort) : State := dev up fun v => { v with bbs := vmod v.bbs 7 f }
def ms (f : BbPort → BbPort) : State := bb fun b => f { b with state := 1, node := .idle, ts := 3, ns := 5, ps := 3 }
def md (mode : Nat) (f : BbPort → BbPort) : State := bb fun b => f { b with mode, state := 1 }

/-- Its descriptors, and those of entry 63. -/
def bd (p : Nat) : Desc := dsc 0x20800007 p
def be (p : Nat) : Desc := dsc 0x10A7003F p

/-- The port after a command. -/
def bport (t : State) : BbPort := t.dev.bbs[7]

/-- A bulk descriptor of the port, of `len` bytes. -/
def bk (len p : Nat) : Desc := bd (at_ 16 len + p)

/-- BbDescriptors: configuration and control. -/
theorem test_bb_config :
    let c := bd (at_ 11 1)
    let m := bd (127 + at_ 9 127 + at_ 10 100 + at_ 11 100 + at_ 12 200 + at_ 13 1 + at_ 14 127 + at_ 16 60000)
    let busy := waits (ms fun b => { b with posted := [bk 4 0] }) 0xA4 (bk 4 0)
    admitted up opBbConfig c (.bbPort 7) = true ∧ bbConfigOk c = true ∧ bbConfigOk (bd (at_ 12 1)) = false ∧
    run (.bbConfig c) up (fun t => (bport t).deLag == 1 && ans t (bd 0) .ok 0) = true ∧
    run (.bbConfig c) (ms id) (fun t => ans t (bd 0) .busy 0) = true ∧
    run (.bbConfig (bd (at_ 12 1))) up (fun t => ans t (bd 0) .range 0) = true ∧
    run (.bbConfig (bd (2 + at_ 9 32 + at_ 12 247 + at_ 20 1023))) up (fun t => (bport t).mode == 2 && (bport t).wrHi == 1023) = true ∧
    admitted up opBbMstpConfig m (.bbPort 7) = true ∧ run (.bbMstpConfig m) up (fun t => (bport t).ts == 127 && (bport t).segrx && ans t (bd 0) .ok 0) = true ∧
    run (.bbMstpConfig m) (ms id) (fun t => ans t (bd 0) .busy 0) = true ∧ run (.bbMstpConfig m) (md 1 id) (fun t => ans t (bd 0) .conflict 0) = true ∧
    run (.bbCtrl (bd 0)) busy (fun t => (bport t).state == 0 && t.dev.done.map (·.status) == [.flushed, .ok] && t.dev.raised.any fun e => e.code == EV_BB_PORT && e.arg == 0x10) = true ∧
    run (.bbCtrl (bd 0)) (dev (md 1 fun b => { b with work := [.hold { bk 2 0 with sq := 1 }] }) fun v => { v with bulk := [{ op := 0xA7, d := { bk 2 0 with sq := 1 } }] })
      (fun t => (bport t).work == [] && t.dev.bulk == [] && t.dev.done.map (·.status) == [.flushed, .ok]) = true ∧
    run (.bbCtrl (bd 1)) (bb fun b => { b with ts := 3 }) (fun t => (bport t).state == 1 && (bport t).ns == 3 && (bport t).node == .idle && ans t (bd 0) .ok 0) = true ∧
    run (.bbCtrl (bd 2)) (ms fun b => { b with rxdrop := 5 }) (fun t => (bport t).rxdrop == 0 && ans t (bd 0) .ok 0) = true ∧
    run (.bbCtrl (bd 3)) up (fun t => ans t (bd 0) .range 0) = true := by decide +kernel

/-- BbDescriptors: sending and receiving. -/
theorem test_bb_transfers :
    let x : BbIn := { data := [1, 2], src := 4, ftype := 6 }
    let read (s : State) (op : Nat) (d : Desc) := dev s fun v => { v with bulk := [{ op, d }] }
    let post := bk 1 (at_ 21 2 + at_ 22 9)
    admitted up opBbSend (bk 501 0) (.bbPort 7) = true ∧ up.dev.bulkOk (bk 501 0) = true ∧
    run (.bbSend (bk 501 0)) up (fun t => t.dev.bulk == [{ op := 0xA3, d := bk 501 0 }] && t.dev.done == []) = true ∧
    run (.bbSend (bk 502 0)) up (fun t => ans t (bd 0) .range 0) = true ∧
    run (.bbSend (bk 1 0)) (ms fun b => { b with state := 2 }) (fun t => ans t (bd 0) .conflict 0) = true ∧
    run (.bbRecv (bk 2 0)) up (fun t => (bport t).posted == [bk 2 0] && t.dev.done == []) = true ∧
    run (.bbRecv (bk 2 0)) (ms fun b => { b with held := [x] }) (fun t => (bport t).held == [] && t.dev.done.any fun c => c.bulk == [(0, [1, 2])]) = true ∧
    run (.bbRecv (bk 2 0)) (md 2 id) (fun t => ans t (bd 0) .conflict 0) = true ∧
    run (.bulkReadCompletion .ok [5]) (read (ms id) 0xA3 (bk 1 (at_ 20 4))) (fun t => (bport t).queue.any (·.data == [5]) && t.dev.bulk == []) = true ∧
    run (.bulkReadCompletion .ok [5]) (read (ms fun b => { b with ans := some (9, 4), node := .answer }) 0xA3 post) (fun t => (bport t).ans == none && (bport t).tx.isSome) = true ∧
    run (.bulkReadCompletion .ok [5]) (read (ms id) 0xA3 post) (fun t => ans t (bd 0) .conflict 0) = true ∧
    run (.bulkReadCompletion .ok [3, 0, 0, 0, 1]) (read (md 1 id) 0xA7 (bk 5 (at_ 20 247))) (fun t => (bport t).cur.isSome && (bport t).tx.isSome) = true := by decide +kernel

/-- BbDescriptors: segmented sends, polling, images. -/
theorem test_bb_modbus :
    let g := bk 100 (at_ 21 2 + at_ 22 127 + at_ 23 7 + at_ 24 100 + at_ 26 50)
    let e (fmt : Nat) := be (3 + at_ 9 247 + at_ 10 3 + at_ 11 fmt + at_ 12 65534 + at_ 14 100 + at_ 16 16 + at_ 17 1)
    let im (w : Nat) := bk 2 (at_ 21 w + at_ 22 1023)
    admitted up opBbSegSend g (.bbPort 7) = true ∧ run (.bbSegSend g) up (fun t => t.dev.bulk == [{ op := 0xA5, d := g }]) = true ∧
    run (.bbSegSend g) (md 1 id) (fun t => ans t (bd 0) .conflict 0) = true ∧
    admitted (md 1 id) opBbPollWrite (e 5) (.bbValue 7 63) = true ∧
    run (.bbPollWrite (e 5)) (md 1 id) (fun t => ((bport t).entries[63]).slave == 247 && ((bport t).entries[63]).timeout && ans t (be 0) .ok 0) = true ∧
    run (.bbPollWrite (e 5)) up (fun t => ans t (be 0) .conflict 0) = true ∧ run (.bbPollWrite (e 7)) (md 1 id) (fun t => ans t (be 0) .range 0) = true ∧
    run (.bbMbReq (bk 253 (at_ 20 247))) (md 1 id) (fun t => t.dev.bulk == [{ op := 0xA7, d := bk 253 (at_ 20 247) }] && (bport t).work == [.hold (bk 253 (at_ 20 247))]) = true ∧ (up.dev.bb 7).work = [] ∧
    run (.bbMbReq (bk 253 (at_ 20 247))) up (fun t => ans t (bd 0) .conflict 0) = true ∧
    run (.bbSlaveImage (im 0)) (md 2 id) (fun t => t.dev.bulk == [{ op := 0xA8, d := im 0 }]) = true ∧
    run (.bbSlaveImage (im 1)) (md 2 fun b => { b with holding := b.holding.set 1023 0x1234 }) (fun t => t.dev.done.any fun c => c.bulk == [(0, [0x34, 0x12])]) = true ∧
    run (.bbSlaveImage (im 1)) up (fun t => ans t (bd 0) .conflict 0) = true ∧
    run (.bbRead (be 0)) (md 1 fun b => { b with entries := b.entries.set 63 { x := -1, valid := true, timeout := false, exc := 2 } }) (fun t => ans t (be 0) .ok (0xFFFFFFFF + at_ 12 1 + at_ 13 2)) = true ∧
    run (.bbStatusGet (bd 0)) (ms fun b => { b with frameErr := 4 }) (fun t => ans t (bd 0) .ok ((bport t).status.toNat + at_ 12 (bport t).counts.toNat)) = true := by decide +kernel

/-- MasterNode: frames. -/
theorem test_master_frames :
    let f : BbOut := { d := none, dst := 9, expect := false, data := [1] }
    let a : BbOut := { d := some (bk 1 0), dst := 9, expect := true, data := [1] }
    let wt := waits (ms fun b => { b with node := .waitReply, expect := some (a, 9) }) 0xA3 (bk 1 0)
    let rx := waits (ms fun b => { b with posted := [bk 4 0] }) 0xA4 (bk 4 0)
    let sg : BbSeg := { d := bk 100 (at_ 23 1), dst := 9, npdu := [1], head := [0, 0, 7], body := [[1], [2]], invoke := 7, complex := false, window := 1 }
    (ms id).dev.bbUp 7 = true ∧ (bport (ms id)).after 3 = 4 ∧ (bport (ms id)).nmaxInfo = 1 ∧
    run (.token 7 9 3) (ms fun b => { b with queue := [f] }) (fun t => (bport t).node == .useToken && (bport t).tx == some (.frame f)) = true ∧
    run (.token 7 9 3) (ms fun b => { b with tokens := 48 }) (fun t => (bport t).node == .passToken && (bport t).tokens == 49) = true ∧
    run (.token 7 9 3) (ms fun b => { b with tokens := 49 }) (fun t => (bport t).node == .poll && (bport t).tx == some (.pfm 4)) = true ∧
    run (.token 7 9 3) (ms fun b => { b with ns := 3 }) (fun t => (bport t).node == .poll && (bport t).tx == some (.pfm 4)) = true ∧
    run (.bacnetDataNotExpectingReply 7 9 3 [1, 0, 0x71, 7, 4]) (waits (ms fun b => { b with segs := [sg] }) 0xA5 sg.d) (fun t => (bport t).segs == [] && ans t (bd 0) .peerError 4) = true ∧
    run (.pollForMaster 7 9 3) (ms id) (fun t => (bport t).tx == some (.rpfm 9)) = true ∧
    run (.pollForMaster 7 9 4) (ms id) (fun t => (bport t).tx == none) = true ∧
    run (.pollForMaster 7 9 3) (ms fun b => { b with state := 2 }) (fun t => (bport t).tx == none) = true ∧
    run (.testRequest 7 9 3 [8]) (ms id) (fun t => (bport t).tx == some (.testRsp 9 [8])) = true ∧
    run (.bacnetDataExpectingReply 7 9 3 [8]) (ms id) (fun t => (bport t).node == .answer && (bport t).ans == some (0, 9) && (bport t).held.length == 1) = true ∧
    run (.bacnetDataNotExpectingReply 7 9 3 [8]) rx (fun t => (bport t).posted == [] && t.dev.done.any fun c => c.bulk == [(0, [8])]) = true ∧
    run (.replyToPollForMaster 7 6 3) (ms fun b => { b with node := .poll }) (fun t => (bport t).ns == 6 && (bport t).tx == some (.token 6) && t.dev.raised.any fun e => e.code == EV_BB_PEER) = true ∧
    run (.bacnetDataNotExpectingReply 7 9 3 [8]) wt (fun t => ans t (bd 0) .ok 1 && (bport t).held.map (·.reply) == [some 7]) = true ∧
    run (.replyPostponed 7 9 3) wt (fun t => ans t (bd 0) .ok 2) = true ∧ run (.treplyTimeout 7) wt (fun t => ans t (bd 0) .timeout 0) = true ∧
    run (.replyWaitExpiry 7) (ms fun b => { b with node := .answer, ans := some (5, 9) }) (fun t => (bport t).postponed == [(5, 9)] && (bport t).tx == some (.postponed 9)) = true ∧
    run (.token 7 3 9) (ms id) (fun t => (bport t).dupSeen && (bport t).state == 1) = true ∧
    run (.token 7 3 9) (ms fun b => { b with dups := [0, 0] }) (fun t => (bport t).state == 2) = true := by decide +kernel

/-- MasterNode: timers, segmented sends, the end of a transmission. -/
theorem test_master_timers :
    let g (tries : Nat) : BbSeg := { d := bk 100 (at_ 23 1), dst := 9, npdu := [1], head := [0, 0, 7], body := [[1], [2]], invoke := 7, complex := false, window := 1, tries, waits := some 0 }
    let a : BbOut := { d := some (bk 1 0), dst := 9, expect := false, data := [1] }
    let tx (e : Bool) := waits (ms fun b => { b with node := .useToken, tx := some (.frame { a with expect := e }) }) 0xA3 (bk 1 0)
    let r : BbRx := { src := 9, invoke := 7, ptype := 0, npdu := [], head := [], data := [], next := 0, winEnd := 0, window := 1 }
    run (.mstpFrameError 7 .headerCrc) (ms id) (fun t => (bport t).frameErr == 1) = true ∧ run (.mstpFrameError 7 .frameType) (ms id) (fun t => (bport t).frameErr == 0) = true ∧
    run (.tnoTokenExpiry 7) (ms id) (fun t => (bport t).tokenLost == 1 && (bport t).node == .poll && (bport t).tx == some (.pfm 4)) = true ∧
    run (.tUsageExpiry 7) (ms fun b => { b with node := .passToken }) (fun t => (bport t).passTries == 1 && (bport t).tx == some (.token 5)) = true ∧
    run (.tUsageExpiry 7) (ms fun b => { b with node := .passToken, passTries := 1 }) (fun t => (bport t).tx == some (.pfm 6)) = true ∧
    run (.tUsageExpiry 7) (ms fun b => { b with node := .poll, ns := 3 }) (fun t => (bport t).tx == some (.pfm 4)) = true ∧
    run (.tUsageExpiry 7) (ms fun b => { b with node := .poll, ns := 3, ps := 2 }) (fun t => (bport t).sole && (bport t).ns == 3) = true ∧
    run (.tUsageExpiry 7) (ms fun b => { b with node := .poll }) (fun t => (bport t).node == .passToken && (bport t).tx == some (.token 5)) = true ∧
    run (.tsegExpiry 7) (ms fun b => { b with segs := [g 0] }) (fun t => (bport t).segs.map (·.tries) == [1] && (bport t).queue.length == 1) = true ∧
    run (.tsegExpiry 7) (waits (ms fun b => { b with segs := [g 1] }) 0xA5 (bk 100 (at_ 23 1))) (fun t => (bport t).segs == [] && ans t (bd 0) .timeout 0) = true ∧
    run (.tsegExpiry 7) (ms fun b => { b with segs := [{ g 0 with waits := none }] }) (fun t => (bport t).segs == [{ g 0 with waits := none }] && (bport t).queue == []) = true ∧
    run (.tsegRxExpiry 7 9 7) (ms fun b => { b with rxs := [r] }) (fun t => (bport t).rxs == []) = true ∧
    run (.tsegRxExpiry 7 9 7) (ms fun b => { b with rxs := [{ r with last := 5 }, { r with ptype := 3, last := 4 }] }) (fun t => (bport t).rxs == [{ r with last := 5 }]) = true ∧
    run (.bbTransmissionEnd 7) (tx false) (fun t => (bport t).expect == none && ans t (bd 0) .ok 0) = true ∧
    run (.bbTransmissionEnd 7) (tx true) (fun t => (bport t).node == .waitReply && t.dev.done == []) = true := by decide +kernel

/-- ModbusUart: the Modbus master. -/
theorem test_modbus_master :
    let x : MbEntry := { en := true, slave := 247, func := 4, format := 1, reg := 65535, period := 100, lshift := 16, failN := 1 }
    let m (f : BbPort → BbPort) := md 1 fun b => f { b with entries := b.entries.set 63 x, retries := 3 }
    let cu (n : Nat) := m fun b => { b with cur := some (.entry 63 0, n), curX := x }
    let rq (n : Nat) := waits (m fun b => { b with cur := some (.req (bk 2 0) 5 [3, 1], n) }) 0xA7 (bk 2 0)
    run (.modbusFrame 7 [1, 2, 3]) (md 1 id) (fun t => (bport t).frameErr == 1) = true ∧
    run (.modbusFrame 7 (mbFrame 1 [2])) (md 1 id) (fun t => (bport t).frameErr == 0) = true ∧
    run (.modbusFrame 7 (mbFrame 247 [4, 2, 0x80, 0])) (cu 0) (fun t => ((bport t).entries[63]).valid && ((bport t).entries[63]).x == -2147483648) = true ∧
    run (.modbusFrame 7 (mbFrame 247 [0x84, 2])) (cu 0) (fun t => ((bport t).entries[63]).exc == 2 && ((bport t).entries[63]).timeout) = true ∧
    run (.modbusFrame 7 (mbFrame 5 [3, 9])) (rq 0) (fun t => ans t (bd 0) .ok 2 && t.dev.done.any fun c => c.bulk == [(0, [3, 9])]) = true ∧
    run (.rspToExpiry 7) (cu 2) (fun t => (bport t).cur == some (.entry 63 0, 3) && (bport t).tx.isSome) = true ∧
    run (.rspToExpiry 7) (cu 3) (fun t => ((bport t).entries[63]).exc == 0xFF && ((bport t).entries[63]).fails == 1) = true ∧
    run (.rspToExpiry 7) (rq 3) (fun t => ans t (bd 0) .timeout 0) = true ∧
    run (.mbTurnExpiry 7) (m fun b => { b with turn := true }) (fun t => !(bport t).turn) = true ∧
    run (.pollEntryDue 7 63) (m id) (fun t => (bport t).cur == some (.entry 63 0, 0) && (bport t).tx == some (.raw none (mbFrame 247 [4, 255, 255, 0, 1]))) = true ∧
    run (.pollEntryDue 7 62) (m id) (fun t => (bport t).cur == none) = true := by decide +kernel

/-- ModbusUart: the Modbus slave of address 247, and the raw UART. -/
theorem test_modbus_slave :
    let sl := md 2 fun b => { b with slaveAddr := 247, wrLo := 1023, wrHi := 1023, holding := b.holding.set 1023 0x1234 }
    let u (f : BbPort → BbPort) := md 3 f
    let po (len : Nat) (f : BbPort → BbPort) := waits (u fun b => f { b with posted := [bk len 0] }) 0xA4 (bk len 0)
    run (.modbusFrame 7 (mbFrame 246 [3])) sl (fun t => (bport t).tx == none) = true ∧
    run (.modbusFrame 7 (mbFrame 247 [5])) sl (fun t => (bport t).tx == some (.raw none (mbFrame 247 [0x85, 1]))) = true ∧
    run (.modbusFrame 7 (mbFrame 247 [6, 3, 255, 0xAB, 0xCD])) sl (fun t => (bport t).holding[1023] == 0xABCD && t.dev.raised.any fun e => e.code == EV_BB_MB_WRITE && e.arg == 0x103FF) = true ∧
    run (.modbusFrame 7 (mbFrame 0 [6, 3, 255, 0xAB, 0xCD])) sl (fun t => (bport t).holding[1023] == 0xABCD && (bport t).tx == none) = true ∧
    run (.modbusFrame 7 (mbFrame 247 [3, 3, 255, 0, 1])) sl (fun t => (bport t).tx == some (.raw none (mbFrame 247 [3, 2, 0x12, 0x34]))) = true ∧
    run (.uartCharacter 7 5 true) (u id) (fun t => (bport t).chars == [(5, true)]) = true ∧
    run (.uartCharacter 7 5 true) (u fun b => { b with chars := List.replicate 4096 (1, false) }) (fun t => (bport t).rxdrop == 1 && (bport t).chars.length == 4096) = true ∧
    run (.uartCharacter 7 5 true) (po 2 fun b => { b with chars := [(4, false)] }) (fun t => (bport t).chars == [] && ans t (bd 0) .ok (2 + at_ 13 8) && t.dev.done.any fun c => c.bulk == [(0, [4, 5])]) = true ∧
    run (.uartIdle 7) (po 3 fun b => { b with chars := [(4, false)] }) (fun t => (bport t).posted == [] && ans t (bd 0) .ok 1) = true ∧
    run (.uartIdle 7) (po 3 id) (fun t => (bport t).posted == [bk 3 0]) = true := by decide +kernel

/-- The header and data CRCs that ANSI/ASHRAE 135 works out (log entry 40): not the spec's values. -/
theorem test_mstp_crcs : hdrCrc [0x00, 0x10, 0x05, 0x00, 0x00] = 0x8C ∧ datCrc [0x01, 0x22, 0x30] = 0xBD10 := by decide +kernel

/-! ## The sensor-bus ports -/

/-- Sensor-bus port 7 running; its descriptors, and those of entry 31. -/
def sb (f : SbPort → SbPort) : State := dev up fun v => { v with sbs := vmod v.sbs 7 fun b => f { b with state := 1 } }
def sd (p : Nat) : Desc := dsc 0x20900007 p
def sv (p : Nat) : Desc := dsc 0x105000FF p

/-- The port after a command, and its entry 31. -/
def sport (t : State) : SbPort := t.dev.sbs[7]
def sent (t : State) : SbEntry := (sport t).entries[31]

/-- An SB_XFER that writes and reads so many bytes. -/
def xf (w r : Nat) : Desc := sd (at_ 16 (w + r) + at_ 20 0x50 + at_ 22 w + at_ 24 r)

/-- SensorDescriptors. -/
theorem test_sb_descriptors :
    let e (r : Nat) := sv (3 + at_ 9 0x77 + at_ 10 4 + at_ 11 r + at_ 18 1 + at_ 20 (4 + 8 * 4) + at_ 22 32 + at_ 23 16 + at_ 24 1)
    let rec' := waits (sb fun b => { b with state := 2, recD := [sd 2] }) 0xB3 (sd 2)
    admitted up opSbConfig (sd (2 + at_ 9 255)) (.sbPort 7) = true ∧
    run (.sbConfig (sd (2 + at_ 9 255))) up (fun t => (sport t).speed == 2 && (sport t).stretchT == 255 && ans t (sd 0) .ok 0) = true ∧
    run (.sbConfig (sd (2 + at_ 9 255))) (sb id) (fun t => ans t (sd 0) .busy 0) = true ∧ run (.sbConfig (sd 2)) up (fun t => ans t (sd 0) .range 0) = true ∧
    admitted up opSbPollWrite (e 8) (.sbValue 7 31) = true ∧ run (.sbPollWrite (e 8)) up (fun t => (sent t).addr == 0x77 && (sent t).timeout && ans t (sv 0) .ok 0) = true ∧
    run (.sbPollWrite (e 7)) up (fun t => ans t (sv 0) .range 0) = true ∧
    admitted (sb id) opSbXfer (xf 256 0) (.sbPort 7) = true ∧
    run (.sbXfer (xf 256 0)) (sb id) (fun t => t.dev.bulk == [{ op := 0xB2, d := xf 256 0 }]) = true ∧
    run (.sbXfer (xf 0 256)) (sb id) (fun t => (sport t).cur == some (.xfer (xf 0 256) [], default) && (sport t).lastHost && t.dev.done == []) = true ∧
    run (.sbXfer (xf 0 256)) (sb fun b => { b with state := 3 }) (fun t => (sport t).fails == 1 && ans t (sd 0) .timeout 5) = true ∧
    run (.sbXfer (sd (at_ 16 5))) (sb id) (fun t => ans t (sd 0) .range 0) = true ∧
    run (.bulkReadCompletion .ok [9]) (dev (sb id) fun v => { v with bulk := [{ op := 0xB2, d := xf 1 0 }] }) (fun t => (sport t).cur == some (.xfer (xf 1 0) [9], default)) = true ∧
    run (.sbCtrl (sd 0)) rec' (fun t => (sport t).state == 0 && t.dev.done.map (·.status) == [.flushed, .ok]) = true ∧
    run (.sbCtrl (sd 1)) up (fun t => (sport t).state == 1 && ans t (sd 0) .ok 0) = true ∧ run (.sbCtrl (sd 1)) (sb id) (fun t => ans t (sd 0) .ok 0) = true ∧
    run (.sbCtrl (sd 2)) (sb id) (fun t => (sport t).state == 2 && (sport t).recD == [sd 2] && t.dev.done == []) = true ∧
    run (.sbCtrl (sd 3)) (sb fun b => { b with fails := 4 }) (fun t => (sport t).fails == 0 && ans t (sd 0) .ok 0) = true ∧
    run (.sbRead (sv 0)) (sb fun b => { b with entries := b.entries.set 31 { x := -1, valid := true, timeout := false, rlen := 2, cause := 3 } }) (fun t => ans t (sv 0) .ok (0xFFFFFFFF + at_ 12 1 + at_ 13 3)) = true ∧
    run (.sbStatusGet (sd 0)) (sb fun b => { b with fails := 4 }) (fun t => ans t (sd 0) .ok (1 + at_ 12 4)) = true := by decide +kernel

/-- SensorMoments. -/
theorem test_sb_moments :
    let x : SbEntry := { en := true, event := true, addr := 0x50, rlen := 2, period := 1, width := 2, bits := 16, sign := true, failN := 1 }
    let s (f : SbPort → SbPort) := sb fun b => f { b with entries := b.entries.set 31 x }
    let cu (y : SbEntry) := sb fun b => { b with entries := b.entries.set 31 y, cur := some (.entry 31 0, y) }
    let xc := waits (sb fun b => { b with cur := some (.xfer (xf 1 2) [9], default) }) 0xB2 (xf 1 2)
    let rec' := waits (sb fun b => { b with state := 2, recD := [sd 2] }) 0xB3 (sd 2)
    x.extract [0x80, 0, 7] = -32768 ∧
    run (.sbEntryDue 7 31) (s id) (fun t => (sport t).cur == some (.entry 31 0, x)) = true ∧ run (.sbEntryDue 7 30) (s id) (fun t => sport t == sport (s id)) = true ∧
    run (.sbWaitExpiry 7 31) (s fun b => { b with parked := [(31, x, false)] }) (fun t => (sport t).cur == some (.readPhase 31 0 x false, x) && (sport t).parked == []) = true ∧
    run (.sbTransactionEnd 7 (.done [0x80, 0])) (cu x) (fun t => (sent t).x == -32768 && (sent t).valid && t.dev.raised.any fun e => e.code == EV_SB_VALUE && e.arg == 0xFFFF8000) = true ∧
    run (.sbTransactionEnd 7 (.done [0, 0])) (cu { x with valid := true }) (fun t => t.dev.raised == []) = true ∧
    run (.sbTransactionEnd 7 (.done [])) (cu { x with wait := 5, wlen := 1 }) (fun t => (sport t).parked.length == 1 && (sport t).cur == none) = true ∧
    words31 [0xBE, 0xEF, 0] = none ∧
    run (.sbTransactionEnd 7 (.done [0xBE, 0xEF, 0])) (cu { x with check := 2, rlen := 3 }) (fun t => (sent t).cause == 3 && (sport t).fails == 1) = true ∧
    run (.sbTransactionEnd 7 .addrNack) (cu x) (fun t => (sent t).cause == 1 && (sent t).timeout) = true ∧ run (.sbTransactionEnd 7 .dataNack) (cu x) (fun t => (sent t).cause == 2) = true ∧
    run (.sbTransactionEnd 7 .bus) (cu x) (fun t => (sent t).cause == 6 && (sport t).state == 2) = true ∧
    run (.stretchTExpiry 7 true) (cu x) (fun t => (sent t).cause == 4 && (sport t).state == 1 && (sport t).recoveries == 1) = true ∧
    run (.stretchTExpiry 7 false) (cu x) (fun t => (sent t).cause == 4 && (sport t).state == 3 && (sport t).stuckSeen) = true ∧
    run (.sbTransactionEnd 7 (.done [1, 2])) xc (fun t => ans t (sd 0) .ok 0 && t.dev.done.any fun c => c.bulk == [(1, [1, 2])]) = true ∧
    run (.sbTransactionEnd 7 .addrNack) xc (fun t => ans t (sd 0) .peerError 1) = true ∧ run (.sbTransactionEnd 7 .dataNack) xc (fun t => ans t (sd 0) .peerError 2) = true ∧
    run (.sbTransactionEnd 7 .bus) xc (fun t => ans t (sd 0) .peerError 6) = true ∧
    run (.sbRecoveryTimer 7 true) rec' (fun t => (sport t).state == 1 && ans t (sd 0) .ok 0) = true ∧
    run (.sbRecoveryTimer 7 false) rec' (fun t => (sport t).state == 3 && ans t (sd 0) .timeout 0 && t.dev.handling (hSb 7)) = true ∧
    run (.sbRecoveryTimer 7 false) up (fun t => (sport t).state == 0) = true := by decide +kernel

/-- Balls at rest and at work (20 R533): the interrupt line of Quad-SPI, a building-bus port that transmits, a held function, an unpowered
bank. -/
theorem test_balls :
    let tx := ms fun b => { b with tx := some (.token 5) }
    (qspi up).ball .qspiIrqN = .high ∧ up.ball .qspiIrqN = .off ∧ (ring (qspi up) fun r => { r with irqPend := 1, irqMask := 0 }).ball .qspiIrqN = .low ∧
    tx.ball (.bbDe 7) = .high ∧ tx.ball (.bbTx 7) = .moving ∧ up.ball (.bbDe 7) = .low ∧ up.ball (.bbTx 7) = .high ∧
    (power tx fun p => { p with frst := 1 <<< bbFunc 7 }).ball (.bbDe 7) = .low ∧ up.ball (.vlTx 15) = .low ∧ up.ball (.sbScl 0) = .off ∧
    (dev tx fun v => { v with regs := { v.regs with bankOff := 64 } }).ball (.bbDe 7) = .off := by decide +kernel

end Sys2Proof.Tests
end

section
/-! What a descriptor row does when its descriptor fails a check of 01 R32, or stands behind another (02 R60): the outcome of
each check, the shapes in which the rows execute, and both facts for every shape. -/

namespace Sys2Proof.Machine

/-! ## The checks in their order -/

section
variable {s : Dev} {i : OpInfo} {d : Desc} {o : Obj}

/-- Check 2: reserved bits of the payload and of FLAGS are zero. -/
theorem Dev.opCheck_reserved (hr : s.regs.recovery = false) (h : d.pay &&& ~~~ i.maskFor d ≠ 0 ∨ d.flags.extractLsb' 4 4 ≠ 0) :
    s.opCheck i d = .error .range := by
  rw [Dev.opCheck, if_neg (by simp [hr]), if_pos h]

/-- Check 3: the handle names an object. -/
theorem Dev.opCheck_noObject (hr : s.regs.recovery = false) (hp : d.pay &&& ~~~ i.maskFor d = 0)
    (hf : d.flags.extractLsb' 4 4 = 0) (ho : objOf d.handle = none) : s.opCheck i d = .error .badHandle := by
  rw [Dev.opCheck, if_neg (by simp [hr]), if_neg (by simp [hp, hf]), ho]

/-- Checks 3 to 5 of a descriptor whose handle names an object. -/
theorem Dev.opCheck_object (hr : s.regs.recovery = false) (hp : d.pay &&& ~~~ i.maskFor d = 0)
    (hf : d.flags.extractLsb' 4 4 = 0) (ho : objOf d.handle = some o) :
    s.opCheck i d =
      if !i.accepts.takes o then .error .badHandle
      else if s.held (i.funcOf o) then .error .inReset
      else if i.needsEn && !s.loading && !s.enabled (i.funcOf o) then .error .disabled
      else .ok o := by
  rw [Dev.opCheck, if_neg (by simp [hr]), if_neg (by simp [hp, hf]), ho]

end

/-! ## The shapes of the rows -/

/-- How a descriptor's row executes: at its function; as one of Hollow's, which may wait for a commit (15 R446); as BB_MB_REQ, which
then settles its place in the order of service (13 R389); as PWR_STATE, whose request for SLEEP begins with host hold (16 R462). -/
inductive RunsAs (r : (Desc → Instr) × OpInfo) : Prop where
  | desc (body : Desc → Obj → Dev → Dev × Res) (h : ∀ d s, exec (r.1 d) s = .next (s.desc r.2 d (body d)))
  | hollow (body : Desc → Dev → Dev × Res) (h : ∀ d s, exec (r.1 d) s = .next (s.onDev fun v => v.runHollow r.2 d (body d)))
  | mbReq (body : Desc → Obj → Dev → Dev × Res) (hop : r.2.op = 0xA7)
    (h : ∀ d s, exec (r.1 d) s = .next ((s.desc r.2 d (body d)).onDev fun v => v.mbSettle d))
  | pwrState (hi : r.2 = opPwrState) (h : ∀ d s, exec (r.1 d) s = .next (s.pwrState d))

/-- Every descriptor row has one of these shapes: the rows at their functions first, then Hollow's, then the two with a shape of their
own. -/
theorem runsAs_of_descRow : ∀ r, DescRow r → RunsAs r := by
  unfold DescRow
  simp only [List.forall_mem_cons, List.not_mem_nil, false_imp_iff, implies_true, and_true]
  and_intros
  any_goals exact .desc _ fun _ _ => rfl
  any_goals exact .hollow _ fun _ _ => rfl
  · exact .mbReq _ rfl fun _ _ => rfl
  · exact .pwrState rfl fun _ _ => rfl

/-! ## A descriptor that waits or is refused -/

/-- The state in which a descriptor has left its function's queue and is answered with a status, RESULT 0. -/
def State.refusedAs (s : State) (op : Nat) (d : Desc) (st : Status) : State :=
  { s with dev := (s.dev.taken op d).complete d st 0 [] }

/-- The descriptor is answered so, and but for the queues nothing has changed. -/
theorem State.onlyAnswers_refusedAs (s : State) (op : Nat) (d : Desc) (st : Status) : s.onlyAnswers (s.refusedAs op d st) d st 0 :=
  ⟨⟨_, Dev.complete_last .., rfl, rfl, rfl, rfl, rfl⟩, rfl⟩

/-- A row at its function changes nothing while its descriptor stands behind another (02 R60). -/
theorem State.desc_behind {s : State} {i : OpInfo} {d : Desc} (body : Obj → Dev → Dev × Res) (h : s.dev.behind i.op d) :
    s.desc i d body = s := by
  rw [State.desc, State.onDev, Dev.runDesc_behind body h]

/-- A row at its function answers a failing check, whatever its opcode would have done (01 R32). -/
theorem State.desc_refused {s : State} {i : OpInfo} {d : Desc} {st : Status} (body : Obj → Dev → Dev × Res)
    (h : s.dev.behind i.op d = false) (hq : ∀ q ∈ s.dev.fq, q.ghost = false) (hc : s.dev.opCheck i d = .error st) :
    s.desc i d body = s.refusedAs i.op d st := by
  rw [State.desc, State.onDev, Dev.runDesc_refused body h hq hc]
  rfl

/-! ## What the special shapes add to the run of a descriptor -/

/-- While its SQ waits for no commit, a descriptor of Hollow's runs as any other. -/
theorem State.runHollow_of_not_awaits {s : State} {d : Desc} (i : OpInfo) (body : Dev → Dev × Res)
    (h : s.dev.hollow.awaits d.sq = false) : (s.onDev fun v => v.runHollow i d body) = s.desc i d fun _ => body := by
  simp [State.desc, State.onDev, Dev.runHollow, h]

/-- A descriptor of Hollow's that stands behind another waits, whether or not a commit is awaited. -/
theorem Dev.runHollow_behind {s : Dev} {i : OpInfo} {d : Desc} (body : Dev → Dev × Res) (h : s.behind i.op d) :
    s.runHollow i d body = s := by
  simp [Dev.runHollow, Dev.runDesc_behind _ h]

/-- A BB_MB_REQ without a place in the order of service has none to give up. -/
theorem Dev.mbSettle_of_noPlace {s : Dev} {d : Desc} (h : Dev.NoPlace s d) : s.mbSettle d = s := by
  have hdrop : s.mbDropHold 0xA7 d = s := by
    unfold Dev.mbDropHold
    split
    · next p _ _ =>
      have hnone : (s.bb p).work.any (·.holds d) = false := by simpa using h p
      simp [hnone]
    · rfl
  rw [Dev.mbSettle, hdrop, ite_self]

/-- A PWR_STATE that leaves the SLEEP sequence where it was begins no host hold. -/
theorem State.pwrState_of_same_sleep {s : State} {d : Desc}
    (h : (s.desc opPwrState d (doPwrState d)).dev.power.sleep = s.dev.power.sleep) :
    s.pwrState d = s.desc opPwrState d (doPwrState d) := by
  rw [State.pwrState, h]
  exact if_neg fun hc => hc.2 hc.1

/-! ## Every row waits for its turn and is refused by a check -/

/-- A row's descriptor that stands behind another changes nothing (02 R60). -/
theorem RunsAs.exec_behind {r : (Desc → Instr) × OpInfo} (hr : RunsAs r) {s : State} {d : Desc} (hb : s.dev.behind r.2.op d)
    (hm : r.2.op = 0xA7 → Dev.NoPlace s.dev d) : exec (r.1 d) s = .next s := by
  cases hr with
  | desc body h => rw [h, State.desc_behind _ hb]
  | hollow body h => rw [h, State.onDev, Dev.runHollow_behind _ hb]
  | mbReq body hop h => rw [h, State.desc_behind _ hb, State.onDev, Dev.mbSettle_of_noPlace (hm hop)]
  | pwrState hi h =>
    rw [hi] at hb
    have hrun := State.desc_behind (doPwrState d) hb
    rw [h, State.pwrState_of_same_sleep (by rw [hrun]), hrun]

/-- A row's descriptor whose turn it is, and that fails a check, is answered and does nothing else (01 R32). -/
theorem RunsAs.exec_refused {r : (Desc → Instr) × OpInfo} (hr : RunsAs r) {s : State} {d : Desc} {st : Status}
    (ha : s.dev.hollow.awaits d.sq = false) (hb : s.dev.behind r.2.op d = false) (hq : ∀ q ∈ s.dev.fq, q.ghost = false)
    (hm : r.2.op = 0xA7 → Dev.NoPlace s.dev d) (hc : s.dev.opCheck r.2 d = .error st) :
    exec (r.1 d) s = .next (s.refusedAs r.2.op d st) := by
  cases hr with
  | desc body h => rw [h, State.desc_refused _ hb hq hc]
  | hollow body h => rw [h, State.runHollow_of_not_awaits _ _ ha, State.desc_refused _ hb hq hc]
  | mbReq body hop h =>
    have hplace : Dev.NoPlace (s.refusedAs r.2.op d st).dev d := hm hop
    rw [h, State.desc_refused _ hb hq hc, State.onDev, Dev.mbSettle_of_noPlace hplace]
  | pwrState hi h =>
    rw [hi] at hb hc ⊢
    have hrun := State.desc_refused (doPwrState d) hb hq hc
    rw [h, State.pwrState_of_same_sleep (by rw [hrun]; rfl), hrun]

/-! ## The obligation -/

/-- Settles O33: every row has a shape, each shape is refused by a failing check and waits behind another descriptor, and the checks
fail in the order of 01 R32. -/
theorem descriptorChecks : Obligations.DescriptorChecks := by
  unfold Obligations.DescriptorChecks
  refine ⟨fun r hrow s d ha hb hq hrec hm => ?_, fun r hrow s d hb hm => ⟨s, (runsAs_of_descRow r hrow).exec_behind hb hm, rfl⟩⟩
  have answers : ∀ st, s.dev.opCheck r.2 d = .error st → Answers (r.1 d) s fun t => s.onlyAnswers t d st 0 := fun st hc =>
    ⟨_, (runsAs_of_descRow r hrow).exec_refused ha hb hq hm hc, s.onlyAnswers_refusedAs ..⟩
  refine ⟨fun h => answers _ (Dev.opCheck_reserved hrec h), fun hp hf ho => answers _ (Dev.opCheck_noObject hrec hp hf ho),
    fun o hp hf ho => ?_⟩
  have hcheck := Dev.opCheck_object (i := r.2) hrec hp hf ho
  refine ⟨fun hk => answers _ ?badKind, fun hk hheld => answers _ ?inReset, fun hk hheld hneeds hload hdis => answers _ ?disabled⟩
  case badKind => simp [hcheck, hk]
  case inReset => simp [hcheck, hk, hheld]
  case disabled => simp [hcheck, hk, hheld, hneeds, hload, hdis]

end Sys2Proof.Machine
end

section
/-! What the device's own writing of completions, events, log records and messages leaves of the host attachment: one normal form, the
settings, which every such operation keeps, and what can be read off it. -/

namespace Sys2Proof.Machine

/-! ## Vectors -/

/-- A change of one entry that a projection does not see. -/
theorem map_vmod {α β : Type} {n : Nat} (v : Vector α n) (i : Fin n) {f : α → α} {g : α → β} (h : g (f v[i.val]) = g v[i.val]) :
    (vmod v i f).map g = v.map g := by
  ext j hj
  simp only [Vector.getElem_map, vmod, Vector.getElem_set]
  split
  · next e => subst e; exact h
  · rfl

/-! ## The parts of the attachment -/

/-- A host access in one update: over PCI Express the link is up and out of L1. -/
theorem State.touched_eq (s : State) :
    s.touched = s.onRing fun r => { r with linkUp := !s.qspi || r.linkUp, l1 := s.qspi && r.l1 } := by
  unfold State.touched; split
  · next h => simp [h, State.onRing]
  · next h => simp [h]

@[simp] theorem State.touched_dev (s : State) : s.touched.dev = s.dev := by rw [s.touched_eq, State.onRing_dev]
@[simp] theorem State.touched_mem (s : State) : s.touched.mem = s.mem := by rw [s.touched_eq, State.onRing_mem]
@[simp] theorem State.touched_sqs (s : State) : s.touched.ring.sqs = s.ring.sqs := by rw [s.touched_eq, State.onRing_ring]
@[simp] theorem State.touched_cqs (s : State) : s.touched.ring.cqs = s.ring.cqs := by rw [s.touched_eq, State.onRing_ring]
@[simp] theorem State.touched_hold (s : State) : s.touched.ring.hold = s.ring.hold := by rw [s.touched_eq, State.onRing_ring]
@[simp] theorem State.touched_qspi (s : State) : s.touched.qspi = s.qspi := by rw [State.qspi, s.touched_dev, State.qspi]

@[simp] theorem State.touched_ringOf (s : State) (i : IrqRing) : s.touched.ring.ringOf i = s.ring.ringOf i := by
  rw [s.touched_eq]; cases i <;> rfl

@[simp] theorem State.onSq_sq (s : State) (n : Fin 16) (f : Sq → Sq) : (s.onSq n f).ring.sqs[n.val] = f s.ring.sqs[n.val] := by
  simp [State.onSq]

@[simp] theorem State.onIrqRing_ringOf (s : State) (i : IrqRing) (f : Ring → Ring) :
    (s.onIrqRing i f).ring.ringOf i = f (s.ring.ringOf i) := by
  cases i <;> simp [State.onIrqRing, Rings.setRing, Rings.ringOf]

/-- AER's report changes AER's registers alone, and may draw the number of a header (02 R75). -/
theorem State.aerReport_shape (s : State) (e : Option DmaEnd) :
    ∃ a k, s.aerReport e = { s with ring := { s.ring with aer := a }, dev := { s.dev with fresh := k } }
      ∧ a.unc = s.ring.aer.unc ||| (1#32 <<< aerBit e) := by
  unfold State.aerReport
  dsimp only
  split <;> split
  · exact ⟨_, s.dev.fresh, rfl, rfl⟩
  · exact ⟨_, s.dev.fresh + 1, rfl, rfl⟩
  · exact ⟨_, s.dev.fresh, rfl, rfl⟩
  · exact ⟨_, s.dev.fresh + 1, rfl, rfl⟩

/-! ## The settings -/

/-- A ring without what moves when records are written to it and its vector fires. -/
def Ring.settings (r : Ring) : Ring := { r with prod := 0, dropWrap := false, count := 0, timer := false, want := false }

/-- An SQ without what moves when descriptors complete; an SQ that drains may come to be disabled. -/
def Sq.settings (q : Sq) : Sq :=
  { q with disp := 0, chain := [], chainBusy := false, chainEnd := none, phase := if q.phase = .draining then .disabled else q.phase }

/-- A CQ without what moves when completions are written: its ring's settings. -/
def Cq.settings (c : Cq) : Cq := { ring := c.ring.settings }

/-- An entry of the MSI-X table without its pending bit. -/
def Msix.settings (e : Msix) : Msix := { e with pending := false }

/-- The host attachment without what moves when the device writes completions, events, log records and messages. -/
def Rings.settings (r : Rings) : Rings :=
  { r with
    l1 := false, sqs := r.sqs.map Sq.settings, cqs := r.cqs.map Cq.settings, eq := r.eq.settings, eqCache := [], eqLost := 0, eqDrop := 0
    lq := r.lq.settings, msix := r.msix.map Msix.settings, irqPend := 0, orphans := [] }

/-! ## What can be read off the settings -/

@[simp] theorem Rings.settings_ringOf (r : Rings) (i : IrqRing) : r.settings.ringOf i = (r.ringOf i).settings := by
  cases i <;> simp [Rings.settings, Rings.ringOf, Cq.settings]

/-- Of two attachments with the same settings each ring has the same settings. -/
theorem Rings.ringOf_settings_congr {r r' : Rings} (h : r.settings = r'.settings) (i : IrqRing) :
    (r.ringOf i).settings = (r'.ringOf i).settings := by
  simpa using congrArg (·.ringOf i) h

/-- The consumer index is the host's. -/
theorem Rings.cons_congr {r r' : Rings} (h : r.settings = r'.settings) (i : IrqRing) : (r.ringOf i).cons = (r'.ringOf i).cons := by
  have e := congrArg Ring.cons (Rings.ringOf_settings_congr h i)
  exact e

theorem Rings.en_congr {r r' : Rings} (h : r.settings = r'.settings) (i : IrqRing) : (r.ringOf i).en = (r'.ringOf i).en := by
  have e := congrArg Ring.en (Rings.ringOf_settings_congr h i)
  exact e

theorem Rings.hold_congr {r r' : Rings} (h : r.settings = r'.settings) : r.hold = r'.hold := by
  have e := congrArg Rings.hold h
  exact e

theorem Rings.cfg_congr {r r' : Rings} (h : r.settings = r'.settings) : r.cfg = r'.cfg := by
  have e := congrArg Rings.cfg h
  exact e

theorem Rings.quiet_congr {r r' : Rings} (h : r.settings = r'.settings) : r.quiet = r'.quiet := by
  simp [Rings.quiet, Rings.hold_congr h, Rings.cfg_congr h]

/-! ## Changes that the settings do not see -/

theorem State.onSq_settings (s : State) (n : Fin 16) {f : Sq → Sq} (h : ∀ q, (f q).settings = q.settings) :
    (s.onSq n f).ring.settings = s.ring.settings := by
  simp [State.onSq, Rings.settings, map_vmod _ _ (h _)]

theorem State.onCq_settings (s : State) (n : Fin 16) {f : Cq → Cq} (h : ∀ c, (f c).settings = c.settings) :
    (s.onCq n f).ring.settings = s.ring.settings := by
  simp [State.onCq, Rings.settings, map_vmod _ _ (h _)]

theorem State.onIrqRing_settings (s : State) (i : IrqRing) {f : Ring → Ring} (h : ∀ r, (f r).settings = r.settings) :
    (s.onIrqRing i f).ring.settings = s.ring.settings := by
  cases i with
  | cq n => exact s.onCq_settings n fun c => by simp [Cq.settings, h]
  | eq => simp [State.onIrqRing, Rings.setRing, Rings.settings, h]
  | lq => simp [State.onIrqRing, Rings.setRing, Rings.settings, h]

/-- A bit of an SQ's end of draining is none of its settings. -/
@[simp] theorem Sq.settle_settings (q : Sq) : q.settle.settings = q.settings := by
  unfold Sq.settle
  split
  · next h => simp [Sq.settings, h.1]
  · rfl

@[simp] theorem Ring.fired_settings (r : Ring) (v : Fin 32) : (r.fired v).settings = r.settings := by
  unfold Ring.fired; split <;> rfl

/-! ## Bytes, messages and vectors -/

@[simp] theorem State.store_dev (s : State) (a : Nat) (bs : List Byte) : (s.store a bs).dev = s.dev := by
  unfold State.store; repeat' split
  all_goals rfl

@[simp] theorem State.store_settings (s : State) (a : Nat) (bs : List Byte) : (s.store a bs).ring.settings = s.ring.settings := by
  unfold State.store; repeat' split
  all_goals rfl

@[simp] theorem State.message_dev (s : State) (v : Fin 32) : (s.message v).dev = s.dev := s.store_dev ..

@[simp] theorem State.message_settings (s : State) (v : Fin 32) : (s.message v).ring.settings = s.ring.settings := s.store_settings ..

/-- A property that each step of a fold keeps. -/
theorem foldl_keeps {σ α β : Type} {f : σ → α → σ} (g : σ → β) (h : ∀ s a, g (f s a) = g s) (l : List α) (s : σ) :
    g (l.foldl f s) = g s := by
  induction l generalizing s with
  | nil => rfl
  | cons a l ih => rw [List.foldl_cons, ih, h]

@[simp] theorem State.sendPending_dev (s : State) : s.sendPending.dev = s.dev :=
  foldl_keeps State.dev (fun s v => by split <;> simp) _ s

/-- A message's pending bit is none of the settings. -/
theorem State.onMsix_settings (s : State) (v : Fin 32) (b : Bool) :
    (s.onRing fun r => { r with msix := vmod r.msix v fun e => { e with pending := b } }).ring.settings = s.ring.settings := by
  have h : Vector.map Msix.settings (vmod s.ring.msix v fun e => { e with pending := b }) = s.ring.msix.map Msix.settings :=
    map_vmod _ _ rfl
  simp [Rings.settings, h]

@[simp] theorem State.sendPending_settings (s : State) : s.sendPending.ring.settings = s.ring.settings :=
  foldl_keeps (fun s : State => s.ring.settings)
    (fun s v => by split; exacts [(State.message_settings ..).trans (s.onMsix_settings v false), rfl]) _ s

@[simp] theorem State.fire_dev (s : State) (v : Fin 32) : (s.fire v).dev = s.dev := by
  unfold State.fire; dsimp only; repeat' split
  all_goals simp

@[simp] theorem State.fire_settings (s : State) (v : Fin 32) : (s.fire v).ring.settings = s.ring.settings := by
  have hf : (s.onRing fun r => { r with
      cqs := r.cqs.map fun c => { c with ring := c.ring.fired v }, eq := r.eq.fired v, lq := r.lq.fired v }).ring.settings
      = s.ring.settings := by
    simp [Rings.settings, Function.comp_def, Cq.settings]
  unfold State.fire; dsimp only; repeat' split
  · exact hf
  · exact (State.message_settings ..).trans hf
  · exact (State.onMsix_settings _ v true).trans hf

@[simp] theorem State.request_dev (s : State) (i : IrqRing) : (s.request i).dev = s.dev := by
  unfold State.request; dsimp only; repeat' split
  all_goals simp

@[simp] theorem State.request_settings (s : State) (i : IrqRing) : (s.request i).ring.settings = s.ring.settings := by
  unfold State.request; dsimp only; repeat' split
  · rfl
  · exact s.onIrqRing_settings i fun _ => rfl
  · exact s.fire_settings _

/-! ## Records -/

@[simp] theorem State.counted_dev (s : State) (i : IrqRing) (notify : Bool) : (s.counted i notify).dev = s.dev := by
  unfold State.counted; dsimp only; split <;> simp

@[simp] theorem State.counted_settings (s : State) (i : IrqRing) (notify : Bool) :
    (s.counted i notify).ring.settings = s.ring.settings := by
  unfold State.counted; dsimp only; split
  · rw [State.request_settings]; exact s.onIrqRing_settings i fun _ => rfl
  · exact s.onIrqRing_settings i fun _ => rfl

@[simp] theorem State.record_dev (s : State) (i : IrqRing) (bytes : Bool → List Byte) (notify : Bool) :
    (s.record i bytes notify).dev = s.dev := by simp [State.record]

@[simp] theorem State.record_settings (s : State) (i : IrqRing) (bytes : Bool → List Byte) (notify : Bool) :
    (s.record i bytes notify).ring.settings = s.ring.settings := by simp [State.record]

/-! ## Completions -/

@[simp] theorem State.writeCq_dev (s : State) (n : Fin 16) (c : Completion) : (s.writeCq n c).dev = s.dev := by
  have hb := foldl_keeps State.dev (fun (s : State) (b : Nat × List Byte) => s.store_dev b.1 b.2) c.bulk s
  unfold State.writeCq; dsimp only; split <;> simp [hb]

@[simp] theorem State.writeCq_settings (s : State) (n : Fin 16) (c : Completion) : (s.writeCq n c).ring.settings = s.ring.settings := by
  have hb := foldl_keeps (fun s : State => s.ring.settings) (fun s (b : Nat × List Byte) => s.store_settings b.1 b.2) c.bulk s
  have hdisp (q : Sq) : (Sq.settle { q with disp := q.disp - 1 }).settings = q.settings := Sq.settle_settings _
  unfold State.writeCq; dsimp only; split <;> simp [hb, State.onSq_settings _ _ hdisp]

@[simp] theorem State.putCq_dev (s : State) (n : Fin 16) (c : Completion) : (s.putCq n c).dev = s.dev := by
  unfold State.putCq; split <;> simp

@[simp] theorem State.putCq_settings (s : State) (n : Fin 16) (c : Completion) : (s.putCq n c).ring.settings = s.ring.settings := by
  unfold State.putCq; split
  · exact s.onCq_settings n fun _ => rfl
  · exact s.writeCq_settings n c

@[simp] theorem State.drainCq_dev (s : State) (n : Fin 16) (cs : List Completion) : (s.drainCq n cs).dev = s.dev := by
  induction cs generalizing s with
  | nil => rfl
  | cons c cs ih => unfold State.drainCq; split <;> simp [ih]

@[simp] theorem State.drainCq_settings (s : State) (n : Fin 16) (cs : List Completion) :
    (s.drainCq n cs).ring.settings = s.ring.settings := by
  induction cs generalizing s with
  | nil => rfl
  | cons c cs ih =>
    unfold State.drainCq; split
    · rfl
    · rw [ih, State.writeCq_settings]; exact s.onCq_settings n fun _ => rfl

@[simp] theorem State.writeOrphans_dev (s : State) (bulk : List (Nat × List Byte)) : (s.writeOrphans bulk).dev = s.dev := by
  unfold State.writeOrphans; split
  · rfl
  · exact foldl_keeps State.dev (fun s b => s.store_dev ..) bulk s

@[simp] theorem State.writeOrphans_settings (s : State) (bulk : List (Nat × List Byte)) :
    (s.writeOrphans bulk).ring.settings = s.ring.settings := by
  unfold State.writeOrphans; split
  · rfl
  · exact foldl_keeps (fun s : State => s.ring.settings) (fun s b => s.store_settings ..) bulk s

@[simp] theorem State.flushChain_settings (s : State) (n : Fin 16) (ms : List RawDesc) :
    (s.flushChain n ms).ring.settings = s.ring.settings := by
  induction ms generalizing s with
  | nil => rfl
  | cons m ms ih =>
    unfold State.flushChain
    split
    · rfl
    · split
      · rfl
      · rw [ih]; exact s.onSq_settings n fun _ => rfl

@[simp] theorem State.memberDone_settings (s : State) (c : Completion) : (s.memberDone c).ring.settings = s.ring.settings := by
  unfold State.memberDone; split
  · rfl
  · rw [State.flushChain_settings]; exact s.onSq_settings _ fun _ => rfl

@[simp] theorem State.completionWrite_settings (s : State) : s.completionWrite.ring.settings = s.ring.settings := by
  unfold State.completionWrite; repeat' split
  all_goals simp

/-! ## Events -/

@[simp] theorem State.drainEq_dev (s : State) (es : List Event) : (s.drainEq es).dev = s.dev := by
  induction es generalizing s with
  | nil => rfl
  | cons e es ih => unfold State.drainEq; split <;> simp [ih]

@[simp] theorem State.drainEq_settings (s : State) (es : List Event) : (s.drainEq es).ring.settings = s.ring.settings := by
  induction es generalizing s with
  | nil => rfl
  | cons e es ih =>
    unfold State.drainEq; split
    · rfl
    · rw [ih, State.record_settings]; rfl

@[simp] theorem State.drainEvents_dev (s : State) : s.drainEvents.dev = s.dev := s.drainEq_dev _

@[simp] theorem State.drainEvents_settings (s : State) : s.drainEvents.ring.settings = s.ring.settings := s.drainEq_settings _

@[simp] theorem State.acceptEvent_dev (s : State) (e : Event) : (s.acceptEvent e).dev = s.dev := by
  unfold State.acceptEvent; split <;> rfl

@[simp] theorem State.acceptEvent_settings (s : State) (e : Event) : (s.acceptEvent e).ring.settings = s.ring.settings := by
  unfold State.acceptEvent; split <;> rfl

@[simp] theorem State.eventWrite_settings (s : State) : s.eventWrite.ring.settings = s.ring.settings := by
  unfold State.eventWrite; dsimp only; split <;> simp

/-! ## The end of host hold -/

@[simp] theorem State.drainAll_dev (s : State) : s.drainAll.dev = s.dev := by
  simp [State.drainAll, foldl_keeps State.dev (fun s n => State.drainCq_dev s n _)]

@[simp] theorem State.drainAll_settings (s : State) : s.drainAll.ring.settings = s.ring.settings := by
  have h := foldl_keeps (fun s : State => s.ring.settings)
    (fun s n => State.drainCq_settings s n s.ring.cqs[n.val].cache) (List.finRange 16)
  simp only [State.drainAll, State.drainEvents_settings, h, State.writeOrphans_settings]
  rfl

@[simp] theorem State.sendWanted_dev (s : State) : s.sendWanted.dev = s.dev := by
  unfold State.sendWanted; split
  · rfl
  · rw [State.sendPending_dev]
    exact foldl_keeps State.dev (fun s i => by split <;> simp) _ s

@[simp] theorem State.sendWanted_settings (s : State) : s.sendWanted.ring.settings = s.ring.settings := by
  unfold State.sendWanted; split
  · rfl
  · rw [State.sendPending_settings]
    exact foldl_keeps (fun s : State => s.ring.settings) (fun s i => by split <;> simp) _ s

/-- Neither the completions nor the events that go to the caches are settings. -/
@[simp] theorem State.settleHold_settings (s : State) : s.settleHold.ring.settings = s.ring.settings := by
  unfold State.settleHold
  rw [foldl_keeps (fun s : State => s.ring.settings) fun s _ => s.eventWrite_settings,
    foldl_keeps (fun s : State => s.ring.settings) fun s _ => s.completionWrite_settings]

end Sys2Proof.Machine
end

section
/-! Cols (02 R50, R51): what an accepted write of an index does, and what a rejected one leaves. -/

namespace Sys2Proof.Machine

/-! ## Errors of the rings -/

/-- An error of HE that starts its handling is recorded, and its event names the ring (17 R482, 02 R63). -/
theorem Dev.ringErrorEv_idle {s : Dev} (sev : Sev) (code : BitVec 11) (ev : BitVec 16) (i : Nat) (hheld : s.held 1 = false)
    (hidle : s.handling hHe = false) :
    (∃ e ∈ (s.ringErrorEv sev code ev i).log.errs, e.source = hHe ∧ e.cls = sev ∧ e.code = code) ∧
      ∃ e, (s.ringErrorEv sev code ev i).raised.getLast? = some e ∧ e.code = ev ∧ e.handle = hRing i := by
  let u := s.draw.2.draw.2
  obtain ⟨hraised, e, herrs, hsrc, -, hcls, hcode⟩ := u.report_idle hHe 1 sev code (Config.openArg s.draw.1) hheld hidle
  have heq : s.ringErrorEv sev code ev i
      = (u.report hHe 1 sev code (Config.openArg s.draw.1)).1.raise ev 1 (hRing i) (Config.openArg s.draw.2.draw.1) := by
    simp only [Dev.ringErrorEv, Dev.reportEv]
    exact if_pos hraised
  rw [heq]
  have hmem : e ∈ (u.report hHe 1 sev code (Config.openArg s.draw.1)).1.log.errs := herrs ▸ List.mem_append_right _ List.mem_cons_self
  exact ⟨⟨e, hmem, hsrc, hcls, hcode⟩, by simp⟩

/-! ## The producer index -/

section
variable {s : State} {n : Fin 16} {v : Word}

/-- A disabled ring counts a col write and keeps its index. -/
theorem State.sqCol_disabled (hr : s.reach) (hp : s.ring.sqs[n.val].phase = .disabled) :
    s.sqCol n v = (s.touched.onSq n fun q => { q with col := v }).onSq n fun q => { q with rejects := q.rejects + 1 } := by
  simp [State.sqCol, hr, hp]

/-- An index that would overfill the ring puts the SQ in ERROR. -/
theorem State.sqCol_breach (hr : s.reach) (hp : s.ring.sqs[n.val].phase = .active)
    (hf : ringSize s.ring.sqs[n.val].log2 < ringFill (v.setWidth 16) s.ring.sqs[n.val].cons) :
    s.sqCol n v = ((s.touched.onSq n fun q => { q with col := v }).onSq n fun q => { q with phase := .error }).onDev fun w =>
      w.ringErrorEv .fault LG_RING_PROD EV_RING_ERROR n.val := by
  simp [State.sqCol, hr, hp, hf]

/-- An index within the ring is the new producer index. -/
theorem State.sqCol_accepted (hr : s.reach) (hp : s.ring.sqs[n.val].phase = .active ∨ s.ring.sqs[n.val].phase = .error)
    (hf : ringFill (v.setWidth 16) s.ring.sqs[n.val].cons ≤ ringSize s.ring.sqs[n.val].log2) :
    s.sqCol n v = ((s.touched.onSq n fun q => { q with col := v }).onSq n fun q => { q with prod := v.setWidth 16 }).onDev fun w =>
      (w.hostActive true).cancelAutorun := by
  have hnot : ¬ (s.ring.sqs[n.val].phase = .disabled ∨ s.ring.sqs[n.val].phase = .draining) := by rcases hp with h | h <;> simp [h]
  simp [State.sqCol, hr, hnot, Nat.not_lt.2 hf]

end

/-! ## The consumer indices -/

section
variable {s : State} {i : IrqRing} {v : Word}

@[simp] theorem State.colTimer_settings (s : State) (i : IrqRing) : (s.colTimer i).ring.settings = s.ring.settings := by
  unfold State.colTimer; dsimp only; repeat' split
  · rfl
  · exact s.request_settings i
  · exact s.onIrqRing_settings i fun _ => rfl

/-- An index within the fill of an enabled ring is the new consumer index. -/
theorem State.consCol_accepted (hr : s.reach) (hen : (s.ring.ringOf i).en)
    (hf : ringFill (v.setWidth 16) (s.ring.ringOf i).cons ≤ ringFill (s.ring.ringOf i).prod (s.ring.ringOf i).cons) :
    (s.consCol i v).2 ∧ ((s.consCol i v).1.ring.ringOf i).cons = v.setWidth 16 := by
  let w := s.touched.onIrqRing i fun r => { r with col := v }
  have heq : s.consCol i v =
      (((w.onIrqRing i fun r => { r with cons := v.setWidth 16 }).onDev fun d => d.hostActive true).colTimer i, true) := by
    simp [State.consCol, hr, hen, Ring.fill, Nat.not_lt.2 hf, w]
  rw [heq]
  exact ⟨rfl, (Rings.cons_congr (State.colTimer_settings ..) i).trans (by simp)⟩

/-- An index beyond the producer's is rejected, with an error of HE. -/
theorem State.consCol_breach (hr : s.reach) (hen : (s.ring.ringOf i).en)
    (hf : ringFill (s.ring.ringOf i).prod (s.ring.ringOf i).cons < ringFill (v.setWidth 16) (s.ring.ringOf i).cons) :
    s.consCol i v = ((s.touched.onIrqRing i fun r => { r with col := v }).onDev fun d => d.ringError .warn LG_RING_CONS, false) := by
  simp [State.consCol, hr, hen, Ring.fill, hf]

end

/-- Settles O6, one case of the col's checks at a time (02 R51). -/
theorem colWritesAndRejects : Obligations.ColWritesAndRejects := by
  unfold Obligations.ColWritesAndRejects
  refine ⟨⟨?producer, ?cq, ?eq, ?lq⟩, ?disabled, ?breach, ?beyond⟩
  case producer =>
    intro n v s hr hp hf
    refine ⟨_, congrArg Host.Outcome.next (State.sqCol_accepted hr hp hf), ?_⟩
    simp
  case cq =>
    intro n v s hr hen hf
    obtain ⟨hok, hcons⟩ := State.consCol_accepted (i := .cq n) hr hen hf
    refine ⟨_, rfl, ?_⟩
    show ((s.cqCol n v).ring.ringOf (.cq n)).cons = _
    rw [← hcons]
    refine Rings.cons_congr ?_ _
    simp only [State.cqCol, hok]
    simp only [Bool.not_true, Bool.false_eq_true, if_false, State.drainCq_settings]
    split
    · rfl
    · exact State.onCq_settings _ n fun _ => rfl
  case eq =>
    intro v s hr hen hf
    obtain ⟨hok, hcons⟩ := State.consCol_accepted (i := .eq) hr hen hf
    refine ⟨_, rfl, ?_⟩
    show ((s.eqCol v).ring.ringOf .eq).cons = _
    rw [← hcons, State.eqCol, if_pos hok]
    exact Rings.cons_congr (State.drainEvents_settings _) .eq
  case lq =>
    intro v s hr hen hf
    obtain ⟨hok, hcons⟩ := State.consCol_accepted (i := .lq) hr hen hf
    refine ⟨_, rfl, ?_⟩
    rw [← hcons]
    simp [State.lqCol, hok, Rings.ringOf]
  case disabled =>
    intro n v s hr hp
    refine ⟨_, congrArg Host.Outcome.next (State.sqCol_disabled hr hp), ?_⟩
    simp
  case breach =>
    intro n v s hr hp hheld hidle hf
    refine ⟨_, congrArg Host.Outcome.next (State.sqCol_breach hr hp hf), ?_⟩
    have := Dev.ringErrorEv_idle (s := s.dev) .fault LG_RING_PROD EV_RING_ERROR n.val hheld hidle
    simpa using this
  case beyond =>
    intro n v s hr hen hf
    refine ⟨_, rfl, ?_⟩
    rw [State.cqCol, State.consCol_breach (i := .cq n) hr hen hf]
    have hring := State.onIrqRing_ringOf s.touched (.cq n) fun r => { r with col := v }
    exact ⟨(congrArg Ring.cons hring).trans (by simp [Rings.ringOf]), by simp⟩

end Sys2Proof.Machine
end

section
/-! The memories stay canonical and the EQ cache within 256 records (02 R64): bytes reach the memories through one write, which keeps the
canonical form, and events reach the cache in one place, which counts them. Every operation keeps both, in the order in which the model
builds its operations. -/

open Sys2Proof Sys2Proof.Machine

namespace MemAndCache

variable {s t : State}

/-! ## What the invariant reads -/

/-- The invariant reads nothing but the memories and the EQ cache. -/
theorem congr (h : MemAndCache s) (hm : t.mem = s.mem) (hc : t.ring.eqCache = s.ring.eqCache) : MemAndCache t := by
  unfold MemAndCache; rw [hm, hc]; exact h

theorem onDev (h : MemAndCache s) (f : Dev → Dev) : MemAndCache (s.onDev f) := h
theorem desc (h : MemAndCache s) (i : OpInfo) (d : Desc) (body : Obj → Dev → Dev × Res) : MemAndCache (s.desc i d body) := h
theorem onSq (h : MemAndCache s) (n : Fin 16) (f : Sq → Sq) : MemAndCache (s.onSq n f) := h
theorem onCq (h : MemAndCache s) (n : Fin 16) (f : Cq → Cq) : MemAndCache (s.onCq n f) := h
theorem touched (h : MemAndCache s) : MemAndCache s.touched := h.congr s.touched_mem (by rw [s.touched_eq, State.onRing_ring])

/-- A change of the attachment that leaves the EQ cache alone. -/
theorem onRing (h : MemAndCache s) (f : Rings → Rings) (hf : ∀ r, (f r).eqCache = r.eqCache := by intro _; rfl) :
    MemAndCache (s.onRing f) :=
  h.congr rfl (hf s.ring)

/-- A change of the attachment that empties the EQ cache. -/
theorem clearCache (h : MemAndCache s) (f : Rings → Rings) (hf : ∀ r, (f r).eqCache = []) : MemAndCache (s.onRing f) :=
  ⟨h.1, by rw [State.onRing_ring, hf]; exact Nat.zero_le _⟩

theorem onIrqRing (h : MemAndCache s) (i : IrqRing) (f : Ring → Ring) : MemAndCache (s.onIrqRing i f) :=
  h.onRing _ fun r => by cases i <;> rfl

/-- One of two states that keep it. -/
theorem ite {c : Prop} [Decidable c] (hs : MemAndCache s) (ht : MemAndCache t) : MemAndCache (if c then s else t) := by
  split <;> assumption

/-- What each step of a fold keeps, the fold keeps. -/
theorem foldl {α : Type} {f : State → α → State} (hf : ∀ s a, MemAndCache s → MemAndCache (f s a)) (l : List α)
    (h : MemAndCache s) :
    MemAndCache (l.foldl f s) := by
  induction l generalizing s with
  | nil => exact h
  | cons a l ih => exact ih (hf s a h)

/-! ## Bytes, messages and vectors -/

/-- Bytes written to one of the memories keep its canonical form. -/
theorem store (h : MemAndCache s) (a : Nat) (bs : List Byte) : MemAndCache (s.store a bs) := by
  obtain ⟨⟨hhost, hwin⟩, hcache⟩ := h
  unfold State.store
  split
  · split
    · exact ⟨⟨hhost, memWriteBytes_wf a bs hwin⟩, hcache⟩
    · exact ⟨⟨hhost, hwin⟩, hcache⟩
  · exact ⟨⟨memWriteBytes_wf a bs hhost, hwin⟩, hcache⟩

theorem message (h : MemAndCache s) (v : Fin 32) : MemAndCache (s.message v) := h.store _ _

theorem sendPending (h : MemAndCache s) : MemAndCache s.sendPending :=
  h.foldl (fun _ v h => ite ((h.onRing _).message v) h) _

theorem fire (h : MemAndCache s) (v : Fin 32) : MemAndCache (s.fire v) :=
  have h := h.onRing _
  ite (h.onRing _) (ite (h.message v) (h.onRing _))

theorem request (h : MemAndCache s) (i : IrqRing) : MemAndCache (s.request i) := ite h (ite (h.onIrqRing i _) (h.fire _))

/-! ## Records -/

theorem counted (h : MemAndCache s) (i : IrqRing) (notify : Bool) : MemAndCache (s.counted i notify) :=
  have h := h.onIrqRing i _
  ite (h.request i) h

theorem record (h : MemAndCache s) (i : IrqRing) (bytes : Bool → List Byte) (notify : Bool) : MemAndCache (s.record i bytes notify) :=
  (h.store _ _).counted i notify

theorem stores (h : MemAndCache s) (bulk : List (Nat × List Byte)) : MemAndCache (bulk.foldl (fun s b => s.store b.1 b.2) s) :=
  h.foldl (fun _ b h => h.store b.1 b.2) bulk

theorem writeCq (h : MemAndCache s) (n : Fin 16) (c : Completion) : MemAndCache (s.writeCq n c) :=
  have h := (h.stores c.bulk).record (.cq n) c.bytes c.notify
  ite h (h.onSq _ _)

theorem putCq (h : MemAndCache s) (n : Fin 16) (c : Completion) : MemAndCache (s.putCq n c) := ite (h.onCq n _) (h.writeCq n c)

theorem drainCq (h : MemAndCache s) (n : Fin 16) (cs : List Completion) : MemAndCache (s.drainCq n cs) := by
  induction cs generalizing s with
  | nil => exact h
  | cons c cs ih => exact ite h (ih ((h.onCq n _).writeCq n c))

theorem writeOrphans (h : MemAndCache s) (bulk : List (Nat × List Byte)) : MemAndCache (s.writeOrphans bulk) :=
  ite (h.onRing _) (h.stores bulk)

theorem flushChain (h : MemAndCache s) (n : Fin 16) (ms : List RawDesc) : MemAndCache (s.flushChain n ms) := by
  induction ms generalizing s with
  | nil => exact h
  | cons m ms ih =>
    unfold State.flushChain
    split
    · exact h
    · exact ite h (ih ((h.onSq n _).onDev _))

theorem memberDone (h : MemAndCache s) (c : Completion) : MemAndCache (s.memberDone c) := ite h ((h.onSq _ _).flushChain _ _)

theorem completionWrite (h : MemAndCache s) : MemAndCache s.completionWrite := by
  unfold State.completionWrite
  split
  · exact h
  · exact ite ((h.onDev _).writeOrphans _) (((h.onDev _).putCq _ _).memberDone _)

theorem stall (h : MemAndCache s) (n : Fin 16) : MemAndCache (s.stall n) := ite h ((h.onCq n _).onDev _)

/-! ## Events -/

/-- What is left of the cache is no longer than what was there. -/
theorem drainEq (h : MemAndCache s) (es : List Event) (hes : es.length ≤ 256) : MemAndCache (s.drainEq es) := by
  induction es generalizing s with
  | nil => exact h
  | cons e es ih =>
    have hlen : es.length ≤ 256 := by rw [List.length_cons] at hes; omega
    have hrest : MemAndCache (s.onRing fun r => { r with eqCache := es }) := ⟨h.1, hlen⟩
    exact ite h (ih (hrest.record .eq e.bytes false) hlen)

theorem drainEvents (h : MemAndCache s) : MemAndCache s.drainEvents := h.drainEq _ h.2

/-- A full cache drops the event; any other has room for it. -/
theorem acceptEvent (h : MemAndCache s) (e : Event) : MemAndCache (s.acceptEvent e) := by
  unfold State.acceptEvent
  split
  · exact h.onRing _
  · next hroom => exact ⟨h.1, by simp; omega⟩

theorem eventWrite (h : MemAndCache s) : MemAndCache s.eventWrite := by
  have h := h.drainEvents
  unfold State.eventWrite
  dsimp only
  split
  · exact h
  · exact ((h.onDev _).acceptEvent _).drainEvents

/-! ## The log's mirror -/

theorem mirror (h : MemAndCache s) (q : List (Nat × Bool)) : MemAndCache (s.mirror q) := by
  induction q generalizing s with
  | nil => exact h
  | cons x q ih =>
    have h := h.onDev fun v => v.onLog fun g => { g with mirrorQ := q }
    unfold State.mirror
    dsimp only
    split
    · exact (h.onRing _).record .lq _ _
    · exact ih (ite h (h.onRing _))

theorem lqMirror (h : MemAndCache s) : MemAndCache s.lqMirror := ite (h.mirror _) h

theorem lqRestart (h : MemAndCache s) : MemAndCache s.lqRestart := (h.onRing _).onDev _

/-! ## Cols -/

theorem sqCol (h : MemAndCache s) (n : Fin 16) (v : Word) : MemAndCache (s.sqCol n v) :=
  have h := h.touched.onSq n _
  ite ‹_› (ite (h.onSq n _) (ite (h.onSq n _) ((h.onSq n _).onDev _)))

theorem colTimer (h : MemAndCache s) (i : IrqRing) : MemAndCache (s.colTimer i) := ite h (ite (h.request i) (h.onIrqRing i _))

theorem consCol (h : MemAndCache s) (i : IrqRing) (v : Word) : MemAndCache (s.consCol i v).1 := by
  have ht := h.touched.onIrqRing i fun r => { r with col := v }
  unfold State.consCol
  dsimp only
  split
  · exact h
  · split
    · exact ht.onIrqRing i _
    · split
      · exact ht.onDev _
      · exact ((ht.onIrqRing i _).onDev _).colTimer i

theorem cqCol (h : MemAndCache s) (n : Fin 16) (v : Word) : MemAndCache (s.cqCol n v) :=
  have h := h.consCol (.cq n) v
  ite h ((ite h (h.onCq n _)).drainCq n _)

theorem eqCol (h : MemAndCache s) (v : Word) : MemAndCache (s.eqCol v) :=
  have h := h.consCol .eq v
  ite h.drainEvents h

theorem lqCol (h : MemAndCache s) (v : Word) : MemAndCache (s.lqCol v) :=
  have h := h.consCol .lq v
  ite h ((h.onRing _).onDev _)

/-! ## Enables -/

theorem sqStop (h : MemAndCache s) (n : Fin 16) : MemAndCache (s.sqStop n) := (h.onSq n _).foldl (fun _ _ h => h.onDev _) _

theorem sqCfg (h : MemAndCache s) (n : Fin 16) (v : Word) : MemAndCache (s.sqCfg n v) :=
  have hn := h.onSq n _
  ite h (ite (ite hn (ite (hn.onSq n _) (hn.onSq n _))) (ite (hn.sqStop n) hn))

theorem ringCfg (h : MemAndCache s) (i : IrqRing) (v : Word) : MemAndCache (s.ringCfg i v) := by
  have hi := h.onIrqRing i fun r => r.cfg v s.ring.hold
  unfold State.ringCfg
  dsimp only
  refine ite h (ite (ite hi (ite (hi.onDev _) ?_)) (ite hi ?_))
  · have hi := hi.onIrqRing i Ring.start
    cases i with
    | cq n => exact hi.onCq n _
    | eq => exact hi.drainEvents
    | lq => exact hi.lqRestart
  · cases i with
    | cq n => exact hi.onCq n _
    | eq => exact hi.clearCache _ fun _ => rfl
    | lq => exact hi.onRing _

theorem hostWrite (h : MemAndCache s) {f : State → State} (hf : ∀ s, MemAndCache s → MemAndCache (f s)) :
    MemAndCache (s.hostWrite f) :=
  ite (hf _ h.touched) h

/-! ## Host hold and resync -/

theorem enterHold (h : MemAndCache s) : MemAndCache s.enterHold := h.onRing _ fun r => by split <;> rfl

theorem abandon (h : MemAndCache s) (sending : Bool) : MemAndCache (s.abandon sending) :=
  (h.onRing _).onDev _

theorem linkReset (h : MemAndCache s) (down : Bool) : MemAndCache (s.linkReset down) := by
  have hc := h.onRing Rings.configReset
  exact ite h (((ite (hc.onRing _) hc).enterHold.abandon _).onDev _)

theorem d3hot (h : MemAndCache s) : MemAndCache s.d3hot := ite h (h.onRing _).enterHold

theorem ringReset (h : MemAndCache s) : MemAndCache s.ringReset := ⟨h.1, Nat.zero_le _⟩

theorem settleHold (h : MemAndCache s) : MemAndCache s.settleHold :=
  (h.foldl (fun _ _ h => h.completionWrite) _).foldl (fun _ _ h => h.eventWrite) _

theorem flushRings (h : MemAndCache s) : MemAndCache s.flushRings :=
  (((h.onDev _).foldl (fun _ _ h => h.foldl (fun _ _ h => h.onDev _) _) _).clearCache _ fun _ => rfl).lqRestart

theorem drainAll (h : MemAndCache s) : MemAndCache s.drainAll :=
  (((h.onRing _).writeOrphans _).foldl (fun _ n h => h.drainCq n _) _).drainEvents

theorem sendWanted (h : MemAndCache s) : MemAndCache s.sendWanted :=
  ite h (h.foldl (fun _ _ h => ite (h.fire _) h) _).sendPending

theorem resyncGo (h : MemAndCache s) (d : RawDesc) : MemAndCache (s.resyncGo d) := by
  unfold State.resyncGo
  dsimp only
  exact (((((ite h.flushRings h).onRing _).drainAll).putCq _ _).sendWanted).onDev _

theorem resync (h : MemAndCache s) (d : RawDesc) : MemAndCache (s.resync d) := by
  have hs := (h.touched.onRing fun r => { r with slot := d }).onDev fun v => v.hostActive false
  unfold State.resync
  dsimp only
  refine ite h (ite (hs.onDev _) (ite (resyncGo (hs.settleHold.onRing _) d) ((hs.settleHold.onRing _).onDev _)))

/-! ## Reads -/

theorem fetch (h : MemAndCache s) (n : Fin 16) : MemAndCache (s.fetch n) := ite h ((h.onSq n _).onRing _)

theorem takeIn (h : MemAndCache s) (n : Fin 16) (ds : List RawDesc) : MemAndCache (s.takeIn n ds) := by
  induction ds generalizing s with
  | nil => exact h
  | cons d ds ih => exact ite h (ih (h.onSq n _))

theorem aerReport (h : MemAndCache s) (e : Option DmaEnd) : MemAndCache (s.aerReport e) := by
  obtain ⟨a, k, heq, -⟩ := s.aerReport_shape e
  rw [heq]
  exact h

theorem fetchFailed (h : MemAndCache s) (n : Fin 16) (e : Option DmaEnd) : MemAndCache (s.fetchFailed n e) :=
  have h := (h.aerReport e).onSq n _
  ite (h.onSq n _) ((h.onSq n _).onDev _)

theorem fetched (h : MemAndCache s) (n : Fin 16) (e : DmaEnd) (data : List RawDesc) : MemAndCache (s.fetched n e data) := by
  unfold State.fetched
  dsimp only
  split
  · exact h
  · exact ite (ite h ((h.onSq n _).takeIn n _)) (h.fetchFailed n _)

theorem bulkRead (h : MemAndCache s) (e : DmaEnd) (bytes : List Byte) : MemAndCache (s.bulkRead e bytes) := by
  unfold State.bulkRead
  split
  · exact h
  · exact ite (h.onDev _) (ite ((h.aerReport _).onDev _) (ite h (h.onDev _)))

theorem readTimeout (h : MemAndCache s) (n : Option (Fin 16)) : MemAndCache (s.readTimeout n) := by
  refine ite h ?_
  cases n with
  | some n => exact ite (h.fetchFailed n none) h
  | none => exact ite h ((h.aerReport none).onDev _)

/-! ## Dispatch -/

theorem dispatchSq (h : MemAndCache s) (n : Fin 16) : MemAndCache (s.dispatchSq n) := by
  unfold State.dispatchSq
  dsimp only
  split
  · exact ite (h.flushChain n _) ((h.onSq n _).onDev _)
  · split
    · exact h
    · refine ite ((h.onSq n _).onDev _) ?_
      split
      · exact h
      · exact ite ((h.onSq n _).flushChain n _) ((h.onSq n _).onDev _)

theorem dispatch (h : MemAndCache s) : MemAndCache s.dispatch := by
  refine ite h ?_
  split
  · exact h
  · exact (h.onRing _).dispatchSq _

/-! ## The endpoint -/

theorem command (h : MemAndCache s) (memSpace busMaster : Bool) : MemAndCache (s.command memSpace busMaster) := by
  have h := h.onRing (fun r => { r with cfg := { r.cfg with memSpace, busMaster } })
  exact ite h.drainAll.sendWanted h

theorem configWrite (h : MemAndCache s) (w : CfgWrite) : MemAndCache (s.configWrite w) := by
  have ht := h.touched
  refine ite h (ite ht ?_)
  cases w
  case command m b => exact ht.command m b
  case msixFunctionMask m => exact (ht.onRing _).sendPending
  case msixEnable m => exact (ht.onRing _).sendPending
  case powerStateD3hot => exact ht.d3hot
  all_goals exact ht.onRing _

/-! ## Resets, sleep and wakes -/

/-- A device reset empties the cache; it loses the ring window with its memory's power, and never the host's memory. -/
theorem deviceReset (h : MemAndCache s) (c : Cause) : MemAndCache (s.deviceReset c) := by
  obtain ⟨⟨hhost, hwin⟩, -⟩ := h
  refine ⟨⟨hhost, ?_⟩, Nat.zero_le _⟩
  show Memory.wf (if _ then _ else _)
  split
  · exact hwin
  · simp [Memory.wf]

theorem phyOff (h : MemAndCache s) : MemAndCache s.phyOff := by
  have h := h.onRing (fun r => { r with sqs := r.sqs.map fun q => { q with reading := none, retryWait := false } })
  exact ite h (h.onRing _)

theorem hibernateDone (h : MemAndCache s) (d : Desc) : MemAndCache (s.hibernateDone d) := by
  have h := h.onDev fun v => { v with waits := v.waits.filter fun x => !(x.op == 0xD0 && x.d == d) }
  exact ite h (((h.onRing _).writeCq _ _).onRing _)

theorem sleepCommit (h : MemAndCache s) : MemAndCache s.sleepCommit := by
  unfold State.sleepCommit
  dsimp only
  split
  · next d _ =>
    have hs := h.onDev Dev.sleepStop
    exact ite h (ite ((hs.onDev _).onDev _).phyOff ((((hs.onDev _).hibernateDone d).onDev _).onDev _).phyOff)
  · exact h

theorem pwrState (h : MemAndCache s) (d : Desc) : MemAndCache (s.pwrState d) := by
  have ht := h.desc opPwrState d (doPwrState d)
  exact ite (ht.enterHold.onDev _) ht

theorem wake (h : MemAndCache s) (code : Nat) : MemAndCache (s.wake code) := by
  have h : MemAndCache { s with dev := (s.dev.wakeBy code).1 } := h
  exact ite ((h.deviceReset .hibernate).onDev _) h

theorem alarmFire (h : MemAndCache s) (second : Bool) : MemAndCache (s.alarmFire second) :=
  ite h (((h.onDev _).onDev _).wake _)

theorem periodicWake (h : MemAndCache s) : MemAndCache s.periodicWake := ite h (((h.onDev _).onDev _).wake _)

theorem stagedCommit (h : MemAndCache s) : MemAndCache s.stagedCommit :=
  have hc := h.onDev fun v => v.onHollow Hollow.commit
  ite h ((ite ((hc.alarmFire false).alarmFire true) hc).onDev _)

theorem vmainFail (h : MemAndCache s) : MemAndCache s.vmainFail := ite h ((h.onDev _).deviceReset _)

theorem vmainQualified (h : MemAndCache s) : MemAndCache s.vmainQualified := ite h ((h.onDev _).deviceReset _)

theorem heartbeat (h : MemAndCache s) (e : Fin 12) : MemAndCache (s.heartbeat e) :=
  have hd := h.onDev _
  ite h ((ite hd.ringReset hd).onDev _)

/-! ## Registers -/

theorem readTime (h : MemAndCache s) (i : Fin 4) : MemAndCache (s.readTime i) := h

theorem readReg (h : MemAndCache s) (off : Nat) : MemAndCache (s.readReg off).2 := by
  unfold State.readReg
  repeat' split
  all_goals exact h

theorem readWide (h : MemAndCache s) (off width : Nat) : MemAndCache (s.readWide off width).2 := by
  unfold State.readWide
  split
  · exact (h.readReg _).readReg _
  · exact h.readReg _

theorem rwl (h : MemAndCache s) {f : State → State} (hf : MemAndCache (f s)) : MemAndCache (s.rwl f) := ite (h.onDev _) hf

theorem writeFrst (h : MemAndCache s) (k : Fin 3) (v : Word) : MemAndCache (s.writeFrst k v) :=
  have hd := h.onDev _
  ite (h.deviceReset _) (ite hd.ringReset hd)

theorem writeSys (h : MemAndCache s) (off : Nat) (v : Word) : MemAndCache (s.writeSys off v) := by
  unfold State.writeSys
  dsimp only
  split
  case h_12 | h_13 | h_14 => exact h.rwl h
  all_goals exact h

theorem writeRing (h : MemAndCache s) (i : IrqRing) (k : Nat) (v : Word) : MemAndCache (s.writeRing i k v) := by
  unfold State.writeRing
  split
  · exact h.onIrqRing i _
  · exact h.onIrqRing i _
  · exact h.ringCfg i v
  · exact h.onIrqRing i _
  · exact h.onIrqRing i _
  · exact h

theorem writeSq (h : MemAndCache s) (n : Fin 16) (k : Nat) (v : Word) : MemAndCache (s.writeSq n k v) := by
  unfold State.writeSq
  dsimp only
  split
  · exact h.onSq n _
  · exact h.onSq n _
  · exact h.sqCfg n v
  · exact h.onSq n _

theorem writeCtl (h : MemAndCache s) (v : Word) : MemAndCache (s.writeCtl v) := by
  have h := h.onRing (fun r => { r with linkLost := r.linkLost && !v.getLsbD 1 })
  exact ite h.enterHold h

theorem writeRings (h : MemAndCache s) (off : Nat) (v : Word) : MemAndCache (s.writeRings off v) :=
  ite (h.writeSq _ _ v) <| ite (h.writeRing _ _ v) <| ite (h.writeRing .eq _ v) <| ite (h.writeRing .lq _ v) <|
    ite (h.writeCtl v) <| ite (h.onRing _) <| ite (h.onRing _) h

theorem writeControl (h : MemAndCache s) (off : Nat) (v : Word) : MemAndCache (s.writeControl off v) :=
  ite (h.onDev _) <| ite (h.rwl (h.onDev _)) <| ite (h.rwl (h.onDev _)) <| ite (h.writeFrst _ v) <| ite (h.onDev _) <| ite (h.onDev _) <|
    ite (h.onDev _) <| ite (h.onDev _) <| ite (h.onDev _) <| ite (h.onDev _) <| ite (h.onDev _) <| ite (h.onDev _) <| ite (h.onDev _) h

theorem writePorts (h : MemAndCache s) (off : Nat) (v : Word) : MemAndCache (s.writePorts off v) :=
  ite (h.onDev _) <| ite (h.onDev _) <| ite (h.onDev _) <| ite (h.onDev _) <| ite (h.onDev _) h

theorem writeMsix (h : MemAndCache s) (off : Nat) (v : Word) : MemAndCache (s.writeMsix off v) :=
  ite h (h.onRing _).sendPending

theorem writeReg (h : MemAndCache s) (off : Nat) (v : Word) : MemAndCache (s.writeReg off v) :=
  ite (h.writeSys off v) <| ite (h.writeRings off v) <| ite (h.writeControl off v) <| ite (h.writePorts off v) <| ite (h.writeMsix off v) h

theorem writeWide (h : MemAndCache s) (off width : Nat) (v : DWord) : MemAndCache (s.writeWide off width v) :=
  ite ((h.writeReg _ _).writeReg _ _) (ite (h.writeReg _ _) h)

/-! ## Quad-SPI -/

theorem writeCol (h : MemAndCache s) (off : Nat) (v : Word) : MemAndCache (s.writeCol off v) :=
  ite (h.sqCol _ v) <| ite (h.cqCol _ v) <| ite (h.eqCol v) <| ite (h.lqCol v) <| ite (h.resync _) <|
    ite ((h.onRing _).onDev _) h

theorem qReadWord (h : MemAndCache s) (a : Nat) : MemAndCache (s.qReadWord a).2 := by
  unfold State.qReadWord
  split
  · exact h.readReg a
  all_goals exact h

theorem qReadWords (h : MemAndCache s) (a : Nat) (acc : List Byte) (k : Nat) : MemAndCache (s.qReadWords a acc k).2 := by
  induction k generalizing s a acc with
  | zero => exact h
  | succ k ih => exact ih (h.qReadWord a) _ _

/-- A word written to the ring window keeps its canonical form. -/
theorem qWriteWord (h : MemAndCache s) (a : Nat) (v : Word) : MemAndCache (s.qWriteWord a v) := by
  unfold State.qWriteWord
  split
  · exact h.writeReg a v
  · exact h.writeCol _ v
  · obtain ⟨⟨hhost, hwin⟩, hcache⟩ := h
    exact ⟨⟨hhost, memWriteBytes_wf a _ hwin⟩, hcache⟩
  · exact h

theorem qWriteWords (h : MemAndCache s) (a : Nat) (bs : List Byte) (k : Nat) : MemAndCache (s.qWriteWords a bs k) := by
  induction k generalizing s a bs with
  | zero => exact h
  | succ k ih => exact ih (h.qWriteWord a _) _ _

theorem answer (h : MemAndCache s) (bs : List Byte) : MemAndCache (s.answer bs) := h.onRing _

theorem qErr (h : MemAndCache s) (bad : Bool) : MemAndCache (s.qErr bad) := h.onRing _

theorem qRead (h : MemAndCache s) (a n : Nat) : MemAndCache (s.qRead a n) :=
  ite h <| ite ((h.answer _).wake 9) <| ite ((h.answer _).qErr true) <| ite ((h.answer _).qErr true) ((h.qReadWords a [] _).answer _)

theorem qWrite (h : MemAndCache s) (a : Nat) (bs : List Byte) : MemAndCache (s.qWrite a bs) :=
  ite h <| ite (h.wake 9) <| ite (h.qErr true) ((h.qWriteWords a bs _).qErr _)

/-! ## Steps -/

/-- The next state that an outcome names. -/
theorem next (h : MemAndCache s) : (Host.Outcome.next s : Host.Outcome State Fault Refusal) = .next t → MemAndCache t := by
  rintro ⟨⟩; exact h

/-- Every command keeps the invariant: those that reach the attachment or the memories by what they do there, and all others because they
act on the device alone. -/
theorem of_exec (h : MemAndCache s) (c : Instr) : exec c s = .next t → MemAndCache t := by
  cases c
  case sysRingResync raw => exact (h.resync raw).next
  case sqProducerCol n v => exact (h.sqCol n v).next
  case cqConsumerCol n v => exact (h.cqCol n v).next
  case eqConsumerCol v => exact (h.eqCol v).next
  case lqConsumerCol v => exact (h.lqCol v).next
  case descriptorFetch n => exact (h.fetch n).next
  case fetchCompletion n e data => exact (h.fetched n e data).next
  case fetchRetryTimer n => exact (ite ((h.onSq n _).fetch n) h).next
  case descriptorDispatch => exact h.dispatch.next
  case completionWrite => exact h.completionWrite.next
  case eventWrite => exact h.eventWrite.next
  case lqMirror => exact h.lqMirror.next
  case modTimeExpiry i => exact (ite ((h.onIrqRing i _).request i) h).next
  case ringStall n => exact (h.stall n).next
  case sqEnable n v => exact (h.hostWrite fun _ h => h.sqCfg n _).next
  case sqDisable n v => exact (h.hostWrite fun _ h => h.sqCfg n _).next
  case cqEnable n v => exact (h.hostWrite fun _ h => h.ringCfg (.cq n) _).next
  case cqDisable n v => exact (h.hostWrite fun _ h => h.ringCfg (.cq n) _).next
  case eqEnable v => exact (h.hostWrite fun _ h => h.ringCfg .eq _).next
  case eqDisable v => exact (h.hostWrite fun _ h => h.ringCfg .eq _).next
  case lqEnable v => exact (h.hostWrite fun _ h => h.ringCfg .lq _).next
  case lqDisable v => exact (h.hostWrite fun _ h => h.ringCfg .lq _).next
  case ringCtlHold => exact (h.hostWrite fun _ h => h.enterHold).next
  case dlDown => exact (h.linkReset true).next
  case hotReset => exact (h.linkReset false).next
  case d3hotEntry => exact h.d3hot.next
  case read a n | fastRead a n | quadRead a n => exact (h.qRead _ n).next
  case write a bs | quadWrite a bs => exact (h.qWrite _ bs).next
  case bbMbReq d => exact ((h.desc _ d _).onDev _).next
  case readStatus => exact (ite h (ite ((h.answer _).wake 9) ((h.answer _).onRing _))).next
  case registerWrite off width v => exact (h.hostWrite fun _ h => h.writeWide _ _ v).next
  case setupLock => exact (h.hostWrite fun _ h => h.writeReg _ _).next
  case fenWrite k v => exact (h.hostWrite fun _ h => h.onDev _).next
  case frstWrite k v => exact (h.hostWrite fun _ h => h.writeFrst k v).next
  case devrst => exact (h.hostWrite fun _ h => h.deviceReset _).next
  case tbAngleRead => exact (h.hostWrite fun _ h => (h.readWide _ _).onRing _).next
  case hollowCntLoRead | hollowCntHiRead | hollowCal0Read | hollowCal1Read => exact (h.readTime _).next
  case panelQueueForward => exact (ite (h.onDev _) h).next
  case stagedCommit => exact h.stagedCommit.next
  case alarmFire a => exact (h.alarmFire _).next
  case periodicWake => exact h.periodicWake.next
  case vmainFail => exact h.vmainFail.next
  case vmainQualified => exact h.vmainQualified.next
  case pwrState d => exact (h.pwrState d).next
  case sleepCommit => exact h.sleepCommit.next
  case wakePinEdge w => exact (h.wake _).next
  case keyWake => exact (ite (h.wake 5) h).next
  case hostWake => exact (h.wake 9).next
  case valeWake p => exact (h.wake _).next
  case heartbeatTimeout e => exact (h.heartbeat e).next
  case svWatchdogReset => exact (ite (h.deviceReset _) h).next
  case porst hostSel => exact ((h.onDev _).deviceReset _).next
  case vcoreBrownOut => exact (h.deviceReset _).next
  case pcieCompletionTimeout n => exact (h.readTimeout n).next
  case bulkReadCompletion e bytes => exact (h.bulkRead e bytes).next
  case msixVectorUnmask v => exact (ite h (h.hostWrite fun _ h => (h.onRing _).sendPending)).next
  case pcieConfigWrite w => exact (h.configWrite w).next
  case aspmL1Request => exact (ite (h.onRing _) h).next
  all_goals exact (h.onDev _).next

end MemAndCache

/-- Settles O4: a step is the command in front, or one TCLK, which passes in the device alone. -/
theorem stepKeepsMemoryAndCache : Obligations.StepKeepsMemoryAndCache := by
  unfold Obligations.StepKeepsMemoryAndCache
  intro s t h
  unfold step
  split
  · exact (h.onDev Dev.pass).next
  · next c rest _ =>
    have h : MemAndCache { s with pending := rest } := h
    exact h.of_exec c

end

section
/-! Descriptors on their way in (02 R38, R47, R58, R75): what a read asks for, how it ends, and what a failed read leaves. -/

namespace Sys2Proof.Machine

/-! ## Unreserved entries -/

/-- A change of one SQ that leaves its CQ and its phase, and that reserves no more entries than before, takes none from any CQ (02 R63). -/
theorem State.unreserved_onSq (s : State) (n : Fin 16) {f : Sq → Sq} (c : Fin 16) (hcq : ∀ q, (f q).cq = q.cq)
    (hphase : ∀ q, (f q).phase = q.phase) (hres : (f s.ring.sqs[n.val]).reserved ≤ s.ring.sqs[n.val].reserved) :
    s.ring.unreserved c ≤ (s.onSq n f).ring.unreserved c := by
  let g (x : Sq) : Nat := if x.cq == c && x.phase != .disabled then x.reserved else 0
  have hg : g (f s.ring.sqs[n.val]) ≤ g s.ring.sqs[n.val] := by
    simp only [g, hcq, hphase]; split; exacts [hres, Nat.le_refl 0]
  have hsum : ((vmod s.ring.sqs n f).toList.map g).sum ≤ (s.ring.sqs.toList.map g).sum := by
    refine List.Forall₂.sum_le_sum (List.forall₂_iff_get.2 ⟨by simp, fun i hi _ => ?_⟩)
    simp only [List.get_eq_getElem, List.getElem_map, Vector.getElem_toList, vmod, Vector.getElem_set]
    split
    · next e => subst e; exact hg
    · exact Nat.le_refl _
  have hcqs : (s.onSq n f).ring.cqs = s.ring.cqs := rfl
  unfold Rings.unreserved
  simp only [hcqs]
  split
  · exact Nat.le_refl 0
  · exact Nat.sub_le_sub_left hsum _

/-! ## What a read asks for -/

/-- A read may always ask for one descriptor (02 R38). -/
theorem Rings.one_le_requestMax (r : Rings) (a : Nat) : 1 ≤ r.requestMax a := by
  have := Nat.one_le_two_pow (n := r.cfg.maxRead)
  unfold Rings.requestMax; omega

section
variable {s : State} {n : Fin 16}

/-- An SQ that may fetch has room for a descriptor, within its producer index and its ring (02 R58, R63). -/
theorem Rings.fetchRoom_bounds (hm : MayFetch s n) (hw : s.ring.sqs[n.val].retryWait = false) :
    let q := s.ring.sqs[n.val]
    1 ≤ s.ring.fetchRoom n ∧ s.ring.fetchRoom n ≤ 8 ∧ s.ring.fetchRoom n ≤ (q.prod - q.cons).toNat ∧
      q.cons.toNat % 2 ^ q.log2 + s.ring.fetchRoom n ≤ 2 ^ q.log2 := by
  obtain ⟨-, hquiet, hphase, hreading, hopen, hne, hflight, hfree⟩ := hm
  dsimp only [Fin.getElem_fin] at hphase hreading hopen hne hflight hfree
  have hfill : 0 < (s.ring.sqs[n.val].prod - s.ring.sqs[n.val].cons).toNat := by
    rw [Nat.pos_iff_ne_zero]
    intro h0
    exact hne (by simpa using (BitVec.sub_eq_iff_eq_add.1 (BitVec.eq_of_toNat_eq (y := 0#16) h0)).symm)
  have hslot := Nat.mod_lt s.ring.sqs[n.val].cons.toNat (Nat.two_pow_pos s.ring.sqs[n.val].log2)
  have hroom : s.ring.fetchRoom n = min (min 8 (min (ringFill s.ring.sqs[n.val].prod s.ring.sqs[n.val].cons)
      (ringSize s.ring.sqs[n.val].log2 - s.ring.sqs[n.val].cons.toNat % ringSize s.ring.sqs[n.val].log2)))
      (min (32 - s.ring.sqs[n.val].inFlight) (s.ring.unreserved s.ring.sqs[n.val].cq)) := by
    simp [Rings.fetchRoom, hphase, hquiet, hreading, hw, hopen]
  simp only [hroom, ringFill, ringSize]
  generalize 2 ^ s.ring.sqs[n.val].log2 = size at *
  omega

/-- The read that an SQ which may fetch sends (02 R38, R47, R58). -/
theorem State.fetch_asksFor (hm : MayFetch s n) (hw : s.ring.sqs[n.val].retryWait = false) :
    AsksFor s (s.fetch n) n ∧ (s.fetch n).ring.sqs[n.val].retryWait = false ∧ (s.fetch n).dev = s.dev ∧ (s.fetch n).mem = s.mem := by
  obtain ⟨hone, height, hprod, hring⟩ := Rings.fetchRoom_bounds hm hw
  let a := s.ring.sqs[n.val].nextAddr
  let k := if s.qspi then s.ring.fetchRoom n else min (s.ring.fetchRoom n) (s.ring.requestMax a)
  have hmax := s.ring.one_le_requestMax a
  have hk : 1 ≤ k ∧ k ≤ s.ring.fetchRoom n ∧ (s.qspi = false → k ≤ s.ring.requestMax a) := by
    simp only [k]
    split
    · next h => exact ⟨hone, Nat.le_refl _, by simp [h]⟩
    · exact ⟨by omega, Nat.min_le_left .., fun _ => Nat.min_le_right ..⟩
  obtain ⟨hk1, hkroom, hkmax⟩ := hk
  have heq : s.fetch n = (s.onSq n fun q => { q with reading := some k, readAddr := a }).onRing fun r => { r with l1 := false } :=
    if_neg (by simp [hm.1]; exact Nat.ne_of_gt hk1)
  have hsq : (s.fetch n).ring.sqs[n.val] = { s.ring.sqs[n.val] with reading := some k, readAddr := a } := by
    rw [heq]; exact s.onSq_sq n _
  refine ⟨⟨k, ?_, hk1, by omega, by dsimp only [Fin.getElem_fin]; omega, by dsimp only [Fin.getElem_fin]; omega, ?_,
    fun h => ?_⟩, ?_, ?_, ?_⟩
  · simp [hsq]
  · simp [hsq, a, Sq.nextAddr, ringSize]
  · simpa [hsq] using hkmax h
  · rw [hsq]; exact hw
  · rw [heq]; rfl
  · rw [heq]; rfl

/-- The wait for a retry's 1 ms is no part of what lets an SQ fetch. -/
theorem mayFetch_of_waiting (hm : MayFetch s n) : MayFetch (s.onSq n fun q => { q with retryWait := false }) n := by
  obtain ⟨hdark, hquiet, hphase, hreading, hopen, hne, hflight, hfree⟩ := hm
  have hfree' := Nat.lt_of_lt_of_le hfree
    (s.unreserved_onSq n (f := fun q => { q with retryWait := false }) _ (fun _ => rfl) (fun _ => rfl) (Nat.le_refl _))
  unfold MayFetch
  simp only [Fin.getElem_fin, State.onSq_sq] at *
  exact ⟨hdark, hquiet, hphase, hreading, hopen, hne, hflight, hfree'⟩

end

/-! ## How a read ends -/

section
variable {s : State} {n : Fin 16} {d : RawDesc}

/-- A descriptor that opens no place of its own, or finds one, enters the device (02 R58, R62, R63). -/
theorem State.takeIn_one (h : s.ring.sqs[n.val].openRun ≠ 0 ∨ rawChain d ∨
      (s.ring.sqs[n.val].inFlight < 32 ∧ 0 < s.ring.unreserved s.ring.sqs[n.val].cq)) :
    s.takeIn n [d] = s.onSq n fun q => { q with fetched := q.fetched ++ [d], cons := q.cons + 1 } := by
  refine if_neg fun ⟨⟨hopen, hchain⟩, hfull⟩ => ?_
  rcases h with h | h | ⟨hflight, hfree⟩
  · exact h hopen
  · simp [h] at hchain
  · omega

/-- A read of one descriptor brings it (02 R58). -/
theorem State.fetched_one (hq : s.qspi = false) (hr : s.ring.sqs[n.val].reading = some 1)
    (h : s.ring.sqs[n.val].openRun ≠ 0 ∨ rawChain d ∨
      (s.ring.sqs[n.val].inFlight < 32 ∧ 0 < s.ring.unreserved s.ring.sqs[n.val].cq)) :
    s.fetched n .ok [d] = (s.onSq n fun q => { q with reading := none, retries := 0 }).onSq n fun q =>
      { q with fetched := q.fetched ++ [d], cons := q.cons + 1 } := by
  have hres : ({ s.ring.sqs[n.val] with reading := none, retries := 0 } : Sq).reserved ≤ s.ring.sqs[n.val].reserved := by
    refine Nat.add_le_add_left (m := _) ?_ _
    split <;> simp
  have hfree := s.unreserved_onSq n (f := fun q => { q with reading := none, retries := 0 }) s.ring.sqs[n.val].cq (fun _ => rfl)
    (fun _ => rfl) hres
  rw [← State.takeIn_one]
  · simp [State.fetched, hr, hq]
  · rw [State.onSq_sq]
    exact h.imp_right (Or.imp_right fun ⟨hflight, hpos⟩ => ⟨hflight, Nat.lt_of_lt_of_le hpos hfree⟩)

/-- A failed read is over, and waits for its retry while it has one (02 R75). -/
theorem State.fetchFailed_retry (e : Option DmaEnd) (h : s.ring.sqs[n.val].retries < 3) :
    s.fetchFailed n e = ((s.aerReport e).onSq n fun q => { q with reading := none }).onSq n fun q =>
      { q with retries := q.retries + 1, retryWait := true } := if_pos h

/-- The last retry's failure puts the SQ in ERROR, with an error of HE (02 R75). -/
theorem State.fetchFailed_last (e : Option DmaEnd) (h : s.ring.sqs[n.val].retries = 3) :
    s.fetchFailed n e = (((s.aerReport e).onSq n fun q => { q with reading := none }).onSq n fun q =>
      { q with phase := if q.phase = .active then .error else q.phase, retries := 0 }).onDev fun v =>
        v.ringErrorEv .fault LG_RING_DMA EV_RING_ERROR n.val := if_neg (by omega)

/-- A timeout is a failed read. -/
theorem State.readTimeout_fetch {k : Nat} (hq : s.qspi = false) (hr : s.ring.sqs[n.val].reading = some k) :
    s.readTimeout (some n) = s.fetchFailed n none := by
  simp [State.readTimeout, hq, hr]

end

/-- Settles O7: a read of an SQ that may fetch, its retry, its end, and its failures (02 R38, R47, R58, R75). -/
theorem fetching : Obligations.Fetching := by
  unfold Obligations.Fetching
  refine ⟨?fetch, ?retry, ?brings, ?fails, ?last⟩
  case fetch =>
    intro n s hm hw
    obtain ⟨hasks, -, hdev, hmem⟩ := State.fetch_asksFor hm hw
    exact ⟨_, rfl, hasks, hdev, hmem⟩
  case retry =>
    intro n s hm hw
    obtain ⟨hasks, hwait, -, -⟩ := State.fetch_asksFor (mayFetch_of_waiting hm) (congrArg Sq.retryWait (s.onSq_sq n _))
    refine ⟨_, congrArg Host.Outcome.next (if_pos hw), ?_, hwait⟩
    unfold AsksFor at hasks ⊢
    simp only [Fin.getElem_fin, State.onSq_sq] at hasks ⊢
    exact hasks
  case brings =>
    intro n d s hq hr h
    refine ⟨_, congrArg Host.Outcome.next (State.fetched_one hq hr h), ?_⟩
    simp
  case fails =>
    intro n k s hq hr hretries
    obtain ⟨a, m, heq, hunc⟩ := s.aerReport_shape none
    refine ⟨_, congrArg Host.Outcome.next ((State.readTimeout_fetch hq hr).trans (State.fetchFailed_retry none hretries)), ?_⟩
    simpa [State.onSq, heq] using hunc
  case last =>
    intro n k s hq hr hphase hretries hheld hidle
    obtain ⟨a, m, heq, -⟩ := s.aerReport_shape none
    refine ⟨_, congrArg Host.Outcome.next ((State.readTimeout_fetch hq hr).trans (State.fetchFailed_last none hretries)), ?_, ?_⟩
    · simp only [Fin.getElem_fin, State.onDev_ring, State.onSq_sq, heq]
      exact if_pos hphase
    · rw [heq]
      exact Dev.ringErrorEv_idle (s := { s.dev with fresh := m }) .fault LG_RING_DMA EV_RING_ERROR n.val hheld hidle

end Sys2Proof.Machine
end

section
/-! Dispatch (02 R59, 01 R32): where one descriptor goes, and which SQ goes first. -/

namespace Sys2Proof.Machine

/-! ## One descriptor -/

/-- A place in the order of service of BB_MB_REQ is a matter of the building bus alone (13 R389). -/
theorem Dev.mbHold_shape (s : Dev) (op : Nat) (d : Desc) : ∃ b, s.mbHold op d = { s with bbs := b } := by
  unfold Dev.mbHold
  split
  · exact ⟨_, rfl⟩
  · exact ⟨s.bbs, rfl⟩

/-- A descriptor that enters its function's queue stands there (02 R59, R60). -/
theorem Dev.mem_enqueue (s : Dev) (x : QDesc) : x ∈ (s.enqueue x).fq := by
  unfold Dev.enqueue
  dsimp only
  split <;> simp

/-- Beside the queues of the functions a descriptor's entry changes nothing. -/
theorem Dev.enqueue_done (s : Dev) (x : QDesc) : (s.enqueue x).done = s.done := by
  unfold Dev.enqueue
  dsimp only
  split <;> rfl

/-- A descriptor that passes the checks of the dispatch goes to its function's queue, without a completion (01 R32). -/
theorem Dev.launch_queued {s : Dev} {op : Nat} {d : Desc} {i : OpInfo} {o : Obj} (hi : opInfo op = some i) (hop : op ≠ 0x0F)
    (hc : s.opCheck { i with needsEn := false } d = .ok o) :
    (s.launch op d false).done = s.done ∧ { op, d : QDesc } ∈ (s.launch op d false).fq := by
  have heq : s.launch op d false = (s.enqueue { op, d }).mbHold op d := by simp [Dev.launch, hi, hc, hop]
  obtain ⟨b, hb⟩ := (s.enqueue { op, d }).mbHold_shape op d
  rw [heq, hb]
  exact ⟨s.enqueue_done _, s.mem_enqueue _⟩

/-- One of an unknown opcode completes at once (01 R32). -/
theorem Dev.launch_unknown {s : Dev} {op : Nat} (d : Desc) (hi : opInfo op = none) : s.launch op d false = s.complete d .badOpcode 0 := by
  simp [Dev.launch, hi]

/-- The turn falls to an SQ whose next descriptor stands outside chains: it is dispatched. -/
theorem State.dispatch_one {s : State} {n turn : Fin 16} {left : Nat} {d : RawDesc} {ds : List RawDesc} (ha : s.dev.asleep = false)
    (hc : s.ring.choose = some (n, turn, left)) (hchain : s.ring.sqs[n.val].chain = []) (hf : s.ring.sqs[n.val].fetched = d :: ds)
    (hd : rawChain d = false) :
    s.dispatch = ((s.onRing fun r => { r with wrrSq := turn, wrrLeft := left }).onSq n fun q =>
      { q with fetched := ds, disp := q.disp + 1 }).onDev fun v => v.launch (rawOp d) (descOf n d false) false := by
  simp [State.dispatch, State.dispatchSq, ha, hc, hchain, hf, hd]

/-! ## The order of the SQs -/

/-- The first of the indices with a property is none that comes after one with it. -/
theorem finRange_find?_le {k : Nat} {p : Fin k → Bool} {m : Fin k} (hm : p m) :
    ∃ n, (List.finRange k).find? p = some n ∧ n ≤ m ∧ p n := by
  cases hfind : (List.finRange k).find? p with
  | none => exact absurd hm (by simpa using List.find?_eq_none.1 hfind m (List.mem_finRange m))
  | some n =>
    obtain ⟨hn, i, hi, hget, hbefore⟩ := List.find?_eq_some_iff_getElem.1 hfind
    refine ⟨n, rfl, ?_, hn⟩
    by_contra hlt
    have hin : i = n.val := by simpa using congrArg Fin.val hget
    have := hbefore m.val (by omega)
    simp [hm] at this

/-- An SQ whose next descriptor is URGENT is served first, the lowest of several, and the round-robin stands (02 R59). -/
theorem Rings.choose_urgent {r : Rings} {m : Fin 16} (hready : r.ready m) (hurgent : (r.sqs[m.val].next.any fun d => rawUrgent d)) :
    ∃ n, r.choose = some (n, r.wrrSq, r.wrrLeft) ∧ n ≤ m ∧ r.ready n ∧ (r.sqs[n.val].next.any fun d => rawUrgent d) := by
  obtain ⟨n, hfind, hle, hn⟩ := finRange_find?_le (p := fun n => r.ready n && r.sqs[n.val].next.any fun d => rawUrgent d) (m := m)
    (by simp [hready, hurgent])
  rw [Bool.and_eq_true] at hn
  refine ⟨n, ?_, hle, hn⟩
  unfold Rings.choose
  dsimp only
  rw [hfind]

/-- Settles O8: one descriptor's dispatch, and URGENT before the others. -/
theorem dispatching : Obligations.Dispatching := by
  unfold Obligations.Dispatching
  refine ⟨fun s n turn left d ds ha hc hchain hf hd => ⟨fun i o hi hop hcheck => ?queued, fun hi => ?unknown⟩,
    fun r m hready hnext => ?urgent⟩
  case queued =>
    obtain ⟨hdone, hmem⟩ := Dev.launch_queued hi hop hcheck
    refine ⟨_, congrArg Host.Outcome.next (State.dispatch_one ha hc hchain hf hd), ?_⟩
    simpa using ⟨hdone, hmem⟩
  case unknown =>
    refine ⟨_, congrArg Host.Outcome.next (State.dispatch_one ha hc hchain hf hd), ?_⟩
    simp only [State.answered, State.onDev_dev, State.onSq_dev, State.onRing_dev, Dev.launch_unknown _ hi]
    exact ⟨⟨_, Dev.complete_last .., rfl, rfl, rfl, rfl, rfl⟩, rfl⟩
  case urgent =>
    obtain ⟨n, hchoose, hle, hready, hurgent⟩ := r.choose_urgent hready (by simpa [Option.any_eq_true] using hnext)
    exact ⟨n, hchoose, hle, hready, by simpa [Option.any_eq_true] using hurgent⟩

end Sys2Proof.Machine
end

section
/-! Records (02 R47, R49, R54 to R57, R63 to R68): where a completion, an event and a log record are written, what a vector that is due
does, and what a ring that stays full reports. -/

namespace Sys2Proof.Machine

/-! ## Vectors -/

@[simp] theorem State.store_ringOf (s : State) (a : Nat) (bs : List Byte) (i : IrqRing) :
    (s.store a bs).ring.ringOf i = s.ring.ringOf i := by
  unfold State.store
  repeat' split
  all_goals cases i <;> rfl

/-- A vector that fires clears the counts and timers of its rings, and changes no other ring (02 R67). -/
@[simp] theorem State.fire_ringOf (s : State) (v : Fin 32) (i : IrqRing) :
    (s.fire v).ring.ringOf i = (s.ring.ringOf i).fired v := by
  have hf : (s.onRing fun r => { r with
      cqs := r.cqs.map fun c => { c with ring := c.ring.fired v }, eq := r.eq.fired v, lq := r.lq.fired v }).ring.ringOf i
      = (s.ring.ringOf i).fired v := by
    cases i <;> simp [Rings.ringOf]
  unfold State.fire
  dsimp only
  split
  · exact (by cases i <;> rfl : _ = _).trans hf
  · split
    · exact (State.store_ringOf ..).trans hf
    · exact (by cases i <;> rfl : _ = _).trans hf

@[simp] theorem Ring.fired_prod (r : Ring) (v : Fin 32) : (r.fired v).prod = r.prod := by
  unfold Ring.fired; split <;> rfl

/-- A request moves no producer index. -/
@[simp] theorem State.request_prod (s : State) (j i : IrqRing) : ((s.request j).ring.ringOf i).prod = (s.ring.ringOf i).prod := by
  have hw : ((s.onIrqRing j fun r => { r with want := true }).ring.ringOf i).prod = (s.ring.ringOf i).prod := by
    cases j <;> cases i <;> simp [State.onIrqRing, Rings.setRing, Rings.ringOf, vmod, Vector.getElem_set]
    split <;> simp_all
  unfold State.request
  dsimp only
  split
  · rfl
  · split
    · exact hw
    · simp

/-- A ring of which no interrupt is enabled requests nothing (02 R66). -/
theorem State.request_of_not_ie {s : State} {i : IrqRing} (h : (s.ring.ringOf i).ie = false) : s.request i = s := by
  simp [State.request, h]

/-- A request that nothing holds back fires the ring's vector (02 R66). -/
theorem State.request_fires {s : State} {i : IrqRing} (hq : s.ring.quiet = false) (hie : (s.ring.ringOf i).ie) :
    s.request i = s.fire (s.ring.ringOf i).vec := by
  simp [State.request, hie, hq]

/-! ## Records -/

/-- The address of a ring's next record (02 R46, R47). -/
def Ring.slotAddr (r : Ring) : Nat := r.base.toNat + 16 * (r.prod.toNat % ringSize r.log2)

/-- A record that requests no vector: its bytes, and its ring's indices and counts. -/
theorem State.record_of_not_ie {s : State} {i : IrqRing} (bytes : Bool → List Byte) (notify : Bool)
    (h : (s.ring.ringOf i).ie = false) :
    s.record i bytes notify =
      (s.store (s.ring.ringOf i).slotAddr (bytes (phaseOf (s.ring.ringOf i).log2 (s.ring.ringOf i).prod))).onIrqRing i
      fun r => { r with prod := r.prod + 1, count := r.count + 1, timer := r.timer || r.modTime != 0 } := by
  unfold State.record State.counted
  dsimp only
  rw [State.request_of_not_ie (by simpa using h), ite_self]
  rfl

/-- A record advances its ring's producer index by one (02 R47). -/
theorem State.record_prod (s : State) (i : IrqRing) (bytes : Bool → List Byte) (notify : Bool) :
    ((s.record i bytes notify).ring.ringOf i).prod = (s.ring.ringOf i).prod + 1 := by
  unfold State.record State.counted
  dsimp only
  split <;> simp

/-- Over PCI Express bytes go to the host's memory (02 R53). -/
theorem State.store_pcie {s : State} (a : Nat) (bs : List Byte) (h : s.qspi = false) :
    s.store a bs = { s with mem := { s.mem with host := memWriteBytes s.mem.host a bs }, ring := { s.ring with l1 := false } } := by
  simp [State.store, h]

/-- A record of 16 bytes at an address of the host's memory, of which no other byte has changed, nor the ring window. -/
structure Mem.tookRecord (m m' : Mem) (a : Nat) (bs : List Byte) : Prop where
  bytes : memReadBytes m'.host a 16 = bs
  win   : m'.win = m.win
  frame : ∀ b, b < a ∨ a + 16 ≤ b → memRead m'.host b = memRead m.host b

/-- A record that requests no vector, over PCI Express: its 16 bytes at its ring's producer index, and what it leaves (02 R47, R49). -/
theorem State.record_tookRecord {s : State} {i : IrqRing} {bytes : Bool → List Byte} (notify : Bool) (hq : s.qspi = false)
    (hie : (s.ring.ringOf i).ie = false) (hm : s.mem.ok) (hlen : ∀ p, (bytes p).length = 16) :
    s.mem.tookRecord (s.record i bytes notify).mem (s.ring.ringOf i).slotAddr
        (bytes (phaseOf (s.ring.ringOf i).log2 (s.ring.ringOf i).prod)) ∧
      (s.record i bytes notify).ring.sqs = s.ring.sqs ∧ (s.record i bytes notify).ring.eqCache = s.ring.eqCache ∧
      (s.record i bytes notify).ring.eqLost = s.ring.eqLost := by
  generalize hbs : bytes (phaseOf (s.ring.ringOf i).log2 (s.ring.ringOf i).prod) = bs
  have hlen : bs.length = 16 := hbs ▸ hlen _
  rw [State.record_of_not_ie bytes notify hie, hbs, State.store_pcie _ _ hq]
  have hread := memReadBytes_memWriteBytes (s.ring.ringOf i).slotAddr bs hm.1
  have hframe (b : Nat) (hb : b < (s.ring.ringOf i).slotAddr ∨ (s.ring.ringOf i).slotAddr + 16 ≤ b) :=
    memRead_memWriteBytes_other (m := s.mem.host) bs (hlen ▸ hb) hm.1
  rw [hlen] at hread
  refine ⟨⟨hread, rfl, hframe⟩, ?_⟩
  cases i <;> exact ⟨rfl, rfl, rfl⟩

@[simp] theorem Completion.bytes_length (c : Completion) (phase : Bool) : (c.bytes phase).length = 16 := by
  simp [Completion.bytes, bytesLE_length]

@[simp] theorem Event.bytes_length (e : Event) (phase : Bool) : (e.bytes phase).length = 16 := by
  simp [Event.bytes, bytesLE_length]

/-! ## Completions -/

@[simp] theorem Sq.settle_disp (q : Sq) : q.settle.disp = q.disp := by
  unfold Sq.settle; split <;> rfl

/-- The oldest completion, without bulk data and outside a chain, goes to its CQ while the CQ has room (02 R55, R63). -/
theorem State.completionWrite_written {s : State} {c : Completion} {cs : List Completion} (hd : s.dev.done = c :: cs)
    (hquiet : s.ring.quiet = false) (hbulk : c.bulk = []) (hmember : c.member = false) (hresync : c.resync = false)
    (hdiscard : c.discard = false) (hfull : (s.ring.ringOf (.cq s.ring.sqs[c.sq.val].cq)).full = false) :
    s.completionWrite = ((s.onDev fun v => { v with done := cs }).record (.cq s.ring.sqs[c.sq.val].cq) c.bytes c.notify).onSq c.sq
      fun q => ({ q with disp := q.disp - 1 } : Sq).settle := by
  have hfull' : s.ring.cqs[s.ring.sqs[c.sq.val].cq.val].ring.full = false := hfull
  simp [State.completionWrite, hd, hdiscard, State.putCq, hquiet, hfull', State.writeCq, hbulk, hresync, State.memberDone, hmember]

/-- Settles O9: the record of a completion is one store at its CQ's producer index. -/
theorem completionRecord : Obligations.CompletionRecord := by
  unfold Obligations.CompletionRecord
  intro s c cs hd hq hquiet hm hbulk hmember hresync hdiscard n r hfull hie
  refine ⟨_, congrArg Host.Outcome.next (State.completionWrite_written hd hquiet hbulk hmember hresync hdiscard hfull), ?_⟩
  let u := s.onDev fun v => { v with done := cs }
  obtain ⟨⟨hbytes, hwin, hframe⟩, hsqs, -, -⟩ := u.record_tookRecord (i := .cq n) c.notify hq hie hm c.bytes_length
  refine ⟨by simp, u.record_prod (.cq n) c.bytes c.notify, ?_, hbytes, hwin, hframe⟩
  rw [Fin.getElem_fin, State.onSq_sq, Sq.settle_disp]
  exact congrArg (fun v : Vector Sq 16 => v[c.sq.val].disp - 1) hsqs

/-! ## Events -/

/-- With room in EQ and none waiting, an event goes through the cache to EQ (02 R64). -/
theorem State.eventWrite_written {s : State} {e : Event} {es : List Event} (hr : s.dev.raised = e :: es) (hquiet : s.ring.quiet = false)
    (hcache : s.ring.eqCache = []) (hen : s.ring.eq.en) (hfull : s.ring.eq.full = false) :
    s.eventWrite = ((s.onDev fun v => { v with raised := es }).onRing fun r => { r with eqCache := [], eqLost := 0 }).record .eq
      ({ e with lost := s.ring.eqLost + e.lost } : Event).bytes false := by
  have hquiet' : ({ s.ring with eqCache := [{ e with lost := s.ring.eqLost + e.lost }], eqLost := 0 } : Rings).quiet = false := hquiet
  simp [State.eventWrite, hr, State.acceptEvent, hcache, State.drainEvents, State.drainEq, hen, hfull, hquiet']
  simp [State.onRing, State.onDev]

/-- While EQ is disabled nothing leaves the cache (02 R64). -/
theorem State.drainEvents_disabled {s : State} (hen : s.ring.eq.en = false) : s.drainEvents = s := by
  unfold State.drainEvents
  cases s.ring.eqCache with
  | nil => rfl
  | cons e es => exact if_pos (by simp [hen])

/-- While EQ is disabled an event goes to the cache, or is dropped. -/
theorem State.eventWrite_disabled {s : State} {e : Event} {es : List Event} (hr : s.dev.raised = e :: es) (hen : s.ring.eq.en = false) :
    s.eventWrite = (s.onDev fun v => { v with raised := es }).acceptEvent e := by
  have hen' : ((s.onDev fun v => { v with raised := es }).acceptEvent e).ring.eq.en = false :=
    (Rings.en_congr (State.acceptEvent_settings _ e) .eq).trans hen
  simp [State.eventWrite, State.drainEvents_disabled hen, hr, State.drainEvents_disabled hen']

/-- Settles O10: an event's record, its place in the cache, or its loss. -/
theorem eventRecord : Obligations.EventRecord := by
  unfold Obligations.EventRecord
  intro s e es hr
  refine ⟨fun hquiet hq hm hcache hen hfull hie => ?written, fun hen hroom => ?cached, fun hen hroom => ?dropped⟩
  case written =>
    refine ⟨_, congrArg Host.Outcome.next (State.eventWrite_written hr hquiet hcache hen hfull), ?_⟩
    let u := (s.onDev fun v => { v with raised := es }).onRing fun r => { r with eqCache := [], eqLost := 0 }
    let e' : Event := { e with lost := s.ring.eqLost + e.lost }
    obtain ⟨⟨hbytes, -, hframe⟩, -, hnone, hlost⟩ := u.record_tookRecord (i := .eq) false hq hie hm e'.bytes_length
    exact ⟨congrArg Dev.raised (u.record_dev .eq e'.bytes false), u.record_prod .eq e'.bytes false, hnone, hlost, hbytes, hframe⟩
  case cached =>
    refine ⟨_, congrArg Host.Outcome.next ((State.eventWrite_disabled hr hen).trans (if_neg (Nat.not_le.2 hroom))), ?_⟩
    exact ⟨rfl, rfl, rfl, rfl, rfl⟩
  case dropped =>
    refine ⟨_, congrArg Host.Outcome.next ((State.eventWrite_disabled hr hen).trans (if_pos hroom.ge)), ?_⟩
    exact ⟨rfl, rfl, rfl, rfl, rfl, rfl⟩

/-! ## The log's mirror, vectors that are due, and stalls -/

/-- The next record of the mirror's queue is copied to LQ (02 R65). -/
theorem State.lqMirror_copies {s : State} {num : Nat} {copy : Bool} {rest : List (Nat × Bool)} {x : LogRec} (hcan : s.canMirror)
    (hq : s.dev.log.mirrorQ = (num, copy) :: rest) (hx : (s.dev.log.recs.find? fun r => r.num == num) = some x) :
    s.lqMirror = ((s.onDev fun v => v.onLog fun g => { g with mirrorQ := rest }).onRing fun r =>
      { r with lqNums := r.lqNums ++ [num] }).record .lq x.bytes false := by
  simp [State.lqMirror, hcan, hq, State.mirror, hx]

/-- A moderation timer that ends fires its ring's vector (02 R67). -/
theorem execModTimeExpiry_fires {s : State} {i : IrqRing} (hquiet : s.ring.quiet = false) (ht : (s.ring.ringOf i).timer)
    (hie : (s.ring.ringOf i).ie) :
    exec (.modTimeExpiry i) s = .next ((s.onIrqRing i fun r => { r with timer := false }).fire (s.ring.ringOf i).vec) := by
  have hquiet' : (s.onIrqRing i fun r => { r with timer := false }).ring.quiet = false := by cases i <;> exact hquiet
  have hreq := State.request_fires (s := s.onIrqRing i fun r => { r with timer := false }) (i := i) hquiet' (by simpa using hie)
  show Host.Outcome.next (if _ then _ else _) = _
  rw [if_pos (by simp [ht, hquiet]), hreq]
  simp

/-- In Quad-SPI attachment a vector sets its bit of IRQ_PEND (02 R45, R68). -/
theorem State.fire_qspi {s : State} (v : Fin 32) (h : s.qspi) :
    (s.fire v).ring.irqPend = s.ring.irqPend ||| (1#32 <<< v.val) ∧ (s.fire v).mem = s.mem := by
  have h' : ∀ f, (s.onRing f).qspi = true := fun _ => h
  simp [State.fire, h']

/-- Over PCI Express a masked vector sets its pending bit (02 R68). -/
theorem State.fire_masked {s : State} (v : Fin 32) (h : s.qspi = false) (hmask : (s.ring.msix[v.val]).mask) :
    (s.fire v).ring.msix[v.val].pending ∧ (s.fire v).mem = s.mem := by
  have h' : ∀ f, (s.onRing f).qspi = false := fun _ => h
  simp [State.fire, h', Rings.canSend, hmask]

/-- A CQ that has stayed full reports it (02 R63). -/
theorem State.stall_reported {s : State} {n : Fin 16} (hen : s.ring.cqs[n.val].ring.en) (hfull : s.ring.cqs[n.val].ring.full)
    (hseen : s.ring.cqs[n.val].stallSeen = false) :
    s.stall n = (s.onCq n fun q => { q with stallSeen := true, ring := { q.ring with stall := true } }).onDev fun v =>
      v.ringErrorEv .warn LG_RING_STALL EV_RING_STALL (16 + n.val) := by
  simp [State.stall, hen, hfull, hseen]

/-- Settles O11: the mirror's copy, a vector in each attachment, and a stall. -/
theorem mirrorVectorsStall : Obligations.MirrorVectorsStall := by
  unfold Obligations.MirrorVectorsStall
  refine ⟨?mirror, ?quad, ?masked, ?stall⟩
  case mirror =>
    intro s num copy rest x hquiet hen hfull hheld hawake hq hx
    have hcan : s.canMirror := by simp [State.canMirror, hquiet, hen, hfull, hheld, hawake]
    refine ⟨_, congrArg Host.Outcome.next (State.lqMirror_copies hcan hq hx), ?_, ?_, ?_, ?_⟩
    · exact State.record_prod _ .lq x.bytes false
    · simp
    · exact congrArg Rings.lqNums (State.record_settings _ .lq x.bytes false)
    · simp
  case quad =>
    intro s i hqspi hquiet ht hie
    let u := s.onIrqRing i fun r => { r with timer := false }
    obtain ⟨hpend, hmem⟩ := u.fire_qspi (s.ring.ringOf i).vec hqspi
    have hring : (u.fire (s.ring.ringOf i).vec).ring.ringOf i = { s.ring.ringOf i with count := 0, timer := false, want := false } := by
      simp [u, Ring.fired]
    have hvec : u.ring.irqPend = s.ring.irqPend := by cases i <;> rfl
    refine ⟨_, execModTimeExpiry_fires hquiet ht hie, hpend.trans (by rw [hvec]), ?_, ?_, hmem, u.fire_dev _⟩
    · rw [hring]
    · rw [hring]
  case masked =>
    intro s i hqspi hquiet ht hie hmask
    let u := s.onIrqRing i fun r => { r with timer := false }
    have hmsix : u.ring.msix = s.ring.msix := by cases i <;> rfl
    obtain ⟨hpend, hmem⟩ := u.fire_masked (s.ring.ringOf i).vec hqspi (by rw [hmsix]; exact hmask)
    have hring : (u.fire (s.ring.ringOf i).vec).ring.ringOf i = { s.ring.ringOf i with count := 0, timer := false, want := false } := by
      simp [u, Ring.fired]
    refine ⟨_, execModTimeExpiry_fires hquiet ht hie, ?_, ?_, ?_, hmem⟩
    · exact hpend
    · rw [hring]
    · rw [hring]
  case stall =>
    intro s n hen hfull hseen hheld hidle
    obtain ⟨herr, hev⟩ := Dev.ringErrorEv_idle (s := s.dev) .warn LG_RING_STALL EV_RING_STALL (16 + n.val) hheld hidle
    refine ⟨_, congrArg Host.Outcome.next (State.stall_reported hen hfull hseen), ?_, ?_, herr, hev⟩
    · simp [State.onCq]
    · simp [State.onCq]

end Sys2Proof.Machine
end

section
/-! Enabling and disabling rings over PCI Express (02 R69 to R71, 00 R6). -/

namespace Sys2Proof.Machine

/-! ## EN in a value of CFG -/

theorem cfgEn_getLsbD (j : Nat) : cfgEn.getLsbD j = decide (j = 31) := by
  have h : cfgEn = BitVec.twoPow 32 31 := by decide
  rw [h, BitVec.getLsbD_twoPow]
  simp [eq_comm]

/-- Two words with the same bits in a field hold the same field. -/
theorem bitsOf_congr {v w : Word} {lo n : Nat} (h : ∀ j, j < lo + n → v.getLsbD j = w.getLsbD j) :
    bitsOf v.toNat lo n = bitsOf w.toNat lo n := by
  refine Nat.eq_of_testBit_eq fun i => ?_
  simp only [bitsOf, Nat.testBit_mod_two_pow, Nat.testBit_div_two_pow, BitVec.testBit_toNat]
  by_cases hi : i < n
  · rw [h (i + lo) (by omega)]
  · simp [hi]

/-- EN is none of the other fields. -/
theorem bitsOf_set_en (v : Word) {lo n : Nat} (h : lo + n ≤ 31) : bitsOf (v ||| cfgEn).toNat lo n = bitsOf v.toNat lo n :=
  bitsOf_congr fun j hj => by
    have hne : j ≠ 31 := by omega
    rw [BitVec.getLsbD_or, cfgEn_getLsbD, decide_eq_false hne, Bool.or_false]

theorem bitsOf_clear_en (v : Word) {lo n : Nat} (h : lo + n ≤ 31) : bitsOf (v &&& ~~~ cfgEn).toNat lo n = bitsOf v.toNat lo n :=
  bitsOf_congr fun j hj => by
    have hne : j ≠ 31 := by omega
    have hlt : j < 32 := by omega
    rw [BitVec.getLsbD_and, BitVec.getLsbD_not, cfgEn_getLsbD, decide_eq_false hne]
    simp [hlt]

theorem en_set (v : Word) : (v ||| cfgEn).getLsbD 31 = true := by
  rw [BitVec.getLsbD_or, cfgEn_getLsbD]; simp

theorem en_clear (v : Word) : (v &&& ~~~ cfgEn).getLsbD 31 = false := by
  rw [BitVec.getLsbD_and, BitVec.getLsbD_not, cfgEn_getLsbD]; simp

theorem badLog2_set_en (v : Word) (free : Bool) : badLog2 (v ||| cfgEn) free = badLog2 v free := by
  rw [badLog2, bitsOf_set_en v (by decide), badLog2]

theorem badLog2_clear_en (v : Word) (free : Bool) : badLog2 (v &&& ~~~ cfgEn) free = badLog2 v free := by
  rw [badLog2, bitsOf_clear_en v (by decide), badLog2]

/-! ## A ring's fit -/

/-- Over PCI Express a ring may lie anywhere (02 R70). -/
theorem State.ringFits_pcie {s : State} (i base len : Nat) (h : s.qspi = false) : s.ringFits i base len = true := by
  simp [State.ringFits, h]

/-! ## An SQ -/

@[simp] theorem SqPhase.disabled_beq_active : (SqPhase.disabled == SqPhase.active) = false := rfl
@[simp] theorem SqPhase.disabled_beq_error : (SqPhase.disabled == SqPhase.error) = false := rfl

section
variable {s : State} {n : Fin 16} {w : Word}

/-- SQn_CFG but for EN, written while LOG2SIZE is free or not. -/
def Sq.cfg (q : Sq) (w : Word) (free : Bool) : Sq :=
  { q with log2 := newLog2 q.log2 w free, cq := ix 15 (bitsOf w.toNat 4 4), weight := bitsOf w.toNat 8 4 }

/-- A reserved LOG2SIZE in a field that the write reaches: nothing happens (00 R6). -/
theorem State.sqCfg_reserved (hp : s.ring.sqs[n.val].phase = .disabled) (hbad : badLog2 w true) : s.sqCfg n w = s := by
  simp [State.sqCfg, hp, hbad]

/-- An SQ whose CQ is enabled starts (02 R70). -/
theorem State.sqCfg_starts (hq : s.qspi = false) (hheld : s.dev.held 1 = false) (hp : s.ring.sqs[n.val].phase = .disabled)
    (hbad : badLog2 w true = false) (hw : w.getLsbD 31) (hcq : (s.ring.cqs[(ix 15 (bitsOf w.toNat 4 4)).val]).ring.en) :
    s.sqCfg n w = (s.onSq n fun q => q.cfg w true).sqStart n := by
  have hq' : ∀ f, (s.onSq n f).qspi = false := fun _ => hq
  have hcqs : ∀ f, (s.onSq n f).ring.cqs = s.ring.cqs := fun _ => rfl
  simp [State.sqCfg, hp, hbad, hw, hheld, hcqs, hcq, State.ringFits_pcie _ _ _ (hq' _), Sq.cfg]

/-- An SQ whose CQ is disabled stays disabled, and CFG_ERR says so (02 R70). -/
theorem State.sqCfg_cfgErr (hheld : s.dev.held 1 = false) (hp : s.ring.sqs[n.val].phase = .disabled)
    (hbad : badLog2 w true = false) (hw : w.getLsbD 31) (hcq : (s.ring.cqs[(ix 15 (bitsOf w.toNat 4 4)).val]).ring.en = false) :
    s.sqCfg n w = (s.onSq n fun q => q.cfg w true).onSq n fun q => { q with cfgErr := true } := by
  have hcqs : ∀ f, (s.onSq n f).ring.cqs = s.ring.cqs := fun _ => rfl
  simp [State.sqCfg, hp, hbad, hw, hheld, hcqs, hcq, Sq.cfg]

/-- EN 0 stops an SQ that is on (02 R71). -/
theorem State.sqCfg_stops (hp : s.ring.sqs[n.val].phase = .active ∨ s.ring.sqs[n.val].phase = .error)
    (hbad : badLog2 w s.ring.hold = false) (hw : w.getLsbD 31 = false) :
    s.sqCfg n w = (s.onSq n fun q => q.cfg w s.ring.hold).sqStop n := by
  have hw : w[31] = false := hw
  rcases hp with hp | hp <;> simp [State.sqCfg, hp, hbad, hw, Sq.cfg]

/-- An SQ with nothing fetched that stops is disabled once nothing is dispatched (02 R62, R71). -/
theorem State.sqStop_empty (hf : s.ring.sqs[n.val].fetched = []) (hc : s.ring.sqs[n.val].chain = []) :
    (s.sqStop n).ring.sqs[n.val].phase = (if s.ring.sqs[n.val].disp = 0 then .disabled else .draining) ∧ (s.sqStop n).dev = s.dev := by
  unfold State.sqStop
  simp only [hf, hc, List.append_nil, List.length_nil, List.foldl_nil, Nat.add_zero, State.onSq_sq, State.onSq_dev, and_true]
  unfold Sq.settle
  simp only [true_and]
  split <;> rfl

end

/-! ## A CQ, EQ or LQ -/

section
variable {s : State} {i : IrqRing} {w : Word}

/-- What a ring does beyond its indices when it starts (02 R64, R65, R70). -/
def State.afterStart (s : State) : IrqRing → State
  | .cq n => s.onCq n fun q => { q with cache := [], stallSeen := false }
  | .eq => s.drainEvents
  | .lq => s.lqRestart

/-- A disabled ring starts (02 R70). -/
theorem State.ringCfg_starts (hq : s.qspi = false) (hheld : s.dev.held 1 = false) (hen : (s.ring.ringOf i).en = false)
    (hbad : badLog2 w true = false) (hw : w.getLsbD 31) :
    s.ringCfg i w = ((s.onIrqRing i fun r => r.cfg w s.ring.hold).onIrqRing i Ring.start).afterStart i := by
  have hq' : ∀ f, (s.onIrqRing i f).qspi = false := fun _ => hq
  have hen' : ∀ h, ((s.ring.ringOf i).cfg w h).en = false := fun _ => hen
  cases i <;> simp [State.ringCfg, hen, hen', hbad, hw, hheld, State.ringFits_pcie _ _ _ (hq' _), State.afterStart]

/-- A ring that is disabled forgets what waits for it (02 R71). -/
def State.ringStop (s : State) : IrqRing → State
  | .cq n => s.onCq n fun q =>
    { q with cache := [], stallSeen := false, ring := { q.ring with en := false, timer := false, want := false } }
  | .eq => s.onRing fun r => { r with eqCache := [], eq := { r.eq with en := false, timer := false, want := false } }
  | .lq => s.onRing fun r => { r with lqNums := [], lq := { r.lq with en := false, timer := false, want := false } }

/-- EN 0 stops an enabled ring to which no SQ that is not DISABLED is mapped (02 R71). -/
theorem State.ringCfg_stops (hen : (s.ring.ringOf i).en) (hbad : badLog2 w s.ring.hold = false) (hw : w.getLsbD 31 = false)
    (hmap : s.ring.mapped i = false) : s.ringCfg i w = (s.onIrqRing i fun r => r.cfg w s.ring.hold).ringStop i := by
  have hen' : ∀ h, ((s.ring.ringOf i).cfg w h).en = true := fun _ => hen
  have hw : w[31] = false := hw
  cases i <;> simp [State.ringCfg, hen, hen', hbad, hw, hmap, State.ringStop]

/-- EN 0 leaves a CQ to which an SQ that is not DISABLED is mapped as it is (02 R71). -/
theorem State.ringCfg_mapped (hen : (s.ring.ringOf i).en) (hw : w.getLsbD 31 = false) (hmap : s.ring.mapped i) :
    s.ringCfg i w = s := by
  exact if_pos (.inr ⟨hen, by simp only [hw]; rfl, hmap⟩)

/-- A ring that has started is enabled, its indices 0 (02 R70). -/
theorem State.started_ring (s : State) (i : IrqRing) (hold : Bool) :
    let t := ((s.onIrqRing i fun r => r.cfg w hold).onIrqRing i Ring.start).afterStart i
    (t.ring.ringOf i).en ∧ (t.ring.ringOf i).cons = 0 := by
  let u := (s.onIrqRing i fun r => r.cfg w hold).onIrqRing i Ring.start
  have hset : ((u.afterStart i).ring.ringOf i).settings = (u.ring.ringOf i).settings := by
    cases i with
    | cq n => simp [State.afterStart, State.onCq, Rings.ringOf]
    | eq => exact Rings.ringOf_settings_congr u.drainEvents_settings .eq
    | lq => rfl
  have hu : u.ring.ringOf i = Ring.start ((s.ring.ringOf i).cfg w hold) := by simp [u]
  have hen := congrArg Ring.en hset
  have hcons := congrArg Ring.cons hset
  rw [hu] at hen hcons
  exact ⟨hen, hcons⟩

end

/-- A CQ is mapped while an SQ that is not DISABLED names it (02 R71). -/
theorem Rings.mapped_cq (r : Rings) (n : Fin 16) :
    r.mapped (.cq n) ↔ ∃ m : Fin 16, r.sqs[m.val].cq = n ∧ r.sqs[m.val].phase ≠ .disabled := by
  simp only [Rings.mapped, List.any_eq_true, Bool.and_eq_true, beq_iff_eq, bne_iff_ne, ne_eq, Vector.mem_toList_iff, Vector.mem_iff_getElem]
  constructor
  · rintro ⟨_, ⟨k, hk, rfl⟩, h⟩
    exact ⟨⟨k, hk⟩, h⟩
  · rintro ⟨m, h⟩
    exact ⟨_, ⟨m.val, m.isLt, rfl⟩, h⟩

/-- A host access leaves EN as it is. -/
theorem State.touched_en (s : State) (i : IrqRing) : (s.touched.ring.ringOf i).en = (s.ring.ringOf i).en := by
  rw [State.touched_ringOf]

/-- A ring register's write that reaches the device. -/
theorem State.hostWrite_reach {s : State} (f : State → State) (hr : s.reach) : s.hostWrite f = f s.touched := if_pos hr

/-- Settles O12, one write at a time, over PCI Express. -/
theorem ringEnables : Obligations.RingEnables := by
  unfold Obligations.RingEnables
  intro s hr hq hheld
  have hq' : s.touched.qspi = false := by rw [State.touched_qspi, hq]
  have hheld' : s.touched.dev.held 1 = false := by rw [State.touched_dev, hheld]
  have write (f : State → State) := congrArg (Host.Outcome.next (φ := Fault) (ρ := Refusal)) (State.hostWrite_reach f hr)
  refine ⟨?sqStarts, ?sqReserved, ?sqCfgErr, ?sqStops, ?cqStarts, ?cqStops, ?cqMapped, ?eqStarts, ?eqStops, ?lqStarts, ?lqStops⟩
  case sqStarts =>
    intro n v hp hbad hcq
    refine ⟨_, write _, ?_⟩
    rw [State.sqCfg_starts hq' hheld' (by simpa using hp) ((badLog2_set_en v true).trans hbad) (en_set v)
      (by simp only [State.touched_cqs, bitsOf_set_en v (show 4 + 4 ≤ 31 by decide)]; exact hcq)]
    have hweight := bitsOf_set_en v (show 8 + 4 ≤ 31 by decide)
    refine ⟨?_, ?_, ?_, Eq.trans ?_ hweight⟩ <;> simp [State.sqStart, Sq.cfg]
  case sqReserved =>
    intro n v hp hbad
    refine ⟨_, write _, ?_⟩
    rw [State.sqCfg_reserved (by simpa using hp) ((badLog2_set_en v true).trans hbad)]
    simp
  case sqCfgErr =>
    intro n v hp hbad hcq
    refine ⟨_, write _, ?_⟩
    rw [State.sqCfg_cfgErr hheld' (by simpa using hp) ((badLog2_set_en v true).trans hbad) (en_set v)
      (by simp only [State.touched_cqs, bitsOf_set_en v (show 4 + 4 ≤ 31 by decide)]; exact hcq)]
    simpa [Sq.cfg] using hp
  case sqStops =>
    intro n v hp hbad hf hc
    refine ⟨_, write _, ?_⟩
    rw [State.sqCfg_stops (by simpa using hp) ((badLog2_clear_en v _).trans (by simpa using hbad)) (en_clear v)]
    have h := State.sqStop_empty (s := s.touched.onSq n fun q => q.cfg (v &&& ~~~ cfgEn) s.touched.ring.hold) (n := n)
      (by simpa [Sq.cfg] using hf) (by simpa [Sq.cfg] using hc)
    simpa [Sq.cfg] using h
  case cqStarts =>
    intro n v hen hbad
    refine ⟨_, write _, ?_⟩
    rw [State.ringCfg_starts hq' hheld' (i := .cq n) ((s.touched_en _).trans hen) ((badLog2_set_en v true).trans hbad) (en_set v)]
    simp [State.afterStart, State.onCq, State.onIrqRing, Rings.setRing, Ring.start]
  case cqStops =>
    intro n v hen hbad hunmapped
    have hmap : s.touched.ring.mapped (.cq n) = false := by
      rw [← Bool.not_eq_true, Rings.mapped_cq]
      rintro ⟨m, hm, hp⟩
      exact hp (by simpa using hunmapped m (by simpa using hm))
    refine ⟨_, write _, ?_⟩
    rw [State.ringCfg_stops (i := .cq n) ((s.touched_en _).trans hen) ((badLog2_clear_en v _).trans (by simpa using hbad))
      (en_clear v) hmap]
    simp [State.ringStop, State.onCq]
  case cqMapped =>
    intro n m v hen hm hp
    have hmap : s.touched.ring.mapped (.cq n) = true := (Rings.mapped_cq ..).2 ⟨m, by simpa using hm, by simpa using hp⟩
    refine ⟨_, write _, ?_⟩
    rw [State.ringCfg_mapped (i := .cq n) ((s.touched_en _).trans hen) (en_clear v) hmap]
    simp
  case eqStarts =>
    intro v hen hbad
    refine ⟨_, write _, ?_⟩
    rw [State.ringCfg_starts hq' hheld' (i := .eq) ((s.touched_en _).trans hen) ((badLog2_set_en v true).trans hbad) (en_set v)]
    exact s.touched.started_ring .eq _
  case eqStops =>
    intro v hen hbad
    refine ⟨_, write _, ?_⟩
    rw [State.ringCfg_stops (i := .eq) ((s.touched_en _).trans hen) ((badLog2_clear_en v _).trans (by simpa using hbad)) (en_clear v) rfl]
    exact ⟨rfl, rfl⟩
  case lqStarts =>
    intro v hen hbad
    refine ⟨_, write _, ?_⟩
    rw [State.ringCfg_starts hq' hheld' (i := .lq) ((s.touched_en _).trans hen) ((badLog2_set_en v true).trans hbad) (en_set v)]
    exact ⟨rfl, rfl, rfl, by simp [State.afterStart, State.lqRestart]⟩
  case lqStops =>
    intro v hen hbad
    refine ⟨_, write _, ?_⟩
    rw [State.ringCfg_stops (i := .lq) ((s.touched_en _).trans hen) ((badLog2_clear_en v _).trans (by simpa using hbad)) (en_clear v) rfl]
    exact ⟨rfl, by simp [State.ringStop]⟩

end Sys2Proof.Machine
end

section
/-! Host hold (02 R39, R40, R72 to R75): the ways into it, and the resync that ends it. -/

namespace Sys2Proof.Machine

/-! ## Into host hold -/

@[simp] theorem State.enterHold_hold (s : State) : s.enterHold.ring.hold = true := by
  simp only [State.enterHold, State.onRing_ring]; split <;> simp [*]

@[simp] theorem State.enterHold_linkLost (s : State) : s.enterHold.ring.linkLost = s.ring.linkLost := by
  simp only [State.enterHold, State.onRing_ring]; split <;> rfl

@[simp] theorem State.enterHold_msix (s : State) : s.enterHold.ring.msix = s.ring.msix := by
  simp only [State.enterHold, State.onRing_ring]; split <;> rfl

@[simp] theorem State.enterHold_sqs (s : State) : s.enterHold.ring.sqs = s.ring.sqs := by
  simp only [State.enterHold, State.onRing_ring]; split <;> rfl

@[simp] theorem State.enterHold_d3hot (s : State) : s.enterHold.ring.d3hot = s.ring.d3hot := by
  simp only [State.enterHold, State.onRing_ring]; split <;> rfl

@[simp] theorem State.enterHold_dev (s : State) : s.enterHold.dev = s.dev := rfl
@[simp] theorem State.enterHold_mem (s : State) : s.enterHold.mem = s.mem := rfl

/-! ## A link event -/

/-- The next piece of a bus's work is the bus's alone (13 R389). -/
theorem Dev.mbNext_regs_power (s : Dev) (p : Fin 8) : (s.mbNext p).regs = s.regs ∧ (s.mbNext p).power = s.power := by
  unfold Dev.mbNext
  dsimp only
  split
  · exact ⟨rfl, rfl⟩
  · split
    · exact ⟨rfl, rfl⟩
    · exact ⟨rfl, rfl⟩
    · unfold Dev.mbTransmit
      split <;> exact ⟨rfl, rfl⟩

/-- A descriptor's place in a bus's work is the bus's alone (13 R389). -/
theorem Dev.mbDropHold_regs_power (s : Dev) (op : Nat) (d : Desc) :
    (s.mbDropHold op d).regs = s.regs ∧ (s.mbDropHold op d).power = s.power := by
  unfold Dev.mbDropHold
  split
  · split
    · exact Dev.mbNext_regs_power _ _
    · exact ⟨rfl, rfl⟩
  · exact ⟨rfl, rfl⟩

/-- Abandoned transfers change neither registers nor the power block (02 R75). -/
theorem State.abandon_regs_power (s : State) (sending : Bool) :
    (s.abandon sending).dev.regs = s.dev.regs ∧ (s.abandon sending).dev.power = s.dev.power := by
  have hstep (v : Dev) (q : QDesc) : ((if q.ghost then v else v.complete q.d .timeout 0).mbDropHold q.op q.d).regs = v.regs ∧
      ((if q.ghost then v else v.complete q.d .timeout 0).mbDropHold q.op q.d).power = v.power := by
    obtain ⟨hregs, hpower⟩ := Dev.mbDropHold_regs_power (if q.ghost then v else v.complete q.d .timeout 0) q.op q.d
    rw [hregs, hpower]
    split <;> exact ⟨rfl, rfl⟩
  simp only [State.abandon, State.onDev_dev, foldl_keeps Dev.regs fun v q => (hstep v q).1, foldl_keeps Dev.power fun v q => (hstep v q).2]
  split <;> exact ⟨rfl, rfl⟩

/-- Without its watchdog the host-loss policy never applies (16 R474). -/
theorem Dev.policyGo_off {s : Dev} (link hold : Bool) (h : s.power.wdtEn = false) : s.policyGo link hold = s := by
  simp [Dev.policyGo, h]

/-- The host attachment in host hold after a link event, its transfers not yet abandoned (02 R39, R72). -/
def State.linkHeld (s : State) (down : Bool) : State :=
  let s := s.onRing Rings.configReset
  (if down then s.onRing fun r => { r with linkUp := false, linkLost := r.linkLost || !r.hold } else s).enterHold

theorem State.linkReset_eq {s : State} (hq : s.qspi = false) (hdark : s.dev.dark = false) (down : Bool) :
    s.linkReset down = ((s.linkHeld down).abandon (!s.ring.quiet)).onDev fun v => v.policyGo true true := by
  simp [State.linkReset, hq, hdark, State.linkHeld]

@[simp] theorem State.linkHeld_dev (s : State) (down : Bool) : (s.linkHeld down).dev = s.dev := by cases down <;> rfl

/-- What a link event leaves (02 R39, R72, R75). -/
theorem State.linkReset_leaves {s : State} (hq : s.qspi = false) (hdark : s.dev.dark = false) (down : Bool) :
    (s.linkReset down).ring.hold ∧
      (s.linkReset down).ring.linkLost = (s.ring.linkLost || (down && !s.ring.hold)) ∧
      (∀ v : Fin 32, ((s.linkReset down).ring.msix[v]).mask) ∧
      (∀ n : Fin 16, (s.linkReset down).ring.sqs[n].phase = s.ring.sqs[n].phase ∧
        (s.linkReset down).ring.sqs[n].cons = s.ring.sqs[n].cons) ∧
      (s.dev.power.wdtEn = false → (s.linkReset down).dev.regs = s.dev.regs ∧ (s.linkReset down).dev.power = s.dev.power) := by
  obtain ⟨hregs, hpower⟩ := (s.linkHeld down).abandon_regs_power (!s.ring.quiet)
  rw [State.linkHeld_dev] at hregs hpower
  rw [State.linkReset_eq hq hdark]
  refine ⟨State.enterHold_hold _, ?_, fun v => ?_, fun n => ?_, fun hw => ?_⟩
  · cases down <;> simp [State.abandon, State.linkHeld, Rings.configReset]
  · cases down <;> simp [State.abandon, State.linkHeld, Rings.configReset]
  · cases down <;> simp [State.abandon, State.linkHeld, Rings.configReset]
  · rw [State.onDev_dev, Dev.policyGo_off _ _ (by rw [hpower, hw])]
    exact ⟨hregs, hpower⟩

/-! ## The checks of a resync -/

/-- An SQ counts with its size while its phase, among the settings, is ACTIVE or ERROR. -/
def Sq.size (q : Sq) : Option Nat := if q.phase = .active ∨ q.phase = .error then some q.log2 else none

def Cq.size (c : Cq) : Option Nat := if c.ring.en then some c.ring.log2 else none

theorem Sq.settings_size (q : Sq) : q.settings.size = q.size := by
  cases h : q.phase <;> simp [Sq.size, Sq.settings, h]

/-- The sizes of the enabled rings are settings. -/
theorem Rings.settings_sizes (r : Rings) : r.settings.sizes = r.sizes := by
  have hsq : (r.sqs.map Sq.settings).toList.map Sq.size = r.sqs.toList.map Sq.size := by
    rw [Vector.toList_map, List.map_map]
    exact List.map_congr_left fun q _ => q.settings_size
  have hcq : (r.cqs.map Cq.settings).toList.map Cq.size = r.cqs.toList.map Cq.size := by
    rw [Vector.toList_map, List.map_map]; rfl
  exact congrArg₂ (· ++ ·) (congrArg₂ (· ++ ·) hsq hcq) rfl

theorem Rings.sizes_congr {r r' : Rings} (h : r.settings = r'.settings) : r.sizes = r'.sizes := by
  rw [← r.settings_sizes, h, r'.settings_sizes]

theorem Rings.holdSizes_congr {r r' : Rings} (h : r.settings = r'.settings) : r.holdSizes = r'.holdSizes := by
  have e := congrArg Rings.holdSizes h
  exact e

/-- The checks of a resync descriptor read settings alone (02 R73). -/
theorem State.resyncStatus_congr {s t : State} (h : s.ring.settings = t.ring.settings) (d : RawDesc) :
    s.resyncStatus d = t.resyncStatus d := by
  have hcq (n : Nat) (hn : n < 16) : (s.ring.cqs[n]).ring.en = (t.ring.cqs[n]).ring.en := Rings.en_congr h (.cq ⟨n, hn⟩)
  simp only [State.resyncStatus, Rings.sizes_congr h, Rings.holdSizes_congr h, hcq]

/-! ## In host hold nothing is written at the host -/

theorem State.flushChain_mem (s : State) (n : Fin 16) (ms : List RawDesc) : (s.flushChain n ms).mem = s.mem := by
  induction ms generalizing s with
  | nil => rfl
  | cons m ms ih =>
    unfold State.flushChain
    split
    · rfl
    · split
      · rfl
      · exact ih _

theorem State.memberDone_mem (s : State) (c : Completion) : (s.memberDone c).mem = s.mem := by
  unfold State.memberDone; split
  · rfl
  · exact State.flushChain_mem ..

/-- A completion goes to its CQ's cache, or its bulk data wait (02 R72). -/
theorem State.completionWrite_mem_of_quiet {s : State} (h : s.ring.quiet) : s.completionWrite.mem = s.mem := by
  unfold State.completionWrite
  split
  · rfl
  · split
    · simp [State.writeOrphans, h]
    · rw [State.memberDone_mem]; simp [State.putCq, h, State.onCq]

theorem State.drainEvents_of_quiet {s : State} (h : s.ring.quiet) : s.drainEvents = s := by
  cases hc : s.ring.eqCache <;> simp [State.drainEvents, hc, State.drainEq, h]

theorem State.acceptEvent_mem (s : State) (e : Event) : (s.acceptEvent e).mem = s.mem := by
  unfold State.acceptEvent; split <;> rfl

/-- An event goes to the EQ cache (02 R72). -/
theorem State.eventWrite_mem_of_quiet {s : State} (h : s.ring.quiet) : s.eventWrite.mem = s.mem := by
  have hkeep (u : State) (hu : u.ring.settings = s.ring.settings) : u.drainEvents = u :=
    State.drainEvents_of_quiet ((Rings.quiet_congr hu).trans h)
  unfold State.eventWrite
  rw [State.drainEvents_of_quiet h]
  dsimp only
  split
  · rfl
  · next e es _ =>
    let u := s.onDev fun v => { v with raised := es }
    exact (congrArg State.mem (hkeep _ (u.acceptEvent_settings e))).trans (u.acceptEvent_mem e)

/-- A fold whose steps, in host hold, keep the memory and what settles host hold. -/
theorem State.foldl_mem_of_quiet {α : Type} {f : State → State} (hset : ∀ s, (f s).ring.settings = s.ring.settings)
    (hmem : ∀ s, s.ring.quiet → (f s).mem = s.mem) (l : List α) {s : State} (h : s.ring.quiet) :
    (l.foldl (fun s _ => f s) s).ring.quiet ∧ (l.foldl (fun s _ => f s) s).mem = s.mem := by
  induction l generalizing s with
  | nil => exact ⟨h, rfl⟩
  | cons a l ih =>
    obtain ⟨hq, hm⟩ := ih (s := f s) ((Rings.quiet_congr (hset s)).trans h)
    exact ⟨hq, hm.trans (hmem s h)⟩

theorem State.settleHold_mem {s : State} (h : s.ring.quiet) : s.settleHold.mem = s.mem := by
  obtain ⟨hq, hm⟩ := State.foldl_mem_of_quiet State.completionWrite_settings (fun _ => State.completionWrite_mem_of_quiet) s.dev.done h
  exact (State.foldl_mem_of_quiet State.eventWrite_settings (fun _ => State.eventWrite_mem_of_quiet) _ hq).2.trans hm

/-! ## The end of host hold -/

/-- FLUSH keeps the results of the resync slot (02 R74). -/
theorem State.flushRings_resync (s : State) :
    s.flushRings.ring.resyncSt = s.ring.resyncSt ∧ s.flushRings.ring.resyncSeen = s.ring.resyncSeen := by
  have hlaunch (s : State) (n : Fin 16) (ds : List RawDesc) :
      (ds.foldl (fun s d => s.onDev fun v => v.launch (rawOp d) (descOf n d false) true) s).ring = s.ring :=
    foldl_keeps State.ring (fun (s : State) d => s.onDev_ring fun v => v.launch (rawOp d) (descOf n d false) true) ds s
  constructor <;> simp [State.flushRings, State.lqRestart, foldl_keeps State.ring fun s n => hlaunch s n _]

theorem Rings.resync_congr {r r' : Rings} (h : r.settings = r'.settings) :
    r.resyncSt = r'.resyncSt ∧ r.resyncSeen = r'.resyncSeen := by
  have hst := congrArg Rings.resyncSt h
  have hseen := congrArg Rings.resyncSeen h
  exact ⟨hst, hseen⟩

/-- A resync that is taken ends host hold and keeps the results of the resync slot (02 R74). -/
theorem State.resyncGo_leaves (s : State) (d : RawDesc) :
    (s.resyncGo d).ring.hold = false ∧ (s.resyncGo d).ring.resyncSt = s.ring.resyncSt ∧
      (s.resyncGo d).ring.resyncSeen = s.ring.resyncSeen := by
  let u := if d.extractLsb' 64 8 = 1 then s.flushRings else s
  have hu : u.ring.resyncSt = s.ring.resyncSt ∧ u.ring.resyncSeen = s.ring.resyncSeen := by
    unfold u; split
    · exact s.flushRings_resync
    · exact ⟨rfl, rfl⟩
  have hset : (s.resyncGo d).ring.settings = ({ u.ring with hold := false, holdSizes := [] } : Rings).settings := by
    simp [State.resyncGo, u]
  obtain ⟨hst, hseen⟩ := Rings.resync_congr hset
  exact ⟨Rings.hold_congr hset, hst.trans hu.1, hseen.trans hu.2⟩

/-! ## A resync descriptor -/

/-- A resync descriptor that reaches the device: host activity, and the descriptor in the resync slot (02 R73). -/
def State.resyncSlot (s : State) (d : RawDesc) : State :=
  (s.touched.onRing fun r => { r with slot := d }).onDev fun v => v.hostActive false

@[simp] theorem State.resyncSlot_mem (s : State) (d : RawDesc) : (s.resyncSlot d).mem = s.mem := s.touched_mem

@[simp] theorem State.resyncSlot_hold (s : State) (d : RawDesc) : (s.resyncSlot d).ring.hold = s.ring.hold := s.touched_hold

theorem State.resyncSlot_status (s : State) (d : RawDesc) : (s.resyncSlot d).resyncStatus d = s.resyncStatus d := by
  rw [State.resyncSlot, State.touched_eq]; rfl

/-- The checks are made once what has come about stands in the caches (02 R72, R73). -/
theorem State.settled_status (s : State) (d : RawDesc) : (s.resyncSlot d).settleHold.resyncStatus d = s.resyncStatus d := by
  rw [State.resyncStatus_congr (State.settleHold_settings _), State.resyncSlot_status]

/-- The state in which a resync descriptor is answered in host hold, its status in the slot. -/
def State.resyncAnswer (s : State) (d : RawDesc) : State :=
  (s.resyncSlot d).settleHold.onRing fun r => { r with resyncSt := BitVec.ofNat 8 (s.resyncStatus d).num, resyncSeen := true }

/-- In host hold the checks decide whether a resync descriptor is taken or refused (02 R73, R74). -/
theorem State.resync_held {s : State} {d : RawDesc} (hr : s.reach) (hh : s.ring.hold) :
    s.resync d = if s.resyncStatus d = .ok then (s.resyncAnswer d).resyncGo d
      else (s.resyncAnswer d).onDev fun v =>
        (v.report hHe 1 .warn LG_RESYNC_IGNORED (mkWord [(0, 8, (s.resyncStatus d).num)])).1 := by
  have hst := s.settled_status d
  unfold State.resyncSlot at hst
  simp [State.resync, hr, hh, hst, State.resyncAnswer, State.resyncSlot]

/-- Outside host hold a resync descriptor is ignored (02 R73). -/
theorem State.resync_ignored {s : State} {d : RawDesc} (hr : s.reach) (hh : s.ring.hold = false) :
    s.resync d = (s.resyncSlot d).onDev fun v => v.ringError .warn LG_RESYNC_IGNORED := by
  simp [State.resync, hr, hh, State.resyncSlot]

/-- Settles O13, one way into host hold and one outcome of a resync at a time. -/
theorem hostHold : Obligations.HostHold := by
  unfold Obligations.HostHold
  intro s hdark
  refine ⟨?ringCtlHold, ?dlDown, ?hotReset, ?d3hotEntry, ?taken, ?refused, ?ignored⟩
  case ringCtlHold =>
    intro hr
    exact ⟨_, congrArg Host.Outcome.next (State.hostWrite_reach _ hr), by simp⟩
  case dlDown =>
    intro hq
    obtain ⟨hhold, hlost, hleft⟩ := State.linkReset_leaves hq hdark true
    exact ⟨_, rfl, hhold, fun hh => by simp [hlost, hh], hleft⟩
  case hotReset =>
    intro hq
    obtain ⟨hhold, hlost, hleft⟩ := State.linkReset_leaves hq hdark false
    exact ⟨_, rfl, hhold, by simp [hlost], hleft⟩
  case d3hotEntry =>
    intro hq
    refine ⟨_, rfl, ?_⟩
    simp [State.d3hot, hq, hdark]
  case taken =>
    intro d hr hh hst
    obtain ⟨hhold, hresync, hseen⟩ := (s.resyncAnswer d).resyncGo_leaves d
    refine ⟨_, congrArg Host.Outcome.next ((State.resync_held hr hh).trans (if_pos hst)), hhold, hresync.trans ?_, hseen.trans rfl⟩
    simp [State.resyncAnswer, hst, Status.num]
  case refused =>
    intro d hr hh hst
    have hquiet : (s.resyncSlot d).ring.quiet := by simp [Rings.quiet, hh]
    have hhold : (s.resyncSlot d).settleHold.ring.hold = (s.resyncSlot d).ring.hold := Rings.hold_congr (State.settleHold_settings _)
    refine ⟨_, congrArg Host.Outcome.next ((State.resync_held hr hh).trans (if_neg hst)), ?_, rfl, rfl, ?_⟩
    · exact hhold.trans ((s.resyncSlot_hold d).trans hh)
    · exact (State.settleHold_mem hquiet).trans (s.resyncSlot_mem d)
  case ignored =>
    intro d hr hh
    refine ⟨_, congrArg Host.Outcome.next (State.resync_ignored hr hh), (s.resyncSlot_hold d).trans hh, ?_, s.touched_sqs,
      s.touched_mem⟩
    simp [State.resyncSlot, State.touched_eq]

end Sys2Proof.Machine
end

section
/-! Quad-SPI transfers in the ring window, and the transfers rejected (02 R41 to R43). -/

namespace Sys2Proof.Machine

/-! ## Words and their bytes -/

theorem ofBytesLE_lt (l : List Byte) : ofBytesLE l < 256 ^ l.length := by
  induction l with
  | nil => exact Nat.one_pos
  | cons b l ih =>
    have hb : b.toNat < 256 := b.isLt
    rw [ofBytesLE, List.length_cons, Nat.pow_succ]
    omega

/-- Bytes read as a number are laid down again as they were. -/
theorem bytesLE_ofBytesLE (l : List Byte) : bytesLE l.length (ofBytesLE l) = l := by
  induction l with
  | nil => rfl
  | cons b l ih =>
    have hb : b.toNat < 256 := b.isLt
    have hdiv : (b.toNat + 256 * ofBytesLE l) / 256 = ofBytesLE l := by omega
    have hlow : BitVec.ofNat 8 (b.toNat + 256 * ofBytesLE l) = b := BitVec.eq_of_toNat_eq (by simp; omega)
    rw [ofBytesLE, List.length_cons, bytesLE, hdiv, hlow, ih]

/-- Four bytes make a word and come back from it. -/
theorem bytesLE_word {l : List Byte} (h : l.length = 4) : bytesLE 4 (BitVec.ofNat 32 (ofBytesLE l)).toNat = l := by
  have hlt := ofBytesLE_lt l
  rw [h] at hlt
  rw [BitVec.toNat_ofNat, Nat.mod_eq_of_lt (b := 2 ^ 32) hlt, ← h, bytesLE_ofBytesLE]

theorem memReadBytes_length (m : Memory) (a n : Nat) : (memReadBytes m a n).length = n := by
  induction n generalizing a with
  | zero => rfl
  | succ n ih => simp [memReadBytes, ih]

theorem memReadBytes_add (m : Memory) (a i j : Nat) : memReadBytes m a (i + j) = memReadBytes m a i ++ memReadBytes m (a + i) j := by
  induction i generalizing a with
  | zero => simp [memReadBytes]
  | succ i ih =>
    rw [Nat.succ_add, memReadBytes, memReadBytes, ih, List.cons_append, Nat.add_assoc, Nat.add_comm 1 i]

theorem memWriteBytes_append (m : Memory) (a : Nat) (l l' : List Byte) :
    memWriteBytes m a (l ++ l') = memWriteBytes (memWriteBytes m a l) (a + l.length) l' := by
  induction l generalizing m a with
  | nil => rfl
  | cons b l ih =>
    rw [List.cons_append, memWriteBytes, memWriteBytes, ih, List.length_cons, Nat.add_assoc, Nat.add_comm 1 l.length]

/-! ## The ring window -/

theorem qRegion_window {a : Nat} (h : 0x020000 ≤ a) (h' : a < 0x040000) : qRegion a = .window := by
  unfold qRegion
  rw [if_neg (by omega), if_neg (by omega), if_pos ⟨h, h'⟩]

/-- Aligned transfers inside the window are within the limits (02 R43). -/
theorem qFits_window {a n : Nat} (ha : a % 4 = 0) (hn : n ≤ 256) (h : 0x020000 ≤ a) (h' : a + n ≤ 0x040000) : qFits a n := by
  have hend : a + n ≤ 16777216 := by omega
  rcases Nat.eq_zero_or_pos n with rfl | hpos
  · simp [qFits, ha]
  · simp [qFits, ha, hn, hend, qRegion_window h (by omega), qRegion_window (a := a + n - 1) (by omega) (by omega)]

/-- Words read in the window are its bytes, and the reads leave no trace (02 R42). -/
theorem State.qReadWords_window (s : State) (acc : List Byte) (k : Nat) {a : Nat} (h : 0x020000 ≤ a) (h' : a + 4 * k ≤ 0x040000) :
    s.qReadWords a acc k = (acc ++ memReadBytes s.mem.win a (4 * k), s) := by
  induction k generalizing a acc with
  | zero => simp [State.qReadWords, memReadBytes]
  | succ k ih =>
    have hword : s.qReadWord a = (BitVec.ofNat 32 (ofBytesLE (memReadBytes s.mem.win a 4)), s) := by
      simp [State.qReadWord, qRegion_window h (by omega)]
    rw [State.qReadWords, hword, ih _ (by omega) (by omega), bytesLE_word (memReadBytes_length ..), List.append_assoc,
      ← memReadBytes_add, Nat.mul_succ, Nat.add_comm 4]

/-- The ring window after bytes were written to it. -/
def State.withWindow (s : State) (a : Nat) (bs : List Byte) : State :=
  { s with mem := { s.mem with win := memWriteBytes s.mem.win a bs } }

/-- Words written in the window are its bytes (02 R42). -/
theorem State.qWriteWords_window (s : State) (k : Nat) {a : Nat} {bs : List Byte} (hlen : bs.length = 4 * k) (h : 0x020000 ≤ a)
    (h' : a + 4 * k ≤ 0x040000) : s.qWriteWords a bs k = s.withWindow a bs := by
  induction k generalizing s a bs with
  | zero =>
    obtain rfl : bs = [] := List.eq_nil_of_length_eq_zero hlen
    rfl
  | succ k ih =>
    have htake : (bs.take 4).length = 4 := by rw [List.length_take]; omega
    have hword : s.qWriteWord a (BitVec.ofNat 32 (ofBytesLE (bs.take 4))) = s.withWindow a (bs.take 4) := by
      simp only [State.qWriteWord, qRegion_window h (show a < 0x040000 by omega), bytesLE_word htake]
      rfl
    have happend : memWriteBytes s.mem.win a bs = memWriteBytes (memWriteBytes s.mem.win a (bs.take 4)) (a + 4) (bs.drop 4) := by
      conv_lhs => rw [← List.take_append_drop 4 bs]
      rw [memWriteBytes_append, htake]
    rw [State.qWriteWords, hword, ih _ (by rw [List.length_drop]; omega) (by omega) (by omega)]
    simp only [State.withWindow, happend]

/-! ## Transfers -/

section
variable {s : State} {a : Nat}

/-- A read of whole words in the window (02 R41, R42). -/
theorem State.qRead_window {n : Nat} (hq : s.qspi) (hdark : s.dev.dark = false) (ha : a % 4 = 0) (hn : n % 4 = 0) (hlen : n ≤ 256)
    (h : 0x020000 ≤ a) (h' : a + n ≤ 0x040000) : s.qRead a n = s.answer (memReadBytes s.mem.win a n) := by
  have hk : 4 * (n / 4) = n := by omega
  have hwords := s.qReadWords_window [] (n / 4) h (by omega)
  rw [hk, List.nil_append] at hwords
  simp [State.qRead, hq, hdark, qFits_window ha hlen h h', hn, hwords]

/-- A write of whole words in the window; ERR stays as it is (02 R41, R42). -/
theorem State.qWrite_window {bs : List Byte} (hq : s.qspi) (hdark : s.dev.dark = false) (ha : a % 4 = 0) (hn : bs.length % 4 = 0)
    (hlen : bs.length ≤ 256) (h : 0x020000 ≤ a) (h' : a + bs.length ≤ 0x040000) :
    s.qWrite a bs = (s.withWindow a bs).qErr false := by
  have hwords := s.qWriteWords_window (bs.length / 4) (a := a) (bs := bs) (by omega) h (by omega)
  simp [State.qWrite, hq, hdark, qFits_window ha hlen h h', hn, hwords]

/-- A write that does not begin at a word, or is too long, is rejected (02 R43). -/
theorem State.qWrite_rejected {bs : List Byte} (hq : s.qspi) (hdark : s.dev.dark = false) (h : a % 4 ≠ 0 ∨ 256 < bs.length) :
    s.qWrite a bs = s.qErr true := by
  have hfits : qFits a bs.length = false := by
    rcases h with h | h <;> simp [qFits, h]
  simp [State.qWrite, hq, hdark, hfits]

end

/-- Settles O14: transfers in the ring window move its bytes alone, and a rejected one sets ERR alone. -/
theorem quadSpi : Obligations.QuadSpi := by
  unfold Obligations.QuadSpi
  intro s hq hdark
  refine ⟨?reads, ?writes, ?rejected, ?status⟩
  case reads =>
    intro a n ha hn hlen hlo hhi
    have hread : Answers (.read a n) s fun t =>
        t.ring.rdata = memReadBytes s.mem.win a.toNat n ∧ t.ring.qerr = s.ring.qerr ∧ t.mem = s.mem ∧ t.dev = s.dev :=
      ⟨_, congrArg Host.Outcome.next (State.qRead_window hq hdark ha hn hlen hlo hhi), rfl, rfl, rfl, rfl⟩
    simp only [List.forall_mem_cons, List.not_mem_nil, false_implies, implies_true, and_true]
    exact ⟨hread, hread, hread⟩
  case writes =>
    intro a bs ha hn hlen hlo hhi hm
    have hwrite : Answers (.write a bs) s fun t =>
        memReadBytes t.mem.win a.toNat bs.length = bs ∧ t.ring.qerr = s.ring.qerr ∧ t.dev = s.dev ∧ t.mem.host = s.mem.host ∧
        ∀ b, b < a.toNat ∨ a.toNat + bs.length ≤ b → memRead t.mem.win b = memRead s.mem.win b :=
      ⟨_, congrArg Host.Outcome.next (State.qWrite_window hq hdark ha hn hlen hlo hhi), memReadBytes_memWriteBytes _ _ hm.2,
        Bool.or_false _, rfl, rfl, fun _ hb => memRead_memWriteBytes_other bs hb hm.2⟩
    simp only [List.forall_mem_cons, List.not_mem_nil, false_implies, implies_true, and_true]
    exact ⟨hwrite, hwrite⟩
  case rejected =>
    intro a bs hbad
    have hwrite : Answers (.write a bs) s fun t => t.ring.qerr ∧ t.mem = s.mem ∧ t.dev = s.dev :=
      ⟨_, congrArg Host.Outcome.next (State.qWrite_rejected hq hdark hbad), Bool.or_true _, rfl, rfl⟩
    simp only [List.forall_mem_cons, List.not_mem_nil, false_implies, implies_true, and_true]
    exact ⟨hwrite, hwrite⟩
  case status =>
    refine ⟨(s.answer [s.qStatus]).onRing fun r => { r with qerr := false }, congrArg Host.Outcome.next ?_, rfl, rfl, rfl, rfl⟩
    simp [hq, hdark]

end Sys2Proof.Machine
end

section
/-! The endpoint (02 R36, R38, R40, R68, 16 R460, 18 R513): MSI-X messages that a mask held back, configuration writes and L1. -/

namespace Sys2Proof.Machine

/-! ## Pending messages -/

theorem Rings.fnMask_congr {r r' : Rings} (h : r.settings = r'.settings) : r.fnMask = r'.fnMask := by
  have e := congrArg Rings.fnMask h
  exact e

theorem Rings.msixEn_congr {r r' : Rings} (h : r.settings = r'.settings) : r.msixEn = r'.msixEn := by
  have e := congrArg Rings.msixEn h
  exact e

theorem Rings.mask_congr {r r' : Rings} (h : r.settings = r'.settings) (v : Fin 32) : r.msix[v.val].mask = r'.msix[v.val].mask := by
  have e : (r.msix.map Msix.settings)[v.val].mask = (r'.msix.map Msix.settings)[v.val].mask :=
    congrArg (fun x : Rings => x.msix[v.val].mask) h
  rw [Vector.getElem_map, Vector.getElem_map] at e
  exact e

/-- Whether a message may leave is settled by the settings. -/
theorem Rings.canSend_congr {r r' : Rings} (h : r.settings = r'.settings) (v : Fin 32) : r.canSend v = r'.canSend v := by
  simp only [Rings.canSend, Rings.quiet_congr h, Rings.msixEn_congr h, Rings.fnMask_congr h, Rings.mask_congr h v]

/-- A vector's message leaves if it is pending and may leave (02 R68). -/
def State.sendOne (s : State) (v : Fin 32) : State :=
  if s.ring.msix[v.val].pending ∧ s.ring.canSend v then
    (s.onRing fun r => { r with msix := vmod r.msix v fun e => { e with pending := false } }).message v
  else s

theorem State.sendPending_eq (s : State) : s.sendPending = (List.finRange 32).foldl State.sendOne s := rfl

theorem State.store_msix (s : State) (a : Nat) (bs : List Byte) : (s.store a bs).ring.msix = s.ring.msix := by
  unfold State.store
  repeat' split
  all_goals rfl

@[simp] theorem State.message_msix (s : State) (v : Fin 32) : (s.message v).ring.msix = s.ring.msix := State.store_msix ..

theorem State.sendOne_settings (s : State) (v : Fin 32) : (s.sendOne v).ring.settings = s.ring.settings := by
  unfold State.sendOne
  split
  · exact (State.message_settings ..).trans (s.onMsix_settings v false)
  · rfl

/-- A message that leaves is no longer pending; no other pending bit changes. -/
theorem State.sendOne_pending (s : State) (u v : Fin 32) :
    (s.sendOne u).ring.msix[v.val].pending = (s.ring.msix[v.val].pending && !(decide (v = u) && s.ring.canSend v)) := by
  unfold State.sendOne
  rcases eq_or_ne v u with rfl | hne
  · split
    · next h => simp [h.1, h.2]
    · next h => cases hp : s.ring.msix[v.val].pending <;> simp_all
  · have hval : u.val ≠ v.val := fun e => hne (Fin.ext e.symm)
    split <;> simp [hne, vmod, hval]

/-- A vector that is not pending sends nothing. -/
theorem State.sendOne_of_not_pending {s : State} {v : Fin 32} (h : s.ring.msix[v.val].pending = false) : s.sendOne v = s := by
  simp [State.sendOne, h]

theorem State.foldl_sendOne_pending (s : State) (l : List (Fin 32)) (v : Fin 32) :
    (l.foldl State.sendOne s).ring.msix[v.val].pending = (s.ring.msix[v.val].pending && !(decide (v ∈ l) && s.ring.canSend v)) := by
  induction l generalizing s with
  | nil => simp
  | cons u l ih =>
    rw [List.foldl_cons, ih, State.sendOne_pending, Rings.canSend_congr (s.sendOne_settings u)]
    cases s.ring.canSend v <;> by_cases h : v = u <;> simp [h]

/-- After the pending messages that may leave have left, those that may not leave are pending (02 R68). -/
theorem State.sendPending_pending (s : State) (v : Fin 32) :
    s.sendPending.ring.msix[v.val].pending = (s.ring.msix[v.val].pending && !s.ring.canSend v) := by
  rw [State.sendPending_eq, State.foldl_sendOne_pending]
  simp

/-- Where no vector is pending nothing is sent. -/
theorem State.foldl_sendOne_idle {s : State} (l : List (Fin 32)) (h : ∀ u ∈ l, s.ring.msix[u.val].pending = false) :
    l.foldl State.sendOne s = s := by
  induction l with
  | nil => rfl
  | cons u l ih =>
    rw [List.forall_mem_cons] at h
    rw [List.foldl_cons, State.sendOne_of_not_pending h.1, ih h.2]

/-- Where one vector is pending, its message is all that is sent. -/
theorem State.sendPending_only {s : State} {v : Fin 32} (hsend : s.ring.canSend v)
    (hothers : ∀ u : Fin 32, u ≠ v → s.ring.msix[u.val].pending = false) : s.sendPending = s.sendOne v := by
  obtain ⟨before, after, hsplit, hbefore⟩ := List.eq_append_cons_of_mem (List.mem_finRange v)
  have hafter (u : Fin 32) : (s.sendOne v).ring.msix[u.val].pending = false := by
    rw [State.sendOne_pending]
    by_cases hu : u = v
    · subst hu; simp [hsend]
    · simp [hothers u hu]
  rw [State.sendPending_eq, hsplit, List.foldl_append,
    State.foldl_sendOne_idle before fun u hu => hothers u fun e => hbefore (e ▸ hu), List.foldl_cons,
    State.foldl_sendOne_idle after fun u _ => hafter u]

/-- The address of a vector's message (19 R528). -/
def Msix.addr (e : Msix) : Nat := e.addrLo.toNat + e.addrHi.toNat * 4294967296

/-- A message that leaves is a write of DATA at its address, over PCI Express (19 R528). -/
theorem State.sendOne_host {s : State} {v : Fin 32} (hq : s.qspi = false) (hp : s.ring.msix[v.val].pending) (hsend : s.ring.canSend v) :
    (s.sendOne v).mem.host = memWriteBytes s.mem.host s.ring.msix[v.val].addr (bytesLE 4 s.ring.msix[v.val].data.toNat) := by
  let u := s.onRing fun r => { r with msix := vmod r.msix v fun e => { e with pending := false } }
  have hentry : u.ring.msix[v.val] = { s.ring.msix[v.val] with pending := false } := by simp [u]
  have hq' : u.qspi = false := hq
  have hone : s.sendOne v = u.message v := if_pos ⟨hp, hsend⟩
  rw [hone, State.message, State.store_pcie _ _ hq', hentry]
  rfl

/-! ## Unmasking a vector -/

/-- A vector unmasked, its pending message not yet sent. -/
def State.unmask (s : State) (v : Fin 32) : State :=
  s.touched.onRing fun r => { r with msix := vmod r.msix v fun e => { e with mask := false } }

theorem State.unmask_eq (s : State) (v : Fin 32) :
    s.unmask v = s.onRing fun r => { r with
      linkUp := !s.qspi || r.linkUp, l1 := s.qspi && r.l1, msix := vmod r.msix v fun e => { e with mask := false } } := by
  unfold State.unmask
  rw [s.touched_eq]
  rfl

theorem State.unmask_entry (s : State) (v : Fin 32) : (s.unmask v).ring.msix[v.val] = { s.ring.msix[v.val] with mask := false } := by
  simp [State.unmask_eq]

theorem State.unmask_pending (s : State) (u v : Fin 32) : (s.unmask v).ring.msix[u.val].pending = s.ring.msix[u.val].pending := by
  rw [State.unmask_eq]
  by_cases h : v.val = u.val <;> simp [vmod, h]

/-- An unmasked vector's message may leave when nothing else holds it back (02 R68). -/
theorem State.unmask_canSend {s : State} (v : Fin 32) (hquiet : s.ring.quiet = false) (hen : s.ring.msixEn) (hfn : s.ring.fnMask = false) :
    (s.unmask v).ring.canSend v := by
  have hquiet' : (s.unmask v).ring.quiet = false := by rw [State.unmask_eq]; exact hquiet
  have hen' : (s.unmask v).ring.msixEn = true := by rw [State.unmask_eq]; exact hen
  have hfn' : (s.unmask v).ring.fnMask = false := by rw [State.unmask_eq]; exact hfn
  simp only [Rings.canSend, hquiet', hen', hfn', State.unmask_entry]
  rfl

theorem State.unmask_qspi (s : State) (v : Fin 32) : (s.unmask v).qspi = s.qspi := s.touched_qspi

theorem State.unmask_mem (s : State) (v : Fin 32) : (s.unmask v).mem = s.mem := s.touched_mem

theorem State.exec_unmask {s : State} (v : Fin 32) (hq : s.qspi = false) (hr : s.reach) :
    exec (.msixVectorUnmask v) s = .next (s.unmask v).sendPending :=
  congrArg Host.Outcome.next ((if_neg (by simp [hq])).trans (State.hostWrite_reach _ hr))

/-! ## Configuration writes -/

theorem State.touched_cfg (s : State) : s.touched.ring.cfg = s.ring.cfg := by rw [s.touched_eq, State.onRing_ring]

/-- A configuration write to Command changes it, and nothing of the device (02 R36). -/
theorem State.command_leaves (s : State) (m b : Bool) :
    (s.command m b).ring.cfg = { s.ring.cfg with memSpace := m, busMaster := b } ∧ (s.command m b).dev = s.dev := by
  unfold State.command
  dsimp only
  split
  · refine ⟨Rings.cfg_congr (r' := { s.ring with cfg := { s.ring.cfg with memSpace := m, busMaster := b } }) (by simp), by simp⟩
  · exact ⟨rfl, rfl⟩

/-- Until READY a configuration write has no effect but the access (18 R513). -/
theorem State.configWrite_retry {s : State} (w : CfgWrite) (hq : s.qspi = false) (hdark : s.dev.dark = false)
    (h : s.dev.regs.ready = false) : s.configWrite w = s.touched := by
  simp [State.configWrite, hq, hdark, h]

/-- Settles O15, over PCI Express. -/
theorem endpoint : Obligations.Endpoint := by
  unfold Obligations.Endpoint
  intro s hq hdark
  refine ⟨?unmask, ?message, ?ready, ?retry, ?l1, ?noL1⟩
  case unmask =>
    intro v hr
    refine ⟨_, State.exec_unmask v hq hr, ?_, fun hquiet hen hfn => ?_⟩
    · exact (Rings.mask_congr (State.sendPending_settings _) v).trans (congrArg Msix.mask (s.unmask_entry v))
    · exact (State.sendPending_pending ..).trans (by rw [State.unmask_canSend v hquiet hen hfn]; simp)
  case message =>
    intro v hr hm hquiet hen hfn hp hothers
    have hsend := State.unmask_canSend v hquiet hen hfn
    have honly := State.sendPending_only hsend fun u hu => (s.unmask_pending u v).trans (hothers u hu)
    refine ⟨_, (State.exec_unmask v hq hr).trans (congrArg _ honly), ?_⟩
    have hhost := State.sendOne_host ((s.unmask_qspi v).trans hq) ((s.unmask_pending v v).trans hp) hsend
    rw [State.unmask_entry, State.unmask_mem] at hhost
    have hlen := bytesLE_length 4 (s.ring.msix[v.val]).data.toNat
    have hread := memReadBytes_memWriteBytes s.ring.msix[v.val].addr (bytesLE 4 (s.ring.msix[v.val]).data.toNat) hm.1
    rw [hlen] at hread
    refine ⟨(congrArg (memReadBytes · _ 4) hhost).trans hread, fun b hb => ?_⟩
    exact (congrArg (memRead · b) hhost).trans (memRead_memWriteBytes_other _ (hlen.symm ▸ hb) hm.1)
  case ready =>
    intro hready
    have write {w : CfgWrite} {t : State} (h : s.configWrite w = t) : exec (.pcieConfigWrite w) s = .next t :=
      congrArg Host.Outcome.next h
    refine ⟨fun m b => ?command, fun k hk => ?readSize, fun m => ?fnMask, fun m => ?msixEn, fun m => ?aspmL1, ?d0, ?d3⟩
    case command =>
      obtain ⟨hcfg, hdev⟩ := s.touched.command_leaves m b
      refine ⟨s.touched.command m b, write (by simp [State.configWrite, hq, hdark, hready]), hcfg.trans ?_, hdev.trans s.touched_dev⟩
      rw [State.touched_cfg]
    case readSize =>
      exact ⟨s.touched.onRing fun r => { r with cfg := { r.cfg with maxRead := k.val } },
        write (by simp [State.configWrite, hq, hdark, hready, hk]), rfl, s.touched_dev⟩
    case fnMask =>
      exact ⟨(s.touched.onRing fun r => { r with fnMask := m }).sendPending, write (by simp [State.configWrite, hq, hdark, hready]),
        Rings.fnMask_congr (State.sendPending_settings _), by simp⟩
    case msixEn =>
      exact ⟨(s.touched.onRing fun r => { r with msixEn := m }).sendPending, write (by simp [State.configWrite, hq, hdark, hready]),
        Rings.msixEn_congr (State.sendPending_settings _), by simp⟩
    case aspmL1 =>
      exact ⟨s.touched.onRing fun r => { r with aspmL1 := m }, write (by simp [State.configWrite, hq, hdark, hready]), rfl,
        s.touched_dev⟩
    case d0 =>
      exact ⟨s.touched.onRing fun r => { r with d3hot := false }, write (by simp [State.configWrite, hq, hdark, hready]), rfl,
        s.touched_hold, s.touched_dev⟩
    case d3 =>
      refine ⟨s.touched.d3hot, write (by simp [State.configWrite, hq, hdark, hready]), ?_⟩
      simp [State.d3hot, hq, hdark]
  case retry =>
    intro w hready
    refine ⟨_, congrArg Host.Outcome.next (State.configWrite_retry w hq hdark hready), ?_⟩
    simp [State.touched_eq]
  case l1 =>
    intro hup hl1 hstate
    exact ⟨_, congrArg Host.Outcome.next (if_pos (by simp [hq, hdark, hup, hl1, hstate])), rfl, rfl⟩
  case noL1 =>
    intro hl1
    exact ⟨_, congrArg Host.Outcome.next (if_neg (by simp [hl1])), rfl⟩

end Sys2Proof.Machine
end

section
/-! The state after reset (19 R521, R522 and the values that the other chapters give). -/

namespace Sys2Proof.Machine

/-- At reset every ring is disabled (02 R69, R71). -/
theorem State.reset_rings_disabled (n : Fin 16) :
    State.reset.ring.sqs[n].phase = .disabled ∧ State.reset.ring.cqs[n].ring.en = false := by
  simp [State.reset, Rings.reset]

theorem State.reset_loop (n : Fin 144) : State.reset.dev.loops[n] = {} := by simp [State.reset, Dev.reset]

theorem State.reset_vport (p : Fin 16) : State.reset.dev.vports[p] = VPort.reset := by simp [State.reset, Dev.reset]

theorem State.reset_bb (p : Fin 8) : State.reset.dev.bbs[p] = BbPort.reset := by simp [State.reset, Dev.reset]

theorem State.reset_sb (p : Fin 8) : State.reset.dev.sbs[p] = SbPort.reset := by simp [State.reset, Dev.reset]

/-- Settles O5, block by block. -/
theorem resetState : Obligations.ResetState := by
  unfold Obligations.ResetState
  refine ⟨⟨reset_memory_wf, Nat.zero_le _⟩, rfl, State.reset_rings_disabled, rfl, rfl, ?power, ?regs, ?timebase, fun n => ?loop,
    fun p => ?vale, fun p => ?bus, fun p => ?serial, ?log, ?hollow, rfl, rfl⟩
  case power => decide
  case regs => decide
  case timebase => decide
  case loop => rw [State.reset_loop]
  case vale => rw [State.reset_vport]; decide
  case bus => rw [State.reset_bb]; decide
  case serial => rw [State.reset_sb]; decide
  case log => exact ⟨rfl, rfl, rfl, rfl⟩
  case hollow => decide

end Sys2Proof.Machine
end

section
/-! What the consumers of the angle leave of the timebase (03 R88, R92): converters, PWM channels, valves, loops and Vale ports may change
themselves, report errors of their own and complete descriptors, and touch neither the timebase nor an error of it. -/

namespace Sys2Proof.Machine

/-! ## The timebase's part of the device -/

/-- The errors of a source that are being handled (17 R481). -/
def Dev.errsOf (s : Dev) (src : Word) : List ErrState := s.log.errs.filter fun e => e.source == src

/-- The timebase with its errors. -/
def Dev.tbView (s : Dev) : Tb × List ErrState := (s.tb, s.errsOf hTb)

theorem Dev.tb_of_tbView {s : Dev} {t : Tb} {es : List ErrState} (h : s.tbView = (t, es)) : s.tb = t := congrArg Prod.fst h

theorem Dev.errsOf_of_tbView {s : Dev} {t : Tb} {es : List ErrState} (h : s.tbView = (t, es)) : s.errsOf hTb = es := congrArg Prod.snd h

theorem Dev.handling_eq (s : Dev) (src : Word) : s.handling src = !(s.errsOf src).isEmpty := by
  rw [Bool.eq_iff_iff]
  simp [Dev.handling, Dev.errsOf]

/-- The handle of an object that is no function differs from the timebase's. -/
theorem mkHandle_ne_hTb {level : Nat} (kind index : Nat) (h : level % 16 ≠ 5) : mkHandle level kind index ≠ hTb := by
  intro e
  have e : _ = 0x50200002 := congrArg BitVec.toNat e
  simp only [mkHandle, mkWord, fieldsOf, List.foldl, BitVec.toNat_ofNat, Nat.reducePow] at e
  omega

/-! ## Shared operations -/

@[simp] theorem Dev.raise_tbView (s : Dev) (code : BitVec 16) (src : Nat) (handle arg : Word) (lost : Nat) :
    (s.raise code src handle arg lost).tbView = s.tbView := rfl

theorem Dev.logPut_tbView (s : Dev) (o : Occ) : (s.logPut o).1.tbView = s.tbView := by
  simp [Dev.tbView, Dev.errsOf, Dev.logPut, logPut_errs]

@[simp] theorem Dev.note_tbView (s : Dev) (sev : Sev) (f : Nat) (code : BitVec 11) (arg : Word) :
    (s.note sev f code arg).tbView = s.tbView := s.logPut_tbView _

/-- A change of one source's errors is not seen among another's. -/
theorem filter_map_source {src h : Word} (hne : src ≠ h) {f : ErrState → ErrState} (hf : ∀ e, (f e).source = e.source) (l : List ErrState) :
    (l.map fun x => if x.source == src then f x else x).filter (fun e => e.source == h) = l.filter fun e => e.source == h := by
  induction l with
  | nil => rfl
  | cons x l ih =>
    rw [List.map_cons, List.filter_cons, List.filter_cons, ih]
    by_cases hx : x.source = src <;> simp [hx, hf, hne]

/-- A report adds, changes or follows an error of its source alone (17 R482). -/
theorem Dev.report_errsOf (s : Dev) {src h : Word} (f : Nat) (sev : Sev) (code : BitVec 11) (arg : Word) (hne : src ≠ h) :
    (s.report src f sev code arg).1.errsOf h = s.errsOf h := by
  have hlog (o : Occ) : (s.logPut o).1.log.errs = s.log.errs := logPut_errs ..
  unfold Dev.report
  split
  · rfl
  · split
    · simp [Dev.errsOf, hlog, hne]
    · dsimp only
      split
      · simp only [Dev.errsOf, hlog]
        refine filter_map_source hne ?_ _
        exact fun _ => rfl
      · simp [Dev.errsOf, hlog]

/-- The report of an object that is no function is none of the timebase's. -/
@[simp] theorem Dev.report_tbView (s : Dev) {level : Nat} (kind index f : Nat) (sev : Sev) (code : BitVec 11) (arg : Word)
    (h : level % 16 ≠ 5) : (s.report (mkHandle level kind index) f sev code arg).1.tbView = s.tbView := by
  rw [Dev.tbView, Dev.report_tb, s.report_errsOf f sev code arg (mkHandle_ne_hTb kind index h), Dev.tbView]

@[simp] theorem Dev.reportEv_tbView (s : Dev) {level : Nat} (kind index f : Nat) (sev : Sev) (code : BitVec 11) (arg : Word) (ev : BitVec 16)
    (handle evArg : Word) (h : level % 16 ≠ 5) :
    (s.reportEv (mkHandle level kind index) f sev code arg ev handle evArg).tbView = s.tbView := by
  unfold Dev.reportEv
  dsimp only
  split <;> simp [h]

/-- The end of a descriptor may log what has become of an image, an error of the NV store. -/
@[simp] theorem Dev.finish_tbView (s : Dev) (op : Nat) (d : Desc) (st : Status) (res : DWord) (bulk : List (Nat × List Byte)) :
    (s.finish op d st res bulk).tbView = s.tbView := by
  have himage (s : Dev) (bank i : Nat) : (s.imageBad bank i).tbView = s.tbView := by
    rw [Dev.tbView, Dev.imageBad, Dev.report_tb, s.report_errsOf _ _ _ _ (show hNv ≠ hTb by decide), Dev.tbView]
  unfold Dev.finish Dev.ends Dev.conclude
  dsimp only
  repeat' split
  any_goals exact himage ..
  all_goals rfl

/-! ## Converters -/

@[simp] theorem Dev.onConv_tbView (s : Dev) (c : Fin 3) (f : Conv → Conv) : (s.onConv c f).tbView = s.tbView := rfl

@[simp] theorem Dev.endPost_tbView (s : Dev) (c : Fin 3) : (s.endPost c).tbView = s.tbView := by
  unfold Dev.endPost; split <;> rfl

@[simp] theorem Dev.releaseWait_tbView (s : Dev) (c : Fin 3) : (s.releaseWait c).tbView = s.tbView := by simp [Dev.releaseWait]

@[simp] theorem Dev.strobe_tbView (s : Dev) (g : Strobe) : (s.strobe g).tbView = s.tbView :=
  foldl_keeps Dev.tbView (fun s c => by unfold Dev.strobeAt; dsimp only; split_ifs <;> simp) _ s

@[simp] theorem Dev.strobeGone_tbView (s : Dev) (ch : Fin 48) : (s.strobeGone ch).tbView = s.tbView :=
  foldl_keeps Dev.tbView (fun s c => by dsimp only; split <;> simp) _ s

@[simp] theorem Dev.convAngleLost_tbView (s : Dev) : s.convAngleLost.tbView = s.tbView :=
  foldl_keeps Dev.tbView (fun s c => by dsimp only; split <;> simp) _ s

/-! ## PWM channels -/

@[simp] theorem Dev.onPwm_tbView (s : Dev) (c : Fin 48) (f : Pwm → Pwm) : (s.onPwm c f).tbView = s.tbView := rfl

@[simp] theorem Dev.pwmEval_tbView (s : Dev) (c : Fin 48) : (s.pwmEval c).tbView = s.tbView := by
  unfold Dev.pwmEval
  dsimp only
  repeat' split
  all_goals simp

@[simp] theorem Dev.pwmAngleLost_tbView (s : Dev) (c : Fin 48) : (s.pwmAngleLost c).tbView = s.tbView := by
  unfold Dev.pwmAngleLost
  dsimp only
  repeat' split
  all_goals simp

/-! ## Valves -/

@[simp] theorem Dev.onValve_tbView (s : Dev) (c : Fin 16) (f : Valve → Valve) : (s.onValve c f).tbView = s.tbView := rfl

@[simp] theorem Dev.onPair_tbView (s : Dev) (k : Fin 8) (f : Pair → Pair) : (s.onPair k f).tbView = s.tbView := rfl

@[simp] theorem Dev.onHalves_tbView (s : Dev) (c : Fin 16) (f : Valve → Valve) : (s.onHalves c f).tbView = s.tbView := by
  unfold Dev.onHalves; split <;> rfl

@[simp] theorem Dev.substDecay_tbView (s : Dev) (c : Fin 16) : (s.substDecay c).tbView = s.tbView := by
  unfold Dev.substDecay
  dsimp only
  repeat' split
  all_goals simp

@[simp] theorem Dev.pairSync_tbView (s : Dev) (k : Fin 8) : (s.pairSync k).tbView = s.tbView := by simp [Dev.pairSync]

@[simp] theorem Dev.newCode_tbView (s : Dev) (c : Fin 16) : (s.newCode c).tbView = s.tbView := rfl

@[simp] theorem Dev.startProfile_tbView (s : Dev) (c : Fin 16) (skip : Bool) : (s.startProfile c skip).tbView = s.tbView := by
  simp [Dev.startProfile]

@[simp] theorem Dev.senseVboost_tbView (s : Dev) : s.senseVboost.tbView = s.tbView := by
  unfold Dev.senseVboost; split <;> rfl

@[simp] theorem Dev.granted_tbView (s : Dev) (c : Fin 16) (w : VWait) : (s.granted c w).1.tbView = s.tbView := by
  unfold Dev.granted
  dsimp only
  repeat' split
  all_goals simp

@[simp] theorem Dev.finishCmd_tbView (s : Dev) (d : Option Desc) (st : Status) (res : DWord) : (s.finishCmd d st res).tbView = s.tbView := by
  unfold Dev.finishCmd; split <;> simp

@[simp] theorem Dev.railFree_tbView (s : Dev) (k : Fin 8) (left : Fin 16) : (s.railFree k left).tbView = s.tbView := by
  unfold Dev.railFree
  dsimp only
  repeat' split
  all_goals simp

@[simp] theorem Dev.leaveRail_tbView (s : Dev) (c : Fin 16) (boost : Bool) : (s.leaveRail c boost).tbView = s.tbView := by
  unfold Dev.leaveRail; split <;> simp

@[simp] theorem Dev.cancelWait_tbView (s : Dev) (c : Fin 16) (st : Status) : (s.cancelWait c st).tbView = s.tbView := by
  unfold Dev.cancelWait
  dsimp only
  repeat' split
  all_goals simp

@[simp] theorem Dev.startOff_tbView (s : Dev) (c : Fin 16) : (s.startOff c).tbView = s.tbView := by
  unfold Dev.startOff; dsimp only; split <;> simp

@[simp] theorem Dev.valveOn_tbView (s : Dev) (c : Fin 16) (d : Option Desc) (late : Bool) : (s.valveOn c d late).1.tbView = s.tbView := by
  unfold Dev.valveOn
  dsimp only
  repeat' split
  all_goals simp

@[simp] theorem Dev.valveSp_tbView (s : Dev) (c : Fin 16) (sp : Nat) : (s.valveSp c sp).tbView = s.tbView := by
  unfold Dev.valveSp
  dsimp only
  repeat' split
  all_goals simp

@[simp] theorem Dev.endFail_tbView (s : Dev) (c : Fin 16) : (s.endFail c).tbView = s.tbView := rfl

@[simp] theorem Dev.valveDo_tbView (s : Dev) (c : Fin 16) (d : Desc) (late : Bool) : (s.valveDo c d late).1.tbView = s.tbView := by
  unfold Dev.valveDo
  dsimp only
  repeat' split
  all_goals simp

@[simp] theorem Dev.fireArmed_tbView (s : Dev) (c : Fin 16) (late : Bool) : (s.fireArmed c late).tbView = s.tbView := by
  unfold Dev.fireArmed
  dsimp only
  repeat' split
  all_goals simp

@[simp] theorem Dev.valveAngleLost_tbView (s : Dev) : s.valveAngleLost.tbView = s.tbView :=
  foldl_keeps Dev.tbView (fun s k => by simp) _ s

@[simp] theorem Dev.valveStrobe_tbView (s : Dev) (k : Fin 8) (arg : Byte) : (s.valveStrobe k arg).tbView = s.tbView := by
  unfold Dev.valveStrobe; split <;> rfl

/-! ## Loops and Vale ports -/

@[simp] theorem Dev.onLoop_tbView (s : Dev) (n : Fin 144) (f : Loop → Loop) : (s.onLoop n f).tbView = s.tbView := rfl

@[simp] theorem Dev.loopTrigger_tbView (s : Dev) (n : Fin 144) : (s.loopTrigger n).tbView = s.tbView := by
  unfold Dev.loopTrigger
  repeat' split
  · rfl
  · simp
  · rfl

@[simp] theorem Dev.loopAngle_tbView (s : Dev) (e : Fin 6) (arg : Byte) : (s.loopAngle e arg).tbView = s.tbView := by
  unfold Dev.loopAngle
  dsimp only
  repeat' split
  all_goals simp

@[simp] theorem Dev.loopsAngle_tbView (s : Dev) (valid : Bool) : (s.loopsAngle valid).tbView = s.tbView := rfl

@[simp] theorem Dev.slotStrobe_tbView (s : Dev) (lk : Nat) (arg : Byte) : (s.slotStrobe lk arg).tbView = s.tbView := by
  unfold Dev.slotStrobe; split <;> rfl

/-! ## The calendar's deliveries, and the validity of the angle -/

/-- An event of the calendar leaves the timebase to the calendar. -/
@[simp] theorem Dev.calDeliver_tbView (s : Dev) (e : CalEntry) : (s.calDeliver e).tbView = s.tbView := by
  unfold Dev.calDeliver
  repeat' split
  all_goals simp

/-- The calendar when the angle becomes invalid: no passage is due any more (03 R88). -/
def Tb.calLost (t : Tb) : Tb := { t with cal := t.cal.map fun e => { e with due := none } }

/-- The calendar when the angle becomes valid again: one-shot entries whose passage has gone are free (03 R96). -/
def Tb.calBack (t : Tb) : Tb :=
  { t with cal := t.cal.map fun e => if e.en ∧ e.rep = 2 ∧ t.gone e then { e with en := false } else e }

theorem Dev.angleLost_tbView (s : Dev) : s.angleLost.tbView = (s.tb.calLost, s.errsOf hTb) := by
  have hpwm (s : Dev) := foldl_keeps Dev.tbView (fun s c => Dev.pwmAngleLost_tbView s c) (List.finRange 48) s
  have hports (s : Dev) (f : VPort → VPort) : Dev.tbView { s with vports := s.vports.map f } = s.tbView := rfl
  simp only [Dev.angleLost, hports, Dev.loopsAngle_tbView, Dev.valveAngleLost_tbView, Dev.convAngleLost_tbView, hpwm]
  rfl

theorem Dev.angleLost_tb (s : Dev) : s.angleLost.tb = s.tb.calLost := Dev.tb_of_tbView s.angleLost_tbView

theorem Dev.angleLost_errsOf (s : Dev) : s.angleLost.errsOf hTb = s.errsOf hTb := Dev.errsOf_of_tbView s.angleLost_tbView

theorem Dev.angleBack_tb (s : Dev) : s.angleBack.tb = s.tb.calBack := rfl

theorem Dev.angleBack_errsOf (s : Dev) : s.angleBack.errsOf hTb = s.errsOf hTb := rfl

end Sys2Proof.Machine
end

section
/-! Changes of the timebase's state (03 R79, R86 to R88, R99), and TB_CONFIG, which makes them (R87, R89, R90). -/

namespace Sys2Proof.Machine

/-! ## A change of state -/

/-- A change of state before the consumers of the angle hear of it: the state with the validity that goes with it, the event, and the log
record (03 R99). -/
def Dev.tbEnter (s : Dev) (st : TbState) (fault : Bool) : Dev :=
  let v := (s.onTb fun t => { t with state := st, valid := angleValid st t.fbNow }).raise EV_TB_STATE 2 hTb
    (mkWord [(0, 3, st.num), (8, 3, s.tb.state.num), (16, 8, s.tb.misses)])
  match st with
  | .locked => (v.endErr hTb).note .info 2 LG_TB_LOCKED v.tb.freq
  | .holdover => (v.report hTb 2 .warn LG_TB_HOLDOVER (mkWord [(0, 16, v.tb.cycle.toNat)])).1
  | .unlocked =>
    if fault then (v.report hTb 2 .fault LG_TB_UNLOCKED (mkWord [(0, 2, v.tb.fallback), (8, 1, v.tb.rangeErr.toNat)])).1 else v
  | _ => v

/-- A timebase in a state, with the validity of the angle there. -/
def Tb.inState (t : Tb) (st : TbState) : Tb := { t with state := st, valid := angleValid st t.fbNow }

section
variable {s : Dev} {st : TbState} (fault : Bool)

@[simp] theorem Dev.tbEnter_tb (s : Dev) (st : TbState) : (s.tbEnter st fault).tb = s.tb.inState st := by
  cases st <;> cases fault <;> simp [Dev.tbEnter, Tb.inState]

/-- The event of a change of state stays among those raised. -/
theorem Dev.tbEnter_raised (s : Dev) (st : TbState) :
    (s.tbEnter st fault).raised = s.raised ++ [{ code := EV_TB_STATE, src := 2, handle := hTb, time := s.tick, lost := 0
                                                 arg := mkWord [(0, 3, st.num), (8, 3, s.tb.state.num), (16, 8, s.tb.misses)] }] := by
  cases st <;> cases fault <;> simp [Dev.tbEnter] <;> rfl

/-- The consumers are told where the validity of the angle changes (03 R88). -/
theorem Dev.tbGo_eq (h : st ≠ s.tb.state) :
    s.tbGo st fault =
      if s.tb.valid && !(s.tbEnter st fault).tb.valid then (s.tbEnter st fault).angleLost
      else if !s.tb.valid && (s.tbEnter st fault).tb.valid then (s.tbEnter st fault).angleBack else s.tbEnter st fault :=
  if_neg h

/-- Where the angle stays as valid as it was, no consumer is told. -/
theorem Dev.tbGo_steady (h : st ≠ s.tb.state) (hv : angleValid st s.tb.fbNow = s.tb.valid) : s.tbGo st fault = s.tbEnter st fault := by
  rw [Dev.tbGo_eq fault h]
  simp [Tb.inState, hv]

/-- Of the timebase the consumers change at most the calendar. -/
theorem Dev.tbGo_tb (h : st ≠ s.tb.state) : ∃ cal, (s.tbGo st fault).tb = { s.tb.inState st with cal } := by
  rw [Dev.tbGo_eq fault h]
  split_ifs
  · rw [Dev.angleLost_tb, Dev.tbEnter_tb]; exact ⟨_, rfl⟩
  · rw [Dev.angleBack_tb, Dev.tbEnter_tb]; exact ⟨_, rfl⟩
  · rw [Dev.tbEnter_tb]; exact ⟨_, rfl⟩

/-- The timebase's errors are those of the change of state. -/
theorem Dev.tbGo_errsOf (h : st ≠ s.tb.state) : (s.tbGo st fault).errsOf hTb = (s.tbEnter st fault).errsOf hTb := by
  rw [Dev.tbGo_eq fault h]
  split_ifs
  · exact Dev.angleLost_errsOf _
  · exact Dev.angleBack_errsOf _
  · rfl

end

/-! ## What stands before a change of state -/

/-- The timebase on its way to OFF: the angle stands at 0 (03 R79). -/
def Tb.toOff (t : Tb) : Tb := { t.restart.setAngle 0 with inc := 0, misses := 0 }

/-- On its way to FREE: INC is nominal (03 R87). -/
def Tb.toFree (t : Tb) : Tb := { t.restart with inc := t.nominalInc, misses := 0 }

/-- On its way to UNLOCKED: with a fallback, and counted where it is a fault (03 R86, R87). -/
def Tb.toUnlocked (t : Tb) (fb : Nat) (fault : Bool) : Tb :=
  { t.restart with fbNow := fb, inc := if fb = 2 then 0 else if fb = 1 then t.nominalInc else t.inc
                   unlocks := if fault then t.unlocks + 1 else t.unlocks, unlockSeen := t.unlockSeen || fault }

theorem Dev.tbOff_eq (s : Dev) : s.tbOff = (s.onTb Tb.toOff).tbGo .off := rfl

theorem Dev.tbFree_eq (s : Dev) : s.tbFree = (s.onTb Tb.toFree).tbGo .free := rfl

theorem Dev.tbUnlock_eq (s : Dev) (fb : Nat) (fault : Bool) :
    s.tbUnlock fb fault = (s.onTb fun t => t.toUnlocked fb fault).tbGo .unlocked fault := rfl

/-! ## TB_CONFIG -/

/-- The timebase with the fields of a TB_CONFIG that changes MODE, which take effect at once (03 R90). -/
def Dev.configured (s : Dev) (d : Desc) : Dev := s.onTb fun t => { t.fields d with mode := d.bits 8 0 2, next := none }

section
variable {s : Dev} {d : Desc}

/-- What a change of MODE leads to (03 R87). -/
theorem Dev.tbApply_mode (h : d.bits 8 0 2 ≠ s.tb.mode) :
    s.tbApply d =
      if d.bits 8 0 2 = 0 then (s.configured d).tbOff
      else if !s.active 2 then s.configured d
      else if s.tb.mode = 0 then (s.configured d).tbStart
      else if d.bits 8 0 2 = 2 then (s.configured d).tbFree
      else (s.configured d).tbUnlock 0 false := by
  simp [Dev.tbApply, h, Dev.configured, Dev.active, Dev.enabled, Dev.held, Dev.frstBit, Dev.stopped]

theorem Dev.tbApply_off (hm : d.bits 8 0 2 = 0) (h : s.tb.mode ≠ 0) : s.tbApply d = (s.configured d).tbOff := by
  simp [Dev.tbApply_mode (hm ▸ h.symm), hm]

/-- LINE from OFF starts an acquisition. -/
theorem Dev.tbApply_line (hm : d.bits 8 0 2 = 1) (h : s.tb.mode = 0) (ha : s.active 2) :
    s.tbApply d = ((s.configured d).onTb Tb.restart).tbGo .acquire := by
  have hc : (s.configured d).active 2 = true := ha
  have hmode : (s.configured d).tb.mode = 1 := hm
  simp [Dev.tbApply_mode (s := s) (d := d) (by omega), hm, h, ha, Dev.tbStart, hc, hmode]

/-- SYNTHETIC runs free, from OFF as from LINE. -/
theorem Dev.tbApply_synthetic (hm : d.bits 8 0 2 = 2) (h : s.tb.mode ≠ 2) (ha : s.active 2) : s.tbApply d = (s.configured d).tbFree := by
  have hc : (s.configured d).active 2 = true := ha
  have hmode : (s.configured d).tb.mode = 2 := hm
  have hstart : (s.configured d).tbStart = (s.configured d).tbFree := by simp [Dev.tbStart, hc, hmode]
  simp [Dev.tbApply_mode (s := s) (d := d) (by omega), hm, ha, hstart]

/-- LINE from SYNTHETIC goes to UNLOCKED with FREE_LAST, without a fault (03 R87). -/
theorem Dev.tbApply_relock (hm : d.bits 8 0 2 = 1) (h : s.tb.mode = 2) (ha : s.active 2) :
    s.tbApply d = (s.configured d).tbUnlock 0 false := by
  simp [Dev.tbApply_mode (s := s) (d := d) (by omega), hm, h, ha]

/-- MODE asks for the function's enable (03 R549). -/
theorem doTbConfig_disabled (o : Obj) (hm : d.bits 8 0 2 = 1 ∨ d.bits 8 0 2 = 2) (he : s.enabled 2 = false) (hl : s.loading = false) :
    doTbConfig d o s = (s, .done .disabled) := by simp [doTbConfig, hm, he, hl, refuse]

theorem doTbConfig_range (o : Obj) (he : d.bits 8 0 2 = 0 ∨ s.enabled 2 ∨ s.loading) (hbad : tbConfigOk d = false) :
    doTbConfig d o s = (s, .done .range) := by
  rcases he with he | he | he <;> simp [doTbConfig, he, hbad, refuse]

theorem doTbConfig_accepted (o : Obj) (he : d.bits 8 0 2 = 0 ∨ s.enabled 2) (hok : tbConfigOk d) : doTbConfig d o s = (s.tbApply d, .ok) := by
  rcases he with he | he <;> simp [doTbConfig, hok, he]

end

/-! ## Descriptors that answer at once -/

section
variable {s : State} {i : OpInfo} {d : Desc} {o : Obj} {body : Obj → Dev → Dev × Res}

/-- A descriptor that leaves the device as it finds it is answered, and nothing else changes. -/
theorem State.desc_onlyAnswers {st : Status} {res : DWord} (h : s.admits i d o)
    (hb : body o (s.dev.taken i.op d) = (s.dev.taken i.op d, .done st res)) : s.onlyAnswers (s.desc i d body) d st res :=
  ⟨State.desc_answered h hb, by rw [State.desc_done h hb]; rfl⟩

/-- A descriptor that executes with ST_OK leaves the device that its opcode makes, with its completion. -/
theorem State.desc_ok {v : Dev} (h : s.admits i d o) (hb : body o (s.dev.taken i.op d) = (v, .ok)) :
    (s.desc i d body).okd d ∧ s.desc i d body = { s with dev := v.complete d .ok 0 } :=
  ⟨State.desc_answered h hb, State.desc_done h hb⟩

end

theorem Dev.enabled_of_active {s : Dev} {f : Nat} (h : s.active f) : s.enabled f := by
  simp only [Dev.active, Bool.and_eq_true] at h
  exact h.1.1

/-- An accepted TB_CONFIG. -/
theorem execTbConfig_accepted {s : State} {d : Desc} {o : Obj} (h : s.admits opTbConfig d o) (hok : tbConfigOk d)
    (he : d.bits 8 0 2 = 0 ∨ s.dev.active 2) :
    ∃ t, exec (.tbConfig d) s = .next t ∧ t.okd d ∧ s.onlyDev t ∧ t.dev.tb = ((s.dev.taken 0x10 d).tbApply d).tb ∧
      t.dev.log = ((s.dev.taken 0x10 d).tbApply d).log := by
  obtain ⟨hans, hdev⟩ := State.desc_ok h (doTbConfig_accepted o (he.imp_right Dev.enabled_of_active) hok)
  refine ⟨_, rfl, hans, ?_⟩
  rw [hdev]
  exact ⟨⟨rfl, rfl, rfl⟩, rfl, rfl⟩

/-- Settles O34, one case at a time: refused, then each change of MODE through the state it leads to. -/
theorem timebaseConfig : Obligations.TimebaseConfig := by
  unfold Obligations.TimebaseConfig
  intro s d o h
  refine ⟨fun he hbad => ⟨_, rfl, State.desc_onlyAnswers h (doTbConfig_range o he hbad)⟩,
    fun hm hdis hload => ⟨_, rfl, State.desc_onlyAnswers h (doTbConfig_disabled o hm hdis hload)⟩,
    fun hok hm hmode hst => ?off, fun hok hm hmode hst hv ha => ?acquire, fun hok hm hmode hst ha => ?free,
    fun hok hm hmode hst hv ha => ?unlocked⟩
  case off =>
    obtain ⟨t, ht, hans, hdev, htb, -⟩ := execTbConfig_accepted h hok (.inl hm)
    obtain ⟨cal, hgo⟩ := Dev.tbGo_tb (s := ((s.dev.taken 0x10 d).configured d).onTb Tb.toOff) true (Ne.symm hst)
    rw [Dev.tbApply_off (s := s.dev.taken 0x10 d) hm hmode, Dev.tbOff_eq, hgo] at htb
    refine ⟨t, ht, hans, hdev, ?_⟩
    rw [htb]
    exact ⟨hm, rfl, rfl, rfl, rfl⟩
  case acquire =>
    obtain ⟨t, ht, hans, hdev, htb, -⟩ := execTbConfig_accepted h hok (.inr ha)
    have hne : TbState.acquire ≠ s.dev.tb.state := by simp [hst]
    have hgo := Dev.tbGo_steady (s := ((s.dev.taken 0x10 d).configured d).onTb Tb.restart) true hne hv.symm
    rw [Dev.tbApply_line (s := s.dev.taken 0x10 d) hm hmode ha, hgo, Dev.tbEnter_tb] at htb
    refine ⟨t, ht, hans, hdev, ?_⟩
    rw [htb]
    exact ⟨hm, rfl, rfl, rfl, rfl, rfl, rfl, rfl, rfl, rfl⟩
  case free =>
    obtain ⟨t, ht, hans, hdev, htb, -⟩ := execTbConfig_accepted h hok (.inr ha)
    obtain ⟨cal, hgo⟩ := Dev.tbGo_tb (s := ((s.dev.taken 0x10 d).configured d).onTb Tb.toFree) true (Ne.symm hst)
    rw [Dev.tbApply_synthetic (s := s.dev.taken 0x10 d) hm hmode ha, Dev.tbFree_eq, hgo] at htb
    refine ⟨t, ht, hans, hdev, ?_⟩
    rw [htb]
    exact ⟨hm, rfl, rfl, rfl, rfl⟩
  case unlocked =>
    obtain ⟨t, ht, hans, -, htb, hlog⟩ := execTbConfig_accepted h hok (.inr ha)
    have hne : TbState.unlocked ≠ s.dev.tb.state := by simp [hst]
    have hgo := Dev.tbGo_steady (s := ((s.dev.taken 0x10 d).configured d).onTb fun t => t.toUnlocked 0 false) false hne hv.symm
    have happly := Dev.tbApply_relock (s := s.dev.taken 0x10 d) hm hmode ha
    rw [happly, Dev.tbUnlock_eq, hgo] at hlog
    rw [happly, Dev.tbUnlock_eq, hgo, Dev.tbEnter_tb] at htb
    refine ⟨t, ht, hans, ?_⟩
    rw [htb]
    exact ⟨rfl, rfl, rfl, rfl, rfl, Bool.or_false _, hlog⟩

end Sys2Proof.Machine
end

section
/-! The calendar's descriptors and TB_STATUS_GET (03 R91, R95 to R97). -/

namespace Sys2Proof.Machine

/-! ## The entry that TB_EVENT_SET writes -/

/-- The entry that a TB_EVENT_SET describes (03 R91). -/
def Tb.entryOf (t : Tb) (d : Desc) : CalEntry :=
  { en := true, angle := d.word 8, func := d.bits 12 0 7, rep := d.bits 13 0 2, arg := BitVec.ofNat 8 (d.bits 14 0 8), div := d.bits 15 0 8
    cycle := BitVec.ofNat 16 (d.bits 16 0 16)
    wait := if d.bits 13 0 2 = 3 then t.firstWait (BitVec.ofNat 16 (d.bits 16 0 16)) (d.bits 15 0 8) else 0 }

/-- A REPEAT 3 entry first fires in a cycle whose distance from CYCLE is a multiple of DIV + 1 (03 R91). -/
theorem Tb.firstWait_spec (t : Tb) (cycle : BitVec 16) (div : Nat) :
    t.firstWait cycle div ≤ div ∧ ((t.cycle - cycle).toNat + t.firstWait cycle div) % (div + 1) = 0 := by
  have hpos : 0 < div + 1 := Nat.succ_pos div
  have hlt : (t.cycle - cycle).toNat % (div + 1) < div + 1 := Nat.mod_lt _ hpos
  refine ⟨Nat.lt_succ_iff.1 (Nat.mod_lt _ hpos), ?_⟩
  rw [Tb.firstWait, Nat.add_mod_mod, ← Nat.mod_add_mod, Nat.add_sub_cancel' hlt.le, Nat.mod_self]

section
variable {s : Dev} {d : Desc} {e : Fin 256}

/-- An entry that is not due does not fire for being replaced or cleared. -/
theorem Dev.calFire_idle (h : (s.tb.cal[e]).due = none) : s.calFire e = s := by
  have h : (s.tb.cal[e.val]).due = none := h
  simp [Dev.calFire, h]

theorem doTbEventSet_range (h : subscriber (d.bits 12 0 7) = false) : doTbEventSet d e s = (s, .done .range) := by
  simp [doTbEventSet, h, refuse]

theorem doTbEventSet_late (hf : subscriber (d.bits 12 0 7)) (hr : d.bits 13 0 2 = 2)
    (hl : s.tb.late (BitVec.ofNat 16 (d.bits 16 0 16)) (d.word 8)) : doTbEventSet d e s = (s, .done .late) := by
  simp [doTbEventSet, hf, hr, hl, refuse]

/-- What the old entry has passed fires, and the new one takes its place (03 R95). -/
theorem doTbEventSet_ok (hf : subscriber (d.bits 12 0 7))
    (hl : d.bits 13 0 2 = 2 → s.tb.late (BitVec.ofNat 16 (d.bits 16 0 16)) (d.word 8) = false) :
    doTbEventSet d e s = ((s.calFire e).onTb fun t => { t with cal := t.cal.set e.val (s.tb.entryOf d) }, .ok) := by
  have hl : ¬ (d.bits 13 0 2 = 2 ∧ s.tb.late (BitVec.ofNat 16 (d.bits 16 0 16)) (d.word 8)) := fun ⟨hr, h⟩ => by simp [hl hr] at h
  rw [doTbEventSet, if_neg (by simp [hf]), if_neg hl]
  rfl

end

/-! ## TB_STATUS_GET -/

/-- Bytes 12 and 13: the angle's 16 highest bits, from the accumulator or from the fine angle. -/
theorem Tb.fine_div (t : Tb) : t.fine / 65536 = t.acc.toNat / 2 ^ 32 := Nat.div_div_eq_div_mul ..

/-- Settles O35: TB_EVENT_SET by its outcomes, then TB_EVENT_CLEAR, then TB_STATUS_GET. -/
theorem calendarDescriptors : Obligations.CalendarDescriptors := by
  unfold Obligations.CalendarDescriptors
  intro s d e
  refine ⟨fun h hf hl => ?written, fun h hf hd hl => ?idle, fun h hf hr hl => ⟨_, rfl, State.desc_onlyAnswers h (doTbEventSet_late hf hr hl)⟩,
    fun h hf => ⟨_, rfl, State.desc_onlyAnswers h (doTbEventSet_range hf)⟩, fun h => ?cleared, fun h hd => ?clearedIdle, fun o h => ?status⟩
  case written =>
    obtain ⟨hans, hdev⟩ := State.desc_ok (body := onEventObj (doTbEventSet d)) h (doTbEventSet_ok hf hl)
    refine ⟨_, rfl, hans, ?_⟩
    rw [hdev]
    simp [Dev.complete, Tb.entryOf]
  case idle =>
    obtain ⟨hans, hdev⟩ := State.desc_ok (body := onEventObj (doTbEventSet d)) h (doTbEventSet_ok hf hl)
    refine ⟨_, rfl, hans, (s.dev.tb.entryOf d).wait, ?_, fun hr => ?_⟩
    · rw [hdev, Dev.calFire_idle (s := s.dev.taken opTbEventSet.op d) hd]
      rfl
    · rw [Tb.entryOf, if_pos hr]
      exact s.dev.tb.firstWait_spec ..
  case cleared =>
    obtain ⟨hans, hdev⟩ := State.desc_ok (body := onEventObj doTbEventClear) h rfl
    refine ⟨_, rfl, hans, ?_⟩
    rw [hdev]
    exact congrArg CalEntry.en (vmod_self ..)
  case clearedIdle =>
    obtain ⟨hans, hdev⟩ := State.desc_ok (body := onEventObj doTbEventClear) h rfl
    rw [Dev.calFire_idle (s := s.dev.taken opTbEventClear.op d) hd] at hdev
    refine ⟨_, rfl, hans, ?_⟩
    rw [hdev]
    exact ⟨congrArg CalEntry.en (vmod_self ..), fun k hk => vmod_other _ _ _ _ hk, rfl⟩
  case status =>
    refine ⟨_, rfl, State.desc_onlyAnswers h ?_⟩
    rw [Tb.fine_div]
    rfl

end Sys2Proof.Machine
end

section
/-! The tracking law (03 R81, R83, R85): its limits and its gains. -/

namespace Sys2Proof.Machine

/-! ## One correction -/

theorem clampI_mem {lo hi : Int} (h : lo ≤ hi) (x : Int) : lo ≤ clampI lo hi x ∧ clampI lo hi x ≤ hi :=
  ⟨le_max_left .., max_le h (min_le_left ..)⟩

/-- The lasting part of a correction and the whole of it stay within 2 % of INC (03 R83). -/
theorem Tb.limitStep_bounds (t : Tb) (lasting corr : Int) :
    |(t.limitStep lasting corr).1 + (t.limitStep lasting corr).2| ≤ (t.inc : Int) / 50 := by
  have hlim : ((t.inc / 50 : Nat) : Int) = (t.inc : Int) / 50 := by omega
  have hcorr := clampI_mem (lo := -(t.inc / 50 : Nat) - (t.limitStep lasting corr).1) (hi := (t.inc / 50 : Nat) - (t.limitStep lasting corr).1)
    (by omega) corr
  have heq : (t.limitStep lasting corr).2 =
      clampI (-(t.inc / 50 : Nat) - (t.limitStep lasting corr).1) ((t.inc / 50 : Nat) - (t.limitStep lasting corr).1) corr := rfl
  rw [abs_le]
  omega

theorem Tb.limitStep_zero (t : Tb) : t.limitStep 0 0 = (0, 0) := by
  have hlim : (0 : Int) ≤ (t.inc / 50 : Nat) := Int.natCast_nonneg _
  simp [Tb.limitStep, clampI, -Int.natCast_ediv, hlim]

/-- The timebase after a correction within the limits of R85. -/
def Tb.tracked (t : Tb) (inc : Nat) (corr : Int) (now : Nat) : Tb := { t with inc, corr, corrEnd := now + 2 ^ 48 / max 1 inc }

/-- The timebase after one that was held at a limit. -/
def Tb.heldAt (t : Tb) (top : Bool) : Tb := { t with inc := if top then incMax else incMin, corr := 0, rangeErr := true }

section
variable (s : Dev) (err : Int) (relock : Bool) (per : Option Nat)

/-- The two parts of the correction for a phase error (03 R81, R83). -/
def Dev.trackStep : Int × Int :=
  let confirmed := match per with
    | none => false
    | some p => p * s.tb.inc ≤ 2 ^ 48 + s.tb.inc && 2 ^ 48 ≤ p * s.tb.inc + s.tb.inc
  let part (gain : Nat) : Int := -((gain : Int) * (err * s.tb.inc) / 2 ^ 48)
  s.tb.limitStep (if relock && confirmed then 0 else part (gainI s.tb.bw)) (part (if relock then 65536 else gainP s.tb.bw))

/-- A correction is made where INC and the rate stay between 45 and 65 Hz, and otherwise INC is held at the limit that it would have passed
(03 R85). -/
theorem Dev.tbTrack_eq :
    s.tbTrack err relock per =
      let step := s.trackStep err relock per
      let inc : Int := s.tb.inc + step.1
      let rate := inc + step.2
      if rate < incMin ∨ (incMax : Int) < rate ∨ inc < incMin ∨ (incMax : Int) < inc then
        let top : Bool := (incMax : Int) < rate ∨ (incMax : Int) < inc
        (s.onTb fun t => t.heldAt top, some top)
      else (s.onTb fun t => t.tracked inc.toNat step.2 s.now, none) := rfl

/-- What a correction leads to: within the limits, or held. -/
theorem Dev.tbTrack_cases :
    (∃ (inc : Nat) (corr : Int), s.tbTrack err relock per = (s.onTb fun t => t.tracked inc corr s.now, none) ∧
      incMin ≤ inc ∧ inc ≤ incMax ∧ (incMin : Int) ≤ inc + corr ∧ inc + corr ≤ (incMax : Int) ∧
      |inc + corr - s.tb.inc| ≤ (s.tb.inc : Int) / 50) ∨
    ∃ top, s.tbTrack err relock per = (s.onTb fun t => t.heldAt top, some top) := by
  have hlim : |(s.trackStep err relock per).1 + (s.trackStep err relock per).2| ≤ (s.tb.inc : Int) / 50 := Tb.limitStep_bounds ..
  rw [Dev.tbTrack_eq]
  dsimp only
  split
  · exact .inr ⟨_, rfl⟩
  · refine .inl ⟨_, _, rfl, ?_⟩
    rw [abs_le] at hlim ⊢
    omega

/-- A correction changes the rate by at most 2 % of INC (03 R83), and leaves INC and the rate between 45 and 65 Hz, at the limit where INC is
held (R85). -/
theorem Dev.tbTrack_limits {r : Dev × Option Bool} (hr : s.tbTrack err relock per = r) :
    (r.2 = none → (r.1.tb.rate : Int) - s.tb.inc ≤ (s.tb.inc : Int) / 50 ∧ (s.tb.inc : Int) - r.1.tb.rate ≤ (s.tb.inc : Int) / 50) ∧
    incMin ≤ r.1.tb.rate ∧ r.1.tb.rate ≤ incMax ∧ incMin ≤ r.1.tb.inc ∧ r.1.tb.inc ≤ incMax ∧
    (∀ top, r.2 = some top → r.1.tb.rangeErr ∧ r.1.tb.inc = (if top then incMax else incMin) ∧ r.1.tb.rate = r.1.tb.inc) ∧
    r.1.tb.acc = s.tb.acc ∧ r.1.tb.state = s.tb.state := by
  obtain ⟨inc, corr, heq, hlo, hhi, hrlo, hrhi, hstep⟩ | ⟨top, heq⟩ := s.tbTrack_cases err relock per <;> obtain rfl := hr.symm.trans heq
  · have hrate : ((s.tb.tracked inc corr s.now).rate : Int) = inc + corr :=
      Int.toNat_of_nonneg (show (0 : Int) ≤ inc + corr by omega)
    rw [abs_le] at hstep
    dsimp only [Dev.onTb_tb]
    refine ⟨fun _ => ⟨by omega, by omega⟩, by omega, by omega, hlo, hhi, fun top h => ?_, rfl, rfl⟩
    cases h
  · have hrate : (s.tb.heldAt top).rate = (s.tb.heldAt top).inc := Int.toNat_natCast _
    have hinc : incMin ≤ (s.tb.heldAt top).inc ∧ (s.tb.heldAt top).inc ≤ incMax := by
      have hlimits : incMin ≤ incMax := by decide
      cases top <;> simp [Tb.heldAt, hlimits]
    dsimp only [Dev.onTb_tb]
    refine ⟨fun h => ?_, hrate ▸ hinc.1, hrate ▸ hinc.2, hinc.1, hinc.2, fun top' h => ?_, rfl, rfl⟩
    · cases h
    · cases h
      exact ⟨rfl, rfl, hrate⟩

/-- No phase error, no correction. -/
theorem Dev.tbTrack_zero {s : Dev} (hlo : incMin ≤ s.tb.inc) (hhi : s.tb.inc ≤ incMax) :
    s.tbTrack 0 false none = (s.onTb fun t => t.tracked s.tb.inc 0 s.now, none) := by
  have hstep : s.trackStep 0 false none = (0, 0) := by simp [Dev.trackStep, Tb.limitStep_zero]
  rw [Dev.tbTrack_eq, hstep]
  dsimp only
  rw [if_neg (by omega)]
  simp

end

/-! ## The gains (log entry 120) -/

/-- The proportional gain takes away more than 1/(T + 1) and at most 1/T of an error, with T = 2^BW at most 32. -/
theorem gainP_bounds {bw : Nat} (h : bw ≤ 5) :
    65536 < gainP bw * (2 ^ bw + 1) ∧ gainP bw * 2 ^ bw ≤ 65536 ∧ 1024 ≤ gainP bw := by
  have hroom : 65536 / (2 ^ bw + 1) < 65536 / 2 ^ bw ∧ 1023 ≤ 65536 / (2 ^ bw + 1) := by interval_cases bw <;> decide
  obtain ⟨hroom, hlo⟩ := hroom
  have hmod := Nat.mod_lt (Config.trackP bw) (Nat.sub_pos_of_lt hroom)
  have hgain : gainP bw = 65536 / (2 ^ bw + 1) + 1 + Config.trackP bw % (65536 / 2 ^ bw - 65536 / (2 ^ bw + 1)) := rfl
  refine ⟨?_, ?_, by omega⟩
  · have hpos : 0 < 2 ^ bw + 1 := Nat.succ_pos _
    exact (Nat.div_lt_iff_lt_mul hpos).1 (by omega)
  · exact (Nat.mul_le_mul_right _ (by omega)).trans (Nat.div_mul_le_self 65536 (2 ^ bw))

/-- The integral gain is positive and at most a quarter of the square of the proportional one. -/
theorem gainI_bounds {bw : Nat} (h : bw ≤ 5) : 0 < gainI bw ∧ 262144 * gainI bw ≤ gainP bw * gainP bw := by
  obtain ⟨-, -, hp⟩ := gainP_bounds h
  have hroom : 0 < gainP bw * gainP bw / 262144 := Nat.div_pos (by nlinarith) (by decide)
  have hmod := Nat.mod_lt (Config.trackI bw) hroom
  have hgain : gainI bw = 1 + Config.trackI bw % (gainP bw * gainP bw / 262144) := rfl
  exact ⟨by omega, (Nat.mul_le_mul_left _ (by omega)).trans (Nat.mul_div_le ..)⟩

end Sys2Proof.Machine
end

section
/-! Crossings in ACQUIRE (03 R80, R81) and judgements in LOCKED and HOLDOVER (R80, R84 to R86). -/

namespace Sys2Proof.Machine

/-! ## Crossings -/

/-- Two changes of the timebase are one. -/
theorem Dev.onTb_onTb (s : Dev) (f g : Tb → Tb) : (s.onTb f).onTb g = s.onTb fun t => g (f t) := rfl

section
variable {s : Dev}

/-- The device with the time of a crossing noted, and the period that it ends (03 R80). -/
def Dev.crossed (s : Dev) : Dev := s.onTb fun t => { t with prevX := some s.now, prevPer := (s.tb.judge s.now).2 }

/-- A crossing in ACQUIRE is judged and goes on to the acquisition. -/
theorem Dev.lineCross_acquire (h : s.tb.state = .acquire) :
    s.lineCross = s.crossed.tbAcquire (s.tb.judge s.now).1 (s.tb.judge s.now).2 := by
  simp [Dev.lineCross, h, Dev.crossed]

/-- The first good crossing. -/
theorem Dev.tbAcquire_first (per : Option Nat) (h : s.tb.goods = 0) : s.tbAcquire true per = s.onTb fun t => { t.noteErr with goods := 1 } := by
  simp [Dev.tbAcquire, h]

/-- The second, whose period is P1. -/
theorem Dev.tbAcquire_second (p : Nat) (h : s.tb.goods = 1) :
    s.tbAcquire true (some p) = s.onTb fun t => { t.noteErr with goods := 2, p1 := some p } := by
  simp [Dev.tbAcquire, h]

/-- INC of two periods, within the limits of R85. -/
def incWithin (p q : Nat) : Nat := max incMin (min incMax (incOf p q))

/-- The timebase with INC from two periods, and the angle aligned to the crossing that ends them (03 R81 step 3). -/
def Tb.aligned (t : Tb) (inc : Nat) : Tb :=
  { t.setAngle (BitVec.ofNat 48 (wrapTo 48 ((inc : Int) * t.delay5 / 5))) with goods := 3, p1 := none, lockRun := 0, inc, pherr := 0 }

/-- The third, which gives INC and aligns the angle. -/
theorem Dev.tbAcquire_third {p q : Nat} (h : s.tb.goods = 2) (hp : s.tb.p1 = some q) (hw : within1 p q) :
    s.tbAcquire true (some p) = s.onTb fun t => t.aligned (incWithin q p) := by
  simp only [Dev.tbAcquire, h, hp, hw]
  rfl

/-- A later crossing that is not good. -/
theorem Dev.tbAcquire_bad (per : Option Nat) (h : 3 ≤ s.tb.goods) : s.tbAcquire false per = s.onTb fun t => { t with lockRun := 0 } := by
  simp [Dev.tbAcquire, h, Dev.tbFollow]

end

section
variable {t : Tb} {now x q : Nat}

theorem Tb.judge_first (now : Nat) (h : t.prevX = none) : t.judge now = (true, none) := by simp [Tb.judge, h]

theorem Tb.judge_second (h : t.prevX = some x) (hp : t.prevPer = none) (hr : inRange (now - x)) : t.judge now = (true, some (now - x)) := by
  simp [Tb.judge, h, hp, hr]

theorem Tb.judge_later (h : t.prevX = some x) (hp : t.prevPer = some q) (hr : inRange (now - x)) (hw : within1 (now - x) q) :
    t.judge now = (true, some (now - x)) := by simp [Tb.judge, h, hp, hr, hw]

end

section
variable {s : Dev} (hst : s.tb.state = .acquire)
include hst

theorem Dev.lineCross_first (hg : s.tb.goods = 0) (hx : s.tb.prevX = none) :
    s.lineCross = s.onTb fun t =>
      { t with goods := 1, prevX := some s.now, prevPer := none, pherr := BitVec.ofInt 16 (t.phase / 65536) } := by
  rw [Dev.lineCross_acquire hst, Tb.judge_first _ hx, Dev.tbAcquire_first (s := s.crossed) _ hg, Dev.crossed, Tb.judge_first _ hx]
  rfl

theorem Dev.lineCross_second {x : Nat} (hg : s.tb.goods = 1) (hx : s.tb.prevX = some x) (hp : s.tb.prevPer = none) (hr : inRange (s.now - x)) :
    s.lineCross = s.crossed.onTb fun t => { t.noteErr with goods := 2, p1 := some (s.now - x) } := by
  rw [Dev.lineCross_acquire hst, Tb.judge_second hx hp hr, Dev.tbAcquire_second (s := s.crossed) _ hg]

theorem Dev.lineCross_third {x q : Nat} (hg : s.tb.goods = 2) (hx : s.tb.prevX = some x) (hp : s.tb.prevPer = some q)
    (hp1 : s.tb.p1 = some q) (hr : inRange (s.now - x)) (hw : within1 (s.now - x) q) :
    s.lineCross = s.crossed.onTb fun t => t.aligned (incWithin q (s.now - x)) := by
  rw [Dev.lineCross_acquire hst, Tb.judge_later hx hp hr hw, Dev.tbAcquire_third (s := s.crossed) hg hp1 hw]

theorem Dev.lineCross_bad {p : Option Nat} (hg : 3 ≤ s.tb.goods) (hj : s.tb.judge s.now = (false, p)) :
    s.lineCross = s.crossed.onTb fun t => { t with lockRun := 0 } := by
  rw [Dev.lineCross_acquire hst, hj, Dev.tbAcquire_bad (s := s.crossed) _ hg]

end

/-- Without a filter and COMP the angle is aligned to 0 (03 R77). -/
theorem Tb.aligned_acc {t : Tb} (inc : Nat) (hc : t.comp = 0) (hf : t.filt = 0) : (t.aligned inc).acc = 0 := by
  have hdelay : t.delay5 = 0 := by rw [Tb.delay5, hc, hf]; rfl
  have hacc : (t.aligned inc).acc = BitVec.ofNat 48 (wrapTo 48 ((inc : Int) * t.delay5 / 5)) := rfl
  rw [hacc, hdelay]
  simp [wrapTo]

/-! ## Judgements -/

/-- The timebase after a judgement with no fields waiting for it. -/
def Tb.judged (t : Tb) : Tb := { t with xIn := 0, xOut := 0, xErr := 0, xDone := false, next := none }

/-- The timebase after the first missed cycle. -/
def Tb.missedFirst (t : Tb) : Tb := { t.judged with misses := 1, corr := 0 }

/-- The timebase after the last cycle that may be missed, as it goes to UNLOCKED. -/
def Tb.missedLast (t : Tb) : Tb := { t.judged with misses := t.holdMax + 1 }.toUnlocked t.fallback true

/-- The timebase after a cycle whose crossing came as predicted. -/
def Tb.regained (t : Tb) (corr : Int) (corrEnd : Nat) : Tb := { t.judged with pherr := 0, misses := 0, corr, corrEnd }

section
variable {s : Dev}

/-- A good cycle: its crossing is tracked, if it has not been, and the cycle is missed where INC is held at a limit (03 R81, R85). -/
def Dev.cycleGood (s : Dev) (err : Int) (done : Bool) : Dev :=
  let v := s.onTb fun t => { t with pherr := BitVec.ofInt 16 (err / 65536) }
  let r := if done then (v, none) else v.tbTrack err false none
  if r.2.isNone then (r.1.onTb fun t => { t with misses := 0 }).tbGo .locked else r.1.tbMiss.tbRange r.2

/-- A judgement by the crossings of its cycle: good, missed or corrupted (03 R80, R84). -/
theorem Dev.judgement_eq (hst : s.tb.state = .locked ∨ s.tb.state = .holdover) (hn : s.tb.next = none) :
    s.judgement =
      if s.tb.xIn = 1 ∧ s.tb.xOut = 0 then (s.onTb Tb.judged).cycleGood s.tb.xErr s.tb.xDone
      else if s.tb.xIn = 0 ∧ s.tb.xOut = 0 then (s.onTb Tb.judged).tbMiss
      else ((s.onTb Tb.judged).note .trace 2 LG_TB_CORRUPT (BitVec.ofNat 32 s.tb.xIn)).tbMiss := by
  have hlive : ¬ (s.tb.state ≠ .locked ∧ s.tb.state ≠ .holdover) := by tauto
  rw [Dev.judgement, if_neg hlive]
  simp only [hn]
  rfl

/-- The first missed cycle leads to HOLDOVER. -/
theorem Dev.tbMiss_locked (h : s.tb.state = .locked) :
    s.tbMiss = (s.onTb fun t => { t with misses := 1, corr := 0 }).tbGo .holdover := by
  simp [Dev.tbMiss, h]

/-- The one past HOLD_MAX leads to UNLOCKED. -/
theorem Dev.tbMiss_last (h : s.tb.state = .holdover) (hm : s.tb.misses = s.tb.holdMax) :
    s.tbMiss = (s.onTb fun t => { t with misses := t.holdMax + 1 }).tbUnlock s.tb.fallback true := by
  simp [Dev.tbMiss, h, hm]

/-- A crossing that came as predicted leaves INC as it stands. -/
theorem Dev.cycleGood_exact (done : Bool) (hlo : incMin ≤ s.tb.inc) (hhi : s.tb.inc ≤ incMax) :
    ∃ corr fin, s.cycleGood 0 done = (s.onTb fun t => { t with pherr := 0, misses := 0, corr, corrEnd := fin }).tbGo .locked := by
  have herr : BitVec.ofInt 16 (0 / 65536) = 0 := by decide
  simp only [Dev.cycleGood, herr]
  cases done with
  | true => exact ⟨s.tb.corr, s.tb.corrEnd, rfl⟩
  | false =>
    have htrack := Dev.tbTrack_zero (s := s.onTb fun t => { t with pherr := 0 }) hlo hhi
    simp only [htrack, Bool.false_eq_true, if_false, Dev.onTb_tb, Dev.onTb_now, Dev.onTb_onTb]
    exact ⟨0, _, rfl⟩

/-- A crossing that came as predicted ends HOLDOVER, with INC as it stands. -/
theorem Dev.judgement_regained (hst : s.tb.state = .holdover) (hi : s.tb.xIn = 1) (ho : s.tb.xOut = 0) (he : s.tb.xErr = 0)
    (hn : s.tb.next = none) (hlo : incMin ≤ s.tb.inc) (hhi : s.tb.inc ≤ incMax) :
    ∃ corr fin, s.judgement = (s.onTb fun t => t.regained corr fin).tbGo .locked := by
  rw [Dev.judgement_eq (.inr hst) hn, if_pos ⟨hi, ho⟩, he]
  exact Dev.cycleGood_exact (s := s.onTb Tb.judged) _ hlo hhi

section
variable (hi : s.tb.xIn = 0) (ho : s.tb.xOut = 0) (hn : s.tb.next = none)
include hi ho hn

/-- A missed cycle in LOCKED with a valid angle is a change to HOLDOVER of which no consumer is told. -/
theorem Dev.judgement_holdover (hst : s.tb.state = .locked) (hv : s.tb.valid) :
    s.judgement = (s.onTb Tb.missedFirst).tbEnter .holdover true := by
  rw [Dev.judgement_eq (.inl hst) hn, if_neg (by omega), if_pos ⟨hi, ho⟩, Dev.tbMiss_locked (s := s.onTb Tb.judged) hst]
  exact Dev.tbGo_steady true (by simp [hst, Tb.judged]) hv.symm

/-- One more than HOLD_MAX is a change to UNLOCKED with the FALLBACK configured. -/
theorem Dev.judgement_unlocked (hst : s.tb.state = .holdover) (hm : s.tb.misses = s.tb.holdMax) :
    s.judgement = (s.onTb Tb.missedLast).tbGo .unlocked true := by
  rw [Dev.judgement_eq (.inr hst) hn, if_neg (by omega), if_pos ⟨hi, ho⟩, Dev.tbMiss_last (s := s.onTb Tb.judged) hst hm]
  rfl

end

/-! ## What the states of a judgement report -/

/-- LOCKED ends the handling of the timebase's errors. -/
theorem Dev.tbGo_locked_handling (fault : Bool) (h : TbState.locked ≠ s.tb.state) : (s.tbGo .locked fault).handling hTb = false := by
  have hend (v : Dev) : (v.endErr hTb).errsOf hTb = [] := by simp [Dev.endErr, Dev.errsOf]
  have hnote (v : Dev) (sev : Sev) (f : Nat) (code : BitVec 11) (arg : Word) : (v.note sev f code arg).errsOf hTb = v.errsOf hTb :=
    congrArg Prod.snd (v.note_tbView sev f code arg)
  rw [Dev.handling_eq, Dev.tbGo_errsOf fault h, Dev.tbEnter, hnote, hend]
  rfl

/-- An UNLOCKED that is a fault starts the handling of it, if function 2 is not held and no other error of the timebase is handled. -/
theorem Dev.tbGo_unlocked_fault (h : TbState.unlocked ≠ s.tb.state) (hh : s.held 2 = false) (hi : s.handling hTb = false) :
    ∃ e ∈ (s.tbGo .unlocked true).log.errs, e.source = hTb ∧ e.cls = .fault ∧ e.code = LG_TB_UNLOCKED := by
  obtain ⟨-, e, herrs, hsrc, -, hcls, hcode⟩ := Dev.report_idle
    ((s.onTb fun t => t.inState .unlocked).raise EV_TB_STATE 2 hTb
      (mkWord [(0, 3, TbState.unlocked.num), (8, 3, s.tb.state.num), (16, 8, s.tb.misses)]))
    hTb 2 .fault LG_TB_UNLOCKED (mkWord [(0, 2, s.tb.fallback), (8, 1, s.tb.rangeErr.toNat)]) hh hi
  have hmem : e ∈ (s.tbEnter .unlocked true).errsOf hTb :=
    List.mem_filter.2 ⟨herrs ▸ List.mem_append_right _ (List.mem_singleton_self e), by simp [hsrc]⟩
  rw [← Dev.tbGo_errsOf true h] at hmem
  exact ⟨e, (List.mem_filter.1 hmem).1, hsrc, hcls, hcode⟩

end

end Sys2Proof.Machine
end

section
/-! The calendar as the angle moves and as its entries fire (03 R91, R93, R96, 11 R320), and the read of TB_ANGLE (03 R98). -/

namespace Sys2Proof.Machine

/-! ## Passages -/

/-- The angle passes what lies beyond where it starts, up to where it ends. -/
theorem passes_iff (a b angle : Word) : passes a b angle ↔ 0 < (angle - a).toNat ∧ (angle - a).toNat ≤ (b - a).toNat := by
  have hstart : angle = a ↔ (angle - a).toNat = 0 := by bv_omega
  have hend : b = angle ↔ (angle - a).toNat = (b - a).toNat := by bv_omega
  simp only [passes, Bool.and_eq_true, bne_iff_ne, Bool.or_eq_true, decide_eq_true_eq, beq_iff_eq, ne_eq, hstart, hend]
  omega

/-- What a first move has passed, a second does not pass before the angle has come round. -/
theorem not_passes_twice {a b c : Word} (angle : Word) (h : (b - a).toNat + (c - b).toNat < 2 ^ 32) :
    ¬ (passes a b angle ∧ passes b c angle) := by
  rw [passes_iff, passes_iff]
  rintro ⟨⟨-, hfirst⟩, hpos, hsecond⟩
  have hsum : (angle - a).toNat = (angle - b).toNat + (b - a).toNat := by bv_omega
  omega

section
variable {e : CalEntry} {a b : Word} {ca cb : BitVec 16} {valid : Bool} {now : Nat}

theorem CalEntry.move_disabled (h : e.en = false) : e.move a b ca cb valid now = e := by simp [CalEntry.move, h]

/-- While the angle is invalid a passage makes nothing due (03 R88). -/
theorem CalEntry.move_invalid_due : (e.move a b ca cb false now).due = e.due := by
  unfold CalEntry.move; dsimp only; split <;> simp

/-- The end of a cycle counts for REPEAT 3 (03 R91). -/
theorem CalEntry.move_wait (h : e.en) (hc : ca ≠ cb) : (e.move a b ca cb valid now).wait = e.nextWait := by
  simp [CalEntry.move, h, hc]

/-- A passage makes an entry of every cycle due. -/
theorem CalEntry.move_every (h : e.en) (hd : e.due = none) (hr : e.rep = 0) :
    (e.move a b ca cb true now).due = (if e.passedBy a b e.angle then some now else none) ∧ (e.move a b ca cb true now).rest = false := by
  simp [CalEntry.move, h, hd, hr]

end

/-! ## Firing -/

section
variable {s : Dev} {n : Fin 256}

/-- An entry that fires is due, on a TCLK with room for it, and none that is due goes before it. -/
theorem Tb.fires_iff {t : Tb} {now : Nat} :
    t.fires n now ↔ ∃ x, (t.cal[n]).due = some x ∧ ¬ (t.fireAt = now ∧ 4 ≤ t.fireCnt) ∧
      ∀ m : Fin 256, ∀ y, (t.cal[m]).due = some y → x < y ∨ (x = y ∧ n ≤ m) := by
  rw [Tb.fires, Fin.getElem_fin]
  cases t.cal[n.val].due with
  | none => simp
  | some x =>
    simp only [Bool.and_eq_true, Bool.not_eq_true', List.all_eq_true, List.mem_finRange, true_implies, Option.some.injEq, exists_eq_left']
    refine and_congr (by simp [← Bool.not_eq_true]) (forall_congr' fun m => ?_)
    rw [Fin.getElem_fin]
    cases t.cal[m.val].due with
    | none => simp
    | some y => simp [eq_comm (a := x)]

/-- What is not the next to fire does nothing (03 R93). -/
theorem Dev.calPass_waits (h : s.tb.fires n s.now = false) : s.calPass n = s := by simp [Dev.calPass, h]

/-- The timebase once an entry has fired: one-shot entries are free, if their event went out (03 R93, R96). -/
def Tb.fired (t : Tb) (n : Fin 256) (now : Nat) : Tb :=
  { t with cal := t.cal.set n.val { t.cal[n.val] with due := none, en := t.cal[n.val].en && (t.cal[n.val].rep != 2 || !t.valid) }
           fireCnt := if t.fireAt = now then t.fireCnt + 1 else 1, fireAt := now }

/-- The next to fire does so, and its event reaches the subscriber, while the angle is valid (03 R92, R93). -/
theorem Dev.calPass_fires (h : s.tb.fires n s.now) (hv : s.tb.valid) :
    s.calPass n = (s.onTb fun t => t.fired n s.now).calDeliver s.tb.cal[n] := by
  obtain ⟨x, hx, -⟩ := Tb.fires_iff.1 h
  rw [Fin.getElem_fin] at hx
  rw [Dev.calPass, if_pos h, Dev.calFire, if_neg (by simp [hx])]
  exact if_pos hv

theorem Dev.calPass_fires_tb (h : s.tb.fires n s.now) (hv : s.tb.valid) : (s.calPass n).tb = s.tb.fired n s.now := by
  rw [Dev.calPass_fires h hv]
  exact Dev.tb_of_tbView (Dev.calDeliver_tbView ..)

/-- A one-shot entry is free once its event has gone out. -/
theorem Tb.fired_once {t : Tb} (now : Nat) (hr : (t.cal[n]).rep = 2) (hv : t.valid) :
    ((t.fired n now).cal[n]).en = false ∧ ((t.fired n now).cal[n]).due = none := by
  rw [Fin.getElem_fin] at hr
  simp [Tb.fired, hr, hv]

/-- A repeating entry stays, due no more. -/
theorem Tb.fired_repeating {t : Tb} (now : Nat) (hr : (t.cal[n]).rep ≠ 2) : (t.fired n now).cal[n] = { t.cal[n] with due := none } := by
  rw [Fin.getElem_fin] at hr
  simp [Tb.fired, hr]

theorem Tb.fired_get_other (t : Tb) {n k : Fin 256} (now : Nat) (h : k ≠ n) : (t.fired n now).cal[k] = t.cal[k] := by
  simp [Tb.fired, Fin.getElem_fin, Vector.getElem_set_ne, Fin.val_ne_of_ne h.symm]

/-- An event to LK1 or LK2 is a slot strobe (11 R320). -/
theorem Dev.calDeliver_slot {e : CalEntry} (h : e.func = 13 ∨ e.func = 14) : s.calDeliver e = s.slotStrobe e.func e.arg := by
  rcases h with h | h <;> simp [Dev.calDeliver, h]

/-- ARG 0 to 7 opens the slot of a port, 8 to 15 closes it (11 R320). -/
theorem Dev.slotStrobe_port (lk : Nat) {arg : Byte} {p : Fin 16} (ha : arg.toNat < 16)
    (hp : p.val = (if lk = 14 then 8 else 0) + arg.toNat % 8) :
    ((s.slotStrobe lk arg).vports[p]).slotOpen = decide (arg.toNat < 8) := by
  have hix : ix 15 ((if lk = 14 then 8 else 0) + arg.toNat % 8) = p := by
    rw [← hp, ix]
    exact Fin.ofNat_val_eq_self p
  rw [Dev.slotStrobe, if_neg (by omega), Fin.getElem_fin, hix]
  dsimp only
  rw [vmod_self]
  split
  · next h => simp [h]
  · next h => simp [Nat.lt_of_not_le h]

/-- A slot strobe changes the ports alone. -/
theorem Dev.slotStrobe_shape (s : Dev) (lk : Nat) (arg : Byte) : s.slotStrobe lk arg = { s with vports := (s.slotStrobe lk arg).vports } := by
  unfold Dev.slotStrobe; split <;> rfl

end

/-! ## TB_ANGLE -/

/-- The read of TB_ANGLE answers the fine angle and latches TB_CYCLE (03 R98). -/
theorem State.readWide_angle (s : State) :
    (s.readWide 0x60C 4).1.toNat = s.dev.tb.fine % 2 ^ 32 ∧ (s.readWide 0x60C 4).2 = s.onDev Dev.latchCycle := by
  refine ⟨?_, rfl⟩
  have hword : (s.readWide 0x60C 4).1 = ((BitVec.ofNat 32 s.dev.tb.fine).setWidth 64 >>> 0) &&& BitVec.ofNat 64 (2 ^ 32 - 1) := rfl
  have hmask : (BitVec.ofNat 64 (2 ^ 32 - 1)).toNat = 2 ^ 32 - 1 := by decide
  rw [hword, BitVec.toNat_and, hmask, Nat.and_two_pow_sub_one_eq_mod, BitVec.ushiftRight_zero, BitVec.toNat_setWidth, BitVec.toNat_ofNat]
  omega

/-! ## The obligation -/

/-- A command that acts on the device alone answers the state with the device that it makes. -/
theorem answers_onDev {c : Instr} {s : State} {f : Dev → Dev} {v : Dev} {P : State → Prop} (hc : exec c s = .next (s.onDev f))
    (hv : f s.dev = v) (hP : P { s with dev := v }) : Answers c s P :=
  ⟨s.onDev f, hc, by rw [State.onDev, hv]; exact hP⟩

/-- Settles O36: the tracking law, then the moments of a state, then an entry as the angle moves, then TB_ANGLE. -/
theorem timebaseMoments : Obligations.TimebaseMoments := by
  unfold Obligations.TimebaseMoments
  refine ⟨fun s err relock per => s.tbTrack_limits err relock per rfl, fun bw hbw => ?gains,
    fun s => ⟨?first, ?second, ?third, ?bad, ?missed, ?unlocked, ?regained, ?once, ?slot, ?idle, ?order, ?full⟩,
    ⟨?passage, ?rest, ?wait, ?disabled, ?invalid, ?twice⟩, fun s hr => ?angle⟩
  case gains =>
    obtain ⟨hgt, hle, -⟩ := gainP_bounds hbw
    obtain ⟨hpos, hquarter⟩ := gainI_bounds hbw
    exact ⟨hgt, hle, hpos, hquarter⟩
  case first => exact fun hst hg hx => answers_onDev rfl (Dev.lineCross_first hst hg hx) rfl
  case second =>
    intro x hst hg hx hp hr
    refine answers_onDev rfl (Dev.lineCross_second hst hg hx hp hr) ?_
    dsimp only [Dev.onTb_tb, Dev.crossed, Tb.noteErr]
    exact ⟨rfl, rfl, hst, rfl, rfl, rfl⟩
  case third =>
    intro x q hst hg hx hp hp1 hr hw hcomp hfilt
    refine answers_onDev rfl (Dev.lineCross_third hst hg hx hp hp1 hr hw) ?_
    dsimp only [Dev.onTb_tb]
    exact ⟨rfl, Tb.aligned_acc _ hcomp hfilt, hst, le_max_left .., max_le (by decide) (min_le_left ..), rfl, rfl, rfl⟩
  case bad => exact fun p hst hg hj => answers_onDev rfl (Dev.lineCross_bad hst hg hj) ⟨rfl, rfl, hst⟩
  case missed =>
    intro hst hi ho hn hv
    refine answers_onDev rfl (Dev.judgement_holdover hi ho hn hst hv) ?_
    dsimp only
    rw [Dev.tbEnter_tb, Dev.tbEnter_raised]
    dsimp only [Dev.onTb_tb, Tb.inState, Tb.missedFirst, Tb.judged]
    refine ⟨rfl, rfl, rfl, rfl, rfl, ⟨_, List.mem_append_right _ (List.mem_singleton_self _), rfl, rfl, ?_⟩, rfl, rfl, rfl⟩
    have harg : mkWord [(0, 3, TbState.holdover.num), (8, 3, s.dev.tb.state.num), (16, 8, 1)] = 0x00010203 := by rw [hst]; decide
    exact harg
  case unlocked =>
    intro hst hi ho hn hm hheld hidle
    have hne : TbState.unlocked ≠ s.dev.tb.state := by simp [hst]
    obtain ⟨cal, htb⟩ := Dev.tbGo_tb (s := s.dev.onTb Tb.missedLast) true hne
    have hfault := Dev.tbGo_unlocked_fault (s := s.dev.onTb Tb.missedLast) hne hheld hidle
    refine answers_onDev rfl (Dev.judgement_unlocked hi ho hn hst hm) ?_
    dsimp only
    rw [htb]
    dsimp only [Dev.onTb_tb, Tb.inState, Tb.missedLast, Tb.toUnlocked, Tb.restart, Tb.judged]
    refine ⟨rfl, rfl, rfl, Bool.or_true _, rfl, rfl, fun hfb => ?_, fun hfb => ?_, hfault⟩
    · exact (if_neg (by omega)).trans (if_neg (by omega))
    · exact (if_neg (by omega)).trans (if_pos hfb)
  case regained =>
    intro hst hi ho he hn hlo hhi
    have hne : TbState.locked ≠ s.dev.tb.state := by simp [hst]
    obtain ⟨corr, fin, hj⟩ := Dev.judgement_regained hst hi ho he hn hlo hhi
    obtain ⟨cal, htb⟩ := Dev.tbGo_tb (s := s.dev.onTb fun t => t.regained corr fin) true hne
    have hidle := Dev.tbGo_locked_handling (s := s.dev.onTb fun t => t.regained corr fin) true hne
    refine answers_onDev rfl hj ?_
    dsimp only
    rw [htb]
    dsimp only [Dev.onTb_tb, Tb.inState, Tb.regained, Tb.judged]
    exact ⟨rfl, rfl, rfl, rfl, hidle⟩
  case once =>
    intro e hf hr hv
    obtain ⟨hen, hdue⟩ := Tb.fired_once s.dev.now hr hv
    refine answers_onDev rfl rfl ?_
    dsimp only
    rw [Dev.calPass_fires_tb hf hv]
    exact ⟨hen, hdue, fun k hk => Tb.fired_get_other _ _ hk⟩
  case slot =>
    intro e k hf hr hv hfunc harg
    have hfire := Dev.calPass_fires hf hv
    rw [Dev.calDeliver_slot hfunc, Dev.slotStrobe_shape] at hfire
    have hentry := Tb.fired_repeating (n := e) s.dev.now (by rw [hr]; decide)
    refine answers_onDev rfl hfire ⟨rfl, hentry, fun j hj => Tb.fired_get_other _ _ hj, fun p hp => ?_⟩
    rw [← harg] at hp ⊢
    exact Dev.slotStrobe_port _ (by omega) hp
  case idle => exact fun e hf => answers_onDev rfl (Dev.calPass_waits hf) rfl
  case order =>
    intro e n x y hx hy hlt
    refine answers_onDev rfl (Dev.calPass_waits (Bool.eq_false_iff.2 fun hf => ?_)) rfl
    obtain ⟨x', hx', -, hfirst⟩ := Tb.fires_iff.1 hf
    obtain rfl : x' = x := Option.some.inj (hx'.symm.trans hx)
    have := hfirst n y hy
    omega
  case full =>
    intro e hat hcnt
    refine answers_onDev rfl (Dev.calPass_waits (Bool.eq_false_iff.2 fun hf => ?_)) rfl
    obtain ⟨x, -, hroom, -⟩ := Tb.fires_iff.1 hf
    exact hroom ⟨hat, hcnt⟩
  case passage =>
    intro e a b ca cb now hen hd hr hrest
    rw [(CalEntry.move_every hen hd hr).1]
    simp [CalEntry.passedBy, hrest]
  case rest =>
    intro e b ca cb now hen hd hr hrest hne
    have hpassed : e.passedBy e.angle b e.angle := by simp [CalEntry.passedBy, hrest, hne]
    obtain ⟨hdue, hnext⟩ := CalEntry.move_every (a := e.angle) (b := b) (ca := ca) (cb := cb) (now := now) hen hd hr
    exact ⟨by rw [hdue, if_pos hpassed], hnext⟩
  case wait => exact fun e a b ca cb valid now hen hc => CalEntry.move_wait hen hc
  case disabled => exact fun e a b ca cb valid now hen => CalEntry.move_disabled hen
  case invalid => exact fun e a b ca cb now => CalEntry.move_invalid_due
  case twice => exact fun a b c angle h => not_passes_twice angle h
  case angle =>
    obtain ⟨hval, hdev⟩ := s.touched.readWide_angle
    refine ⟨_, congrArg Host.Outcome.next (State.hostWrite_reach _ hr), ?_⟩
    dsimp only
    rw [hval, hdev]
    simp [Dev.latchCycle]

end Sys2Proof.Machine
end

section
/-! What the shared operations leave of the converters, and how the parts of a conversion change one (04 R107, R108, R111, R112, R117, R119,
R124). -/

namespace Sys2Proof.Machine

/-! ## A change of one converter -/

/-- A change that keeps an entry keeps the vector. -/
theorem vmod_eq_self {α : Type} {n : Nat} (v : Vector α n) (i : Fin n) {f : α → α} (h : f v[i.val] = v[i.val]) : vmod v i f = v := by
  rw [vmod, h, Vector.set_getElem_self]

@[simp] theorem vmod_vmod {α : Type} {n : Nat} (v : Vector α n) (i : Fin n) (f g : α → α) : vmod (vmod v i f) i g = vmod v i fun x => g (f x) := by
  simp [vmod]

theorem Dev.onConv_onConv (s : Dev) (c : Fin 3) (f g : Conv → Conv) : (s.onConv c f).onConv c g = s.onConv c fun v => g (f v) := by
  simp [Dev.onConv]

/-- A change that keeps the converter keeps the device. -/
theorem Dev.onConv_eq_self (s : Dev) {c : Fin 3} {f : Conv → Conv} (h : f s.convs[c.val] = s.convs[c.val]) : s.onConv c f = s := by
  rw [Dev.onConv, vmod_eq_self _ _ h]

/-! ## Operations that leave every converter -/

@[simp] theorem Dev.taken_convs (s : Dev) (op : Nat) (d : Desc) : (s.taken op d).convs = s.convs := rfl

@[simp] theorem Dev.finishAll_convs (s : Dev) (op : Nat) (h : Word) (st : Status) : (s.finishAll op h st).convs = s.convs :=
  foldl_keeps Dev.convs (fun s (q : QDesc) => s.finish_convs op q.d st 0 []) _ s

@[simp] theorem Dev.finishAll_raised (s : Dev) (op : Nat) (h : Word) (st : Status) : (s.finishAll op h st).raised = s.raised :=
  foldl_keeps Dev.raised (fun s (q : QDesc) => s.finish_raised op q.d st 0 []) _ s

@[simp] theorem Dev.loopTrigger_convs (s : Dev) (n : Fin 144) : (s.loopTrigger n).convs = s.convs := by
  unfold Dev.loopTrigger
  split_ifs
  · rfl
  · simp
  · rfl

@[simp] theorem Dev.loopEoc_convs (s : Dev) (h w : Word) (n : Fin 144) : (s.loopEoc h w n).convs = s.convs := by
  unfold Dev.loopEoc
  dsimp only
  split_ifs <;> simp

@[simp] theorem Dev.onKey_convs (s : Dev) (k : Fin 192) (f : Key → Key) : (s.onKey k f).convs = s.convs := rfl

@[simp] theorem Dev.onLadder_convs (s : Dev) (n : Fin 16) (f : Ladder → Ladder) : (s.onLadder n f).convs = s.convs := rfl

@[simp] theorem Dev.panelNote_convs (s : Dev) (sev : Sev) (code : BitVec 11) : (s.panelNote sev code).convs = s.convs := rfl

@[simp] theorem Dev.panelDrop_convs (s : Dev) (press : Bool) : (s.panelDrop press).convs = s.convs := by
  unfold Dev.panelDrop
  dsimp only
  split
  · exact Dev.report_convs ..
  · rfl

@[simp] theorem Dev.panelNotice_convs (s : Dev) (code : BitVec 16) (arg time : Word) : (s.panelNotice code arg time).convs = s.convs := by
  unfold Dev.panelNotice; split <;> simp

@[simp] theorem Dev.reportPress_convs (s : Dev) (k : Fin 192) (t : Word × BitVec 16) : (s.reportPress k t).convs = s.convs := by
  unfold Dev.reportPress; split <;> simp

@[simp] theorem Dev.reportRelease_convs (s : Dev) (k : Fin 192) (t : Word × BitVec 16) (forced : Bool) :
    (s.reportRelease k t forced).convs = s.convs := by
  unfold Dev.reportRelease; split_ifs <;> simp

@[simp] theorem Dev.ladderAccept_convs (s : Dev) (n : Fin 16) (v : LadVal) (t : Word × BitVec 16) : (s.ladderAccept n v t).convs = s.convs := by
  unfold Dev.ladderAccept
  dsimp only
  repeat' split
  all_goals simp

@[simp] theorem Dev.ladderWord_convs (s : Dev) (n : Fin 16) (w : Word) : (s.ladderWord n w).convs = s.convs := by
  simp [Dev.ladderWord, apply_ite Dev.convs]

@[simp] theorem Dev.ladderSample_convs (s : Dev) (h w : Word) : (s.ladderSample h w).convs = s.convs := by
  unfold Dev.ladderSample
  split
  · rfl
  · exact foldl_keeps Dev.convs (fun s n => by dsimp only; split <;> simp) _ s

/-! ## Visits (04 R108) -/

/-- A converter as the visit of its entry starts; `period` is the output period that PA takes from the entry. -/
def Conv.visit (v : Conv) (pa : Bool) (period : Nat) : Conv :=
  let e := v.table[(ix 31 v.entry).val]
  let m := v.marks pa false e
  { v with cur := e, wordsLeft := e.rep + 1, group := {}, settling := m.1, settleUrgent := m.2,
           phase := if !pa && e.timing != 0 then .settle else .convert,
           just := false, prevPost := false, period := if pa then period else v.period }

/-- The entry after the one visited: past LAST the table starts again. -/
def Conv.following (v : Conv) : Nat := if v.last ≤ v.entry then 0 else v.entry + 1

theorem Dev.beginVisit_eq (s : Dev) (c : Fin 3) :
    ∃ period, s.beginVisit c = s.onConv c fun v => v.visit (c.val == 2) period := ⟨_, rfl⟩

theorem Dev.nextVisit_eq (s : Dev) (c : Fin 3) :
    ∃ period, s.nextVisit c = s.onConv c fun v => { v with entry := v.following }.visit (c.val == 2) period := by
  obtain ⟨period, h⟩ := (s.onConv c fun v => { v with entry := v.following }).beginVisit_eq c
  exact ⟨period, h.trans (Dev.onConv_onConv ..)⟩

section
variable (v : Conv) (pa : Bool) (period : Nat)

/-- A visit begins with its settle delay or with its conversions. -/
theorem Conv.visit_phase : (v.visit pa period).phase = .settle ∨ (v.visit pa period).phase = .convert := by
  unfold Conv.visit
  dsimp only
  split
  · exact .inl rfl
  · exact .inr rfl

theorem Conv.visit_phase_ne_stopped : (v.visit pa period).phase ≠ .stopped := by
  rcases v.visit_phase pa period with h | h <;> simp [h]

theorem Conv.visit_phase_ne_wait : (v.visit pa period).phase ≠ .wait := by
  rcases v.visit_phase pa period with h | h <;> simp [h]

end

/-- Nothing that ends a visit touches the results. -/
@[simp] theorem Dev.nextVisit_inputs (s : Dev) (c : Fin 3) : (s.nextVisit c).convs[c.val].inputs = s.convs[c.val].inputs := by
  obtain ⟨period, h⟩ := s.nextVisit_eq c
  simp [h, Conv.visit]

/-- Without an urgent conversion the post-delay's end starts the next visit (04 R117). -/
theorem Dev.endPost_idle {s : Dev} {c : Fin 3} (h : s.convs[c.val].urgent = none) : s.endPost c = s.nextVisit c := by
  simp [Dev.endPost, h]

theorem Dev.endPost_urgent {s : Dev} {c : Fin 3} {u : Urgent} (h : s.convs[c.val].urgent = some u) :
    s.endPost c = s.onConv c fun v => { v with urgent := some { u with ended := true } } := by
  simp [Dev.endPost, h]

@[simp] theorem Dev.endPost_inputs (s : Dev) (c : Fin 3) : (s.endPost c).convs[c.val].inputs = s.convs[c.val].inputs := by
  cases h : s.convs[c.val].urgent with
  | none => rw [Dev.endPost_idle h, Dev.nextVisit_inputs]
  | some u => simp [Dev.endPost_urgent h]

@[simp] theorem Dev.releaseWait_inputs (s : Dev) (c : Fin 3) : (s.releaseWait c).convs[c.val].inputs = s.convs[c.val].inputs := by
  simp [Dev.releaseWait]

@[simp] theorem Dev.visitDone_inputs (s : Dev) (c : Fin 3) : (s.visitDone c).convs[c.val].inputs = s.convs[c.val].inputs := by
  unfold Dev.visitDone
  dsimp only
  split_ifs <;> simp

/-! ## Start and stop (04 R119, R124, R130) -/

/-- A converter that starts at entry 0: its latest words become 0. -/
def Conv.started (v : Conv) : Conv :=
  { v with entry := 0, just := true, startOnRef := false, parked := false, prevPost := false
           inputs := v.inputs.map fun x => { x with word := 0, openLogged := false, ovrLogged := false } }

/-- A converter that stops: what was in progress is abandoned. -/
def Conv.halted (v : Conv) : Conv :=
  { v with urgent := none, phase := .stopped, group := {}, parked := false, startOnRef := false, refMark := min v.refMark 1 }

theorem Dev.convStart_waits {s : Dev} {c : Fin 3} (h : s.convWaits c) : s.convStart c = s := if_pos h

/-- What a converter that starts becomes, and that no event goes with it. -/
theorem Dev.convStart_starts {s : Dev} {c : Fin 3} (h : s.convWaits c = false) :
    (∃ period, (s.convStart c).convs = vmod s.convs c fun v => v.started.visit (c.val == 2) period) ∧ (s.convStart c).raised = s.raised := by
  obtain ⟨period, hv⟩ := (s.onConv c Conv.started).beginVisit_eq c
  have hs : s.convStart c = ((s.onConv c Conv.started).beginVisit c).finishAll 0x22 (hFunc (convFunc c)) .ok := if_neg (by simp [h])
  rw [hs, hv]
  exact ⟨⟨period, by simp⟩, by simp⟩

/-- The abandoned urgent conversion leaves the converter, and its descriptor the waits. -/
theorem Dev.abandonUrgent_shape (s : Dev) (c : Fin 3) :
    ∃ w g dn, s.abandonUrgent c = { s.onConv c fun v => { v with urgent := none } with waits := w, log := g, done := dn } := by
  unfold Dev.abandonUrgent
  split
  · obtain ⟨g, dn, h⟩ := Dev.finish_shape (s.onConv c fun v => { v with urgent := none }) 0x23 _ .flushed 0 []
    exact ⟨_, g, dn, h⟩
  · next hu =>
    have hkeep : (s.onConv c fun v => { v with urgent := none }) = s := s.onConv_eq_self (by rw [← hu])
    exact ⟨s.waits, s.log, s.done, by rw [hkeep]⟩

theorem Dev.convStop_shape (s : Dev) (c : Fin 3) :
    ∃ w g dn, s.convStop c = { s.onConv c Conv.halted with waits := w, log := g, done := dn } := by
  obtain ⟨w, g, dn, h⟩ := s.abandonUrgent_shape c
  refine ⟨w, g, dn, ?_⟩
  rw [Dev.convStop, h]
  simp only [Dev.convPark, Dev.onConv, vmod_vmod]
  rfl

/-- Whether a converter waits is read off the power state alone. -/
theorem Dev.convWaits_congr {s t : Dev} (c : Fin 3) (h : t.power = s.power) : t.convWaits c = s.convWaits c := by
  simp [Dev.convWaits, Dev.held, Dev.frstBit, Dev.stopped, Dev.asleep, Dev.faEco, h]

/-! ## Samples (04 R106, R111, R112, R119) -/

/-- A converter that has seen a sample of input `i`: what it has seen, and what has been logged of the input. -/
def Conv.flagged (v : Conv) (i : Fin 64) (openSeen ovrSeen openLogged ovrLogged : Bool) : Conv :=
  { v with openSeen, ovrSeen, inputs := vmod v.inputs i fun x => { x with openLogged, ovrLogged } }

/-- A sample that is seen changes flags, and is logged at most. -/
theorem Dev.seen_shape (s : Dev) (c : Fin 3) (i : Fin 64) (judged cause : Nat) :
    ∃ os vs ol vl g, s.seen c i judged cause = { s.onConv c fun v => v.flagged i os vs ol vl with log := g } := by
  let v := s.convs[c.val]
  let x := v.inputs[i.val]
  unfold Dev.seen
  dsimp only
  split_ifs
  · exact ⟨true, v.ovrSeen, true, x.ovrLogged, s.log, rfl⟩
  · obtain ⟨g, h⟩ := Dev.report_shape (s.onConv c fun v => v.flagged i true v.ovrSeen true x.ovrLogged) (hFunc (convFunc c)) (convFunc c)
      .warn LG_ADC_OPEN (hResult c i.val)
    exact ⟨true, v.ovrSeen, true, x.ovrLogged, g, h⟩
  · exact ⟨v.openSeen, true, x.openLogged, true, s.log, rfl⟩
  · exact ⟨v.openSeen, true, x.openLogged, true, _, rfl⟩
  · exact ⟨v.openSeen, v.ovrSeen, false, false, s.log, rfl⟩
  · refine ⟨v.openSeen, v.ovrSeen, x.openLogged, x.ovrLogged, s.log, ?_⟩
    rw [s.onConv_eq_self (congrArg (fun y => { v with inputs := y }) (vmod_eq_self _ _ rfl))]

/-- The end of a conversion changes its converter's flags, and logs at most what the sample was. -/
theorem Dev.endSample_shape (s : Dev) (c : Fin 3) (e : SeqEntry) (raw : Int) (overload settling urgentSlot : Bool) :
    ∃ os vs ol vl g, (s.endSample c e raw overload settling urgentSlot).1 =
      { s.onConv c fun v => { v with refMark := v.refMark - 1 }.flagged (ix 63 e.input) os vs ol vl with log := g } := by
  obtain ⟨os, vs, ol, vl, g, h⟩ := (s.onConv c fun v => { v with refMark := v.refMark - 1 }).seen_shape c (ix 63 e.input) _ _
  rw [Dev.onConv_onConv] at h
  exact ⟨os, vs, ol, vl, g, h⟩

end Sys2Proof.Machine
end

section
/-! The descriptors of class 0x2 (04 R104, R113, R116, R117, R122 to R129). -/

namespace Sys2Proof.Machine

/-! ## How a descriptor of a converter ends -/

section
variable {s : State} {i : OpInfo} {d : Desc} {o : Obj} {body : Obj → Dev → Dev × Res} {v : Dev}

/-- A descriptor whose opcode waits, leaving the device `v`. -/
theorem State.desc_wait (h : s.admits i d o) (hb : body o (s.dev.taken i.op d) = (v, .wait)) :
    s.desc i d body = { s with dev := { v with waits := v.waits ++ [{ op := i.op, d }] } } := by
  have hdev := State.desc_admitted body h
  rw [hb] at hdev
  exact congrArg (fun v => { s with dev := v }) hdev

theorem State.desc_waiting (h : s.admits i d o) (hb : body o (s.dev.taken i.op d) = (v, .wait)) : (s.desc i d body).waiting i.op d := by
  rw [State.desc_wait h hb]
  exact List.mem_append_right _ (List.mem_singleton_self _)

/-- A descriptor that changes one converter is answered, and nothing else changes. -/
theorem State.desc_onConv {c : Fin 3} {f : Conv → Conv} {st : Status} {res : DWord} (h : s.admits i d o)
    (hb : body o (s.dev.taken i.op d) = ((s.dev.taken i.op d).onConv c f, .done st res)) :
    (s.desc i d body).answered d st res ∧ (s.desc i d body).dev.convs = vmod s.dev.convs c f ∧
      s.becomes (s.desc i d body) { s.dev with convs := (s.desc i d body).dev.convs } := by
  refine ⟨State.desc_answered h hb, ?_⟩
  rw [State.desc_done h hb]
  exact ⟨rfl, rfl⟩

end

/-- Functions 3 to 5 are the converters (04 R102). -/
theorem onConvFunc_function {f : Fin 92} {c : Fin 3} (h : f.val = 3 + c.val) (g : Fin 3 → Dev → Dev × Res) (s : Dev) :
    onConvFunc g (.function f) s = g c s := by
  have hc : ix 2 (f.val - 3) = c := by
    apply Fin.ext
    simp only [ix, Fin.val_ofNat]
    omega
  simp [onConvFunc, hc]

/-! ## ADC_RUN (04 R124) -/

/-- A converter that is stopped with RUN 0. -/
def Dev.convOff (s : Dev) (c : Fin 3) : Dev := (s.convStop c).onConv c fun v => { v with run := false }

/-- RUN becomes 1, and the converter starts where it can. -/
def Dev.convOn (s : Dev) (c : Fin 3) : Dev := (s.onConv c fun v => { v with run := true }).convStart c

theorem Dev.convOff_shape (s : Dev) (c : Fin 3) :
    ∃ w g dn, s.convOff c = { s.onConv c fun v => { v.halted with run := false } with waits := w, log := g, done := dn } := by
  obtain ⟨w, g, dn, h⟩ := s.convStop_shape c
  exact ⟨w, g, dn, by simp only [Dev.convOff, h, Dev.onConv, vmod_vmod]⟩

theorem Dev.convOff_get (s : Dev) (c : Fin 3) : (s.convOff c).convs[c.val] = { s.convs[c.val].halted with run := false } := by
  obtain ⟨w, g, dn, h⟩ := s.convOff_shape c
  simp [h]

theorem Dev.convOff_waits (s : Dev) (c : Fin 3) : (s.convOff c).convWaits c = s.convWaits c := by
  obtain ⟨w, g, dn, h⟩ := s.convOff_shape c
  exact Dev.convWaits_congr c (by rw [h]; rfl)

/-- A converter that cannot start now has RUN 1 and stays as it is. -/
theorem Dev.convOn_waits {s : Dev} {c : Fin 3} (h : s.convWaits c) : s.convOn c = s.onConv c fun v => { v with run := true } :=
  Dev.convStart_waits h

theorem Dev.convOn_starts {s : Dev} {c : Fin 3} (h : s.convWaits c = false) :
    ∃ period, (s.convOn c).convs[c.val] = ({ s.convs[c.val] with run := true } : Conv).started.visit (c.val == 2) period := by
  obtain ⟨⟨period, hconvs⟩, -⟩ := Dev.convStart_starts (s := s.onConv c fun v => { v with run := true }) h
  exact ⟨period, by simp [Dev.convOn, hconvs]⟩

/-- Started or not, RUN is 1. -/
theorem Dev.convOn_run (s : Dev) (c : Fin 3) : (s.convOn c).convs[c.val].run = true := by
  cases h : s.convWaits c with
  | true => simp [Dev.convOn_waits h]
  | false =>
    obtain ⟨period, hv⟩ := Dev.convOn_starts h
    rw [hv]
    rfl

theorem Dev.convWaits_of_active {s : Dev} {c : Fin 3} (h : s.active (convFunc c)) (hfa : s.faEco c = false) : s.convWaits c = false := by
  simp only [Dev.active, Bool.and_eq_true, Bool.not_eq_true'] at h
  obtain ⟨⟨-, hheld⟩, hstopped⟩ := h
  simp [Dev.convWaits, hheld, hstopped, hfa]

theorem Dev.inEco_of_faEco {s : Dev} {c : Fin 3} (h : s.faEco c = false) : s.inEco c = false := by
  simp only [Dev.faEco, Dev.inEco, Bool.and_eq_false_iff, Bool.or_eq_false_iff] at h ⊢
  exact h.imp_right And.left

section
variable {s : Dev} {d : Desc} {c : Fin 3}

theorem doAdcRun_stop (h : d.bits 8 0 2 = 0) :
    doAdcRun d c s = ((s.convOff c).finishAll 0x22 (hFunc (convFunc c)) .flushed, .ok) := by simp [doAdcRun, h, Dev.convOff]

theorem doAdcRun_start (h : d.bits 8 0 2 = 1) (he : s.enabled (convFunc c)) (hi : s.inEco c = false) (hr : s.convs[c.val].run = false) :
    doAdcRun d c s = (s.convOn c, .ok) := by simp [doAdcRun, h, he, hi, hr, Dev.convOn]

/-- START of a converter that runs leaves it. -/
theorem doAdcRun_running (h : d.bits 8 0 2 = 1) (he : s.enabled (convFunc c)) (hi : s.inEco c = false) (hr : s.convs[c.val].run) :
    doAdcRun d c s = (s, .ok) := by simp [doAdcRun, h, he, hi, hr]

/-- RESTART completes with the start. -/
theorem doAdcRun_restart (h : d.bits 8 0 2 = 2) (he : s.enabled (convFunc c)) (hi : s.inEco c = false) (hw : s.convWaits c = false) :
    doAdcRun d c s = ((s.convOff c).convOn c, .ok) := by
  rw [← s.convOff_waits, Dev.convOff] at hw
  simp [doAdcRun, h, he, hi, hw, Dev.convOff, Dev.convOn]

/-- RESTART of a converter that cannot start now waits for the start. -/
theorem doAdcRun_restart_waits (h : d.bits 8 0 2 = 2) (he : s.enabled (convFunc c)) (hi : s.inEco c = false) (hw : s.convWaits c) :
    doAdcRun d c s = ((s.convOff c).convOn c, .wait) := by
  rw [← s.convOff_waits, Dev.convOff] at hw
  simp [doAdcRun, h, he, hi, hw, Dev.convOff, Dev.convOn]

theorem doAdcRun_disabled (h : d.bits 8 0 2 = 1 ∨ d.bits 8 0 2 = 2) (he : s.enabled (convFunc c) = false ∨ s.inEco c)
    (hl : s.loading = false) : doAdcRun d c s = (s, .done .disabled) := by
  have hne : d.bits 8 0 2 ≠ 3 ∧ d.bits 8 0 2 ≠ 0 := by omega
  rcases he with he | he <;> simp [doAdcRun, hne, he, hl, refuse]

end

/-- An ADC_RUN that executes with ST_OK. -/
theorem execAdcRun_ok {s : State} {d : Desc} {f : Fin 92} {c : Fin 3} {v : Dev} (hf : f.val = 3 + c.val)
    (h : s.admits opAdcRun d (.function f)) (hb : doAdcRun d c (s.dev.taken 0x22 d) = (v, .ok)) :
    ∃ t, exec (.adcRun d) s = .next t ∧ t.okd d ∧ s.onlyDev t ∧ t.dev.convs = v.convs := by
  obtain ⟨hans, hdev⟩ := State.desc_ok (body := onConvFunc (doAdcRun d)) h ((onConvFunc_function hf ..).trans hb)
  exact ⟨_, rfl, hans, ⟨rfl, rfl, rfl⟩, by rw [hdev]; rfl⟩

/-! ## ADC_URGENT (04 R116, R117, R125) -/

/-- The entry of a request. -/
abbrev urgentEntry (d : Desc) : SeqEntry := BitVec.ofNat 128 (d.bits 8 0 128)

/-- A request that ADC_URGENT accepts: one conversion of its handle's input, with no post-delay. -/
structure UrgentOk (d : Desc) (c : Fin 3) (i : Fin 64) : Prop where
  ok : entryOk (c.val == 2) (urgentEntry d)
  input : (urgentEntry d).input = i.val
  rep : (urgentEntry d).rep = 0
  dtype : (urgentEntry d).dtype = 0
  dly : (urgentEntry d).dly = 0

/-- The urgent conversion that a request starts. -/
def Conv.urgentFor (v : Conv) (pa : Bool) (d : Desc) : Urgent :=
  let m := v.marks pa true (urgentEntry d)
  { d, entry := urgentEntry d, settle := !pa && (urgentEntry d).timing != 0, settling := m.1, settleUrgent := m.2 }

section
variable {s : Dev} {d : Desc} {c : Fin 3} {i : Fin 64}

/-- In a post-delay without another one the urgent conversion begins. -/
theorem doAdcUrgent_runs (hreq : UrgentOk d c i) (hr : s.convs[c.val].run) (hi : s.inEco c = false) (hp : s.convs[c.val].inPost)
    (hu : s.convs[c.val].urgent = none) :
    ∃ period, doAdcUrgent d c i s =
      (s.onConv c fun v => { v with urgent := some (s.convs[c.val].urgentFor (c.val == 2) d), period }, .wait) := by
  obtain ⟨hok, hin, hrep, hty, hdly⟩ := hreq
  refine ⟨if c.val == 2 then s.paPeriod (urgentEntry d) else s.convs[c.val].period, ?_⟩
  rw [doAdcUrgent, if_neg (by simp [hok, hin, hrep, hty, hdly]), if_neg (by simp [hr, hi]), if_pos (by simp [hp, hu])]
  rfl

/-- Outside a post-delay, or behind another one, it is dropped and counted. -/
theorem doAdcUrgent_dropped (hreq : UrgentOk d c i) (hr : s.convs[c.val].run) (hi : s.inEco c = false)
    (h : s.convs[c.val].inPost = false ∨ s.convs[c.val].urgent ≠ none) :
    doAdcUrgent d c i s =
      ((s.onConv c fun v => { v with urgentDrop := v.urgentDrop + 1 }).note .trace (convFunc c) LG_ADC_URG_DROP 1, .done .dropped) := by
  obtain ⟨hok, hin, hrep, hty, hdly⟩ := hreq
  rw [doAdcUrgent, if_neg (by simp [hok, hin, hrep, hty, hdly]), if_neg (by simp [hr, hi]),
    if_neg (by rcases h with h | h <;> simp [h, Option.isNone_iff_eq_none])]

end

/-! ## The obligation -/

/-- Settles O37: ADC_CONFIG, ADC_SEQ_WRITE, ADC_RUN by its actions, ADC_READ, ADC_CAL, then ADC_URGENT. -/
theorem converterDescriptors : Obligations.ConverterDescriptors := by
  unfold Obligations.ConverterDescriptors
  refine ⟨fun s d f c hf => ⟨fun h hr => ?config, fun h hr => ?configRange, fun h he => ?seqWrite, fun h he => ?seqRange, fun h ha => ?stop,
    fun h ha hact hfa hrun => ?start, fun h ha hact heco => ?startEnabled, fun h ha hen heco => ⟨fun hw => ?restartWaits, fun hw => ?restart⟩,
    fun h ha hen hl => ?disabled, fun i h => ⟨_, rfl, State.desc_onlyAnswers h rfl⟩, fun i h ho ho' hg hg' => ?cal⟩,
    fun s d c i h hok hin hrep hty hdly hrun heco => ⟨fun hp hu => ?urgent, fun hp => ?dropped⟩⟩
  case config =>
    obtain ⟨hans, hconvs, hbec⟩ := State.desc_onConv (body := onConvFunc (doAdcConfig d)) h ((onConvFunc_function hf ..).trans (if_neg hr))
    refine ⟨_, rfl, hans, hbec, ?_⟩
    rw [hconvs]
    simp only [Fin.getElem_fin, vmod_self, true_and]
    exact ⟨fun hne => by simp [hne], fun k hk => vmod_other _ _ _ _ hk⟩
  case configRange => exact ⟨_, rfl, State.desc_onlyAnswers h ((onConvFunc_function hf ..).trans (if_pos hr))⟩
  case seqWrite =>
    obtain ⟨hans, hconvs, hbec⟩ := State.desc_onConv (body := onConvFunc (doAdcSeqWrite d)) h ((onConvFunc_function hf ..).trans (if_pos he))
    rw [hconvs] at hbec
    exact ⟨_, rfl, hans, hbec⟩
  case seqRange => exact ⟨_, rfl, State.desc_onlyAnswers h ((onConvFunc_function hf ..).trans (if_neg (by simp [he])))⟩
  case stop =>
    obtain ⟨t, ht, hans, hdev, hconvs⟩ := execAdcRun_ok hf h (doAdcRun_stop ha)
    refine ⟨t, ht, hans, hdev, ?_⟩
    rw [hconvs, Dev.finishAll_convs, Fin.getElem_fin, Dev.convOff_get]
    exact ⟨rfl, rfl, rfl, rfl, rfl, rfl, rfl⟩
  case start =>
    rw [hf] at hact
    obtain ⟨t, ht, hans, hdev, hconvs⟩ :=
      execAdcRun_ok hf h (doAdcRun_start (s := s.dev.taken 0x22 d) ha (Dev.enabled_of_active hact) (Dev.inEco_of_faEco hfa) hrun)
    obtain ⟨period, hget⟩ := Dev.convOn_starts (s := s.dev.taken 0x22 d) (Dev.convWaits_of_active hact hfa)
    refine ⟨t, ht, hans, hdev, ?_⟩
    rw [hconvs, Fin.getElem_fin, hget]
    refine ⟨rfl, rfl, rfl, Conv.visit_phase_ne_stopped _ _ _, fun i => ?_⟩
    simp [Conv.visit, Conv.started]
  case startEnabled =>
    rw [hf] at hact
    have hen := Dev.enabled_of_active hact
    cases hrun : s.dev.convs[c.val].run with
    | true =>
      obtain ⟨t, ht, hans, hdev, hconvs⟩ := execAdcRun_ok hf h (doAdcRun_running (s := s.dev.taken 0x22 d) ha hen heco hrun)
      exact ⟨t, ht, hans, hdev, by rw [hconvs]; exact hrun⟩
    | false =>
      obtain ⟨t, ht, hans, hdev, hconvs⟩ := execAdcRun_ok hf h (doAdcRun_start (s := s.dev.taken 0x22 d) ha hen heco hrun)
      exact ⟨t, ht, hans, hdev, by rw [hconvs]; exact Dev.convOn_run ..⟩
  case restartWaits =>
    rw [hf] at hen
    have hbody := (onConvFunc_function hf (doAdcRun d) _).trans (doAdcRun_restart_waits (s := s.dev.taken 0x22 d) ha hen heco hw)
    have hstay := Dev.convOn_waits (((s.dev.taken 0x22 d).convOff_waits c).trans hw)
    refine ⟨_, rfl, State.desc_waiting h hbody, ?_⟩
    rw [State.desc_wait h hbody, hstay]
    simp [Dev.convOff_get, Conv.halted]
  case restart =>
    rw [hf] at hen
    obtain ⟨t, ht, hans, -, hconvs⟩ := execAdcRun_ok hf h (doAdcRun_restart (s := s.dev.taken 0x22 d) ha hen heco hw)
    obtain ⟨period, hget⟩ := Dev.convOn_starts (((s.dev.taken 0x22 d).convOff_waits c).trans hw)
    refine ⟨t, ht, hans, ?_⟩
    rw [hconvs, Fin.getElem_fin, hget]
    exact ⟨rfl, rfl, Conv.visit_phase_ne_stopped _ _ _⟩
  case disabled =>
    rw [hf] at hen
    exact ⟨_, rfl, State.desc_onlyAnswers h ((onConvFunc_function hf ..).trans (doAdcRun_disabled ha hen hl))⟩
  case cal =>
    obtain ⟨hans, hconvs, hbec⟩ := State.desc_onConv (body := onConvObj (doAdcCal d)) h (if_neg (by omega))
    refine ⟨_, rfl, hans, ?_⟩
    rw [hconvs] at hbec ⊢
    simp only [Fin.getElem_fin, vmod_self, true_and]
    exact ⟨fun j hj => vmod_other _ _ _ _ hj, hbec⟩
  case urgent =>
    obtain ⟨period, hbody⟩ := doAdcUrgent_runs (s := s.dev.taken 0x23 d) ⟨hok, hin, hrep, hty, hdly⟩ hrun heco hp hu
    refine ⟨_, rfl, State.desc_waiting (body := onConvObj (doAdcUrgent d)) h hbody, ?_⟩
    rw [State.desc_wait (body := onConvObj (doAdcUrgent d)) h hbody]
    simp only [Dev.onConv_convs, Fin.getElem_fin, vmod_self]
    exact ⟨⟨_, rfl, rfl, rfl⟩, rfl, rfl, rfl⟩
  case dropped =>
    have hbody := doAdcUrgent_dropped (s := s.dev.taken 0x23 d) ⟨hok, hin, hrep, hty, hdly⟩ hrun heco hp
    refine ⟨_, rfl, State.desc_answered (body := onConvObj (doAdcUrgent d)) h hbody, ?_⟩
    rw [State.desc_done (body := onConvObj (doAdcUrgent d)) h hbody]
    simp

end Sys2Proof.Machine
end

section
/-! Result words and the causes of samples (04 R104 to R106, R111 to R113). -/

namespace Sys2Proof.Machine

/-! ## The fields of a result word (04 R105) -/

section
variable {valid cause tag data : Nat}

/-- A word put together of VALID, CAUSE, TAG and DATA. -/
abbrev resultWord (valid cause tag data : Nat) : Word := mkWord [(31, 1, valid), (28, 3, cause), (24, 4, tag), (0, 24, data)]

theorem resultWord_toNat (hv : valid < 2) (hc : cause < 8) (ht : tag < 16) (hd : data < 2 ^ 24) :
    (resultWord valid cause tag data).toNat = valid * 2 ^ 31 + cause * 2 ^ 28 + tag * 2 ^ 24 + data := by
  simp only [resultWord, mkWord, fieldsOf, List.foldl, BitVec.toNat_ofNat]
  omega

/-- Each field reads back. -/
theorem resultWord_fields (hv : valid < 2) (hc : cause < 8) (ht : tag < 16) (hd : data < 2 ^ 24) :
    (resultWord valid cause tag data).getLsbD 31 = decide (valid = 1) ∧ bitsOf (resultWord valid cause tag data).toNat 28 3 = cause ∧
      bitsOf (resultWord valid cause tag data).toNat 24 4 = tag ∧ bitsOf (resultWord valid cause tag data).toNat 0 24 = data := by
  have hw := resultWord_toNat hv hc ht hd
  refine ⟨?_, ?_, ?_, ?_⟩
  · rw [← BitVec.testBit_toNat, Nat.testBit_eq_decide_div_mod_eq, hw]
    congr 1
    apply propext
    omega
  all_goals rw [bitsOf, hw]; omega

end

theorem SeqEntry.tag_lt (e : SeqEntry) : e.tag < 16 := Nat.mod_lt _ (by decide)

theorem wrapTo_lt (w : Nat) (x : Int) : wrapTo w x < 2 ^ w := by
  have hpos : (0 : Int) < 2 ^ w := by positivity
  have hlt := Int.emod_lt_of_pos x hpos
  have hnn := Int.emod_nonneg x hpos.ne'
  rw [wrapTo, Int.toNat_lt hnn]
  exact_mod_cast hlt

theorem Group.word_eq (g : Group) (e : SeqEntry) :
    g.word e = resultWord g.bad.isNone.toNat (g.bad.getD 0) e.tag (wrapTo 24 (g.sum / 2 ^ e.shift)) := rfl

/-- The word of a group without an invalid sample. -/
theorem Group.word_valid {g : Group} (e : SeqEntry) (h : g.bad = none) :
    (g.word e).getLsbD 31 ∧ bitsOf (g.word e).toNat 28 3 = 0 ∧ bitsOf (g.word e).toNat 24 4 = e.tag ∧
      bitsOf (g.word e).toNat 0 24 = wrapTo 24 (g.sum / 2 ^ e.shift) := by
  rw [g.word_eq, h]
  exact resultWord_fields (by decide) (by decide) e.tag_lt (wrapTo_lt ..)

/-- The word of a group with an invalid sample names the first one's cause. -/
theorem Group.word_invalid {g : Group} {k : Nat} (e : SeqEntry) (h : g.bad = some k) (hk : k < 8) :
    (g.word e).getLsbD 31 = false ∧ bitsOf (g.word e).toNat 28 3 = k ∧ bitsOf (g.word e).toNat 24 4 = e.tag := by
  obtain ⟨hvalid, hcause, htag, -⟩ := resultWord_fields (valid := 0) (by decide) hk e.tag_lt (wrapTo_lt 24 (g.sum / 2 ^ e.shift))
  rw [g.word_eq, h]
  exact ⟨hvalid, hcause, htag⟩

/-! ## Samples (04 R104, R112, R113) -/

theorem clampI_bounds {lo hi : Int} (x : Int) (h : lo ≤ hi) : lo ≤ clampI lo hi x ∧ clampI lo hi x ≤ hi :=
  ⟨le_max_left .., max_le h (min_le_left ..)⟩

theorem clampI_of_mem {lo hi x : Int} (h : lo ≤ x) (h' : x ≤ hi) : clampI lo hi x = x := by rw [clampI, min_eq_right h', max_eq_right h]

/-- The correction pair saturates. -/
theorem calibrate_bounds (pa : Bool) (x : ConvInput) (raw : Int) :
    (if pa then -8388608 else 0) ≤ (calibrate pa x raw).1 ∧ (calibrate pa x raw).1 ≤ (if pa then 8388607 else 0xFFFFFF) := by
  cases pa
  · exact clampI_bounds _ (by decide)
  · exact clampI_bounds _ (by decide)

/-- Rounding does nothing to a multiple. -/
theorem roundDiv_mul (x : Int) {b : Nat} (hb : 0 < b) : roundDiv (x * b) b = x := by
  have hround (y : Int) : (2 * (y * b) + b) / (2 * b : Int) = y := by
    have hb : (0 : Int) < b := by exact_mod_cast hb
    rw [show 2 * (y * b) + b = b + y * (2 * b) by ring, Int.add_mul_ediv_right _ _ (by omega), Int.ediv_eq_zero_of_lt (by omega) (by omega),
      zero_add]
  unfold roundDiv
  split
  · exact hround x
  · rw [← neg_mul, hround, neg_neg]

/-- The correction pair at its reset values: the code as it is, left-justified for FA. -/
theorem calibrate_neutral {pa : Bool} {x : ConvInput} {raw : Int} (ho : x.offset = 0) (hg : x.gain = 0x40000000)
    (hlo : (if pa then -8388608 else 0) ≤ if pa then raw else raw * 1024) (hhi : (if pa then raw else raw * 1024) ≤ if pa then 8388607 else 0xFFFFFF) :
    calibrate pa x raw = (if pa then raw else raw * 1024, false) := by
  have hr : roundDiv (((if pa then raw else raw * 1024) - x.offset) * x.gain) (2 ^ 30) = if pa then raw else raw * 1024 := by
    rw [ho, hg, sub_zero]
    exact roundDiv_mul _ (by decide)
  unfold calibrate
  cases pa <;> simp_all [clampI_of_mem]

/-- A code of FA below overrange, without a check for an open input. -/
theorem convSample_fa {e : SeqEntry} {x : ConvInput} {raw : Int} (ho : x.offset = 0) (hg : x.gain = 0x40000000) (hlo : 0 ≤ raw)
    (hhi : raw ≤ 16382) (hopen : e.openChk = 0) : convSample false e x raw false = (raw * 1024, 0) := by
  have hraw : rawOf false raw = raw := clampI_of_mem hlo (by omega)
  have hcal : calibrate false x raw = (raw * 1024, false) := calibrate_neutral ho hg (by simpa using hlo) (by simp; omega)
  have hjudge : judgeRaw false e.openChk raw false = 0 := by
    rw [hopen]
    simp [judgeRaw]
    omega
  simp [convSample, hraw, hcal, hjudge]

/-- A code of PA between its ends. -/
theorem convSample_pa {e : SeqEntry} {x : ConvInput} {raw : Int} (ho : x.offset = 0) (hg : x.gain = 0x40000000) (hlo : -8388608 < raw)
    (hhi : raw < 8388607) : convSample true e x raw false = (raw, 0) := by
  have hraw : rawOf true raw = raw := clampI_of_mem hlo.le hhi.le
  have hcal : calibrate true x raw = (raw, false) := calibrate_neutral ho hg (by simpa using hlo.le) (by simpa using hhi.le)
  have hjudge : judgeRaw true e.openChk raw false = 0 := by simp [judgeRaw, hlo.ne', hhi.ne]
  simp [convSample, hraw, hcal, hjudge]

end Sys2Proof.Machine
end

section
/-! The moments of a converter (04 R107, R108, R111, R114, R117 to R119, R129). -/

namespace Sys2Proof.Machine

/-! ## What a conversion leaves of the results -/

theorem Conv.flagged_get_other (v : Conv) {i j : Fin 64} (os vs ol vl : Bool) (h : j ≠ i) : (v.flagged i os vs ol vl).inputs[j.val] = v.inputs[j.val] :=
  vmod_other _ _ _ _ h

/-- What is seen of a sample leaves every latest word and its count. -/
theorem Conv.flagged_result (v : Conv) (i j : Fin 64) (os vs ol vl : Bool) :
    ((v.flagged i os vs ol vl).inputs[j.val]).word = (v.inputs[j.val]).word ∧
      ((v.flagged i os vs ol vl).inputs[j.val]).count = (v.inputs[j.val]).count := by
  by_cases h : j = i
  · subst h
    simp [Conv.flagged]
  · simp [v.flagged_get_other os vs ol vl h]

/-- A sample counts once at most. -/
theorem Group.add_n_le (g : Group) (skip : Bool) (data : Int) (cause : Nat) : (g.add skip data cause).n ≤ g.n + 1 := by
  unfold Group.add
  split <;> simp

/-- Without SKIPSET every sample counts. -/
theorem Group.add_n (g : Group) (data : Int) (cause : Nat) : (g.add false data cause).n = g.n + 1 := rfl

/-- A valid sample joins its group whether or not SKIPSET is set. -/
theorem Group.add_valid (g : Group) (skip : Bool) (data : Int) : g.add skip data 0 = { g with n := g.n + 1, sum := g.sum + data } := by
  simp [Group.add]

theorem Dev.deliver_convs (s : Dev) (c : Fin 3) (i : Fin 64) (w : Word) :
    (s.deliver c i w).convs = vmod s.convs c fun v => { v with inputs := vmod v.inputs i fun x => { x with word := w, count := x.count + 1 } } := by
  simp only [Dev.deliver, Dev.ladderSample_convs]
  exact foldl_keeps Dev.convs (fun s n => s.loopEoc_convs ..) _ _

/-- A converter whose conversion with entry `e` has joined the group `g`; `period` is the output period that PA takes from the entry. -/
def Conv.joined (v : Conv) (pa : Bool) (e : SeqEntry) (g : Group) (period : Nat) : Conv :=
  { v.made pa false e with
    settling := v.settling - 1, group := if e.avg < g.n then {} else g
    wordsLeft := if e.avg < g.n then v.wordsLeft - 1 else v.wordsLeft, period := if pa then period else v.period }

/-- A converter whose last urgent conversion has been made. -/
def Conv.freed (v : Conv) (pa : Bool) (e : SeqEntry) : Conv := { v.made pa true e with urgent := none }

section
variable {s : Dev} {c : Fin 3} {v : Conv} {raw : Int} {overload : Bool}

/-- A sample is seen, and joins its group. -/
theorem Dev.endSample_joined (hv : s.convs[c.val] = v) (e : SeqEntry) (raw : Int) (overload settling urgentSlot pa : Bool) (g : Group)
    (period : Nat) :
    ∃ os vs ol vl, ((s.endSample c e raw overload settling urgentSlot).1.onConv c fun w => w.joined pa e g period).convs[c.val] =
      ({ v with refMark := v.refMark - 1 }.flagged (ix 63 e.input) os vs ol vl).joined pa e g period := by
  obtain ⟨os, vs, ol, vl, l, hs⟩ := s.endSample_shape c e raw overload settling urgentSlot
  exact ⟨os, vs, ol, vl, by simp [hs, hv]⟩

/-- The end of a conversion in its steps: the sample, its group, the group's word, the end of the visit. -/
theorem Dev.endConversion_eq (hv : s.convs[c.val] = v) (hph : v.phase = .convert) (hpark : v.parked = false) :
    s.endConversion c raw overload =
      let r := s.endSample c v.cur raw overload (v.settling != 0) v.settleUrgent
      let g := v.group.add v.cur.skip r.2.1 r.2.2
      let t := r.1.onConv c fun w => w.joined (c.val == 2) v.cur g (s.paPeriod v.cur)
      let t := if v.cur.avg < g.n then t.deliver c (ix 63 v.cur.input) (g.word v.cur) else t
      if t.convs[c.val].wordsLeft = 0 then t.visitDone c else t := by
  subst hv
  simp only [Dev.endConversion, hph, hpark, ne_eq, not_true_eq_false, if_false, Bool.false_eq_true]
  rfl

/-- A conversion that leaves its group open goes on with the visit (04 R111). -/
theorem Dev.endConversion_open (hv : s.convs[c.val] = v) (hph : v.phase = .convert) (hpark : v.parked = false) (hn : v.group.n < v.cur.avg)
    (hw : 0 < v.wordsLeft) :
    ∃ os vs ol vl g period, ¬ v.cur.avg < g.n ∧ (s.endConversion c raw overload).convs[c.val] =
      ({ v with refMark := v.refMark - 1 }.flagged (ix 63 v.cur.input) os vs ol vl).joined (c.val == 2) v.cur g period := by
  let r := s.endSample c v.cur raw overload (v.settling != 0) v.settleUrgent
  let g := v.group.add v.cur.skip r.2.1 r.2.2
  have hopen : ¬ v.cur.avg < g.n := by
    have : g.n ≤ _ := v.group.add_n_le v.cur.skip r.2.1 r.2.2
    omega
  let t := r.1.onConv c fun w => w.joined (c.val == 2) v.cur g (s.paPeriod v.cur)
  obtain ⟨os, vs, ol, vl, hconv⟩ : ∃ os vs ol vl, t.convs[c.val] = _ := Dev.endSample_joined hv ..
  have hleft : t.convs[c.val].wordsLeft ≠ 0 := by
    rw [hconv]
    exact (if_neg hopen).trans_ne hw.ne'
  refine ⟨os, vs, ol, vl, g, s.paPeriod v.cur, hopen, ?_⟩
  rw [Dev.endConversion_eq hv hph hpark, ← hconv]
  dsimp only
  rw [if_neg hopen, if_neg hleft]

/-- A conversion that completes its group writes the group's word to its input (04 R111, R119). -/
theorem Dev.endConversion_word {data : Int} {cause : Nat} (hv : s.convs[c.val] = v) (hph : v.phase = .convert) (hpark : v.parked = false)
    (hr : (s.endSample c v.cur raw overload (v.settling != 0) v.settleUrgent).2 = (data, cause))
    (hn : v.cur.avg < (v.group.add v.cur.skip data cause).n) :
    ∃ os vs ol vl, (s.endConversion c raw overload).convs[c.val].inputs =
      vmod (v.flagged (ix 63 v.cur.input) os vs ol vl).inputs (ix 63 v.cur.input) fun x =>
        { x with word := (v.group.add v.cur.skip data cause).word v.cur, count := x.count + 1 } := by
  have hend (t : Dev) : (if t.convs[c.val].wordsLeft = 0 then t.visitDone c else t).convs[c.val].inputs = t.convs[c.val].inputs := by
    split <;> simp
  obtain ⟨os, vs, ol, vl, hconv⟩ := Dev.endSample_joined hv v.cur raw overload (v.settling != 0) v.settleUrgent (c.val == 2)
    (v.group.add v.cur.skip data cause) (s.paPeriod v.cur)
  refine ⟨os, vs, ol, vl, ?_⟩
  rw [Dev.endConversion_eq hv hph hpark]
  dsimp only
  rw [hend, hr, if_pos hn, Dev.deliver_convs, vmod_self, hconv]
  rfl

/-- The last conversion of an urgent visit frees the converter for its requester (04 R117). -/
theorem Dev.urgentEnd_last {u : Urgent} (hu : s.convs[c.val].urgent = some u) (hset : u.settle = false) (hend : u.ended = false)
    (hn : ∀ data cause, u.entry.avg < (u.group.add (u.entry.skip || c.val == 2) data cause).n) :
    ∃ os vs ol vl g res, s.urgentEnd c raw overload =
      Dev.finish { s.onConv c fun v => ({ v with refMark := v.refMark - 1 }.flagged (ix 63 u.entry.input) os vs ol vl).freed (c.val == 2) u.entry
                   with log := g } 0x23 u.d .ok res := by
  obtain ⟨os, vs, ol, vl, g, hs⟩ := s.endSample_shape c u.entry raw overload (u.settling != 0) u.settleUrgent
  generalize hr : s.endSample c u.entry raw overload (u.settling != 0) u.settleUrgent = r at hs
  have heq : ∃ res, s.urgentEnd c raw overload = (r.1.onConv c fun v => v.freed (c.val == 2) u.entry).finish 0x23 u.d .ok res := by
    simp only [Dev.urgentEnd, hu, hset, hr, hn, hend, Bool.false_eq_true, if_false, if_true, Bool.false_and]
    exact ⟨_, rfl⟩
  obtain ⟨res, heq⟩ := heq
  refine ⟨os, vs, ol, vl, g, res, ?_⟩
  rw [heq, hs]
  simp only [Dev.onConv, vmod_vmod]

end

/-! ## Waits and the reference (04 R114, R118, R129) -/

section
variable {s : Dev} {c : Fin 3}

/-- A post-delay that no urgent conversion has outlasted runs. -/
theorem Conv.inPost_of_urgent {v : Conv} (hph : v.phase = .postDelay ∨ v.phase = .wait) (hu : ∀ u, v.urgent = some u → u.ended = false) :
    v.inPost = true := by
  have hnone : (v.urgent.any fun u => u.ended) = false := by
    cases h : v.urgent with
    | none => rfl
    | some u => exact hu u h
  rcases hph with h | h <;> simp [Conv.inPost, h, hnone]

/-- The settle delay of a visit ends, and its conversions begin (04 R108). -/
theorem Dev.settleEnd_visit (hph : s.convs[c.val].phase = .settle) : s.settleEnd c = s.onConv c fun v => { v with phase := .convert } := by
  simp [Dev.settleEnd, Dev.onConv, vmod, hph]

/-- A timed post-delay that runs ends. -/
theorem Dev.postDelay_ends (hph : s.convs[c.val].phase = .postDelay) (hu : ∀ u, s.convs[c.val].urgent = some u → u.ended = false) :
    (if s.convs[c.val].inPost && s.convs[c.val].phase == .postDelay then s.endPost c else s) = s.endPost c :=
  if_pos (by simp [Conv.inPost_of_urgent (.inl hph) hu, hph])

/-- A wait that reaches its limit is counted, and the next visit begins (04 R114). -/
theorem Dev.waitLimit_idle (hph : s.convs[c.val].phase = .wait) (hu : s.convs[c.val].urgent = none) :
    ∃ g period, s.waitLimit c =
      { s.onConv c fun v => { v with timeouts := v.timeouts + 1, entry := v.following }.visit (c.val == 2) period with log := g } := by
  have hin : s.convs[c.val].inWait = true := by simp [Conv.inWait, hph, Conv.inPost_of_urgent (.inr hph) (by simp [hu])]
  obtain ⟨g, hg⟩ := (s.onConv c fun v => { v with timeouts := v.timeouts + 1 }).report_shape (hFunc (convFunc c)) (convFunc c) .warn LG_ADC_WAIT_TO
    (mkWord [(0, 5, s.convs[c.val].entry)])
  have hwl : s.waitLimit c = Dev.endPost { s.onConv c fun v => { v with timeouts := v.timeouts + 1 } with log := g } c := by
    rw [← hg]
    exact if_pos hin
  obtain ⟨period, hn⟩ := Dev.nextVisit_eq { s.onConv c fun v => { v with timeouts := v.timeouts + 1 } with log := g } c
  refine ⟨g, period, ?_⟩
  rw [hwl, Dev.endPost_idle (by simp [hu]), hn]
  simp only [Dev.onConv, vmod_vmod]
  rfl

/-- A start leaves the reference as it is, and raises no event. -/
theorem Dev.convStart_ref (s : Dev) (c : Fin 3) :
    (s.convStart c).convs[c.val].refOk = s.convs[c.val].refOk ∧ (s.convStart c).convs[c.val].refLost = s.convs[c.val].refLost ∧
      (s.convStart c).raised = s.raised := by
  cases h : s.convWaits c with
  | true => simp [Dev.convStart_waits h]
  | false =>
    obtain ⟨⟨period, hconvs⟩, hraised⟩ := Dev.convStart_starts h
    rw [hconvs, vmod_self]
    exact ⟨rfl, rfl, hraised⟩

/-- The fields of EV_ADC_REF that are 0 need not be written. -/
theorem refArg_rise (refsel : Nat) : refArg true false refsel = mkWord [(0, 1, 1), (2, 2, refsel)] := by simp [refArg, mkWord, fieldsOf]

theorem refArg_lost (refsel : Nat) : refArg false true refsel = mkWord [(1, 1, 1), (2, 2, refsel)] := by simp [refArg, mkWord, fieldsOf]

/-- REF_OK rises with its event. -/
theorem Dev.refRise_rises (hok : s.convs[c.val].refOk = false) (hana : s.anaOff = false) :
    (s.refRise c).convs[c.val].refOk ∧ (s.refRise c).convs[c.val].refLost = s.convs[c.val].refLost ∧
      (s.refRise c).raised = s.raised ++ [{ code := EV_ADC_REF, src := convFunc c, handle := hFunc (convFunc c), time := s.tick, lost := 0
                                            arg := refArg true false s.convs[c.val].refsel }] := by
  let busy := s.convs[c.val].phase == .convert || s.convs[c.val].urgent.any fun u => !u.settle
  let r := (s.onConv c fun v => { v with refOk := true, refMark := if busy then 2 else 1 }).refEvent c
  have hr : r.convs[c.val].refOk ∧ r.convs[c.val].refLost = s.convs[c.val].refLost ∧
      r.raised = s.raised ++ [{ code := EV_ADC_REF, src := convFunc c, handle := hFunc (convFunc c), time := s.tick, lost := 0
                                arg := refArg true false s.convs[c.val].refsel }] := by
    simp [r, Dev.refEvent, Dev.tick]
  have heq : s.refRise c = if s.convs[c.val].startOnRef then r.convStart c else r := if_neg (by simp [hok, hana])
  rw [heq]
  split
  · obtain ⟨hsame, hlost, hraised⟩ := r.convStart_ref c
    rw [hsame, hlost, hraised]
    exact hr
  · exact hr

/-- An error that starts its source's handling is recorded, and its event raised (17 R482). -/
theorem Dev.reportEv_idle (s : Dev) (src : Word) (f : Nat) (sev : Sev) (code : BitVec 11) (arg : Word) (ev : BitVec 16) (handle evArg : Word)
    (hheld : s.held f = false) (hidle : s.handling src = false) :
    (∃ e ∈ (s.reportEv src f sev code arg ev handle evArg).log.errs, e.source = src ∧ e.cls = sev ∧ e.code = code) ∧
      (s.reportEv src f sev code arg ev handle evArg).raised =
        s.raised ++ [{ code := ev, src := f, handle, arg := evArg, time := s.tick, lost := 0 }] ∧
      (s.reportEv src f sev code arg ev handle evArg).convs = s.convs := by
  obtain ⟨hraised, e, herrs, hsrc, -, hcls, hcode⟩ := s.report_idle src f sev code arg hheld hidle
  have heq : s.reportEv src f sev code arg ev handle evArg = (s.report src f sev code arg).1.raise ev f handle evArg := if_pos hraised
  rw [heq]
  refine ⟨⟨e, ?_, hsrc, hcls, hcode⟩, by simp [Dev.tick], by simp⟩
  exact herrs ▸ List.mem_append_right _ List.mem_cons_self

/-- REF_OK falls with its fault and its event. -/
theorem Dev.refFall_reported (hok : s.convs[c.val].refOk) (hheld : s.held (convFunc c) = false) (hidle : s.handling (hFunc (convFunc c)) = false) :
    (s.refFall c).convs = vmod s.convs c (fun v => { v with refOk := false, refLost := true }) ∧
      (∃ e ∈ (s.refFall c).log.errs, e.source = hFunc (convFunc c) ∧ e.cls = .fault ∧ e.code = LG_ADC_REF_LOST) ∧
      (s.refFall c).raised = s.raised ++ [{ code := EV_ADC_REF, src := convFunc c, handle := hFunc (convFunc c), time := s.tick, lost := 0
                                            arg := refArg false true s.convs[c.val].refsel }] := by
  let r := s.onConv c fun v => { v with refOk := false, refLost := true }
  obtain ⟨herr, hraised, hconvs⟩ := r.reportEv_idle (hFunc (convFunc c)) (convFunc c) .fault LG_ADC_REF_LOST
    (mkWord [(0, 2, s.convs[c.val].refsel)]) EV_ADC_REF (hFunc (convFunc c)) (refArg false true s.convs[c.val].refsel) hheld hidle
  have heq : s.refFall c = r.reportEv (hFunc (convFunc c)) (convFunc c) .fault LG_ADC_REF_LOST
    (mkWord [(0, 2, s.convs[c.val].refsel)]) EV_ADC_REF (hFunc (convFunc c)) (refArg false true s.convs[c.val].refsel) := if_pos hok
  rw [heq]
  exact ⟨hconvs, herr, hraised⟩

end

/-! ## A single sample -/

/-- The word of a valid sample that is not averaged (04 R105). -/
theorem Group.word_single {e : SeqEntry} {n : Nat} {data : Int} (hs : e.shift = 0) (hd : 0 ≤ data) :
    ({ n, sum := data } : Group).word e = mkWord [(31, 1, 1), (24, 4, e.tag), (0, 24, data.toNat)] := by
  have hwrap : wrapTo 24 (data / 2 ^ 0) = data.toNat % 2 ^ 24 := by
    simp only [wrapTo]
    omega
  rw [Group.word_eq, hs, hwrap]
  simp [mkWord, fieldsOf]

/-- FA0 and FA1 are not PA. -/
theorem notPa {c : Fin 3} (h : c ≠ 2) : (c.val == 2) = false := beq_eq_false_iff_ne.2 fun e => h (Fin.ext e)

/-- A code that neither converter finds at an end, at the reset values of the correction pair. -/
theorem convSample_neutral {c : Fin 3} {e : SeqEntry} {x : ConvInput} {raw : Int} (ho : x.offset = 0) (hg : x.gain = 0x40000000) (hlo : 0 < raw)
    (hhi : raw < 16383) (hopen : e.openChk = 0) : convSample (c.val == 2) e x raw false = (if c = 2 then raw else raw * 1024, 0) := by
  by_cases hc : c = 2
  · rw [hc]
    exact convSample_pa ho hg (by omega) (by omega)
  · rw [notPa hc, if_neg hc]
    exact convSample_fa ho hg hlo.le (by omega) hopen

/-- One valid sample makes the word (04 R111). -/
theorem Dev.endConversion_single {s : Dev} {c : Fin 3} {v : Conv} {raw data : Int} {overload : Bool} (hv : s.convs[c.val] = v)
    (hph : v.phase = .convert) (hpark : v.parked = false) (hok : v.refOk) (hmark : v.refMark = 0) (hset : v.settling = 0) (hgrp : v.group = {})
    (havg : v.cur.avg = 0) (hshift : v.cur.shift = 0)
    (hdata : convSample (c.val == 2) v.cur v.inputs[(ix 63 v.cur.input).val] raw overload = (data, 0)) (hpos : 0 ≤ data) :
    ∃ os vs ol vl, (s.endConversion c raw overload).convs[c.val].inputs =
      vmod (v.flagged (ix 63 v.cur.input) os vs ol vl).inputs (ix 63 v.cur.input) fun x =>
        { x with word := mkWord [(31, 1, 1), (24, 4, v.cur.tag), (0, 24, data.toNat)], count := x.count + 1 } := by
  have hsample : (s.endSample c v.cur raw overload (v.settling != 0) v.settleUrgent).2 = (data, 0) := by
    simp [Dev.endSample, hv, hdata, hok, hmark, hset, causeOf]
  have hgroup : v.group.add v.cur.skip data 0 = { n := 1, sum := data } := by
    rw [Group.add_valid, hgrp]
    simp
  rw [← Group.word_single hshift hpos, ← hgroup]
  exact Dev.endConversion_word hv hph hpark hsample (by rw [hgroup, havg]; exact Nat.one_pos)

/-! ## The obligation -/

/-- Settles O38: result words and samples, then the moments of a state. -/
theorem converterMoments : Obligations.ConverterMoments := by
  unfold Obligations.ConverterMoments
  refine ⟨⟨fun g e h => g.word_valid e h, fun g e k h hk => g.word_invalid e h hk, fun j st urg => rfl, fun st urg => ⟨rfl, rfl⟩,
    ⟨rfl, rfl, fun urg => rfl⟩, fun pa x raw => calibrate_bounds pa x raw, fun e x raw ho hg hlo hhi hopen => convSample_fa ho hg hlo hhi hopen,
    fun e x raw ho hg hlo hhi => convSample_pa ho hg hlo hhi⟩,
    fun s c => ⟨fun hph => ?settle, fun raw hph hok hmark hset hpark hgrp havg hshift hopen ho hg hlo hhi => ?sample,
      fun raw ov hph hpark hn hw => ?openGroup, fun u raw ov hu hset havg hskip hc hend hgrp hcalm => ?urgentEnd, fun hph hu => ?postDelay,
      fun u hph hu hend => ?behind, fun hph hu => ?limit, fun hok hana => ?rise, fun hok hheld hidle => ?lost⟩⟩
  case settle =>
    exact answers_onDev rfl (Dev.settleEnd_visit hph) ⟨rfl, vmod_self .., fun k hk => vmod_other _ _ _ _ hk⟩
  case sample =>
    have hpos : 0 ≤ if c = 2 then raw else raw * 1024 := by split <;> omega
    have hnat : (if c = 2 then raw else raw * 1024).toNat = if c = 2 then raw.toNat else 1024 * raw.toNat := by split <;> omega
    obtain ⟨os, vs, ol, vl, hin⟩ :=
      Dev.endConversion_single rfl hph hpark hok hmark hset hgrp havg hshift (convSample_neutral ho hg hlo hhi hopen) hpos
    refine ⟨_, rfl, ?_⟩
    dsimp only [State.onDev_dev, Fin.getElem_fin]
    rw [hin, vmod_self, hnat]
    refine ⟨congrArg (· + 1) (Conv.flagged_result ..).2, rfl, fun j hj => ?_, rfl, rfl, rfl⟩
    rw [vmod_other _ _ _ _ hj, Conv.flagged_get_other _ _ _ _ _ hj]
  case openGroup =>
    obtain ⟨os, vs, ol, vl, g, period, hopen, hconv⟩ := Dev.endConversion_open (raw := raw) (overload := ov) rfl hph hpark hn hw
    refine ⟨_, rfl, ?_⟩
    dsimp only
    rw [State.onDev_dev, Fin.getElem_fin, hconv]
    exact ⟨hph, if_neg hopen, rfl, rfl, fun j => Conv.flagged_result _ _ _ os vs ol vl⟩
  case urgentEnd =>
    obtain ⟨os, vs, ol, vl, g, res, heq⟩ := Dev.urgentEnd_last (raw := raw) (overload := ov) hu hset hend fun data cause => by
      rw [hskip, notPa hc, Bool.false_or, Group.add_n, havg]
      exact Nat.succ_pos _
    refine answers_onDev rfl (heq.trans (Dev.finish_calm _ _ _ _ _ _ hcalm)) ?_
    dsimp only
    rw [Dev.onConv_convs, Fin.getElem_fin, vmod_self]
    exact ⟨rfl, rfl, rfl, fun j => (Conv.flagged_result _ _ _ os vs ol vl).1, res, _, List.getLast?_concat, rfl, rfl, rfl, rfl, rfl⟩
  case postDelay =>
    obtain ⟨period, hnext⟩ := s.dev.nextVisit_eq c
    have heq := (Dev.postDelay_ends hph (by simp [show s.dev.convs[c.val].urgent = none from hu])).trans (Dev.endPost_idle hu)
    refine answers_onDev rfl (heq.trans hnext) ?_
    dsimp only
    rw [Dev.onConv_convs, Fin.getElem_fin, vmod_self]
    exact ⟨rfl, rfl, rfl, rfl⟩
  case behind =>
    have heq := (Dev.postDelay_ends hph (by simp [show s.dev.convs[c.val].urgent = some u from hu, hend])).trans (Dev.endPost_urgent hu)
    exact answers_onDev rfl heq (vmod_self ..)
  case limit =>
    obtain ⟨g, period, hlim⟩ := Dev.waitLimit_idle hph hu
    refine answers_onDev rfl hlim ?_
    dsimp only
    rw [Dev.onConv_convs, Fin.getElem_fin, vmod_self]
    exact ⟨rfl, rfl, rfl, Conv.visit_phase_ne_wait _ _ _, rfl, rfl, rfl⟩
  case rise =>
    obtain ⟨hrefOk, hlost, hraised⟩ := Dev.refRise_rises hok hana
    refine ⟨_, rfl, hrefOk, hlost, ⟨rfl, rfl, rfl⟩, ?_⟩
    rw [State.onDev_dev, hraised]
    exact ⟨_, List.mem_append_right _ (List.mem_singleton_self _), rfl, rfl, refArg_rise _⟩
  case lost =>
    obtain ⟨hconvs, herr, hraised⟩ := Dev.refFall_reported hok hheld hidle
    refine ⟨_, rfl, ?_⟩
    dsimp only
    rw [State.onDev_dev, hconvs, hraised, Fin.getElem_fin, vmod_self, List.getLast?_concat]
    exact ⟨rfl, rfl, ⟨rfl, rfl, rfl⟩, herr, _, rfl, rfl, refArg_lost _⟩

end Sys2Proof.Machine
end

section
/-! What the loops' shared operations do (05 R134, R140, R151): a change of one loop, a change of its state, a loop's source, a loop that starts. -/

namespace Sys2Proof.Machine

/-! ## A change of one loop -/

@[simp] theorem Dev.onLoop_get (s : Dev) (n : Fin 144) (f : Loop → Loop) : (s.onLoop n f).loops[n.val] = f s.loops[n.val] := vmod_self ..

theorem Dev.onLoop_onLoop (s : Dev) (n : Fin 144) (f g : Loop → Loop) : (s.onLoop n f).onLoop n g = s.onLoop n fun l => g (f l) := by
  simp [Dev.onLoop]

section
variable {s : State} {i : OpInfo} {d : Desc} {o : Obj} {body : Obj → Dev → Dev × Res} {n : Fin 144} {f : Loop → Loop}

/-- A descriptor that changes one loop is answered, and nothing else changes. -/
theorem State.desc_onLoop {st : Status} {res : DWord} (h : s.admits i d o)
    (hb : body o (s.dev.taken i.op d) = ((s.dev.taken i.op d).onLoop n f, .done st res)) :
    (s.desc i d body).answered d st res ∧ s.becomes (s.desc i d body) (Dev.withLoop s.dev n (f s.dev.loops[n])) :=
  ⟨State.desc_answered h hb, by rw [State.desc_done h hb]; rfl⟩

end

/-! ## A change of state (05 R151) -/

/-- A loop after a change of state. A return to RUN is bumpless, and its first run takes the nominal period (05 R145). -/
def Loop.moved (l : Loop) (st : LoopState) : Loop :=
  if l.state = st then l
  else if st = .run then { l with state := st, first := true, lastRun := none, bumpless := l.state != .disabled }
  else { l with state := st }

theorem Loop.moved_run {l : Loop} (h : l.state ≠ .run) :
    l.moved .run = { l with state := .run, first := true, lastRun := none, bumpless := l.state != .disabled } := by simp [Loop.moved, h]

theorem Loop.moved_of_ne_run {st : LoopState} (l : Loop) (h : st ≠ .run) : l.moved st = { l with state := st } := by
  unfold Loop.moved
  split_ifs with hst
  · rw [← hst]
  · rfl

/-- A return to RUN is bumpless. -/
theorem Loop.moved_bumpless {l : Loop} (h : l.state ≠ .run) (h' : l.state ≠ .disabled) : (l.moved .run).bumpless = true := by
  rw [Loop.moved_run h]
  simpa using h'

section
variable (l : Loop) (st : LoopState)

@[simp] theorem Loop.moved_state : (l.moved st).state = st := by
  unfold Loop.moved
  split_ifs with hst
  · exact hst
  · rfl
  · rfl

@[simp] theorem Loop.moved_u : (l.moved st).u = l.u := by unfold Loop.moved; split_ifs <;> rfl

@[simp] theorem Loop.moved_trig : (l.moved st).trig = l.trig := by unfold Loop.moved; split_ifs <;> rfl

@[simp] theorem Loop.moved_input : (l.moved st).input = l.input := by unfold Loop.moved; split_ifs <;> rfl

end

section
variable {s : Dev} {n : Fin 144} {st : LoopState}

theorem Dev.loopGo_moves (cause : Nat) (h : s.loops[n.val].state ≠ st) :
    s.loopGo n st cause = (s.onLoop n fun l => l.moved st).raise EV_LOOP_STATE (loopFunc n) (hLoop n)
      (mkWord [(0, 3, st.num), (4, 3, s.loops[n.val].state.num), (8, 8, cause)]) := by
  rw [Dev.loopGo, if_neg h]
  simp only [Dev.onLoop, vmod, Loop.moved, if_neg h]

/-- A change of state changes its loop and raises an event at most. -/
theorem Dev.loopGo_shape (s : Dev) (n : Fin 144) (st : LoopState) (cause : Nat) :
    ∃ r, s.loopGo n st cause = { s.onLoop n fun l => l.moved st with raised := r } := by
  by_cases h : s.loops[n.val].state = st
  · refine ⟨s.raised, ?_⟩
    have hself : vmod s.loops n (fun l => l.moved st) = s.loops := vmod_eq_self _ _ (if_pos h)
    rw [Dev.loopGo, if_pos h, Dev.onLoop, hself]
  · exact ⟨_, Dev.loopGo_moves cause h⟩

@[simp] theorem Dev.loopGo_loop (s : Dev) (n : Fin 144) (st : LoopState) (cause : Nat) :
    (s.loopGo n st cause).loops[n.val] = s.loops[n.val].moved st := by
  obtain ⟨r, h⟩ := s.loopGo_shape n st cause
  rw [h]
  exact vmod_self ..

end

/-! ## The rest of the device -/

/-- The device without its loops, its log and its events. -/
def Dev.rest (s : Dev) : Dev := { s with loops := Vector.replicate 144 {}, log := Log.reset, raised := [] }

@[simp] theorem Dev.onLoop_rest (s : Dev) (n : Fin 144) (f : Loop → Loop) : (s.onLoop n f).rest = s.rest := rfl

@[simp] theorem Dev.raise_rest (s : Dev) (code : BitVec 16) (src : Nat) (handle arg : Word) (lost : Nat) :
    (s.raise code src handle arg lost).rest = s.rest := rfl

@[simp] theorem Dev.report_rest (s : Dev) (src : Word) (f : Nat) (sev : Sev) (code : BitVec 11) (arg : Word) :
    (s.report src f sev code arg).1.rest = s.rest := by
  obtain ⟨g, h⟩ := s.report_shape src f sev code arg
  rw [h]
  rfl

@[simp] theorem Dev.reportEv_rest (s : Dev) (src : Word) (f : Nat) (sev : Sev) (code : BitVec 11) (arg : Word) (ev : BitVec 16)
    (handle evArg : Word) : (s.reportEv src f sev code arg ev handle evArg).rest = s.rest := by
  unfold Dev.reportEv
  dsimp only
  split <;> simp

@[simp] theorem Dev.endErr_rest (s : Dev) (src : Word) : (s.endErr src).rest = s.rest := rfl

@[simp] theorem Dev.endErrOf_rest (s : Dev) (src : Word) (codes : List (BitVec 11)) : (s.endErrOf src codes).rest = s.rest := rfl

@[simp] theorem Dev.note_rest (s : Dev) (sev : Sev) (f : Nat) (code : BitVec 11) (arg : Word) : (s.note sev f code arg).rest = s.rest := rfl

@[simp] theorem Dev.loopGo_rest (s : Dev) (n : Fin 144) (st : LoopState) (cause : Nat) : (s.loopGo n st cause).rest = s.rest := by
  obtain ⟨r, h⟩ := s.loopGo_shape n st cause
  rw [h]
  rfl

section
variable {s t : Dev} (h : t.rest = s.rest)
include h

theorem Dev.now_congr : t.now = s.now := (congrArg Dev.now h :)

theorem Dev.damperOf_congr (n : Fin 144) : t.damperOf n = s.damperOf n := (congrArg (fun v => Dev.damperOf v n) h :)

theorem Dev.isAttached_congr (n : Fin 144) : t.isAttached n = s.isAttached n := (congrArg (fun v => Dev.isAttached v n) h :)

theorem Dev.off_congr (f : Nat) : t.off f = s.off f := (congrArg (fun v => Dev.off v f) h :)

theorem Dev.reading_congr (w : Word) : t.reading w = s.reading w := (congrArg (fun v => Dev.reading v w) h :)

end

/-! ## Loops that no fan or damper drives (09 R256) -/

section
variable {s : Dev} {n : Fin 144} (h : s.isAttached n = false)
include h

theorem Dev.fanOf_none : s.fanOf n = none := by
  rw [Dev.isAttached, Bool.or_eq_false_iff] at h
  simpa using h.1

theorem Dev.damperOf_none : s.damperOf n = none := by
  rw [Dev.isAttached, Bool.or_eq_false_iff] at h
  simpa using h.2

theorem Dev.directDrive_none : s.directDrive n = none := by simp [Dev.directDrive, Dev.fanOf_none h, Dev.damperOf_none h]

theorem Dev.unsupervised_false : s.unsupervised n = false := by
  simp [Dev.unsupervised, Dev.dmLearns, Dev.fanOf_none h, Dev.damperOf_none h]

/-- A loop that leaves its fault state (05 R155). -/
theorem Dev.loopReturn_eq : s.loopReturn n = (s.onLoop n fun l => { l with lost := false, faultBy := 0, frzCnt := 0 }).loopGo n .run := by
  have hd : ((s.onLoop n fun l => { l with lost := false, faultBy := 0, frzCnt := 0 }).loopGo n .run).damperOf n = none := by
    rw [Dev.damperOf_congr (s := s) (by simp), Dev.damperOf_none h]
  simp only [Dev.loopReturn, hd]

end

/-! ## A loop's source (05 R140) -/

/-- The source of an input gives no value: its function is held in reset or disabled. -/
def Dev.sourceOff (s : Dev) (trig : Nat) (input : Word) : Prop :=
  if trig = 1 then ∃ c i, objOf input = some (.convResult c i) ∧ s.off (convFunc c) else (s.reading input).cls = .reset

theorem wordClass_ne_reset (w : Word) : wordClass w ≠ .reset := by
  unfold wordClass
  split_ifs
  · simp
  · split <;> simp

theorem Dev.loopInput_reset (s : Dev) (n : Fin 144) :
    (s.loopInput n).cls = .reset ↔ s.sourceOff s.loops[n.val].trig s.loops[n.val].input := by
  unfold Dev.loopInput Dev.sourceOff
  dsimp only
  by_cases ht : s.loops[n.val].trig = 1
  · rw [if_pos ht, if_pos ht]
    split
    · next c i ho =>
      by_cases hoff : s.off (convFunc c) <;> simp [ho, hoff, wordClass_ne_reset]
    · next hno =>
      simp only [reduceCtorEq, false_iff, not_exists, not_and]
      exact fun c i ho => absurd ho (hno c i)
  · rw [if_neg ht, if_neg ht]
    split
    · next hc => simp_all
    · rfl

theorem Dev.sourceOff_congr {s t : Dev} (h : t.rest = s.rest) (trig : Nat) (input : Word) : t.sourceOff trig input ↔ s.sourceOff trig input := by
  simp [Dev.sourceOff, Dev.off_congr h, Dev.reading_congr h]

/-- A loop whose source gives values loses nothing at once (05 R152). -/
theorem Dev.loopSource_gives {s : Dev} {n : Fin 144} (h : (s.loopInput n).cls ≠ .reset) : s.loopSource n = s := by
  simp [Dev.loopSource, h]

/-- Nor does it after a change that leaves its binding. -/
theorem Dev.loopSource_congr {s t : Dev} {n : Fin 144} (h : (s.loopInput n).cls ≠ .reset) (hr : t.rest = s.rest)
    (ht : t.loops[n.val].trig = s.loops[n.val].trig) (hi : t.loops[n.val].input = s.loops[n.val].input) : t.loopSource n = t := by
  refine Dev.loopSource_gives ?_
  rw [Ne, Dev.loopInput_reset, ht, hi, Dev.sourceOff_congr hr, ← Dev.loopInput_reset]
  exact h

/-! ## A loop starts and stops (05 R151) -/

/-- A loop that starts, before its change of state: what R151 says of it, and that its binding stays. -/
structure Loop.BeginsAs (l l' : Loop) (u : Int) : Prop where
  state : l'.state = .disabled
  integ : l'.integ = 0
  dPrev : l'.dPrev = 0
  uPrev : l'.uPrev = u
  trig : l'.trig = l.trig
  input : l'.input = l.input

theorem Dev.loopBegin_eq (s : Dev) (n : Fin 144) :
    ∃ f : Loop → Loop, s.loops[n.val].BeginsAs (f s.loops[n.val]) (s.loops[n.val].unmap (s.heldValue s.loops[n.val].output)) ∧
      s.loopBegin n = (s.onLoop n fun l => (f l).moved .run).raise EV_LOOP_STATE (loopFunc n) (hLoop n) 1 := by
  have htrig (l : Loop) : (if l.vmax = 0 then l.profileFrom l.target else l).trig = l.trig := by split <;> rfl
  have hinput (l : Loop) : (if l.vmax = 0 then l.profileFrom l.target else l).input = l.input := by split <;> rfl
  have hmoves (f : Loop → Loop) (h : (f s.loops[n.val]).state = .disabled) :
      (s.onLoop n f).loopGo n .run = (s.onLoop n fun l => (f l).moved .run).raise EV_LOOP_STATE (loopFunc n) (hLoop n) 1 := by
    have hst : (s.onLoop n f).loops[n.val].state = .disabled := by rw [Dev.onLoop_loops, vmod_self, h]
    rw [Dev.loopGo_moves 0 (by rw [hst]; decide), hst, Dev.onLoop_onLoop]
    rfl
  refine ⟨_, ?_, hmoves _ ?_⟩
  · exact ⟨rfl, rfl, rfl, rfl, htrig _, hinput _⟩
  · rfl

/-- ENABLE of a loop whose source gives values. -/
theorem Dev.loopStart_eq {s : Dev} {n : Fin 144} (h : (s.loopInput n).cls ≠ .reset) :
    ∃ f : Loop → Loop, s.loops[n.val].BeginsAs (f s.loops[n.val]) (s.loops[n.val].unmap (s.heldValue s.loops[n.val].output)) ∧
      s.loopStart n = (s.onLoop n fun l => (f l).moved .run).raise EV_LOOP_STATE (loopFunc n) (hLoop n) 1 := by
  obtain ⟨f, hf, heq⟩ := s.loopBegin_eq n
  refine ⟨f, hf, ?_⟩
  have hget : ((s.onLoop n fun l => (f l).moved .run).raise EV_LOOP_STATE (loopFunc n) (hLoop n) 1).loops[n.val] = (f s.loops[n.val]).moved .run :=
    vmod_self ..
  rw [Dev.loopStart, heq]
  exact Dev.loopSource_congr h rfl (by rw [hget, Loop.moved_trig]; exact hf.trig) (by rw [hget, Loop.moved_input]; exact hf.input)

end Sys2Proof.Machine
end

section
/-! The descriptors of class 0x3 (05 R143, R147, R151, R155, R159 to R167). -/

namespace Sys2Proof.Machine

/-! ## The ranges of operands (05 R161 to R164) -/

section
variable {s : Dev} {d : Desc} {n : Fin 144}

theorem doLoopBind_range (h : bindBad d) : doLoopBind d n s = refuse s .range := if_pos h

theorem doLoopBind_busy (h : bindBad d = false) (ha : s.isAttached n = false) (hs : s.loops[n.val].state ≠ .disabled) :
    doLoopBind d n s = refuse s .busy := by
  rw [doLoopBind, if_neg (by simp [h]), if_neg (by simp [ha]), if_pos hs]

theorem doLoopBind_binds (h : bindBad d = false) (ha : s.isAttached n = false) (hs : s.loops[n.val].state = .disabled) :
    doLoopBind d n s = (s.onLoop n fun l =>
      { l with bound := true, input := d.word 8, output := d.word 12, trig := d.bits 16 0 2, fast := d.flag 16 2, direct := d.flag 16 3,
               dsrc := d.flag 16 4, aw := d.flag 16 5, spSrc := d.bits 16 6 2, tag := d.bits 17 0 4, tagm := d.flag 17 4,
               eocDiv := d.bits 18 0 8, periodUs := d.bits 20 0 32, maxRate := d.bits 24 0 16, phase := d.bits 26 0 16 }, .ok) := by
  rw [doLoopBind, if_neg (by simp [h]), if_neg (by simp [ha]), if_neg (by simp [hs])]

/-! ## LOOP_CTRL (05 R151, R155, R166) -/

theorem doLoopCtrl_disable (ha : s.isAttached n = false) (h : d.bits 8 0 3 = 0) : doLoopCtrl d n s = (s.loopStop n, .ok) := by
  simp [doLoopCtrl, h, ha]

theorem doLoopCtrl_enable (ha : s.isAttached n = false) (h : d.bits 8 0 3 = 1) (hs : s.loops[n.val].state = .disabled)
    (hc : s.loopEnableCheck n = .ok) : doLoopCtrl d n s = (s.loopStart n, .ok) := by
  simp [doLoopCtrl, h, ha, hs, hc]

theorem doLoopCtrl_enable_refused {st : Status} (ha : s.isAttached n = false) (h : d.bits 8 0 3 = 1) (hs : s.loops[n.val].state = .disabled)
    (hc : s.loopEnableCheck n = st) (hne : st ≠ .ok) : doLoopCtrl d n s = refuse s st := by
  subst hc
  simp only [doLoopCtrl, h, ha, hs]
  simp only [Nat.reduceLeDiff, if_false, Bool.false_eq_true, ne_eq, not_true_eq_false]

theorem doLoopCtrl_manual (ha : s.isAttached n = false) (h : d.bits 8 0 3 = 2) (hs : s.loops[n.val].state = .run ∨ s.loops[n.val].state = .manual) :
    doLoopCtrl d n s = ((s.onLoop n fun l => { l with manual := d.s32 12, feTimer := false }).loopGo n .manual, .ok) := by
  rcases hs with hs | hs <;> simp [doLoopCtrl, h, ha, hs, LoopState.faulty]

theorem LoopState.ne_disabled_of_faulty {st : LoopState} (h : st.faulty) : st ≠ .disabled := by
  rintro rfl
  simp [LoopState.faulty] at h

theorem LoopState.ne_run_of_faulty {st : LoopState} (h : st.faulty) : st ≠ .run := by
  rintro rfl
  simp [LoopState.faulty] at h

theorem doLoopCtrl_manual_faulty (ha : s.isAttached n = false) (h : d.bits 8 0 3 = 2) (hs : s.loops[n.val].state.faulty) :
    doLoopCtrl d n s = refuse s .conflict := by
  simp [doLoopCtrl, h, ha, hs, LoopState.ne_disabled_of_faulty hs]

theorem doLoopCtrl_auto (ha : s.isAttached n = false) (h : d.bits 8 0 3 = 3) (hs : s.loops[n.val].state = .manual) :
    doLoopCtrl d n s = (((s.onLoop n fun l => { l with lost := false }).loopGo n .run).loopSource n, .ok) := by
  simp [doLoopCtrl, h, ha, hs]

theorem doLoopCtrl_ack (ha : s.isAttached n = false) (h : d.bits 8 0 3 = 4) : doLoopCtrl d n s = s.loopAck n := by
  simp [doLoopCtrl, h, ha]

/-- DISABLE changes its loop's state, and leaves its u and the other loops. -/
theorem Dev.loopStop_eq (s : Dev) (n : Fin 144) :
    ∃ f r, s.loopStop n = { s.onLoop n f with raised := r } ∧ (f s.loops[n.val]).state = .disabled ∧ (f s.loops[n.val]).u = s.loops[n.val].u := by
  obtain ⟨r, h⟩ := s.loopGo_shape n .disabled 0
  refine ⟨fun l => { l.moved .disabled with due := false, fallback := false, feTimer := false }, r, ?_, Loop.moved_state .., Loop.moved_u ..⟩
  simp only [Dev.loopStop, h, Dev.onLoop, vmod_vmod]

/-- ACK of a fault whose cause is gone takes the loop back to RUN. -/
theorem Dev.loopAck_returns (ha : s.isAttached n = false) (hf : s.loops[n.val].state.faulty) (hp : s.faultPersists n = false) :
    ∃ f r, s.loopAck n = ({ (s.endErr (hLoop n)).onLoop n f with raised := r }, .ok) ∧ (f s.loops[n.val]).state = .run ∧
      (f s.loops[n.val]).bumpless := by
  let v := (s.endErr (hLoop n)).onLoop n Loop.feClear
  have hack : s.loopAck n = (v.loopReturn n, .ok) := by simp [Dev.loopAck, hf, hp, v]
  have hst : (v.onLoop n fun l => { l with lost := false, faultBy := 0, frzCnt := 0 }).loops[n.val].state = s.loops[n.val].state := by
    rw [Dev.onLoop_loops, vmod_self, Dev.onLoop_loops, vmod_self]
    rfl
  rw [hack, Dev.loopReturn_eq (s := v) ha, Dev.loopGo_moves 0 (by rw [hst]; exact LoopState.ne_run_of_faulty hf), Dev.onLoop_onLoop, Dev.onLoop_onLoop]
  refine ⟨_, _, rfl, Loop.moved_state .., ?_⟩
  exact Loop.moved_bumpless (LoopState.ne_run_of_faulty hf) (LoopState.ne_disabled_of_faulty hf)

/-- ACK of a loop in no fault state, with no following error to clear (05 R156). -/
theorem Dev.loopAck_nothing (hf : s.loops[n.val].state.faulty = false) (h : s.loops[n.val].feRaised = false ∨ s.loops[n.val].feAct = false) :
    s.loopAck n = refuse s .conflict := by
  rcases h with h | h <;> simp [Dev.loopAck, hf, h]

/-- ACK of a following error that is over (05 R156). -/
theorem Dev.loopAck_follow (hf : s.loops[n.val].state.faulty = false) (hr : s.loops[n.val].feRaised) (ha : s.loops[n.val].feAct)
    (ho : s.loops[n.val].lastOver = false) : s.loopAck n = ((s.endErrOf (hLoop n) [LG_LOOP_FOLLOW]).onLoop n Loop.feClear, .ok) := by
  simp [Dev.loopAck, hf, hr, ha, ho]

end

/-- A LOOP_CTRL that executes with ST_OK. -/
theorem execLoopCtrl_ok {s : State} {d : Desc} {n : Fin 144} {v : Dev} (h : s.admits opLoopCtrl d (.loop n))
    (hb : doLoopCtrl d n (s.dev.taken 0x37 d) = (v, .ok)) :
    ∃ t, exec (.loopCtrl d) s = .next t ∧ t.okd d ∧ s.onlyDev t ∧ t.dev = v.complete d .ok 0 := by
  obtain ⟨hans, hdev⟩ := State.desc_ok (body := onLoopObj (doLoopCtrl d)) h hb
  exact ⟨_, rfl, hans, ⟨rfl, rfl, rfl⟩, by rw [hdev]⟩

/-- A LOOP_CTRL that is refused. -/
theorem execLoopCtrl_refused {s : State} {d : Desc} {n : Fin 144} {st : Status} (h : s.admits opLoopCtrl d (.loop n))
    (hb : doLoopCtrl d n (s.dev.taken 0x37 d) = refuse (s.dev.taken 0x37 d) st) :
    Answers (.loopCtrl d) s fun t => s.onlyAnswers t d st 0 :=
  ⟨_, rfl, State.desc_onlyAnswers (body := onLoopObj (doLoopCtrl d)) h hb⟩

/-- ENABLE of a loop whose source gives values. -/
theorem execLoopCtrl_enabled {s : State} {d : Desc} {n : Fin 144} (h : s.admits opLoopCtrl d (.loop n)) (hatt : s.dev.isAttached n = false)
    (ha : d.bits 8 0 3 = 1) (hst : s.dev.loops[n.val].state = .disabled) (hc : s.dev.loopEnableCheck n = .ok)
    (hin : (s.dev.loopInput n).cls ≠ .reset) :
    ∃ (t : State) (l : Loop), exec (.loopCtrl d) s = .next t ∧ t.okd d ∧ s.onlyDev t ∧ t.dev.loops[n.val] = l.moved .run ∧
      s.dev.loops[n.val].BeginsAs l (s.dev.loops[n.val].unmap (s.dev.heldValue s.dev.loops[n.val].output)) ∧
      ∃ e ∈ t.dev.raised, e.code = EV_LOOP_STATE ∧ e.handle = hLoop n ∧ e.arg = 1 := by
  obtain ⟨f, hf, hstart⟩ := Dev.loopStart_eq (s := s.dev.taken 0x37 d) hin
  obtain ⟨t, ht, hans, hdev, hv⟩ := execLoopCtrl_ok h (doLoopCtrl_enable (s := s.dev.taken 0x37 d) hatt ha hst hc)
  rw [hstart] at hv
  refine ⟨t, f s.dev.loops[n.val], ht, hans, hdev, ?_, hf, ?_⟩
  · rw [hv]
    exact vmod_self ..
  · rw [hv]
    exact ⟨_, List.mem_append_right _ (List.mem_singleton_self _), rfl, rfl, rfl⟩

/-! ## The obligation -/

/-- Settles O39: the operands' descriptors, then LOOP_STATUS_GET by SELECT, then LOOP_CTRL by its actions. -/
theorem loopDescriptors : Obligations.LoopDescriptors := by
  unfold Obligations.LoopDescriptors
  intro s d n
  refine ⟨fun h hb ha hs => ⟨_, rfl, State.desc_onLoop (body := onLoopObj (doLoopBind d)) h (doLoopBind_binds (s := s.dev.taken 0x30 d) hb ha hs)⟩,
    fun h hb ha hs => ⟨_, rfl, State.desc_onlyAnswers (body := onLoopObj (doLoopBind d)) h (doLoopBind_busy (s := s.dev.taken 0x30 d) hb ha hs)⟩,
    fun h hb => ⟨_, rfl, State.desc_onlyAnswers (body := onLoopObj (doLoopBind d)) h (doLoopBind_range hb)⟩,
    fun h => ⟨_, rfl, State.desc_onLoop (body := onLoopObj (doLoopScale d)) h rfl⟩, fun h hp hi hd ht hn hn' hz => ?gains, fun h hbad => ?gainsRange,
    fun h hlo hr hs hs' ho ho' => ?limits, fun h hbad => ?limitsRange, fun h => ⟨_, rfl, State.desc_onLoop (body := onLoopObj (doLoopProfile d)) h rfl⟩,
    fun h hl hb ht hn hr hp => ?supervise, fun h hsrc ha => ?set, fun h hsrc => ?setConflict,
    fun h => ⟨fun hsel => ?status0, fun hsel => ?status1, fun hsel => ?status2, fun hsel => ?status3⟩,
    fun h ha => ⟨fun hact => ?disable, fun hact hst hc hin => ?enable, fun hact hst st hc hne => ?enableRefused, fun hact hst => ?manual,
      fun hact hst => ?manualFaulty, fun hact hst hin => ?auto, fun hact hst hp => ?ack, fun hact hst hfe => ?ackNothing,
      fun hact hst hr hfe ho => ?ackFollow⟩⟩
  case gains => exact ⟨_, rfl, State.desc_onLoop (body := onLoopObj (doLoopGains d)) h (if_neg (by omega))⟩
  case gainsRange => exact ⟨_, rfl, State.desc_onlyAnswers (body := onLoopObj (doLoopGains d)) h (if_pos (by omega))⟩
  case limits => exact ⟨_, rfl, State.desc_onLoop (body := onLoopObj (doLoopLimits d)) h (if_neg (by omega))⟩
  case limitsRange => exact ⟨_, rfl, State.desc_onlyAnswers (body := onLoopObj (doLoopLimits d)) h (if_pos (by omega))⟩
  case supervise => exact ⟨_, rfl, State.desc_onLoop (body := onLoopObj (doLoopSupervise d)) h (if_neg (by omega))⟩
  case set => exact ⟨_, rfl, State.desc_onLoop (body := onLoopObj (doLoopSet d)) h (if_neg (not_or.2 ⟨not_not.2 hsrc, ne_true_of_eq_false ha⟩))⟩
  case setConflict => exact ⟨_, rfl, State.desc_onlyAnswers (body := onLoopObj (doLoopSet d)) h (if_pos (.inl hsrc))⟩
  case status0 | status1 | status2 | status3 =>
    exact ⟨_, rfl, State.desc_onlyAnswers (body := onLoopObj (doLoopStatusGet d)) h (by simp only [onLoopObj, doLoopStatusGet, hsel]; rfl)⟩
  case disable =>
    obtain ⟨f, r, hstop, hst, hu⟩ := (s.dev.taken 0x37 d).loopStop_eq n
    obtain ⟨t, ht, hans, hdev, hv⟩ := execLoopCtrl_ok h (doLoopCtrl_disable (s := s.dev.taken 0x37 d) ha hact)
    rw [hstop] at hv
    have hloops : t.dev.loops = vmod s.dev.loops n f := by rw [hv]; rfl
    refine ⟨t, ht, hans, ?_, ?_, by rw [hv]; rfl, by rw [hv]; rfl, hdev, fun k hk => ?_⟩
    · rw [hloops, Fin.getElem_fin, vmod_self]
      exact hst
    · rw [hloops, Fin.getElem_fin, vmod_self]
      exact hu
    · rw [hloops]
      exact vmod_other _ _ _ _ hk
  case enable =>
    obtain ⟨t, l, ht, hans, hdev, hl, hf, hev⟩ := execLoopCtrl_enabled h ha hact hst hc hin
    refine ⟨t, ht, hans, ?_⟩
    rw [Fin.getElem_fin, hl, Loop.moved_run (by rw [hf.state]; decide)]
    exact ⟨rfl, hf.integ, hf.dPrev, rfl, hdev, hev⟩
  case enableRefused => exact execLoopCtrl_refused h (doLoopCtrl_enable_refused (s := s.dev.taken 0x37 d) ha hact hst hc hne)
  case manual =>
    obtain ⟨t, ht, hans, -, hv⟩ := execLoopCtrl_ok h (doLoopCtrl_manual (s := s.dev.taken 0x37 d) ha hact hst)
    have hloop : t.dev.loops[n.val] = { s.dev.loops[n.val] with manual := d.s32 12, feTimer := false, state := .manual } := by
      rw [hv]
      refine (Dev.loopGo_loop ..).trans ?_
      rw [Loop.moved_of_ne_run _ (by decide), Dev.onLoop_loops, vmod_self]
      rfl
    refine ⟨t, ht, hans, ?_⟩
    rw [Fin.getElem_fin, hloop]
    exact ⟨rfl, rfl, rfl⟩
  case manualFaulty => exact execLoopCtrl_refused h (doLoopCtrl_manual_faulty (s := s.dev.taken 0x37 d) ha hact hst)
  case auto =>
    have hbody := doLoopCtrl_auto (s := s.dev.taken 0x37 d) ha hact hst
    let v := (s.dev.taken 0x37 d).onLoop n fun l => { l with lost := false }
    have hget : (v.loopGo n .run).loops[n.val] = { s.dev.loops[n.val] with lost := false }.moved .run :=
      (Dev.loopGo_loop ..).trans (congrArg (fun l : Loop => l.moved .run) (vmod_self ..))
    have hcalm : (v.loopGo n .run).loopSource n = v.loopGo n .run :=
      Dev.loopSource_congr (s := s.dev.taken 0x37 d) hin (v.loopGo_rest n .run 0) (by rw [hget]; exact Loop.moved_trig ..)
        (by rw [hget]; exact Loop.moved_input ..)
    rw [hcalm] at hbody
    obtain ⟨t, ht, hans, -, hv⟩ := execLoopCtrl_ok h hbody
    have hloop : t.dev.loops[n.val] = { s.dev.loops[n.val] with lost := false }.moved .run := by rw [hv]; exact hget
    have hst : s.dev.loops[n.val].state = .manual := hst
    refine ⟨t, ht, hans, ?_⟩
    rw [Fin.getElem_fin, hloop]
    exact ⟨Loop.moved_state .., Loop.moved_bumpless (by simp [hst]) (by simp [hst])⟩
  case ack =>
    obtain ⟨f, r, hack, hrun, hbump⟩ := Dev.loopAck_returns (s := s.dev.taken 0x37 d) ha hst hp
    obtain ⟨t, ht, hans, -, hv⟩ := execLoopCtrl_ok h ((doLoopCtrl_ack (s := s.dev.taken 0x37 d) ha hact).trans hack)
    have hloop : t.dev.loops[n.val] = f s.dev.loops[n.val] := by rw [hv]; exact vmod_self ..
    refine ⟨t, ht, hans, ?_⟩
    rw [Fin.getElem_fin, hloop]
    exact ⟨hrun, hbump, by rw [hv]; exact Dev.endErr_handling ..⟩
  case ackNothing =>
    exact execLoopCtrl_refused h ((doLoopCtrl_ack (s := s.dev.taken 0x37 d) ha hact).trans (Dev.loopAck_nothing (s := s.dev.taken 0x37 d) hst hfe))
  case ackFollow =>
    obtain ⟨t, ht, hans, -, hv⟩ := execLoopCtrl_ok h
      ((doLoopCtrl_ack (s := s.dev.taken 0x37 d) ha hact).trans (Dev.loopAck_follow (s := s.dev.taken 0x37 d) hst hr hfe ho))
    have hloop : t.dev.loops[n.val] = s.dev.loops[n.val].feClear := by rw [hv]; exact vmod_self ..
    refine ⟨t, ht, hans, ?_⟩
    rw [Fin.getElem_fin, hloop]
    exact ⟨by simp [Loop.feClear, show s.dev.loops[n.val].feAct = true from hfe], rfl⟩

end Sys2Proof.Machine
end

section
/-! The profile and the law (05 R144 to R146): r does not pass its target, and u and the integrator stay within the loop's limits. -/

namespace Sys2Proof.Machine

/-! ## The profile (05 R144) -/

/-- From `a` a value moves toward `b` by no more than the distance. -/
def Toward (a b x : Int) : Prop := x = b ∨ ∃ sgn trav : Int, x = a + sgn * trav ∧ trav ≤ (b - a) * sgn ∧ (a < b → sgn = 1) ∧ (b < a → sgn = -1)

theorem Toward.le {a b x : Int} (h : Toward a b x) (hab : a < b) : x ≤ b := by
  obtain h | ⟨sgn, trav, h, hle, hup, -⟩ := h
  · exact h.le
  · rw [hup hab] at h hle
    omega

theorem Toward.ge {a b x : Int} (h : Toward a b x) (hab : b < a) : b ≤ x := by
  obtain h | ⟨sgn, trav, h, hle, -, hdown⟩ := h
  · exact h.ge
  · rw [hdown hab] at h hle
    omega

/-- A run of the profile moves r toward the target, and changes nothing but the profile. -/
theorem Loop.profile_shape (l : Loop) (t : Nat) :
    ∃ r rv ra settled jump, l.profile t = { l with r, rv, ra, settled, jump } ∧ Toward l.r (l.target * unitR) r := by
  unfold Loop.profile
  extract_lets done dist sgn d v a n trav
  split_ifs
  · exact ⟨_, _, _, _, _, rfl, .inl rfl⟩
  · exact ⟨_, _, _, _, _, rfl, .inl rfl⟩
  · exact ⟨_, _, _, _, _, rfl, .inl rfl⟩
  · next hfar =>
    refine ⟨_, _, _, _, _, rfl, .inr ⟨sgn, trav, rfl, ?_, fun h => if_pos ?_, fun h => (if_neg ?_).trans (if_pos ?_)⟩⟩
    · exact not_lt.1 (not_or.1 hfar).1
    all_goals simp only [dist]; omega

/-- Without a VMAX r is at the target at once. -/
theorem Loop.profile_jumps {l : Loop} (t : Nat) (h : l.vmax = 0) : l.profile t = { l.settle with jump := false } := if_pos (.inl h)

/-! ## The law (05 R146) -/

theorem Loop.rateLimit_off {l : Loop} (t : Nat) (u : Int) (h : l.rateMax = 0) : l.rateLimit t u = u := if_pos h

/-- Without a rate limit u stays within its limits. -/
theorem Loop.law_bounds {l : Loop} (t : Nat) (h : l.outMin ≤ l.outMax) (hr : l.rateMax = 0) : l.outMin ≤ (l.law t).u ∧ (l.law t).u ≤ l.outMax := by
  have hu : (l.law t).u = clampI l.outMin l.outMax (l.law t).v := l.rateLimit_off t _ hr
  rw [hu]
  exact clampI_bounds _ h

/-- Without back-calculation the integrator of a saturated run without error stays. -/
theorem Loop.nextInteg_saturated {l : Loop} {t : Nat} {o : PidOut} (ha : l.aw = false) (hv : o.v = o.u) (he : o.e = 0) :
    l.nextInteg t o true = l.clampInteg l.integ := by
  simp [Loop.nextInteg, ha, hv, he]

end Sys2Proof.Machine
end

section
/-! What the parts of a loop's run do to the loop, when no fan or damper drives it (05 R139, R140, R144 to R146, R151 to R157, R167): each part
says what it makes of the loop's core, that the rest of the device stays, and what it reports. -/

namespace Sys2Proof.Machine

/-! ## The core of a loop -/

/-- A loop without its profile, its flags, the memory of its law and the memory of its supervision: its settings, its state, its trigger, its
input and output, and its counts. -/
def Loop.core (l : Loop) : Loop :=
  { l with target := 0, jump := false, r := 0, rv := 0, ra := 0, settled := false, startR := false, xPrev := 0, dPrev := 0, uPrev := 0,
           bumpless := false, satHi := false, satLo := false, rateLim := false, held := false, heldLogged := false, cause := 0, lost := false,
           goodRun := 0, lastBad := false, lastOver := false, faultBy := 0, frzCnt := 0, frzY := 0, feTimer := false, feRaised := false,
           refCount := none }

/-- What reads no more of a loop than its core agrees on loops of one core. -/
theorem Loop.core_congr {α : Type} (g : Loop → α) {a b : Loop} (h : a.core = b.core)
    (hg : ∀ l : Loop, g l.core = g l := by exact fun _ => rfl) : g a = g b := by
  rw [← hg a, h, hg b]

@[simp] theorem Dev.reportEv_loops (s : Dev) (src : Word) (f : Nat) (sev : Sev) (code : BitVec 11) (arg : Word) (ev : BitVec 16)
    (handle evArg : Word) : (s.reportEv src f sev code arg ev handle evArg).loops = s.loops := by
  unfold Dev.reportEv
  dsimp only
  split
  · exact Dev.report_loops ..
  · exact Dev.report_loops ..

/-! ## Outputs (05 R141, R142) -/

/-- What the write of an output leaves as it is: a loop's core, the errors that are handled, and the events. -/
def Dev.sendView (s : Dev) (n : Fin 144) : Loop × List ErrState × List Event := (s.loops[n.val].core, s.log.errs, s.raised)

section
variable {s : Dev} {n : Fin 144} {l : Loop} {es : List ErrState} {r : List Event} (h : s.sendView n = (l, es, r))
include h

theorem Dev.core_of_sendView : s.loops[n.val].core = l := congrArg Prod.fst h

omit h in
theorem Dev.core_congr {t : Dev} (h : t.sendView n = s.sendView n) : t.loops[n.val].core = s.loops[n.val].core := congrArg Prod.fst h

theorem Dev.errs_of_sendView : s.log.errs = es := congrArg (fun p => p.2.1) h

theorem Dev.raised_of_sendView : s.raised = r := congrArg (fun p => p.2.2) h

end

section
variable (s : Dev) (n : Fin 144)

@[simp] theorem Dev.note_sendView (sev : Sev) (f : Nat) (code : BitVec 11) (arg : Word) : (s.note sev f code arg).sendView n = s.sendView n := by
  have herrs : (s.note sev f code arg).log.errs = s.log.errs := logPut_errs ..
  rw [Dev.sendView, herrs]
  rfl

@[simp] theorem Dev.onPwm_sendView (c : Fin 48) (f : Pwm → Pwm) : (s.onPwm c f).sendView n = s.sendView n := rfl

@[simp] theorem Dev.pwmTransfer_sendView (c : Fin 48) (x : PSet) : (s.pwmTransfer c x).sendView n = s.sendView n := by
  unfold Dev.pwmTransfer
  dsimp only
  repeat' split
  all_goals simp

@[simp] theorem Dev.pwmWrite_sendView (c : Fin 48) (x : PSet) : (s.pwmWrite c x).sendView n = s.sendView n := by
  unfold Dev.pwmWrite Dev.pwmLatch
  dsimp only
  repeat' split
  all_goals simp

@[simp] theorem Dev.valveLoopWrite_sendView (c : Fin 16) (y : Int) : (s.valveLoopWrite c y).sendView n = s.sendView n := by
  unfold Dev.valveLoopWrite Dev.valveSp
  dsimp only
  repeat' split
  all_goals rfl

/-- A target is no part of a loop's core. -/
@[simp] theorem Dev.loopTarget_sendView (m : Fin 144) (v : Int) (jump : Bool) : (s.loopTarget m v jump).sendView n = s.sendView n := by
  have hcore : (s.loopTarget m v jump).loops[n.val].core = s.loops[n.val].core := by
    by_cases h : n = m
    · subst h
      exact (congrArg Loop.core (s.onLoop_get n fun l => { l with target := v, jump := l.jump || jump }) :)
    · exact congrArg Loop.core (vmod_other _ _ _ _ h)
  rw [Dev.sendView, hcore]
  rfl

@[simp] theorem Dev.fanStore_sendView (k : Fin 12) (v : Int) : (s.fanStore k v).sendView n = s.sendView n := by
  unfold Dev.fanStore Dev.fanForm
  dsimp only
  split
  · rfl
  · split
    · exact Dev.loopTarget_sendView ..
    · rfl

@[simp] theorem Dev.dmStore_sendView (k : Fin 12) (v : Int) : (s.dmStore k v).sendView n = s.sendView n := by
  unfold Dev.dmStore
  dsimp only
  split
  · rfl
  · split
    · exact Dev.loopTarget_sendView ..
    · rfl

@[simp] theorem Dev.fanWrite_sendView (k : Fin 12) (phase : Nat) (y : Int) : (s.fanWrite k phase y).1.sendView n = s.sendView n :=
  Dev.pwmWrite_sendView ..

@[simp] theorem Dev.dmWrite_sendView (k : Fin 12) (phase : Nat) (y : Int) : (s.dmWrite k phase y).1.sendView n = s.sendView n := by
  unfold Dev.dmWrite
  extract_lets
  split_ifs <;> simp

@[simp] theorem Dev.loopSend_sendView (m : Fin 144) (y : Int) : (s.loopSend m y).sendView n = s.sendView n := by
  unfold Dev.loopSend
  extract_lets l
  repeat' split
  all_goals simp

/-- A change of the loop's own, as its view shows it. -/
theorem Dev.onLoop_sendView (f : Loop → Loop) : (s.onLoop n f).sendView n = ((f s.loops[n.val]).core, s.log.errs, s.raised) := by
  rw [Dev.sendView, Dev.onLoop_get]
  rfl

/-- The last good duty of a fan is none of its loop's. -/
@[simp] theorem Dev.keepDuty_sendView (m : Fin 144) (ok : Bool) : (s.keepDuty m ok).sendView n = s.sendView n := by
  unfold Dev.keepDuty
  repeat' split
  all_goals rfl

/-! ## A run that computes no law (05 R140, R151) -/

theorem Dev.loopValue_sendView (t : Nat) (w : Int) (rate : Bool) :
    (s.loopValue n t w rate).sendView n =
      ({ s.loops[n.val] with
          u := if rate then s.loops[n.val].rateLimit t (clampI s.loops[n.val].outMin s.loops[n.val].outMax w)
            else clampI s.loops[n.val].outMin s.loops[n.val].outMax w }.core, s.log.errs, s.raised) := by
  rw [Dev.loopValue, Dev.loopSend_sendView, Dev.onLoop_sendView]
  rfl

/-- Such a run writes one value or the last one again, which is its u. -/
theorem Dev.loopKeep_sendView (t : Nat) : ∃ u, (s.loopKeep n t).sendView n = ({ s.loops[n.val] with u }.core, s.log.errs, s.raised) := by
  unfold Dev.loopKeep
  dsimp only
  split
  · exact ⟨_, Dev.loopValue_sendView ..⟩
  · exact ⟨_, Dev.loopValue_sendView ..⟩
  · exact ⟨_, Dev.loopValue_sendView ..⟩
  · refine ⟨s.loops[n.val].u, ?_⟩
    rw [Dev.loopSend_sendView, Dev.onLoop_sendView]
    rfl

variable {s n}

/-- In RUN it is the last u. -/
theorem Dev.loopKeep_run (t : Nat) (h : s.loops[n.val].state = .run) : (s.loopKeep n t).sendView n = s.sendView n := by
  have heq : s.loopKeep n t = (s.onLoop n fun l => { l with uPrev := l.u }).loopSend n (s.loops[n.val].mapOut s.loops[n.val].u) := by
    simp only [Dev.loopKeep, h]
  rw [heq, Dev.loopSend_sendView, Dev.onLoop_sendView]
  rfl

/-- In SAFE it is SAFE_VAL, past the rate limit. -/
theorem Dev.loopKeep_safe (t : Nat) (h : s.loops[n.val].state = .safe) :
    (s.loopKeep n t).sendView n =
      ({ s.loops[n.val] with u := clampI s.loops[n.val].outMin s.loops[n.val].outMax s.loops[n.val].safeVal }.core, s.log.errs, s.raised) := by
  have heq : s.loopKeep n t = s.loopValue n t s.loops[n.val].safeVal false := by simp only [Dev.loopKeep, h]
  rw [heq, Dev.loopValue_sendView, if_neg (by decide)]

end

/-! ## Loss and freeze (05 R152 to R154) -/

theorem Loop.policyState_ne_run (l : Loop) : l.policyState ≠ .run := by
  unfold Loop.policyState
  split <;> decide

/-- Where POLICY takes a loop: it applies in RUN. -/
def Loop.policed (l : Loop) : LoopState := if l.state = .run then l.policyState else l.state

@[simp] theorem Dev.onLoop_isAttached (s : Dev) (n m : Fin 144) (f : Loop → Loop) : (s.onLoop m f).isAttached n = s.isAttached n := rfl

section
variable {s : Dev} {n : Fin 144}

theorem Dev.loopPolicy_idle (by_ : Nat) (h : s.loops[n.val].state ≠ .run) : s.loopPolicy n by_ = s := if_pos (.inl h)

theorem Dev.loopPolicy_run (by_ : Nat) (h : s.isAttached n = false) (hrun : s.loops[n.val].state = .run) :
    ∃ arg, s.loopPolicy n by_ = (s.onLoop n fun l => { l with faultBy := by_, state := l.policyState }).raise EV_LOOP_STATE (loopFunc n) (hLoop n) arg := by
  let v := s.onLoop n fun l => { l with faultBy := by_ }
  have hget : v.loops[n.val] = { s.loops[n.val] with faultBy := by_ } := vmod_self ..
  have hdm (w : Dev) (hw : w.rest = s.rest) : w.dmFeedback n = w := by
    simp only [Dev.dmFeedback, Dev.damperOf_congr hw, Dev.damperOf_none h]
  have heq : s.loopPolicy n by_ = v.loopGo n s.loops[n.val].policyState (if by_ = 7 then 0 else by_) := by
    rw [Dev.loopPolicy, if_neg (by simp [hrun, Dev.fanOf_none h])]
    exact hdm _ (Dev.loopGo_rest ..)
  have hne : v.loops[n.val].state ≠ s.loops[n.val].policyState := by
    rw [hget]
    exact fun e => s.loops[n.val].policyState_ne_run (e.symm.trans hrun)
  refine ⟨_, heq.trans ((Dev.loopGo_moves _ hne).trans (congrArg (fun w => Dev.raise w _ _ _ _) ?_))⟩
  rw [Dev.onLoop_onLoop]
  simp only [Dev.onLoop, vmod, Loop.moved_of_ne_run _ s.loops[n.val].policyState_ne_run]

@[simp] theorem Dev.loopPolicy_rest (by_ : Nat) (h : s.isAttached n = false) : (s.loopPolicy n by_).rest = s.rest := by
  by_cases hrun : s.loops[n.val].state = .run
  · obtain ⟨arg, heq⟩ := Dev.loopPolicy_run by_ h hrun
    rw [heq]
    rfl
  · rw [Dev.loopPolicy_idle by_ hrun]

theorem Dev.loopPolicy_core (by_ : Nat) (h : s.isAttached n = false) :
    (s.loopPolicy n by_).loops[n.val].core = { s.loops[n.val] with state := s.loops[n.val].policed }.core := by
  by_cases hrun : s.loops[n.val].state = .run
  · obtain ⟨arg, heq⟩ := Dev.loopPolicy_run by_ h hrun
    rw [heq, Loop.policed, if_pos hrun]
    exact (congrArg Loop.core (s.onLoop_get n fun l => { l with faultBy := by_, state := l.policyState }) :)
  · rw [Dev.loopPolicy_idle by_ hrun, Loop.policed, if_neg hrun]

/-- LOOP_FEEDBACK is an error with its event, and then POLICY applies. -/
theorem Dev.loopFeedback_eq (s : Dev) (n : Fin 144) (cause : Nat) :
    ∃ f : Loop → Loop, (∀ l, (f l).core = l.core) ∧ s.loopFeedback n cause =
      ((s.reportEv (hLoop n) (loopFunc n) .fault LG_LOOP_FEEDBACK (feedbackArg n cause) EV_LOOP_FEEDBACK (hLoop n)
        (feedbackArg n cause)).onLoop n f).loopPolicy n cause := by
  by_cases hc : cause = 6
  · refine ⟨id, fun _ => rfl, ?_⟩
    rw [Dev.loopFeedback, if_pos hc, Dev.onLoop, vmod_eq_self _ _ rfl]
  · refine ⟨fun l => { l with cause := cause, lost := true, goodRun := 0 }, fun _ => rfl, ?_⟩
    rw [Dev.loopFeedback, if_neg hc]

theorem Dev.loopFeedback_rest (cause : Nat) (h : s.isAttached n = false) : (s.loopFeedback n cause).rest = s.rest := by
  obtain ⟨f, -, heq⟩ := s.loopFeedback_eq n cause
  rw [heq, Dev.loopPolicy_rest _ (by rw [Dev.onLoop_isAttached, Dev.isAttached_congr (Dev.reportEv_rest ..), h])]
  simp

theorem Dev.loopFeedback_core (cause : Nat) (h : s.isAttached n = false) :
    (s.loopFeedback n cause).loops[n.val].core = { s.loops[n.val] with state := s.loops[n.val].policed }.core := by
  obtain ⟨f, hf, heq⟩ := s.loopFeedback_eq n cause
  rw [heq, Dev.loopPolicy_core _ (by rw [Dev.onLoop_isAttached, Dev.isAttached_congr (Dev.reportEv_rest ..), h]), Dev.onLoop_get,
    Dev.reportEv_loops]
  exact congrArg (fun l : Loop => { l with state := l.policed }.core) (hf s.loops[n.val])

/-- A change of the cause of a loss changes no core. -/
theorem Dev.loopCause_core (s : Dev) (n : Fin 144) (cause : Nat) : (s.loopCause n cause).loops[n.val].core = s.loops[n.val].core := by
  unfold Dev.loopCause
  split
  · simp only [Dev.report_loops, Dev.onLoop_get]
    rfl
  · rfl

@[simp] theorem Dev.loopCause_rest (s : Dev) (n : Fin 144) (cause : Nat) : (s.loopCause n cause).rest = s.rest := by
  unfold Dev.loopCause
  split <;> simp

/-! ## The judgement of the input (05 R139, R140, R152) -/

/-- A bad input counts; the loss that it may declare leads where POLICY does. -/
theorem Dev.loopBad_core (cause : Nat) (now : Bool) (h : s.isAttached n = false) :
    ∃ st, (s.loopBad n cause now).loops[n.val].core =
        { s.loops[n.val] with badIn := s.loops[n.val].badIn + 1, badRun := s.loops[n.val].badRun + 1, state := st }.core ∧
      (st = s.loops[n.val].state ∨ st = s.loops[n.val].policed) := by
  unfold Dev.loopBad
  extract_lets v
  have hv : v.isAttached n = false := h
  have hget : v.loops[n.val] = { s.loops[n.val] with
    badIn := s.loops[n.val].badIn + 1, badRun := s.loops[n.val].badRun + 1, goodRun := 0, lastBad := true } := vmod_self ..
  rw [if_neg (by simp [Dev.unsupervised_false hv])]
  split_ifs
  · exact ⟨_, by rw [Dev.loopCause_core, hget]; rfl, .inl rfl⟩
  · exact ⟨_, by rw [Dev.loopFeedback_core cause hv, hget]; rfl, .inr rfl⟩
  · exact ⟨_, by rw [hget]; rfl, .inl rfl⟩

/-- The bad input that completes LOSS_N declares a loss. -/
theorem Dev.loopBad_lost (cause : Nat) (now : Bool) (h : s.isAttached n = false) (hlost : s.loops[n.val].lost = false)
    (hn : s.loops[n.val].lossN ≤ s.loops[n.val].badRun + 1) :
    s.loopBad n cause now =
      (s.onLoop n fun l => { l with badIn := l.badIn + 1, badRun := l.badRun + 1, goodRun := 0, lastBad := true }).loopFeedback n cause := by
  unfold Dev.loopBad
  extract_lets v
  have hv : v.isAttached n = false := h
  have hget : v.loops[n.val] = { s.loops[n.val] with
    badIn := s.loops[n.val].badIn + 1, badRun := s.loops[n.val].badRun + 1, goodRun := 0, lastBad := true } := vmod_self ..
  rw [if_neg (by simp [Dev.unsupervised_false hv]), if_neg (by simp [hget, hlost]), if_pos (by simp [hget, hn])]

theorem Dev.loopBad_rest (cause : Nat) (now : Bool) (h : s.isAttached n = false) : (s.loopBad n cause now).rest = s.rest := by
  unfold Dev.loopBad
  dsimp only
  split_ifs
  · rfl
  · rw [Dev.loopCause_rest]
    rfl
  · exact Dev.loopFeedback_rest (s := s.onLoop n _) cause h
  · rfl

/-- What the reading's COUNT makes of the loop: nothing that its core shows. -/
def Loop.counted (l : Loop) (r : Reading) : Loop := { l with refCount := if r.count.isSome then r.count else l.refCount }

theorem Dev.loopJudge_usable {r : Reading} (hr : r.cls = .usable) :
    s.loopJudge n r = s.onLoop n fun l =>
      { l.counted r with
        y := l.scale r.x, badRun := 0, lastBad := false, goodRun := l.goodRun + 1, lost := l.lost && l.state.faulty } := by
  simp only [Dev.loopJudge, hr, Dev.onLoop_onLoop]
  rfl

theorem Dev.loopJudge_transient {r : Reading} (hr : r.cls = .transient) :
    s.loopJudge n r = s.onLoop n fun l => { l.counted r with badIn := l.badIn + 1, lastBad := false } := by
  simp only [Dev.loopJudge, hr, Dev.onLoop_onLoop]
  rfl

theorem Dev.loopJudge_bad {r : Reading} {cause : Nat} (hr : r.cls = .bad cause) :
    s.loopJudge n r = (s.onLoop n fun l => l.counted r).loopBad n cause false := by
  simp only [Dev.loopJudge, hr]
  rfl

theorem Dev.loopJudge_reset {r : Reading} (hr : r.cls = .reset) : s.loopJudge n r = (s.onLoop n fun l => l.counted r).loopBad n 5 true := by
  simp only [Dev.loopJudge, hr]
  rfl

/-- The judgement of an input changes y and the counts, and the state where a loss is declared. -/
theorem Dev.loopJudge_core (r : Reading) (h : s.isAttached n = false) :
    ∃ y badIn badRun st, (s.loopJudge n r).loops[n.val].core = { s.loops[n.val] with y, badIn, badRun, state := st }.core ∧
      (st = s.loops[n.val].state ∨ st = s.loops[n.val].policed) := by
  have hbad (cause : Nat) (now : Bool) : ∃ y badIn badRun st, ((s.onLoop n fun l => l.counted r).loopBad n cause now).loops[n.val].core =
      { s.loops[n.val] with y, badIn, badRun, state := st }.core ∧ (st = s.loops[n.val].state ∨ st = s.loops[n.val].policed) := by
    obtain ⟨st, hcore, hst⟩ := Dev.loopBad_core (s := s.onLoop n fun l => l.counted r) cause now h
    rw [Dev.onLoop_get] at hcore hst
    exact ⟨_, _, _, st, hcore, hst⟩
  cases hr : r.cls with
  | usable => exact ⟨_, _, _, _, by rw [Dev.loopJudge_usable hr, Dev.onLoop_get]; rfl, .inl rfl⟩
  | transient => exact ⟨_, _, _, _, by rw [Dev.loopJudge_transient hr, Dev.onLoop_get]; rfl, .inl rfl⟩
  | bad cause => exact Dev.loopJudge_bad hr ▸ hbad cause false
  | reset => exact Dev.loopJudge_reset hr ▸ hbad 5 true

theorem Dev.loopJudge_rest (r : Reading) (h : s.isAttached n = false) : (s.loopJudge n r).rest = s.rest := by
  cases hr : r.cls with
  | usable => rw [Dev.loopJudge_usable hr]; rfl
  | transient => rw [Dev.loopJudge_transient hr]; rfl
  | bad cause => exact Dev.loopJudge_bad hr ▸ Dev.loopBad_rest (s := s.onLoop n fun l => l.counted r) cause false h
  | reset => exact Dev.loopJudge_reset hr ▸ Dev.loopBad_rest (s := s.onLoop n fun l => l.counted r) 5 true h

/-! ## Recovery (05 R155) -/

theorem Dev.loopRecover_idle (h : s.loops[n.val].state.faulty = false ∨ s.loops[n.val].autoRec = false) : s.loopRecover n = s := by
  rcases h with h | h <;> simp [Dev.loopRecover, h]

/-- A recovery is a change of state to RUN. -/
theorem Dev.loopRecover_core (h : s.isAttached n = false) :
    ∃ st first lastRun, (s.loopRecover n).loops[n.val].core = { s.loops[n.val] with state := st, first, lastRun }.core := by
  unfold Dev.loopRecover
  dsimp only
  split_ifs with hc
  · have hne : s.loops[n.val].state ≠ .run := LoopState.ne_run_of_faulty (by simp only [Bool.and_eq_true] at hc; exact hc.1.1.1.1)
    rw [Dev.loopReturn_eq (by exact h), Dev.loopGo_loop, Dev.onLoop_get, Loop.moved_run (by exact hne)]
    exact ⟨_, _, _, rfl⟩
  · exact ⟨_, _, _, rfl⟩

theorem Dev.loopRecover_rest (h : s.isAttached n = false) : (s.loopRecover n).rest = s.rest := by
  unfold Dev.loopRecover
  dsimp only
  split_ifs
  · rw [Dev.loopReturn_eq (by exact h)]
    simp
  · rfl

end

/-! ## The profile, the following error, and a held output (05 R144, R156, R167) -/

theorem Loop.profile_core (l : Loop) (t : Nat) : (l.profile t).core = l.core := by
  obtain ⟨r, rv, ra, settled, jump, h, -⟩ := l.profile_shape t
  rw [h]
  rfl

theorem Loop.profileRun_core (l : Loop) (t : Nat) (usable : Bool) : (l.profileRun t usable).core = l.core := by
  unfold Loop.profileRun
  split_ifs
  · exact Loop.profile_core ..
  · rfl
  · exact Loop.profile_core ..

section
variable (s : Dev) (n : Fin 144)

theorem Dev.loopFollow_core : (s.loopFollow n).loops[n.val].core = s.loops[n.val].core := by
  unfold Dev.loopFollow
  dsimp only
  split
  · exact (congrArg Loop.core (Dev.onLoop_get ..) :)
  · exact (congrArg Loop.core (Dev.onLoop_get ..) :)

theorem Dev.loopFollow_rest : (s.loopFollow n).rest = s.rest := by
  unfold Dev.loopFollow
  dsimp only
  split <;> rfl

theorem Dev.loopFollow_raised : (s.loopFollow n).raised = s.raised := by
  unfold Dev.loopFollow
  dsimp only
  split <;> rfl

theorem Dev.loopHeldFlag_core : (s.loopHeldFlag n).loops[n.val].core = s.loops[n.val].core := by
  unfold Dev.loopHeldFlag
  dsimp only
  split
  · simp only [Dev.report_loops, Dev.onLoop_get]
    rfl
  · simp only [Dev.onLoop_get]
    rfl

theorem Dev.loopHeldFlag_rest : (s.loopHeldFlag n).rest = s.rest := by
  unfold Dev.loopHeldFlag
  dsimp only
  split <;> simp

theorem Dev.loopHeldFlag_raised : (s.loopHeldFlag n).raised = s.raised := by
  unfold Dev.loopHeldFlag
  dsimp only
  split <;> simp

end

/-! ## A run that computes the law (05 R146, R153) -/

/-- The loop that the law is computed of: the first run of a bumpless return starts its integrator anew (05 R151). -/
def Loop.primed (l : Loop) (t : Nat) : Loop := if l.bumpless then l.bump t else l

theorem Loop.primed_core (l : Loop) (t : Nat) : ∃ integ, (l.primed t).core = { l with integ }.core := by
  unfold Loop.primed
  split
  · exact ⟨_, rfl⟩
  · exact ⟨_, rfl⟩

theorem Loop.freeze_core (l : Loop) (sat : Bool) : (l.freeze sat).core = l.core := by
  unfold Loop.freeze
  split_ifs <;> rfl

section
variable {s : Dev} {n : Fin 144}

/-- What follows the law: a frozen loop loses its feedback; in RUN the output is written, elsewhere the state's own value. -/
def Dev.loopWrite (s : Dev) (n : Fin 144) (t : Nat) (frozen : Bool) (y : Int) : Dev :=
  let v := if frozen then s.loopFeedback n 6 else s
  if v.loops[n.val].state = LoopState.run then v.loopSend n y else v.loopKeep n t

/-- A run that computes the law: its loop takes the law's u; without FRZ_N it is not frozen. -/
theorem Dev.loopCompute_eq (t : Nat) (h : s.isAttached n = false) :
    ∃ (l : Loop) (frozen : Bool) (y : Int),
      (∃ integ, l.core = { s.loops[n.val] with u := ((s.loops[n.val].primed t).law t).u, integ, first := false }.core) ∧
      (s.loops[n.val].frzN = 0 → frozen = false) ∧ s.loopCompute n t = (s.onLoop n fun _ => l).loopWrite n t frozen y := by
  unfold Dev.loopCompute
  extract_lets _ l₀ p o lim sat l frozen v w
  have hp : ∃ integ, p.core = { l₀ with integ }.core := l₀.primed_core t
  have hl : l.core = (p.commit t o lim.1 lim.2 sat).core := Loop.freeze_core ..
  have hcore : (if frozen then { l with frzCnt := 0 } else l).core = l.core := by split <;> rfl
  have hw : w.rest = s.rest := by
    simp only [w]
    split
    · exact Dev.loopFeedback_rest (s := v) 6 h
    · rfl
  have hnone : w.directDrive n = none := Dev.directDrive_none ((Dev.isAttached_congr hw n).trans h)
  obtain ⟨integ, hp⟩ := hp
  refine ⟨if frozen then { l with frzCnt := 0 } else l, frozen, l.mapOut o.u, ⟨p.nextInteg t o sat, ?_⟩, fun hz => ?_, ?_⟩
  · rw [hcore, hl]
    exact (Loop.core_congr (fun m : Loop => { m with u := o.u, integ := p.nextInteg t o sat, first := false }.core) hp :)
  · have hfrz : l.frzN = 0 := (Loop.core_congr Loop.frzN hl :).trans ((Loop.core_congr Loop.frzN hp :).trans hz)
    simp [frozen, hfrz]
  · simp only [hnone]
    rfl

end

end Sys2Proof.Machine
end

section
/-! A run of a loop that no fan or damper drives (05 R135 to R140, R144 to R146, R151 to R154), in its three parts: the input, what is checked at
every run, and the output. -/

namespace Sys2Proof.Machine

/-! ## Turns (05 R135, R136) -/

section
variable {s : Dev} {n m : Fin 144}

theorem Dev.loopRun_waits (h : s.loopTurn n = false) : s.loopRun n = s := if_pos (by simp [h])

theorem Dev.loopTurn_behind (h : s.loopBefore m n) : s.loopTurn n = false := by
  have hany : ((List.finRange 144).any fun k => s.loopBefore k n) = true := List.any_eq_true.2 ⟨m, List.mem_finRange m, h⟩
  rw [Dev.loopTurn, hany]
  simp

theorem Dev.held_of_loopLive (h : s.loopLive n) : s.held (loopFunc n) = false := by
  simp only [Dev.loopLive, Dev.active, Bool.and_eq_true, Bool.not_eq_true'] at h
  exact h.2.1.2

end

/-! ## An input that is formed anew (05 R138, 09 R265) -/

/-- A change of a damper that leaves it at its loop attaches none. -/
theorem Dev.onDm_isAttached (s : Dev) (n : Fin 144) (k : Fin 12) {f : Damper → Damper} (ha : ∀ x, (f x).attached = x.attached)
    (hl : ∀ x, (f x).loop = x.loop) : (s.onDm k f).isAttached n = s.isAttached n := by
  have hdm : (s.onDm k f).damperOf n = s.damperOf n := by
    refine congrArg (fun p => (List.finRange 12).find? p) (funext fun j => ?_)
    by_cases hj : j = k
    · subst hj
      simp [Dev.onDm, ha, hl]
    · simp [Dev.onDm, vmod_other _ _ _ _ hj]
  rw [Dev.isAttached, hdm]
  rfl

section
variable (s : Dev) (n : Fin 144) (w : Word)

theorem Dev.dmRefresh_shape (k : Fin 12) : ∃ p c a b g, s.dmRefresh k =
    { s.onDm k fun x => { x with pos := p, posCls := c, range := x.range || a, outNow := b } with log := g } := by
  unfold Dev.dmRefresh
  extract_lets r out was v
  split
  · obtain ⟨g, h⟩ := v.report_shape (hDamper k) (dmFunc k) .warn LG_DM_RANGE (mkWord [(0, 16, posQ8 r.x)])
    exact ⟨_, _, _, _, g, h⟩
  · exact ⟨_, _, _, _, s.log, rfl⟩

/-- The input that is formed anew is a damper's position: loops and time stay, and no loop is attached by it. -/
theorem Dev.refreshInput_keeps :
    (s.refreshInput w).loops = s.loops ∧ (s.refreshInput w).now = s.now ∧ (s.refreshInput w).isAttached n = s.isAttached n := by
  unfold Dev.refreshInput
  split
  · next k _ =>
    obtain ⟨p, c, a, b, g, h⟩ := s.dmRefresh_shape k
    rw [h]
    exact ⟨rfl, rfl, s.onDm_isAttached n k (fun _ => rfl) fun _ => rfl⟩
  · exact ⟨rfl, rfl, rfl⟩

end

/-- Only a damper's position is formed anew. -/
theorem Dev.refreshInput_other {s : Dev} {w : Word} (h : ∀ k, objOf w ≠ some (.position k)) : s.refreshInput w = s := by
  unfold Dev.refreshInput
  split
  · next k hk => exact absurd hk (h k)
  · rfl

/-! ## The parts of a run -/

/-- The run starts: its input is judged, and a loss may recover. -/
def Dev.runInput (s : Dev) (n : Fin 144) : Dev :=
  let v := (s.onLoop n fun l => { l with due := false, runs := l.runs + 1 }).loopJudge n (s.loopInput n)
  if (s.loopInput n).cls == .usable then v.loopRecover n else v

/-- The profile, the following error and the output's hold, at every run. -/
def Dev.runChecks (s : Dev) (n : Fin 144) (ok : Bool) : Dev :=
  (((s.onLoop n fun l => { l with lastRun := some s.now }).onLoop n fun l => l.profileRun (s.loopInterval s.loops[n.val]) ok).loopFollow n).loopHeldFlag n

/-- The law in RUN with a usable input, else the state's own value. -/
def Dev.runOutput (s : Dev) (n : Fin 144) (t : Nat) (ok : Bool) : Dev :=
  if s.loops[n.val].state = .run && ok then s.loopCompute n t else s.loopKeep n t

section
variable {s : Dev} {n : Fin 144}

/-- Before the output nothing changes but loops, the log and events. -/
theorem Dev.runInput_rest (h : s.isAttached n = false) : (s.runInput n).rest = s.rest := by
  have hjudge : ((s.onLoop n fun l => { l with due := false, runs := l.runs + 1 }).loopJudge n (s.loopInput n)).rest = s.rest :=
    Dev.loopJudge_rest (s := s.onLoop n _) _ h
  unfold Dev.runInput
  dsimp only
  split
  · rw [Dev.loopRecover_rest (by rw [Dev.isAttached_congr hjudge, h]), hjudge]
  · exact hjudge

theorem Dev.runChecks_rest (s : Dev) (n : Fin 144) (ok : Bool) : (s.runChecks n ok).rest = s.rest := by
  rw [Dev.runChecks, Dev.loopHeldFlag_rest, Dev.loopFollow_rest]
  rfl

theorem Dev.runChecks_core (s : Dev) (n : Fin 144) (ok : Bool) :
    (s.runChecks n ok).loops[n.val].core = { s.loops[n.val] with lastRun := some s.now }.core := by
  rw [Dev.runChecks, Dev.loopHeldFlag_core, Dev.loopFollow_core, Dev.onLoop_get, Dev.onLoop_get, Loop.profileRun_core]

theorem Dev.runChecks_raised (s : Dev) (n : Fin 144) (ok : Bool) : (s.runChecks n ok).raised = s.raised := by
  rw [Dev.runChecks, Dev.loopHeldFlag_raised, Dev.loopFollow_raised]
  rfl

/-- The run of a loop that no fan or damper drives is its three parts. -/
theorem Dev.loopRun_eq (hturn : s.loopTurn n) (h : s.isAttached n = false) :
    let v := s.refreshInput s.loops[n.val].input
    let ok := (v.loopInput n).cls == .usable
    ∃ t, s.loopRun n = (((v.runInput n).runChecks n ok).runOutput n t ok).keepDuty n ok := by
  intro v ok
  have hv : v.isAttached n = false := (s.refreshInput_keeps n _).2.2.trans h
  have hrest : ((v.runInput n).runChecks n ok).rest = v.rest := by rw [Dev.runChecks_rest, Dev.runInput_rest hv]
  have hdirect : ((v.runInput n).runChecks n ok).directDrive n = none := Dev.directDrive_none (by rw [Dev.isAttached_congr hrest, hv])
  refine ⟨(v.runInput n).loopInterval (v.runInput n).loops[n.val], ?_⟩
  unfold Dev.loopRun
  rw [if_neg (by simp [hturn])]
  extract_lets a r b c d e t f g k z
  have hk : k.directDrive n = none := hdirect
  have hz : z = k.runOutput n t b := by
    simp only [z, hk]
    rfl
  rw [hz]
  rfl

/-! ## What the input makes of the loop -/

/-- The loop as its run starts. -/
def Loop.started (l : Loop) : Loop := { l with due := false, runs := l.runs + 1 }

/-- A usable input gives y and ends a series of bad ones; a loss may recover. -/
theorem Dev.runInput_usable (h : s.isAttached n = false) (hr : (s.loopInput n).cls = .usable) :
    ∃ st first lastRun, (s.runInput n).loops[n.val].core =
        { s.loops[n.val].started with y := s.loops[n.val].scale (s.loopInput n).x, badRun := 0, state := st, first, lastRun }.core ∧
      (s.loops[n.val].state.faulty = false → st = s.loops[n.val].state) := by
  let v := (s.onLoop n Loop.started).loopJudge n (s.loopInput n)
  have hv : v.loops[n.val].core = { s.loops[n.val].started with y := s.loops[n.val].scale (s.loopInput n).x, badRun := 0 }.core := by
    rw [show v = _ from Dev.loopJudge_usable hr, Dev.onLoop_get, Dev.onLoop_get]
    rfl
  have hrun : s.runInput n = v.loopRecover n := if_pos (by rw [hr]; rfl)
  rw [hrun]
  by_cases hf : s.loops[n.val].state.faulty = false
  · rw [Dev.loopRecover_idle (.inl ((Loop.core_congr (fun l : Loop => l.state.faulty) hv :).trans hf)), hv]
    exact ⟨_, _, _, rfl, fun _ => rfl⟩
  · obtain ⟨st, first, lastRun, hcore⟩ :=
      Dev.loopRecover_core (s := v) (n := n) (by rw [Dev.isAttached_congr (Dev.loopJudge_rest (s := s.onLoop n _) _ h)]; exact h)
    refine ⟨st, first, lastRun, hcore.trans ?_, fun hf' => absurd hf' hf⟩
    exact (Loop.core_congr (fun l : Loop => { l with state := st, first, lastRun }.core) hv :)

/-- A transient input is counted. -/
theorem Dev.runInput_transient (hr : (s.loopInput n).cls = .transient) :
    (s.runInput n).loops[n.val].core = { s.loops[n.val].started with badIn := s.loops[n.val].badIn + 1 }.core := by
  have hrun : s.runInput n = (s.onLoop n Loop.started).loopJudge n (s.loopInput n) := if_neg (by rw [hr]; decide)
  rw [hrun, Dev.loopJudge_transient hr, Dev.onLoop_get, Dev.onLoop_get]
  rfl

/-- Whatever the input, it changes y, the counts and the state; outside RUN and without AUTO_REC not the state. -/
theorem Dev.runInput_core (h : s.isAttached n = false) :
    ∃ y badIn badRun st first lastRun, (s.runInput n).loops[n.val].core =
        { s.loops[n.val].started with y, badIn, badRun, state := st, first, lastRun }.core ∧
      (s.loops[n.val].state ≠ .run → s.loops[n.val].autoRec = false → st = s.loops[n.val].state) := by
  let v := (s.onLoop n Loop.started).loopJudge n (s.loopInput n)
  obtain ⟨y, badIn, badRun, st, hv, hst⟩ := Dev.loopJudge_core (s := s.onLoop n Loop.started) (s.loopInput n) h
  have hv : v.loops[n.val].core = { s.loops[n.val].started with y, badIn, badRun, state := st }.core := by
    rw [Dev.onLoop_get] at hv
    exact hv
  have hkeep (hne : s.loops[n.val].state ≠ .run) : st = s.loops[n.val].state := by
    rw [Dev.onLoop_get] at hst
    exact hst.elim id fun e => e.trans (if_neg hne)
  by_cases hr : (s.loopInput n).cls = .usable
  · have hrun : s.runInput n = v.loopRecover n := if_pos (by rw [hr]; rfl)
    rw [hrun]
    by_cases ha : s.loops[n.val].autoRec = false
    · rw [Dev.loopRecover_idle (.inr ((Loop.core_congr Loop.autoRec hv :).trans ha)), hv]
      exact ⟨_, _, _, _, _, _, rfl, fun hne _ => hkeep hne⟩
    · obtain ⟨st', first, lastRun, hcore⟩ :=
        Dev.loopRecover_core (s := v) (n := n) (by rw [Dev.isAttached_congr (Dev.loopJudge_rest (s := s.onLoop n _) _ h)]; exact h)
      refine ⟨y, badIn, badRun, st', first, lastRun, hcore.trans ?_, fun _ ha' => absurd ha' ha⟩
      exact (Loop.core_congr (fun l : Loop => { l with state := st', first, lastRun }.core) hv :)
  · have hrun : s.runInput n = v := if_neg (by simpa using hr)
    rw [hrun, hv]
    exact ⟨_, _, _, _, _, _, rfl, fun hne _ => hkeep hne⟩

/-! ## What the output makes of the loop -/

/-- After the law the run ends with a write, which changes u and, where the run is frozen, the state. -/
theorem Dev.loopWrite_core (t : Nat) (frozen : Bool) (y : Int) (h : s.isAttached n = false) :
    ∃ u st, (s.loopWrite n t frozen y).loops[n.val].core = { s.loops[n.val] with u, state := st }.core := by
  obtain ⟨v, hdef⟩ : ∃ v, v = if frozen then s.loopFeedback n 6 else s := ⟨_, rfl⟩
  have hv : ∃ st, v.loops[n.val].core = { s.loops[n.val] with state := st }.core := by
    rw [hdef]
    cases frozen with
    | true => exact ⟨_, Dev.loopFeedback_core 6 h⟩
    | false => exact ⟨_, rfl⟩
  have heq : s.loopWrite n t frozen y = if v.loops[n.val].state = .run then v.loopSend n y else v.loopKeep n t := by
    rw [hdef]
    rfl
  obtain ⟨st, hv⟩ := hv
  rw [heq]
  split_ifs
  · exact ⟨s.loops[n.val].u, st, (Dev.core_congr (v.loopSend_sendView n n y)).trans hv⟩
  · obtain ⟨u, hu⟩ := v.loopKeep_sendView n t
    exact ⟨u, st, (Dev.core_of_sendView hu).trans (Loop.core_congr (fun l : Loop => { l with u }.core) hv :)⟩

theorem Dev.loopWrite_run (t : Nat) (y : Int) (h : s.loops[n.val].state = .run) : s.loopWrite n t false y = s.loopSend n y := by
  simp [Dev.loopWrite, h]

theorem Dev.runOutput_core (t : Nat) (ok : Bool) (h : s.isAttached n = false) :
    ∃ u integ st first, (s.runOutput n t ok).loops[n.val].core = { s.loops[n.val] with u, integ, state := st, first }.core := by
  unfold Dev.runOutput
  split
  · obtain ⟨l, frozen, y, ⟨integ, hl⟩, -, heq⟩ := Dev.loopCompute_eq t h
    obtain ⟨u, st, hw⟩ := Dev.loopWrite_core (s := s.onLoop n fun _ => l) t frozen y h
    rw [Dev.onLoop_get] at hw
    rw [heq]
    exact ⟨u, integ, st, false, hw.trans (Loop.core_congr (fun l : Loop => { l with u, state := st }.core) hl :)⟩
  · obtain ⟨u, hu⟩ := s.loopKeep_sendView n t
    exact ⟨u, _, _, _, Dev.core_of_sendView hu⟩

/-- A run in RUN that cannot freeze and has no rate limit keeps u within its limits and stays in RUN. -/
theorem Dev.loopCompute_bounded (t : Nat) (h : s.isAttached n = false) (hrun : s.loops[n.val].state = .run) (hfrz : s.loops[n.val].frzN = 0)
    (hrate : s.loops[n.val].rateMax = 0) (hlim : s.loops[n.val].outMin ≤ s.loops[n.val].outMax) :
    ∃ u integ, (s.loopCompute n t).loops[n.val].core = { s.loops[n.val] with u, integ, first := false }.core ∧
      s.loops[n.val].outMin ≤ u ∧ u ≤ s.loops[n.val].outMax := by
  obtain ⟨l, frozen, y, ⟨integ, hl⟩, hnot, heq⟩ := Dev.loopCompute_eq t h
  obtain ⟨_, hp⟩ := s.loops[n.val].primed_core t
  have hmin : (s.loops[n.val].primed t).outMin = s.loops[n.val].outMin := (Loop.core_congr Loop.outMin hp :)
  have hmax : (s.loops[n.val].primed t).outMax = s.loops[n.val].outMax := (Loop.core_congr Loop.outMax hp :)
  have hbounds := (s.loops[n.val].primed t).law_bounds t (by rw [hmin, hmax]; exact hlim) ((Loop.core_congr Loop.rateMax hp :).trans hrate)
  rw [hmin, hmax] at hbounds
  have hstate : (s.onLoop n fun _ => l).loops[n.val].state = .run := by
    rw [Dev.onLoop_get]
    exact (Loop.core_congr Loop.state hl :).trans hrun
  have hsend : s.loopCompute n t = (s.onLoop n fun _ => l).loopSend n y := by
    rw [heq, hnot hfrz, Dev.loopWrite_run t y hstate]
  refine ⟨((s.loops[n.val].primed t).law t).u, integ, ?_, hbounds⟩
  rw [hsend, Dev.core_of_sendView ((Dev.loopSend_sendView ..).trans (s.onLoop_sendView n fun _ => l))]
  exact hl

/-! ## The run -/

/-- The device of a run before its output. -/
def Dev.runChecked (s : Dev) (n : Fin 144) : Dev :=
  let v := s.refreshInput s.loops[n.val].input
  (v.runInput n).runChecks n ((v.loopInput n).cls == .usable)

theorem Dev.runChecked_isAttached (h : s.isAttached n = false) : (s.runChecked n).isAttached n = false := by
  have hatt := (s.refreshInput_keeps n s.loops[n.val].input).2.2.trans h
  rw [Dev.runChecked, Dev.isAttached_congr (Dev.runChecks_rest ..), Dev.isAttached_congr (Dev.runInput_rest hatt), hatt]

theorem Dev.runChecked_core (h : s.isAttached n = false) :
    (s.runChecked n).loops[n.val].core =
      { ((s.refreshInput s.loops[n.val].input).runInput n).loops[n.val] with lastRun := some s.now }.core := by
  obtain ⟨-, hnow, hatt⟩ := s.refreshInput_keeps n s.loops[n.val].input
  rw [Dev.runChecked, Dev.runChecks_core, Dev.now_congr (Dev.runInput_rest (hatt.trans h)), hnow]

section
variable (hturn : s.loopTurn n) (h : s.isAttached n = false)
include hturn h

/-- What is left of a run after its checks is its output. -/
theorem Dev.loopRun_sendView :
    ∃ t, (s.loopRun n).sendView n =
      ((s.runChecked n).runOutput n t (((s.refreshInput s.loops[n.val].input).loopInput n).cls == .usable)).sendView n := by
  obtain ⟨t, heq⟩ := Dev.loopRun_eq hturn h
  rw [heq]
  exact ⟨t, Dev.keepDuty_sendView ..⟩

/-- Every run, whatever its input: it is counted, with its time, and its trigger is served. -/
theorem Dev.loopRun_counts :
    ∃ y badIn badRun st first u integ, (s.loopRun n).loops[n.val].core =
      { s.loops[n.val].started with lastRun := some s.now, y, badIn, badRun, state := st, first, u, integ }.core := by
  obtain ⟨hloops, -, hatt⟩ := s.refreshInput_keeps n s.loops[n.val].input
  obtain ⟨t, hview⟩ := Dev.loopRun_sendView hturn h
  obtain ⟨u, integ, st, first, hout⟩ := Dev.runOutput_core t _ (Dev.runChecked_isAttached h)
  obtain ⟨y, badIn, badRun, _, _, _, hin, -⟩ := Dev.runInput_core (hatt.trans h)
  rw [hloops] at hin
  refine ⟨y, badIn, badRun, st, first, u, integ, ?_⟩
  have hchecked := (Dev.runChecked_core h).trans (Loop.core_congr (fun l : Loop => { l with lastRun := some s.now }.core) hin :)
  exact (Dev.core_congr hview).trans
    (hout.trans (Loop.core_congr (fun l : Loop => { l with state := st, first, u, integ }.core) hchecked :))

/-- A run with a usable input that is no damper's position: y, and the end of a series of bad inputs. -/
theorem Dev.loopRun_usable (hpos : ∀ k, objOf s.loops[n.val].input ≠ some (.position k)) (hr : (s.loopInput n).cls = .usable) :
    ∃ st first u integ, (s.loopRun n).loops[n.val].core =
      { s.loops[n.val].started with
        lastRun := some s.now, y := s.loops[n.val].scale (s.loopInput n).x, badRun := 0, state := st, first, u, integ }.core := by
  obtain ⟨t, hview⟩ := Dev.loopRun_sendView hturn h
  obtain ⟨u, integ, st, first, hout⟩ := Dev.runOutput_core t _ (Dev.runChecked_isAttached h)
  obtain ⟨_, _, _, hin, -⟩ := Dev.runInput_usable h hr
  have hchecked := Dev.runChecked_core h
  rw [Dev.refreshInput_other hpos] at hchecked
  have hchecked := hchecked.trans (Loop.core_congr (fun l : Loop => { l with lastRun := some s.now }.core) hin :)
  refine ⟨st, first, u, integ, ?_⟩
  exact (Dev.core_congr hview).trans
    (hout.trans (Loop.core_congr (fun l : Loop => { l with state := st, first, u, integ }.core) hchecked :))

/-- A run in RUN with a usable input computes the law; without a freeze check and a rate limit u stays within its limits. -/
theorem Dev.loopRun_bounded (hrun : s.loops[n.val].state = .run) (hpos : ∀ k, objOf s.loops[n.val].input ≠ some (.position k))
    (hr : (s.loopInput n).cls = .usable) (hfrz : s.loops[n.val].frzN = 0) (hrate : s.loops[n.val].rateMax = 0)
    (hlim : s.loops[n.val].outMin ≤ s.loops[n.val].outMax) :
    s.loops[n.val].outMin ≤ (s.loopRun n).loops[n.val].u ∧ (s.loopRun n).loops[n.val].u ≤ s.loops[n.val].outMax ∧
      (s.loopRun n).loops[n.val].state = .run ∧ (s.loopRun n).loops[n.val].first = false := by
  obtain ⟨t, hview⟩ := Dev.loopRun_sendView hturn h
  obtain ⟨st, first, lastRun, hin, hst⟩ := Dev.runInput_usable h hr
  have hst := (hst (by rw [hrun]; rfl)).trans hrun
  have hchecked := Dev.runChecked_core h
  rw [Dev.refreshInput_other hpos] at hchecked hview
  have hchecked := hchecked.trans (Loop.core_congr (fun l : Loop => { l with lastRun := some s.now }.core) hin :)
  have hfree := Dev.runChecked_isAttached h
  generalize s.runChecked n = c at *
  have hstate : c.loops[n.val].state = .run := (Loop.core_congr Loop.state hchecked :).trans hst
  have hmin : c.loops[n.val].outMin = s.loops[n.val].outMin := (Loop.core_congr Loop.outMin hchecked :)
  have hmax : c.loops[n.val].outMax = s.loops[n.val].outMax := (Loop.core_congr Loop.outMax hchecked :)
  obtain ⟨u, integ, hout, hlo, hhi⟩ := Dev.loopCompute_bounded t hfree hstate ((Loop.core_congr Loop.frzN hchecked :).trans hfrz)
    ((Loop.core_congr Loop.rateMax hchecked :).trans hrate) (by rw [hmin, hmax]; exact hlim)
  have hcompute : c.runOutput n t ((s.loopInput n).cls == .usable) = c.loopCompute n t := if_pos (by rw [hr, hstate]; rfl)
  rw [hcompute] at hview
  have hfinal := (Dev.core_congr hview).trans hout
  have hu : (s.loopRun n).loops[n.val].u = u := (Loop.core_congr Loop.u hfinal :)
  exact ⟨by rw [hu, ← hmin]; exact hlo, by rw [hu, ← hmax]; exact hhi, (Loop.core_congr Loop.state hfinal :).trans hstate, (Loop.core_congr Loop.first hfinal :)⟩

/-- A run whose input is not usable, or that is not in RUN, computes no law. -/
theorem Dev.loopRun_keeps
    (hk : ((s.refreshInput s.loops[n.val].input).loopInput n).cls ≠ .usable ∨ (s.runChecked n).loops[n.val].state ≠ .run) :
    ∃ t, (s.loopRun n).sendView n = ((s.runChecked n).loopKeep n t).sendView n := by
  obtain ⟨t, hview⟩ := Dev.loopRun_sendView hturn h
  refine ⟨t, hview.trans (congrArg (fun v => Dev.sendView v n) (if_neg ?_))⟩
  rcases hk with hk | hk <;> simp [hk]

/-- A transient input leaves the loop where it is. -/
theorem Dev.loopRun_transient (hrun : s.loops[n.val].state = .run) (hpos : ∀ k, objOf s.loops[n.val].input ≠ some (.position k))
    (hr : (s.loopInput n).cls = .transient) :
    (s.loopRun n).loops[n.val].core = { s.loops[n.val].started with badIn := s.loops[n.val].badIn + 1, lastRun := some s.now }.core := by
  obtain ⟨t, hview⟩ := Dev.loopRun_keeps hturn h (.inl (by rw [Dev.refreshInput_other hpos, hr]; decide))
  have hchecked := Dev.runChecked_core h
  rw [Dev.refreshInput_other hpos] at hchecked
  have hchecked := hchecked.trans (Loop.core_congr (fun l : Loop => { l with lastRun := some s.now }.core) (Dev.runInput_transient hr) :)
  have hstate : (s.runChecked n).loops[n.val].state = .run := (Loop.core_congr Loop.state hchecked :).trans hrun
  exact (Dev.core_congr (hview.trans (Dev.loopKeep_run t hstate))).trans hchecked

/-- In SAFE without AUTO_REC the loop stays there and its output is SAFE_VAL. -/
theorem Dev.loopRun_safe (hst : s.loops[n.val].state = .safe) (ha : s.loops[n.val].autoRec = false) :
    (s.loopRun n).loops[n.val].u = clampI s.loops[n.val].outMin s.loops[n.val].outMax s.loops[n.val].safeVal ∧
      (s.loopRun n).loops[n.val].state = .safe ∧ (s.loopRun n).loops[n.val].integ = s.loops[n.val].integ := by
  obtain ⟨hloops, -, hatt⟩ := s.refreshInput_keeps n s.loops[n.val].input
  obtain ⟨y, badIn, badRun, st, first, lastRun, hin, hkeep⟩ := Dev.runInput_core (hatt.trans h)
  rw [hloops] at hin hkeep
  have hkeep := (hkeep (by rw [hst]; decide) ha).trans hst
  have hchecked := (Dev.runChecked_core h).trans (Loop.core_congr (fun l : Loop => { l with lastRun := some s.now }.core) hin :)
  have hsafe : (s.runChecked n).loops[n.val].state = .safe := (Loop.core_congr Loop.state hchecked :).trans hkeep
  obtain ⟨t, hview⟩ := Dev.loopRun_keeps hturn h (.inr (by rw [hsafe]; decide))
  generalize s.runChecked n = c at *
  have hfinal := Dev.core_of_sendView (hview.trans (Dev.loopKeep_safe t hsafe))
  refine ⟨(Loop.core_congr Loop.u hfinal :).trans ?_, (Loop.core_congr Loop.state hfinal :).trans hsafe,
    (Loop.core_congr Loop.integ hfinal :).trans (Loop.core_congr Loop.integ hchecked :)⟩
  exact (Loop.core_congr (fun l : Loop => clampI l.outMin l.outMax l.safeVal) hchecked :)

end

end

end Sys2Proof.Machine
end

section
/-! Triggers, losses and following errors of a loop that no fan or damper drives (05 R133 to R137, R152 to R154, R156 to R158), and the loops'
moments together. -/

namespace Sys2Proof.Machine

/-! ## The errors of one source (17 R481, R482) -/

section
variable {s : Dev} {src : Word} {e : ErrState}

theorem Dev.mem_errs_of_errsOf (h : s.errsOf src = [e]) : e ∈ s.log.errs ∧ e.source = src := by
  have hmem : e ∈ s.errsOf src := by simp [h]
  simpa [Dev.errsOf] using hmem

/-- A source in IDLE comes to handle the error it reports. -/
theorem Dev.report_errsOf_idle (f : Nat) (sev : Sev) (code : BitVec 11) (arg : Word) (hheld : s.held f = false)
    (hidle : s.handling src = false) : ∃ e, (s.report src f sev code arg).1.errsOf src = [e] ∧ e.cls = sev ∧ e.code = code := by
  obtain ⟨-, e, herrs, hsrc, -, hcls, hcode⟩ := s.report_idle src f sev code arg hheld hidle
  have hnone : s.errsOf src = [] := by simpa [Dev.handling_eq] using hidle
  refine ⟨e, ?_, hcls, hcode⟩
  rw [Dev.errsOf, herrs, List.filter_append, ← Dev.errsOf, hnone]
  simp [hsrc]

/-- An error that is no more severe than the one handled follows it. -/
theorem Dev.report_errsOf_follows (f : Nat) {sev : Sev} (code : BitVec 11) (arg : Word) (h : s.errsOf src = [e]) (hsev : e.cls.num ≤ sev.num) :
    (s.report src f sev code arg).1.errsOf src = [e] := by
  have hfind : s.log.errs.find? (fun x => x.source == src) = some e := by
    rw [← List.head?_filter]
    exact congrArg List.head? h
  have hlog (o : Occ) : (s.logPut o).1.log.errs = s.log.errs := logPut_errs ..
  unfold Dev.report
  split_ifs
  · exact h
  · simp only [hfind, if_neg (not_lt.2 hsev), Dev.errsOf, hlog]
    exact h

/-- An error of another code outlives the end of some. -/
theorem Dev.endErrOf_errsOf {codes : List (BitVec 11)} (h : s.errsOf src = [e]) (hc : e.code ∉ codes) :
    (s.endErrOf src codes).errsOf src = [e] := by
  have hcomm : (s.endErrOf src codes).errsOf src = (s.errsOf src).filter fun x => !(x.source == src && codes.contains x.code) := by
    simp only [Dev.errsOf, Dev.endErrOf, List.filter_filter, Bool.and_comm]
  rw [hcomm, h]
  simp [hc]

end

section
variable {s : Dev} {n : Fin 144} {e : ErrState}

/-- The checks of a run leave a fault of the loop but for a following error. -/
theorem Dev.runChecks_errsOf (ok : Bool) (h : s.errsOf (hLoop n) = [e]) (hcls : e.cls = .fault) (hcode : e.code ≠ LG_LOOP_FOLLOW) :
    (s.runChecks n ok).errsOf (hLoop n) = [e] := by
  have hfollow (v : Dev) (hv : v.errsOf (hLoop n) = [e]) : (v.loopFollow n).errsOf (hLoop n) = [e] := by
    unfold Dev.loopFollow
    dsimp only
    split
    · exact Dev.endErrOf_errsOf (s := v.onLoop n _) hv (by simpa using hcode)
    · exact hv
  have hheld (v : Dev) (hv : v.errsOf (hLoop n) = [e]) : (v.loopHeldFlag n).errsOf (hLoop n) = [e] := by
    unfold Dev.loopHeldFlag
    dsimp only
    split
    · exact Dev.report_errsOf_follows (s := v.onLoop n _) _ _ _ hv (by rw [hcls]; decide)
    · exact hv
  exact hheld _ (hfollow _ h)

/-! ## A loss that is declared (05 R152, R154, R158) -/

theorem Dev.loopPolicy_log (by_ : Nat) (h : s.isAttached n = false) : (s.loopPolicy n by_).log = s.log := by
  by_cases hrun : s.loops[n.val].state = .run
  · obtain ⟨arg, heq⟩ := Dev.loopPolicy_run by_ h hrun
    rw [heq]
    rfl
  · rw [Dev.loopPolicy_idle by_ hrun]

theorem Dev.mem_loopPolicy_raised {x : Event} (by_ : Nat) (h : s.isAttached n = false) (hx : x ∈ s.raised) : x ∈ (s.loopPolicy n by_).raised := by
  by_cases hrun : s.loops[n.val].state = .run
  · obtain ⟨arg, heq⟩ := Dev.loopPolicy_run by_ h hrun
    rw [heq]
    exact List.mem_append_left _ hx
  · rwa [Dev.loopPolicy_idle by_ hrun]

/-- LOOP_FEEDBACK of a loop in IDLE is a fault of the loop, with its event. -/
theorem Dev.loopFeedback_reports (cause : Nat) (h : s.isAttached n = false) (hheld : s.held (loopFunc n) = false)
    (hidle : s.handling (hLoop n) = false) :
    (∃ e, (s.loopFeedback n cause).errsOf (hLoop n) = [e] ∧ e.cls = .fault ∧ e.code = LG_LOOP_FEEDBACK) ∧
      ∃ x ∈ (s.loopFeedback n cause).raised, x.code = EV_LOOP_FEEDBACK ∧ x.handle = hLoop n ∧ x.arg = feedbackArg n cause := by
  obtain ⟨f, -, heq⟩ := s.loopFeedback_eq n cause
  let arg := feedbackArg n cause
  let v := s.reportEv (hLoop n) (loopFunc n) .fault LG_LOOP_FEEDBACK arg EV_LOOP_FEEDBACK (hLoop n) arg
  have hv : v = (s.report (hLoop n) (loopFunc n) .fault LG_LOOP_FEEDBACK arg).1.raise EV_LOOP_FEEDBACK (loopFunc n) (hLoop n) arg :=
    if_pos (s.report_idle (hLoop n) (loopFunc n) .fault LG_LOOP_FEEDBACK arg hheld hidle).1
  have hfree : (v.onLoop n f).isAttached n = false := by rw [Dev.onLoop_isAttached, Dev.isAttached_congr (Dev.reportEv_rest ..), h]
  obtain ⟨e, herrs, hcls, hcode⟩ := Dev.report_errsOf_idle (s := s) (loopFunc n) .fault LG_LOOP_FEEDBACK arg hheld hidle
  rw [heq]
  refine ⟨⟨e, ?_, hcls, hcode⟩, ⟨EV_LOOP_FEEDBACK, loopFunc n, hLoop n, arg, s.tick, 0⟩, Dev.mem_loopPolicy_raised _ hfree ?_, rfl, rfl, rfl⟩
  · rw [Dev.errsOf, Dev.loopPolicy_log _ hfree]
    exact hv ▸ herrs
  · have hraised : (v.onLoop n f).raised = s.raised ++ [⟨EV_LOOP_FEEDBACK, loopFunc n, hLoop n, arg, s.tick, 0⟩] := by
      rw [Dev.onLoop_raised, hv]
      simp [Dev.tick]
    rw [hraised]
    exact List.mem_append_right _ (List.mem_singleton_self _)

/-- The bad input that completes LOSS_N declares the loss. -/
theorem Dev.runInput_lost {cause : Nat} (h : s.isAttached n = false) (hr : (s.loopInput n).cls = .bad cause)
    (hlost : s.loops[n.val].lost = false) (hn : s.loops[n.val].lossN ≤ s.loops[n.val].badRun + 1) :
    ∃ f : Loop → Loop, s.runInput n = (s.onLoop n f).loopFeedback n cause ∧
      (f s.loops[n.val]).core = { s.loops[n.val].started with
        badIn := s.loops[n.val].badIn + 1, badRun := s.loops[n.val].badRun + 1 }.core := by
  let v := (s.onLoop n Loop.started).onLoop n fun l => l.counted (s.loopInput n)
  have hrun : s.runInput n = (s.onLoop n Loop.started).loopJudge n (s.loopInput n) := if_neg (by rw [hr]; simp)
  have hget : v.loops[n.val] = s.loops[n.val].started.counted (s.loopInput n) := by rw [Dev.onLoop_get, Dev.onLoop_get]
  have hloss := Dev.loopBad_lost (s := v) (n := n) cause false h (by rw [hget]; exact hlost) (by rw [hget]; exact hn)
  rw [Dev.onLoop_onLoop, Dev.onLoop_onLoop] at hloss
  exact ⟨_, hrun.trans ((Dev.loopJudge_bad hr).trans hloss), rfl⟩

/-- A run in RUN whose bad input declares a loss: POLICY applies, the fault stands and its event is raised. -/
theorem Dev.loopRun_lost {cause : Nat} (hturn : s.loopTurn n) (h : s.isAttached n = false) (hrun : s.loops[n.val].state = .run)
    (hpos : ∀ k, objOf s.loops[n.val].input ≠ some (.position k)) (hr : (s.loopInput n).cls = .bad cause) (hlost : s.loops[n.val].lost = false)
    (hn : s.loops[n.val].lossN ≤ s.loops[n.val].badRun + 1) (hidle : s.handling (hLoop n) = false) :
    (s.loopRun n).loops[n.val].state = s.loops[n.val].policyState ∧ (s.loopRun n).loops[n.val].badIn = s.loops[n.val].badIn + 1 ∧
      (∃ e ∈ (s.loopRun n).log.errs, e.source = hLoop n ∧ e.cls = .fault ∧ e.code = LG_LOOP_FEEDBACK) ∧
      ∃ x ∈ (s.loopRun n).raised, x.code = EV_LOOP_FEEDBACK ∧ x.handle = hLoop n ∧ x.arg = feedbackArg n cause := by
  have hheld : s.held (loopFunc n) = false := by
    simp only [Dev.loopTurn, Bool.and_eq_true] at hturn
    exact Dev.held_of_loopLive hturn.1.1
  obtain ⟨f, hin, hf⟩ := Dev.runInput_lost h hr hlost hn
  have hcore : (s.runInput n).loops[n.val].core = { s.loops[n.val].started with
      badIn := s.loops[n.val].badIn + 1, badRun := s.loops[n.val].badRun + 1, state := s.loops[n.val].policyState }.core := by
    rw [hin, Dev.loopFeedback_core (s := s.onLoop n f) cause h, Dev.onLoop_get]
    refine (Loop.core_congr (fun l : Loop => { l with state := l.policed }.core) hf).trans ?_
    rw [Loop.policed, if_pos (by exact hrun)]
    rfl
  obtain ⟨⟨e, herrs, hcls, hcode⟩, x, hx, hxe⟩ :=
    Dev.loopFeedback_reports (s := s.onLoop n f) cause h hheld hidle
  rw [← hin] at herrs hx
  have hchecked := Dev.runChecked_core h
  obtain ⟨t, hview⟩ := Dev.loopRun_keeps hturn h (.inl (by rw [Dev.refreshInput_other hpos, hr]; simp))
  have hparts : s.runChecked n = (s.runInput n).runChecks n ((s.loopInput n).cls == .usable) := by
    rw [Dev.runChecked, Dev.refreshInput_other hpos]
  rw [Dev.refreshInput_other hpos] at hchecked
  rw [hparts] at hchecked hview
  have herrs := Dev.runChecks_errsOf ((s.loopInput n).cls == .usable) herrs hcls (by rw [hcode]; decide)
  rw [← Dev.runChecks_raised (s.runInput n) n ((s.loopInput n).cls == .usable)] at hx
  have hchecked := hchecked.trans (Loop.core_congr (fun l : Loop => { l with lastRun := some s.now }.core) hcore :)
  generalize (s.runInput n).runChecks n ((s.loopInput n).cls == .usable) = c at *
  obtain ⟨u, hu⟩ := c.loopKeep_sendView n t
  have hview := hview.trans hu
  have hfinal := (Dev.core_of_sendView hview).trans (Loop.core_congr (fun l : Loop => { l with u }.core) hchecked :)
  obtain ⟨hmem, hsrc⟩ := Dev.mem_errs_of_errsOf herrs
  refine ⟨(Loop.core_congr Loop.state hfinal :), (Loop.core_congr Loop.badIn hfinal :), ⟨e, ?_, hsrc, hcls, hcode⟩, x, ?_, hxe⟩
  · rw [Dev.errs_of_sendView hview]
    exact hmem
  · rw [Dev.raised_of_sendView hview]
    exact hx

end

/-! ## Triggers (05 R133 to R137) -/

section
variable {s : Dev} {n : Fin 144}

theorem Dev.loopTrigger_due (hlive : s.loopLive n) (h : s.loops[n.val].due = false) :
    s.loopTrigger n = { s.onLoop n fun l => { l with due := true, trigAt := s.now, trigNo := s.trigs } with trigs := s.trigs + 1 } := by
  rw [Dev.loopTrigger, if_neg (by simp [hlive]), if_neg (by simp [h])]

/-- A trigger that finds the loop due is an overrun. -/
theorem Dev.loopTrigger_overrun (hlive : s.loopLive n) (h : s.loops[n.val].due) :
    ∃ g, s.loopTrigger n = { s.onLoop n fun l => { l with overruns := l.overruns + 1 } with log := g } := by
  rw [Dev.loopTrigger, if_neg (by simp [hlive]), if_pos h]
  exact Dev.report_shape ..

/-- The timer of a TIMER loop triggers it. -/
theorem execLoopTimerExpiry_timer {s : State} {n : Fin 144} (h : s.dev.loops[n.val].trig = 0) :
    exec (.loopTimerExpiry n) s = .next { s with dev := s.dev.loopTrigger n } := by
  have htrigger (v : Dev) : v = s.dev → (if v.loops[n.val].trig = 0 || (v.loops[n.val].trig = 2 && v.loops[n.val].fallback) then v.loopTrigger n else v) =
      s.dev.loopTrigger n := by
    rintro rfl
    simp [h]
  exact congrArg (fun v => Host.Outcome.next { s with dev := v }) (htrigger s.dev rfl)

/-! ## The following error (05 R156 to R158) -/

/-- The loop's timer has run out: the error is reported, and POLICY applies with FE_ACT. -/
theorem Dev.feExpiry_eq (hlive : s.loopLive n) (ht : s.loops[n.val].feTimer) (hr : s.loops[n.val].feRaised = false) :
    ∃ arg, s.feExpiry n =
      let v := (s.onLoop n fun l => { l with feRaised := true }).reportEv (hLoop n) (loopFunc n)
        (if s.loops[n.val].feAct then .fault else .warn) LG_LOOP_FOLLOW arg EV_LOOP_FOLLOW (hLoop n) arg
      if s.loops[n.val].feAct then v.loopPolicy n 7 else v :=
  ⟨_, if_neg (by simp [hlive, ht, hr])⟩

end

/-- Settles O40: the profile and the law, then triggers, runs and supervision of a loop, then u_prev at ENABLE. -/
theorem loopMoments : Obligations.LoopMoments := by
  unfold Obligations.LoopMoments
  refine ⟨⟨fun l t => ?profile, fun l t hv => ?jump, fun l t hlim hrate => l.law_bounds t hlim hrate,
      fun l t o hi lo sat hlim => clampI_bounds _ hlim, fun l t o hi lo ha hv he => Loop.nextInteg_saturated ha hv he⟩,
    fun s n hlive hatt => ⟨fun htrig hdue => ?trigger, fun htrig hdue => ?overrun, fun hturn => ?waits, fun m hm => ?behind, fun hturn => ?counts,
      fun hturn hpos hr => ?usable, fun hturn hrun hpos hr hfrz hrate hlim => ?bounded, fun hturn hrun hpos hr => ?transient,
      fun c hturn hrun hpos hr hlost hn hidle => ?lost, fun hturn hst hauto => ?safe, fun ht hr hact hidle => ?followWarns,
      fun ht hr hact hrun => ?followActs⟩,
    fun s d n h hatt ha hst hc hin => ?enable⟩
  case profile =>
    obtain ⟨r, rv, ra, settled, jump, h, htoward⟩ := l.profile_shape t
    rw [h]
    exact ⟨htoward.le, htoward.ge⟩
  case jump =>
    rw [Loop.profile_jumps t hv]
    exact ⟨rfl, rfl, rfl⟩
  case trigger =>
    refine ⟨_, execLoopTimerExpiry_timer htrig, ?_⟩
    rw [Dev.loopTrigger_due hlive hdue]
    rfl
  case overrun =>
    obtain ⟨g, h⟩ := Dev.loopTrigger_overrun hlive hdue
    refine ⟨_, execLoopTimerExpiry_timer htrig, ?_⟩
    rw [h]
    exact ⟨rfl, ⟨rfl, rfl, rfl⟩, rfl⟩
  case waits => exact answers_onDev rfl (Dev.loopRun_waits hturn) rfl
  case behind => exact answers_onDev rfl (Dev.loopRun_waits (Dev.loopTurn_behind hm)) rfl
  case counts =>
    obtain ⟨y, badIn, badRun, st, first, u, integ, h⟩ := Dev.loopRun_counts hturn hatt
    exact answers_onDev rfl rfl ⟨(Loop.core_congr Loop.due h :), (Loop.core_congr Loop.runs h :), (Loop.core_congr Loop.lastRun h :), rfl, rfl, rfl⟩
  case usable =>
    obtain ⟨st, first, u, integ, h⟩ := Dev.loopRun_usable hturn hatt hpos hr
    exact answers_onDev rfl rfl ⟨(Loop.core_congr Loop.y h :), (Loop.core_congr Loop.badIn h :), (Loop.core_congr Loop.badRun h :)⟩
  case bounded => exact answers_onDev rfl rfl (Dev.loopRun_bounded hturn hatt hrun hpos hr hfrz hrate hlim)
  case transient =>
    have h := Dev.loopRun_transient hturn hatt hrun hpos hr
    exact answers_onDev rfl rfl ⟨(Loop.core_congr Loop.u h :), (Loop.core_congr Loop.badIn h :), (Loop.core_congr Loop.badRun h :),
      (Loop.core_congr Loop.state h :).trans hrun, (Loop.core_congr Loop.integ h :)⟩
  case lost => exact answers_onDev rfl rfl (Dev.loopRun_lost hturn hatt hrun hpos hr hlost hn hidle)
  case safe => exact answers_onDev rfl rfl (Dev.loopRun_safe hturn hatt hst hauto)
  case followWarns =>
    obtain ⟨arg, h⟩ := Dev.feExpiry_eq hlive ht hr
    have hact : s.dev.loops[n.val].feAct = false := hact
    have hheld : s.dev.held (loopFunc n) = false := Dev.held_of_loopLive hlive
    simp only [hact, Bool.false_eq_true, if_false] at h
    obtain ⟨⟨e, he, hsrc, hcls, -⟩, hraised, -⟩ := Dev.reportEv_idle (s.dev.onLoop n fun l => { l with feRaised := true }) (hLoop n) (loopFunc n)
      .warn LG_LOOP_FOLLOW arg EV_LOOP_FOLLOW (hLoop n) arg hheld hidle
    refine answers_onDev rfl h ?_
    dsimp only
    rw [Fin.getElem_fin, Dev.reportEv_loops, Dev.onLoop_get, hraised]
    exact ⟨rfl, rfl, ⟨e, he, hsrc, hcls⟩, _, List.mem_append_right _ (List.mem_singleton_self _), rfl, rfl⟩
  case followActs =>
    obtain ⟨arg, h⟩ := Dev.feExpiry_eq hlive ht hr
    have hact : s.dev.loops[n.val].feAct = true := hact
    simp only [hact, if_true] at h
    let v := (s.dev.onLoop n fun l => { l with feRaised := true }).reportEv (hLoop n) (loopFunc n) .fault LG_LOOP_FOLLOW arg EV_LOOP_FOLLOW (hLoop n) arg
    have hget : v.loops[n.val] = { s.dev.loops[n.val] with feRaised := true } := by
      simp only [v, Dev.reportEv_loops, Dev.onLoop_get]
    have hfree : v.isAttached n = false := (Dev.isAttached_congr (Dev.reportEv_rest ..) n).trans hatt
    obtain ⟨arg', hpolicy⟩ := Dev.loopPolicy_run 7 hfree (by rw [hget]; exact hrun)
    have hloop : (v.loopPolicy n 7).loops[n.val] =
        { s.dev.loops[n.val] with feRaised := true, faultBy := 7, state := s.dev.loops[n.val].policyState } := by
      rw [hpolicy]
      refine (Dev.onLoop_get ..).trans ?_
      rw [hget]
      rfl
    refine answers_onDev rfl h ?_
    dsimp only
    rw [Fin.getElem_fin, show (Dev.loopPolicy _ n 7).loops[n.val] = _ from hloop]
    exact ⟨rfl, rfl, rfl⟩
  case enable =>
    obtain ⟨t, l, ht, -, -, hl, hbegins, -⟩ := execLoopCtrl_enabled h hatt ha hst hc hin
    refine ⟨t, ht, ?_⟩
    dsimp only
    rw [Fin.getElem_fin, hl, Loop.moved_run (by rw [hbegins.state]; decide)]
    exact hbegins.uPrev

end Sys2Proof.Machine
end

section
/-! What the zones' shared operations do (06 R172, R185): a change of one zone, and the end of an override. -/

namespace Sys2Proof.Machine

/-! ## A change of one zone -/

@[simp] theorem Dev.onZone_get (s : Dev) (z : Fin 16) (f : Zone → Zone) : (s.onZone z f).zones[z.val] = f s.zones[z.val] := vmod_self ..

theorem Dev.onZone_onZone (s : Dev) (z : Fin 16) (f g : Zone → Zone) : (s.onZone z f).onZone z g = s.onZone z fun x => g (f x) := by
  simp [Dev.onZone]

/-- A descriptor that changes one zone is answered, and nothing else changes. -/
theorem State.desc_onZone {s : State} {i : OpInfo} {d : Desc} {o : Obj} {body : Obj → Dev → Dev × Res} {z : Fin 16} {f : Zone → Zone}
    {st : Status} {res : DWord} (h : s.admits i d o)
    (hb : body o (s.dev.taken i.op d) = ((s.dev.taken i.op d).onZone z f, .done st res)) :
    (s.desc i d body).answered d st res ∧ (s.desc i d body).dev.zones[z.val] = f s.dev.zones[z.val] ∧
      s.becomes (s.desc i d body) (Dev.withZone s.dev z (f s.dev.zones[z.val])) := by
  refine ⟨State.desc_answered h hb, ?_⟩
  rw [State.desc_done h hb]
  exact ⟨vmod_self .., rfl⟩

/-! ## The end of an override (06 R185) -/

/-- EV_ZONE_OVR_END, as the device raises it. -/
def Dev.ovrEndEvent (s : Dev) (z : Fin 16) (why : Nat) : Event :=
  { code := EV_ZONE_OVR_END, src := 15, handle := hZone z, arg := mkWord [(0, 2, why)], time := s.tick, lost := 0 }

theorem Dev.ovrEnd_eq (s : Dev) (z : Fin 16) (why : Nat) :
    s.ovrEnd z why =
      { s.onZone z fun x => { x with ovr := none, ovrAct := false } with raised := s.raised ++ [s.ovrEndEvent z why] } := rfl

end Sys2Proof.Machine
end

section
/-! The descriptors of class 0x4 (06 R185 to R193). -/

namespace Sys2Proof.Machine

/-! ## The zone that ZONE_CONFIG leaves (06 R186) -/

/-- The zone with the fields of a ZONE_CONFIG. -/
def Zone.fields (x : Zone) (d : Desc) : Zone :=
  { x with en := d.flag 8 0, schedEn := d.flag 8 1, presUp := d.flag 8 2, defMode := d.bits 9 0 3, noMode := d.bits 9 4 3,
           presDelay := d.bits 10 0 8, winDelay := d.bits 11 0 8, deadband := d.bits 12 0 16, shiftMax := d.bits 14 0 16,
           co2Lo := d.bits 16 0 16, co2Hi := d.bits 18 0 16, ventMin := d.bits 20 0 8, ventFail := d.bits 21 0 8,
           dewMargin := d.bits 22 0 16, dewBase := d.s16 24, dewFail := d.s16 26 }

/-- The zone after a ZONE_CONFIG: an enable starts it anew, and without EN it has no override. -/
def Zone.configured (x : Zone) (d : Desc) : Zone :=
  if d.flag 8 0 then (if x.en then x.fields d else (x.fields d).begin_)
  else if x.ovr.isSome then { x.fields d with ovr := none, ovrAct := false }
  else x.fields d

theorem Zone.configured_ovr (x : Zone) {d : Desc} (h : d.flag 8 0 = false) : (x.configured d).ovr = none := by
  cases hov : x.ovr <;> simp [Zone.configured, Zone.fields, h, hov]

/-- Beside the fields a ZONE_CONFIG changes what an enable starts from, and the override. -/
theorem Zone.configured_fields (x : Zone) (d : Desc) : ∃ fresh present absentFor openFor ins outs ovr ovrAct,
    x.configured d = { x.fields d with fresh, present, absentFor, openFor, ins, outs, ovr, ovrAct } := by
  unfold Zone.configured Zone.begin_
  split_ifs <;> exact ⟨_, _, _, _, _, _, _, _, rfl⟩

/-! ## The zone that ZONE_OUTPUT leaves (06 R189) -/

/-- The zone with the output that a ZONE_OUTPUT binds, and for the ventilation output its scale. -/
def Zone.bound (x : Zone) (d : Desc) : Zone :=
  let y := { x with outs := x.outs.set (ix 3 (d.bits 8 0 2)).val { handle := d.word 12 } }
  if d.bits 8 0 2 = 3 then { y with outGain := d.s32 16, outOfs := d.s32 20 } else y

section
variable (x : Zone) {d : Desc} {k : Fin 4}

theorem Zone.bound_outs (d : Desc) : (x.bound d).outs = x.outs.set (ix 3 (d.bits 8 0 2)).val { handle := d.word 12 } := by
  unfold Zone.bound
  split_ifs <;> rfl

/-- SEL has two bits, and names one of the four outputs. -/
theorem ix_sel (d : Desc) : (ix 3 (d.bits 8 0 2)).val = d.bits 8 0 2 := Nat.mod_eq_of_lt (Nat.mod_lt _ (by decide))

theorem Zone.bound_handle (h : k.val = d.bits 8 0 2) : ((x.bound d).outs[k.val]).handle = d.word 12 := by
  simp [Zone.bound_outs, h, ix_sel]

theorem Zone.bound_other (h : k.val ≠ d.bits 8 0 2) : (x.bound d).outs[k.val] = x.outs[k.val] := by
  simp [Zone.bound_outs, h.symm, ix_sel]

theorem Zone.bound_scale (h : d.bits 8 0 2 = 3) : (x.bound d).outGain = d.s32 16 ∧ (x.bound d).outOfs = d.s32 20 := by
  simp [Zone.bound, h]

end

/-! ## The descriptors by their outcomes -/

/-! ### ZONE_CONFIG (06 R186) -/

section
variable {s : Dev} {d : Desc} {z : Fin 16}

theorem doZoneConfig_range (h : zoneConfigBad d) : doZoneConfig d z s = refuse s .range := if_pos h

/-- A zone is not enabled while an output names a loop that takes its set-point elsewhere. -/
theorem doZoneConfig_conflict {k : Fin 4} (h : zoneConfigBad d = false) (he : d.flag 8 0) (hk : s.notZone (s.zones[z.val].outs[k.val]).handle) :
    doZoneConfig d z s = refuse s .conflict := by
  have hany : (s.zones[z.val].outs.toList.any fun o => s.notZone o.handle) = true :=
    List.any_eq_true.2 ⟨_, Vector.mem_toList_iff.2 (Vector.getElem_mem k.isLt), hk⟩
  simp [doZoneConfig, h, he, hany, -Vector.any_toList]

theorem doZoneConfig_stores (h : zoneConfigBad d = false) (ho : d.flag 8 0 → ∀ k : Fin 4, s.notZone (s.zones[z.val].outs[k.val]).handle = false) :
    doZoneConfig d z s =
      ({ s.onZone z fun x => x.configured d with
          raised := if !d.flag 8 0 && s.zones[z.val].ovr.isSome then s.raised ++ [s.ovrEndEvent z 2] else s.raised }, .ok) := by
  have hsrc : ¬ (d.flag 8 0 && s.zones[z.val].outs.toList.any fun o => s.notZone o.handle) = true := by
    simp only [Bool.and_eq_true, List.any_eq_true, Vector.mem_toList_iff, not_and, not_exists]
    intro he o hmem
    obtain ⟨k, hk, rfl⟩ := Vector.getElem_of_mem hmem
    simp [ho he ⟨k, hk⟩]
  rw [doZoneConfig, if_neg (by simp [h]), if_neg hsrc]
  cases hen : d.flag 8 0
  case true =>
    cases hx : s.zones[z.val].en <;> simp [Zone.configured, Zone.fields, Dev.onZone, vmod, hen, hx]
  case false =>
    cases hov : s.zones[z.val].ovr <;> simp [Zone.configured, Zone.fields, Dev.onZone, vmod, Dev.ovrEnd_eq, Dev.ovrEndEvent, Dev.tick, hen, hov]

/-! ### ZONE_SETPOINTS, ZONE_INPUT and ZONE_OUTPUT (06 R187 to R189) -/

theorem doZoneSetpoints_range {k : Fin 4} (h : pairC d k.val < pairH d k.val) : doZoneSetpoints d z s = refuse s .range :=
  if_pos (List.any_eq_true.2 ⟨k.val, List.mem_range.2 k.isLt, by simp [h]⟩)

theorem doZoneSetpoints_stores
    (h : ∀ k : Fin 4, tempBad (pairH d k.val) = false ∧ tempBad (pairC d k.val) = false ∧ pairH d k.val ≤ pairC d k.val) :
    doZoneSetpoints d z s = (s.onZone z fun x =>
      { x with spH := #v[d.s16 8, d.s16 12, d.s16 16, d.s16 20], spC := #v[d.s16 10, d.s16 14, d.s16 18, d.s16 22] }, .ok) := by
  rw [doZoneSetpoints, if_neg]
  · rfl
  · simp only [List.any_eq_true, List.mem_range, not_exists, not_and]
    intro k hk
    obtain ⟨hheat, hcool, hle⟩ := h ⟨k, hk⟩
    simp [hheat, hcool, hle]

theorem doZoneInput_badHandle (hk : d.bits 8 0 3 ≤ 5) (h : zoneInOk (d.word 12) = false) : doZoneInput d z s = refuse s .badHandle := by
  rw [doZoneInput, if_neg (by omega), if_pos (by simp [h])]

theorem doZoneInput_stores (hk : d.bits 8 0 3 ≤ 5) (h : zoneInOk (d.word 12)) :
    doZoneInput d z s = (s.onZone z fun x =>
      { x with ins := x.ins.set (ix 5 (d.bits 8 0 3)).val { handle := d.word 12, gain := d.s32 16, ofs := d.s32 20 } }, .ok) := by
  rw [doZoneInput, if_neg (by omega), if_neg (by simp [h])]

theorem doZoneOutput_conflict (h : zoneOutOk (d.bits 8 0 2) (d.word 12)) (hb : s.zoneBound (d.word 12)) :
    doZoneOutput d z s = refuse s .conflict := by
  rw [doZoneOutput, if_neg (by simp [h]), if_pos (by simp [hb])]

theorem doZoneOutput_stores (h : zoneOutOk (d.bits 8 0 2) (d.word 12)) (hb : s.zoneBound (d.word 12) = false)
    (hsrc : s.zones[z.val].en → s.notZone (d.word 12) = false) :
    doZoneOutput d z s = (s.onZone z fun x => x.bound d, .ok) := by
  rw [doZoneOutput, if_neg (by simp [h]), if_neg (by simpa [hb] using hsrc)]
  rfl

/-! ### ZONE_OVERRIDE (06 R185, R190) -/

theorem doZoneOverride_disabled (h : s.zones[z.val].en = false) : doZoneOverride d z s = refuse s .disabled := if_pos (by simp [h])

theorem doZoneOverride_range (h : s.zones[z.val].en) (hbad : d.bits 8 0 3 = 5 ∨ d.bits 8 0 3 = 6 ∨ d.bits 9 0 2 = 3) :
    doZoneOverride d z s = refuse s .range := by
  rw [doZoneOverride, if_neg (by simp [h])]
  cases hclear : d.flag 8 3
  · rw [if_neg (by simp), if_pos (by tauto)]
  · rw [if_pos rfl, if_pos (by omega)]

/-- CLEAR ends an override that stands. -/
theorem doZoneOverride_clears (h : s.zones[z.val].en) (hc : d.flag 8 3) (hm : d.bits 8 0 3 = 0) (he : d.bits 9 0 2 = 0)
    (hd : d.bits 10 0 16 = 0) (hs : d.bits 12 0 16 = 0) :
    doZoneOverride d z s = (if s.zones[z.val].ovr.isSome then s.ovrEnd z 2 else s, .ok) := by
  rw [doZoneOverride, if_neg (by simp [h]), if_pos hc, if_neg (by omega)]

theorem doZoneOverride_stores (h : s.zones[z.val].en) (hc : d.flag 8 3 = false) (hm5 : d.bits 8 0 3 ≠ 5) (hm6 : d.bits 8 0 3 ≠ 6)
    (he : d.bits 9 0 2 ≠ 3) (hd : d.bits 9 0 2 = 0 ↔ d.bits 10 0 16 ≠ 0) (hs : ((d.s16 12).natAbs : Int) ≤ s.zones[z.val].shiftMax) :
    doZoneOverride d z s = (s.onZone z fun x =>
      { x with ovr := some { mode := d.bits 8 0 3, expiry := d.bits 9 0 2, shift := d.s16 12,
                             deadline := s.hollow.cnt.toNat + d.bits 10 0 16 * 1966080, point := none } }, .ok) := by
  rw [doZoneOverride, if_neg (by simp [h]), if_neg (by simp [hc]), if_neg (by omega)]

/-! ### ZONE_STATUS_GET, SCHED_WRITE and SCHED_EXCEPT (06 R191 to R193) -/

/-- The targets of OFF lie outside what the fields hold, which show their ends. -/
theorem Zone.shown_q88 (x : Zone) :
    q88 x.shown.1 = (if x.mode = 0 then 0x8000 else q88 x.wroteH) ∧ q88 x.shown.2 = (if x.mode = 0 then 0x7FFF else q88 x.wroteC) := by
  unfold Zone.shown
  split_ifs
  · decide
  · exact ⟨rfl, rfl⟩

theorem doSchedWrite_range (h : pointsClash d) : doSchedWrite d z s = refuse s .range := if_pos (.inr (.inr h))

theorem doSchedWrite_stores (hday : d.bits 8 0 3 ≠ 7) (hp : ∀ p : Fin 8, pointOk (schedPoint d p.val)) (hc : pointsClash d = false) :
    doSchedWrite d z s = (s.onZone z fun x =>
      { x with sched8 := Vector.ofFn fun i : Fin 56 =>
          if i.val / 8 = d.bits 8 0 3 then schedPoint d (i.val % 8) else x.sched8[i.val] }, .ok) := by
  have hall : ((List.range 8).all fun p => pointOk (schedPoint d p)) = true :=
    List.all_eq_true.2 fun p hmem => hp ⟨p, List.mem_range.1 hmem⟩
  rw [doSchedWrite, if_neg (by simp [hday, hall, hc, -List.all_eq_true])]

theorem doSchedExcept_stores {e : Fin 32} (hday : d.bits 8 0 5 ≠ 0) (hm : d.bits 9 0 4 ≠ 0) (hm' : d.bits 9 0 4 ≤ 12)
    (hy : d.bits 10 0 8 ≤ 99 ∨ d.bits 10 0 8 = 255) (ht : d.bits 11 0 3 ≠ 7) :
    doSchedExcept d e s =
      ({ s with dates := s.dates.set e.val { en := d.flag 11 7, day := d.bits 8 0 5, month := d.bits 9 0 4, year := d.bits 10 0 8,
                                             dayType := d.bits 11 0 3, zones := BitVec.ofNat 16 (d.bits 12 0 16) } }, .ok) := by
  rw [doSchedExcept, if_neg (by omega)]

end

/-! ## The obligation -/

/-- Settles O41, opcode by opcode: each descriptor stores its fields in one zone, or is refused and leaves the device. -/
theorem zoneDescriptors : Obligations.ZoneDescriptors := by
  unfold Obligations.ZoneDescriptors
  intro s d z
  refine ⟨fun h hbad hsrc => ?config,
    fun h hbad => ⟨_, rfl, State.desc_onlyAnswers (body := onZoneObj (doZoneConfig d)) h (doZoneConfig_range hbad)⟩,
    fun k h hbad hen hk => ⟨_, rfl, State.desc_onlyAnswers (body := onZoneObj (doZoneConfig d)) h
      (doZoneConfig_conflict (s := s.dev.taken 0x40 d) hbad hen hk)⟩,
    fun h hp => ?setpoints,
    fun k h hp => ⟨_, rfl, State.desc_onlyAnswers (body := onZoneObj (doZoneSetpoints d)) h (doZoneSetpoints_range hp)⟩,
    fun h hk hin => ?input,
    fun h hk hin => ⟨_, rfl, State.desc_onlyAnswers (body := onZoneObj (doZoneInput d)) h (doZoneInput_badHandle hk hin)⟩,
    fun h hout _ hb hsrc => ?output,
    fun h hout _ hb => ⟨_, rfl, State.desc_onlyAnswers (body := onZoneObj (doZoneOutput d)) h
      (doZoneOutput_conflict (s := s.dev.taken 0x43 d) hout hb)⟩,
    fun h hen hc hm5 hm6 he hd hs => ?override, fun h hen hc hm he hd hs => ?clear,
    fun h hen => ⟨_, rfl, State.desc_onlyAnswers (body := onZoneObj (doZoneOverride d)) h
      (doZoneOverride_disabled (s := s.dev.taken 0x44 d) hen)⟩,
    fun h hen hbad => ⟨_, rfl, State.desc_onlyAnswers (body := onZoneObj (doZoneOverride d)) h
      (doZoneOverride_range (s := s.dev.taken 0x44 d) hen hbad)⟩,
    fun h => ?status, fun h hday hp hc => ?schedule,
    fun h hc => ⟨_, rfl, State.desc_onlyAnswers (body := onZoneObj (doSchedWrite d)) h (doSchedWrite_range hc)⟩,
    fun e h hday hm hm' hy ht => ?date⟩
  case config =>
    obtain ⟨hans, hdev⟩ := State.desc_ok (body := onZoneObj (doZoneConfig d)) h (doZoneConfig_stores (s := s.dev.taken 0x40 d) hbad hsrc)
    have hzone : (s.desc opZoneConfig d (onZoneObj (doZoneConfig d))).dev.zones[z.val] = s.dev.zones[z.val].configured d := by
      rw [hdev]
      exact vmod_self ..
    refine ⟨_, rfl, ?_⟩
    simp only [Fin.getElem_fin, hzone]
    obtain ⟨_, _, _, _, _, _, _, _, hy⟩ := s.dev.zones[z.val].configured_fields d
    refine ⟨hans, ?_, ?_, ?_, ?_, ?_, ?_, ?_, ?_, ?_, ?_, ?_, ?_, ?_, ?_, ?_, ?_, ?_, ?_, ?_,
      fun hen => ⟨Zone.configured_ovr _ hen, fun hov => ?ended⟩, ?frame⟩
    case ended =>
      refine ⟨(s.dev.taken 0x40 d).ovrEndEvent z 2, ?_, rfl, rfl, rfl⟩
      rw [hdev]
      simp [hen, Option.isSome_iff_ne_none, hov, Dev.taken]
    case frame => rw [hdev]; rfl
    all_goals rw [hy]; rfl
  case setpoints =>
    obtain ⟨hans, -, hdev⟩ := State.desc_onZone (body := onZoneObj (doZoneSetpoints d)) h (doZoneSetpoints_stores hp)
    exact ⟨_, rfl, hans, hdev⟩
  case input =>
    obtain ⟨hans, -, hdev⟩ := State.desc_onZone (body := onZoneObj (doZoneInput d)) h (doZoneInput_stores hk hin)
    exact ⟨_, rfl, hans, hdev⟩
  case output =>
    obtain ⟨hans, hzone, hdev⟩ := State.desc_onZone (body := onZoneObj (doZoneOutput d)) h
      (doZoneOutput_stores (s := s.dev.taken 0x43 d) hout hb hsrc)
    refine ⟨_, rfl, hans, ?_⟩
    simp only [Fin.getElem_fin, hzone]
    exact ⟨fun k hk => Zone.bound_handle _ hk, fun k hk => Zone.bound_other _ hk, Zone.bound_scale _, hdev⟩
  case override =>
    obtain ⟨hans, -, hdev⟩ := State.desc_onZone (body := onZoneObj (doZoneOverride d)) h
      (doZoneOverride_stores (s := s.dev.taken 0x44 d) hen hc hm5 hm6 he hd hs)
    exact ⟨_, rfl, hans, hdev⟩
  case clear =>
    obtain ⟨hans, hdev⟩ := State.desc_ok (body := onZoneObj (doZoneOverride d)) h
      (doZoneOverride_clears (s := s.dev.taken 0x44 d) hen hc hm he hd hs)
    refine ⟨_, rfl, hans, ?_⟩
    rw [hdev]
    cases hov : s.dev.zones[z.val].ovr with
    | none =>
      rw [if_neg (by simp [Dev.taken, hov])]
      exact ⟨hov, fun hne => absurd rfl hne, fun _ => rfl⟩
    | some o =>
      rw [if_pos (by simp [Dev.taken, hov])]
      exact ⟨congrArg Zone.ovr (vmod_self ..), fun _ => ⟨_, List.getLast?_concat, rfl, rfl, rfl⟩, nofun⟩
  case status =>
    refine ⟨_, rfl, State.desc_onlyAnswers (body := onZoneObj doZoneStatusGet) h ?_⟩
    obtain ⟨hheat, hcool⟩ := s.dev.zones[z.val].shown_q88
    simp only [onZoneObj, doZoneStatusGet, Fin.getElem_fin, ← hheat, ← hcool]
    rfl
  case schedule =>
    obtain ⟨hans, hzone, hdev⟩ := State.desc_onZone (body := onZoneObj (doSchedWrite d)) h (doSchedWrite_stores hday hp hc)
    refine ⟨_, rfl, hans, ?_, fun i => ?_⟩
    · simp only [Fin.getElem_fin, hzone]
      exact hdev
    · simp only [Fin.getElem_fin, hzone]
      simp [schedPoint, Vector.getElem_ofFn]
  case date =>
    obtain ⟨hans, hdev⟩ := State.desc_ok (body := onDateObj (doSchedExcept d)) h (doSchedExcept_stores hday hm hm' hy ht)
    exact ⟨_, rfl, hans, by rw [hdev]; rfl⟩

end Sys2Proof.Machine
end

section
/-! The mode of a zone and what it asks of the outputs (06 R176 to R180, R183, R184). -/

namespace Sys2Proof.Machine

section
variable (x : Zone) (b : Nat × Nat)

/-! ## Modes (06 R177) -/

/-- An open window protects a zone that is not off. -/
theorem Zone.resolve_window (h : x.winOpen) : (x.resolve b).1 = 0 ∨ x.resolve b = (4, 5) := by
  unfold Zone.resolve
  extract_lets bound a c
  by_cases hoff : c.1 = 0
  · exact .inl (by rw [if_neg (by simp [hoff])]; exact hoff)
  · exact .inr (if_pos (by simp [hoff, h]))

theorem Zone.resolve_override {o : Override} (hw : x.winOpen = false) (ho : x.ovr = some o) (hm : o.mode ≠ 7) :
    x.resolve b = (o.mode, 4) := by simp [Zone.resolve, hw, ho, hm]

/-- Comfort gives way to standby while nobody is present. -/
theorem Zone.resolve_absent (hw : x.winOpen = false) (ho : x.ovr = none) (hbound : (x.ins[3]).handle ≠ 0) (hb : b.1 = 1)
    (hp : x.present = false) : x.resolve b = (2, 3) := by
  have hne : x.ins[3].handle ≠ 0#32 := hbound
  simp [Zone.resolve, hw, ho, hne, hb, hp]

/-- Without a presence input, an override and an open window the mode stays as it comes. -/
theorem Zone.resolve_plain (hw : x.winOpen = false) (ho : x.ovr = none) (hbound : (x.ins[3]).handle = 0) : x.resolve b = b := by
  simp [Zone.resolve, hw, ho, hbound]

/-! ## Targets (06 R178 to R180) -/

/-- The deadband holds heating and cooling apart. -/
theorem Zone.setpoints_apart {m : Nat} (h : m ≠ 0) : (x.setpoints m).1 + x.deadband ≤ (x.setpoints m).2 := by
  unfold Zone.setpoints
  rw [if_neg h]
  extract_lets k loc sh heat cool
  change heat + x.deadband ≤ if cool < heat + x.deadband then heat + x.deadband else cool
  split_ifs with hlt
  · exact le_rfl
  · exact not_lt.1 hlt

theorem pct_mem {p : Nat} (h : p ≤ 100) : 0 ≤ pct p ∧ pct p ≤ 65536 := by
  unfold pct roundDiv
  rw [if_pos (by omega)]
  omega

theorem Zone.demand_mem (m : Nat) (hf : x.ventFail ≤ 100) (hv : x.ventMin ≤ 100) : 0 ≤ x.demand m ∧ x.demand m ≤ 65536 := by
  have hfail := pct_mem hf
  have hmin := pct_mem hv
  unfold Zone.demand
  extract_lets lo d
  have hd : 0 ≤ d ∧ d ≤ 65536 := by
    unfold d
    split_ifs
    · exact hfail
    · exact clampI_mem (by decide) _
  split_ifs <;> omega

theorem Zone.demand_off {m : Nat} (h : m = 0 ∨ m = 4) : x.demand m = 0 := if_pos h

/-- Without a temperature or a humidity the dew point's target is DEW_FAIL. -/
theorem Zone.dewTarget_fails (n : Nat) (h : x.ins[0].have_ = none ∨ x.ins[1].have_ = none) : x.dewTarget n = (x.dewFail * 256, false) := by
  unfold Zone.dewTarget
  split
  · next t rh ht hrh => simp [ht, hrh] at h
  · rfl

end

end Sys2Proof.Machine
end

section
/-! A cycle of the zones (06 R171 to R185, R195): its stages, what one zone's cycle leaves of the other zones and of the events raised before,
and what it does to a zone that nothing but its default mode governs. -/

namespace Sys2Proof.Machine

/-! ## A zone's cycle in its stages -/

/-- The device once a zone has read its inputs, sensed presence and window, and looked for the time (06 R173 to R175, R184). -/
def Dev.zoneSensed (s : Dev) (z : Fin 16) : Dev := (((List.finRange 6).foldl (fun s k => s.zoneRead z k) s).onZone z Zone.sense).zoneTime z

/-- The current point, where the time is available (06 R183, R184). -/
def Dev.zonePoint (s : Dev) (z : Fin 16) : Option (Nat × Nat) := if s.timeOk then s.currentPoint z else none

/-- The device before a zone's mode is resolved: its override has ended or stands (06 R185). -/
def Dev.zoneEvaluated (s : Dev) (z : Fin 16) : Dev := (s.zoneSensed z).zoneOvr z ((s.zoneSensed z).zonePoint z)

/-- The mode before presence, override and window, and its reason (06 R177). -/
def Dev.zoneBase (s : Dev) (z : Fin 16) : Nat × Nat :=
  ((s.zoneEvaluated z).zones[z.val]).baseMode (s.zoneEvaluated z).timeOk ((s.zoneSensed z).zonePoint z)

/-- The mode is resolved, with its event and the dew point's record (06 R177, R180, R197). -/
def Dev.zoneDecide (s : Dev) (z : Fin 16) (base : Nat × Nat) : Dev :=
  let x := s.zones[z.val]
  let r := x.resolve base
  let dew := x.dewTarget s.fresh
  let v := { s with fresh := s.fresh + 1 }
  let v := v.onZone z fun x =>
    { x with mode := r.1, reason := r.2, sched := base.1, seq := v.zoneSeq x, dew := dew.2, ovrOn := x.ovr.isSome,
             ovrAct := x.ovr.isSome, wasPresent := x.present, wasLost := x.lostBits }
  let v := if x.mode ≠ r.1 then v.raise EV_ZONE_MODE 15 (hZone z) (mkWord [(0, 3, r.1), (4, 3, x.mode), (8, 3, r.2)]) else v
  if x.dew ≠ dew.2 then v.note .info 15 LG_ZONE_DEW (mkWord [(0, 4, z.val), (8, 1, dew.2.toNat)]) else v

/-- The four outputs are written (06 R172, R178 to R180). -/
def Dev.zoneDrive (s : Dev) (z : Fin 16) (heat cool dew vent : Int) (jump : Bool) : Dev :=
  (((s.zoneWrite z 0 heat jump).zoneWrite z 1 cool jump).zoneWrite z 2 dew jump).zoneWrite z 3 vent jump

theorem Dev.zoneCycle_off {s : Dev} {z : Fin 16} (h : s.zones[z.val].en = false) : s.zoneCycle z = s := if_pos (by simp [h])

/-- A cycle whose stages leave the zone `x` and resolve the mode `m`. -/
theorem Dev.zoneCycle_eq {s : Dev} {z : Fin 16} {x : Zone} {m reason : Nat} (h : s.zones[z.val].en) (hx : (s.zoneEvaluated z).zones[z.val] = x)
    (hm : x.resolve (s.zoneBase z) = (m, reason)) :
    s.zoneCycle z =
      (((s.zoneEvaluated z).zoneDecide z (s.zoneBase z)).zoneDrive z ((x.setpoints m).1 * 256) ((x.setpoints m).2 * 256)
        (x.dewTarget (s.zoneEvaluated z).fresh).1 (x.vent (x.demand m)) (decide ((x.mode = 0) ≠ (m = 0)))).onZone z
      fun y => y.wrote (x.setpoints m) := by
  obtain rfl : (x.resolve (s.zoneBase z)).1 = m := congrArg Prod.fst hm
  subst hx
  rw [Dev.zoneCycle, if_neg (by simp [h])]
  rfl

/-! ## What the stages leave -/

/-- What a cycle of zone `z` leaves: the other zones, the zone's enable, and the events raised before. -/
structure Dev.CycleOf (z : Fin 16) (s t : Dev) : Prop where
  others : ∀ y : Fin 16, y ≠ z → t.zones[y.val] = s.zones[y.val]
  en : t.zones[z.val].en = s.zones[z.val].en
  raised : s.raised ⊆ t.raised

namespace Dev.CycleOf

variable {z : Fin 16} {s t v : Dev}

theorem after (h : CycleOf z t v) (h' : CycleOf z s t) : CycleOf z s v :=
  ⟨fun y hy => (h.others y hy).trans (h'.others y hy), h.en.trans h'.en, List.Subset.trans h'.raised h.raised⟩

/-- What leaves the zones and adds events at most. -/
theorem of_zones (hz : t.zones = s.zones) (hr : s.raised ⊆ t.raised) : CycleOf z s t := ⟨by simp [hz], by rw [hz], hr⟩

theorem refl (z : Fin 16) (s : Dev) : CycleOf z s s := of_zones rfl (List.Subset.refl _)

theorem onZone {f : Zone → Zone} (h : ∀ x, (f x).en = x.en) : CycleOf z s (s.onZone z f) :=
  ⟨fun _ hy => vmod_other _ _ _ _ hy, by rw [Dev.onZone_get, h], List.Subset.refl _⟩

theorem report (src : Word) (f : Nat) (sev : Sev) (code : BitVec 11) (arg : Word) : CycleOf z s (s.report src f sev code arg).1 :=
  of_zones (by simp) (by simp)

theorem raise (code : BitVec 16) (src : Nat) (handle arg : Word) : CycleOf z s (s.raise code src handle arg) :=
  of_zones rfl (List.subset_append_left ..)

theorem note (sev : Sev) (f : Nat) (code : BitVec 11) (arg : Word) : CycleOf z s (s.note sev f code arg) := of_zones (by simp) (by simp)

theorem foldl {α : Type} {f : Dev → α → Dev} (h : ∀ s a, CycleOf z s (f s a)) (l : List α) (s : Dev) : CycleOf z s (l.foldl f s) := by
  induction l generalizing s with
  | nil => exact refl z s
  | cons a l ih => exact .after (ih _) (h s a)

end Dev.CycleOf

section
variable (s : Dev) (z : Fin 16)

theorem Dev.zoneLose_keeps (k : Fin 6) : CycleOf z s (s.zoneLose z k) := by
  unfold Dev.zoneLose
  split_ifs
  · exact .refl ..
  · exact .after (.report ..) (.onZone fun _ => rfl)

theorem Dev.zoneRead_keeps (k : Fin 6) : CycleOf z s (s.zoneRead z k) := by
  have hset (f : ZoneIn → ZoneIn) : CycleOf z s (s.onZone z fun x => { x with ins := vmod x.ins k f }) := .onZone fun _ => rfl
  have hbad (p : Prop) [Decidable p] {v : Dev} (h : CycleOf z s v) : CycleOf z s (if p then v.zoneLose z k else v) := by
    split
    · exact .after (v.zoneLose_keeps z k) h
    · exact h
  unfold Dev.zoneRead
  dsimp only
  split
  · exact .refl ..
  · split
    · exact s.zoneLose_keeps z k
    · split
      · exact hbad _ (hset _)
      · exact hset _
    · split
      · exact hbad _ (hset _)
      · exact hset _
    · exact hbad _ (hset _)

/-- The look for the time changes its zone, and the log at most. -/
theorem Dev.zoneTime_shape :
    ∃ g, s.zoneTime z = { s.onZone z fun x => { x with noTime := !s.timeOk, noTimeLogged := !s.timeOk } with log := g } := by
  unfold Dev.zoneTime
  dsimp only
  split_ifs
  · exact Dev.report_shape ..
  · exact ⟨_, rfl⟩

theorem Dev.zoneTime_keeps : CycleOf z s (s.zoneTime z) := by
  unfold Dev.zoneTime
  dsimp only
  split_ifs
  · exact .after (.report ..) (.onZone fun _ => rfl)
  · exact .onZone fun _ => rfl

theorem Dev.zoneSensed_keeps : CycleOf z s (s.zoneSensed z) :=
  .after (Dev.zoneTime_keeps ..) (.after (.onZone fun _ => rfl) (.foldl (fun s k => s.zoneRead_keeps z k) _ _))

theorem Dev.zoneOvr_keeps (p : Option (Nat × Nat)) : CycleOf z s (s.zoneOvr z p) := by
  unfold Dev.zoneOvr Dev.ovrEnd
  split
  · exact .after (.raise ..) (.onZone fun _ => rfl)
  · exact .onZone fun _ => rfl

theorem Dev.zoneEvaluated_keeps : CycleOf z s (s.zoneEvaluated z) := .after (Dev.zoneOvr_keeps ..) (Dev.zoneSensed_keeps ..)

theorem Dev.zoneDecide_keeps (base : Nat × Nat) : CycleOf z s (s.zoneDecide z base) := by
  unfold Dev.zoneDecide
  extract_lets x r dew u v w
  have hv : CycleOf z s v := .after (t := u) (.onZone fun _ => rfl) (.of_zones rfl (List.Subset.refl _))
  have hw : CycleOf z s w := by
    unfold w
    split_ifs
    · exact .after (.raise ..) hv
    · exact hv
  split_ifs
  · exact .after (.note ..) hw
  · exact hw

/-- A value sent to an output goes to a loop, a fan or a damper. -/
theorem Dev.zoneSend_shape (h : Word) (x : Int) (jump : Bool) :
    ∃ ls fs ds, s.zoneSend h x jump = { s with loops := ls, fans := fs, dampers := ds } := by
  unfold Dev.zoneSend
  split
  · exact ⟨_, _, _, rfl⟩
  · exact ⟨_, _, _, rfl⟩
  · unfold Dev.fanStore Dev.fanForm
    dsimp only
    split_ifs <;> exact ⟨_, _, _, rfl⟩
  · unfold Dev.dmStore
    dsimp only
    split_ifs <;> exact ⟨_, _, _, rfl⟩
  · exact ⟨_, _, _, rfl⟩

/-- Of its zone a write changes an output, and leaves what the output is bound to. -/
theorem Dev.zoneWrite_zone (k : Fin 4) (v : Int) (jump : Bool) :
    ∃ f : ZoneOut → ZoneOut, (s.zoneWrite z k v jump).zones[z.val] = { s.zones[z.val] with outs := vmod s.zones[z.val].outs k f } ∧
      ∀ o, (f o).handle = o.handle := by
  obtain ⟨ls, fs, ds, hsend⟩ := s.zoneSend_shape s.zones[z.val].outs[k.val].handle v jump
  unfold Dev.zoneWrite
  dsimp only
  split_ifs
  · exact ⟨id, by rw [vmod_eq_self _ _ rfl], fun _ => rfl⟩
  · rw [hsend, Dev.onZone_get]
    exact ⟨_, rfl, fun _ => rfl⟩
  · rw [Dev.onZone_get]
    exact ⟨_, rfl, fun _ => rfl⟩
  · simp only [Dev.report_zones, Dev.onZone_get]
    exact ⟨_, rfl, fun _ => rfl⟩

theorem Dev.zoneWrite_keeps (k : Fin 4) (v : Int) (jump : Bool) : CycleOf z s (s.zoneWrite z k v jump) := by
  obtain ⟨ls, fs, ds, hsend⟩ := s.zoneSend_shape s.zones[z.val].outs[k.val].handle v jump
  unfold Dev.zoneWrite
  dsimp only
  split_ifs
  · exact .refl ..
  · rw [hsend]
    exact .after (.onZone fun _ => rfl) (.of_zones rfl (List.Subset.refl _))
  · exact .onZone fun _ => rfl
  · exact .after (.report ..) (.onZone fun _ => rfl)

theorem Dev.zoneDrive_keeps (heat cool dew vent : Int) (jump : Bool) : CycleOf z s (s.zoneDrive z heat cool dew vent jump) :=
  .after (Dev.zoneWrite_keeps ..) (.after (Dev.zoneWrite_keeps ..) (.after (Dev.zoneWrite_keeps ..) (Dev.zoneWrite_keeps ..)))

theorem Dev.zoneCycle_keeps : CycleOf z s (s.zoneCycle z) := by
  cases hen : s.zones[z.val].en
  case false =>
    rw [Dev.zoneCycle_off hen]
    exact .refl ..
  case true =>
    rw [Dev.zoneCycle_eq hen rfl (Prod.eta _).symm]
    exact .after (.onZone fun _ => rfl) (.after (Dev.zoneDrive_keeps ..) (.after (Dev.zoneDecide_keeps ..) (Dev.zoneEvaluated_keeps ..)))

end

/-! ## A zone that its default mode governs -/

/-- A zone with no schedule, no override and no input. -/
structure Zone.Plain (x : Zone) : Prop where
  sched : x.schedEn = false
  ovr : x.ovr = none
  ins : ∀ k : Fin 6, (x.ins[k.val]).handle = 0

theorem ZoneIn.have_unbound {i : ZoneIn} (h : i.handle = 0) : i.have_ = none := if_pos (.inl h)

theorem ZoneIn.isTrue_unbound {i : ZoneIn} (h : i.handle = 0) (dflt : Bool) : i.isTrue dflt = dflt := by
  rw [ZoneIn.isTrue, ZoneIn.have_unbound h]

/-- The zone once it has found no window open. -/
def Zone.shut (x : Zone) (absentFor : Nat) (present noTime : Bool) : Zone :=
  { x with absentFor, present, openFor := 0, winOpen := false, noTime, noTimeLogged := noTime }

section
variable (x : Zone) (absentFor : Nat) (present noTime : Bool)

theorem Zone.shut_setpoints (m : Nat) : (x.shut absentFor present noTime).setpoints m = x.setpoints m := rfl

theorem Zone.shut_mode : (x.shut absentFor present noTime).mode = x.mode := rfl

end

/-- Without inputs no window is open (06 R173, R175). -/
theorem Zone.Plain.sense {x : Zone} (h : x.Plain) (noTime : Bool) :
    ∃ absentFor present, { x.sense with noTime, noTimeLogged := noTime } = x.shut absentFor present noTime := by
  have hwin : (x.ins[4]).isTrue false = false := ZoneIn.isTrue_unbound (h.ins 4) false
  unfold Zone.sense
  rw [hwin]
  exact ⟨_, _, rfl⟩

/-- A shut zone's mode is its default mode, for that reason (06 R177). -/
theorem Zone.Plain.resolve_shut {x : Zone} (h : x.Plain) (absentFor : Nat) (present noTime timeOk : Bool) (p : Option (Nat × Nat)) :
    (x.shut absentFor present noTime).resolve ((x.shut absentFor present noTime).baseMode timeOk p) = (x.defMode, 1) := by
  rw [Zone.resolve_plain (x.shut absentFor present noTime) _ rfl h.ovr (h.ins 3)]
  exact if_neg (by simp [Zone.shut, h.sched])

section
variable {s : Dev} {z : Fin 16}

theorem Dev.onZone_congr {f g : Zone → Zone} (h : f s.zones[z.val] = g s.zones[z.val]) : s.onZone z f = s.onZone z g := by
  rw [Dev.onZone, Dev.onZone, vmod, vmod, h]

theorem Dev.onZone_self {f : Zone → Zone} (h : f s.zones[z.val] = s.zones[z.val]) : s.onZone z f = s := by
  rw [Dev.onZone, vmod_eq_self _ _ h]

/-- Where no override stands nothing ends. -/
theorem Dev.zoneOvr_none (p : Option (Nat × Nat)) (h : s.zones[z.val].ovr = none) : s.zoneOvr z p = s := by
  have hends : (s.zones[z.val]).ovrEnds s.hollow.cnt.toNat s.timeOk p = none := by rw [Zone.ovrEnds, h]
  rw [Dev.zoneOvr, hends]
  refine Dev.onZone_self ?_
  rw [h, Option.map_none, ← h]

/-- Such a zone's inputs are not read, and its override does not end. -/
theorem Dev.zoneEvaluated_plain (h : s.zones[z.val].Plain) :
    ∃ absentFor present g, s.zoneEvaluated z = { s.onZone z fun x => x.shut absentFor present !s.timeOk with log := g } := by
  have hreads : (List.finRange 6).foldl (fun s k => s.zoneRead z k) s = s := List.foldl_fixed' (fun k => if_pos (h.ins k)) _
  obtain ⟨absentFor, present, hsense⟩ := h.sense !s.timeOk
  obtain ⟨g, htime⟩ := (s.onZone z Zone.sense).zoneTime_shape z
  have hsensed : s.zoneSensed z = { s.onZone z fun x => x.shut absentFor present !s.timeOk with log := g } := by
    rw [Dev.zoneSensed, hreads, htime, Dev.onZone_onZone, Dev.onZone_congr]
    exact hsense
  refine ⟨absentFor, present, g, ?_⟩
  rw [Dev.zoneEvaluated, Dev.zoneOvr_none, hsensed]
  rw [hsensed]
  exact (congrArg Zone.ovr (vmod_self ..)).trans h.ovr

/-! ## What a cycle decides and drives -/

/-- A cycle stores the mode it resolves, and its reason. -/
theorem Dev.zoneDecide_zone (base : Nat × Nat) :
    ∃ sched seq dew ovrOn ovrAct wasPresent wasLost, (s.zoneDecide z base).zones[z.val] =
      { s.zones[z.val] with mode := (s.zones[z.val].resolve base).1, reason := (s.zones[z.val].resolve base).2, sched, seq, dew, ovrOn, ovrAct,
                            wasPresent, wasLost } := by
  unfold Dev.zoneDecide
  extract_lets x r dew u v w
  have hw : w.zones = v.zones := by
    unfold w
    split_ifs <;> rfl
  have hall : (if x.dew ≠ dew.2 then w.note .info 15 LG_ZONE_DEW (mkWord [(0, 4, z.val), (8, 1, dew.2.toNat)]) else w).zones = v.zones := by
    split_ifs
    · exact hw
    · exact hw
  rw [hall]
  exact ⟨_, _, _, _, _, _, _, vmod_self ..⟩

theorem Dev.zoneDecide_loops (base : Nat × Nat) : (s.zoneDecide z base).loops = s.loops := by
  unfold Dev.zoneDecide
  dsimp only
  split_ifs <;> rfl

/-- A change of mode raises EV_ZONE_MODE (06 R197). -/
theorem Dev.zoneDecide_raises {base : Nat × Nat} (h : s.zones[z.val].mode ≠ (s.zones[z.val].resolve base).1) :
    ∃ e ∈ (s.zoneDecide z base).raised, e.code = EV_ZONE_MODE ∧ e.handle = hZone z ∧
      e.arg = mkWord [(0, 3, (s.zones[z.val].resolve base).1), (4, 3, s.zones[z.val].mode), (8, 3, (s.zones[z.val].resolve base).2)] := by
  unfold Dev.zoneDecide
  dsimp only
  rw [if_pos h]
  split_ifs <;> exact ⟨_, List.mem_append_right _ (List.mem_singleton_self _), rfl, rfl, rfl⟩

/-- Of its zone the four writes change the outputs alone. -/
theorem Dev.zoneDrive_zone (heat cool dew vent : Int) (jump : Bool) :
    ∃ outs, (s.zoneDrive z heat cool dew vent jump).zones[z.val] = { s.zones[z.val] with outs } := by
  obtain ⟨f, hf, -⟩ := s.zoneWrite_zone z 0 heat jump
  obtain ⟨g, hg, -⟩ := (s.zoneWrite z 0 heat jump).zoneWrite_zone z 1 cool jump
  obtain ⟨f', hf', -⟩ := ((s.zoneWrite z 0 heat jump).zoneWrite z 1 cool jump).zoneWrite_zone z 2 dew jump
  obtain ⟨g', hg', -⟩ := (((s.zoneWrite z 0 heat jump).zoneWrite z 1 cool jump).zoneWrite z 2 dew jump).zoneWrite_zone z 3 vent jump
  rw [Dev.zoneDrive, hg', hf', hg, hf]
  exact ⟨_, rfl⟩

theorem Dev.zoneWrite_unbound {k : Fin 4} (v : Int) (jump : Bool) (h : s.zones[z.val].outs[k.val].handle = 0) : s.zoneWrite z k v jump = s :=
  if_pos (.inl h)

/-- A loop that takes its set-point from the zones has its target written in a first cycle (06 R172). -/
theorem Dev.zoneWrite_loop {k : Fin 4} {n : Fin 144} (v : Int) (jump : Bool) (ho : objOf s.zones[z.val].outs[k.val].handle = some (.loop n))
    (hf : s.zones[z.val].fresh) (hsrc : s.loops[n.val].spSrc = 1) :
    (s.zoneWrite z k v jump).loops = vmod s.loops n fun l => { l with target := v, jump := l.jump || jump } := by
  have hne : s.zones[z.val].outs[k.val].handle ≠ 0 := by
    intro h0
    have hnull : objOf 0 = none := by decide
    rw [h0, hnull] at ho
    cases ho
  have hmay : s.zoneMay s.zones[z.val].outs[k.val].handle := by simp [Dev.zoneMay, ho, hsrc]
  unfold Dev.zoneWrite
  dsimp only
  rw [if_neg (by simp [hf]; exact hne), if_pos hmay, Dev.zoneSend, ho]
  rfl

/-- With nothing but the heating output bound, that is all a cycle drives. -/
theorem Dev.zoneDrive_heat (heat cool dew vent : Int) (jump : Bool) (h : ∀ k : Fin 4, k ≠ 0 → s.zones[z.val].outs[k.val].handle = 0) :
    s.zoneDrive z heat cool dew vent jump = s.zoneWrite z 0 heat jump := by
  obtain ⟨f, hf, hhandle⟩ := s.zoneWrite_zone z 0 heat jump
  have hout (k : Fin 4) (hk : k ≠ 0) : (s.zoneWrite z 0 heat jump).zones[z.val].outs[k.val].handle = 0 := by
    rw [hf]
    exact (congrArg ZoneOut.handle (vmod_other _ _ _ _ hk)).trans (h k hk)
  rw [Dev.zoneDrive, Dev.zoneWrite_unbound (k := 1) _ _ (hout 1 (by decide)), Dev.zoneWrite_unbound (k := 2) _ _ (hout 2 (by decide)),
    Dev.zoneWrite_unbound (k := 3) _ _ (hout 3 (by decide))]

/-! ## The cycle of such a zone -/

/-- The device `t` in which zone `z` of `s` has resolved its default mode, before it writes its outputs. -/
structure Dev.DecidesDefault (s : Dev) (z : Fin 16) (t : Dev) : Prop where
  mode : t.zones[z.val].mode = s.zones[z.val].defMode
  reason : t.zones[z.val].reason = 1
  outs : t.zones[z.val].outs = s.zones[z.val].outs
  fresh : t.zones[z.val].fresh = s.zones[z.val].fresh
  loops : t.loops = s.loops
  raised : s.zones[z.val].mode ≠ s.zones[z.val].defMode → ∃ e ∈ t.raised, e.code = EV_ZONE_MODE ∧ e.handle = hZone z ∧
    e.arg = mkWord [(0, 3, s.zones[z.val].defMode), (4, 3, s.zones[z.val].mode), (8, 3, 1)]

section
variable (hen : s.zones[z.val].en) (h : s.zones[z.val].Plain)
include hen h

theorem Dev.zoneCycle_plain :
    ∃ t dew vent, s.DecidesDefault z t ∧
      s.zoneCycle z =
        (t.zoneDrive z ((s.zones[z.val].setpoints s.zones[z.val].defMode).1 * 256) ((s.zones[z.val].setpoints s.zones[z.val].defMode).2 * 256)
          dew vent (decide ((s.zones[z.val].mode = 0) ≠ (s.zones[z.val].defMode = 0)))).onZone z
        fun y => y.wrote (s.zones[z.val].setpoints s.zones[z.val].defMode) := by
  obtain ⟨absentFor, present, g, heval⟩ := Dev.zoneEvaluated_plain h
  have hzone : (s.zoneEvaluated z).zones[z.val] = s.zones[z.val].shut absentFor present !s.timeOk := by
    rw [heval]
    exact vmod_self ..
  have hres : (s.zones[z.val].shut absentFor present !s.timeOk).resolve (s.zoneBase z) = (s.zones[z.val].defMode, 1) := by
    rw [Dev.zoneBase, hzone]
    exact h.resolve_shut ..
  have hdecides : s.DecidesDefault z ((s.zoneEvaluated z).zoneDecide z (s.zoneBase z)) := by
    obtain ⟨_, _, _, _, _, _, _, hdec⟩ := (s.zoneEvaluated z).zoneDecide_zone (z := z) (s.zoneBase z)
    have hraise := Dev.zoneDecide_raises (s := s.zoneEvaluated z) (z := z) (base := s.zoneBase z)
    rw [hzone, hres] at hdec hraise
    exact ⟨by rw [hdec], by rw [hdec], by rw [hdec]; rfl, by rw [hdec]; rfl, by rw [Dev.zoneDecide_loops, heval]; rfl, hraise⟩
  have hcycle := Dev.zoneCycle_eq hen hzone hres
  rw [Zone.shut_setpoints, Zone.shut_mode] at hcycle
  exact ⟨_, _, _, hdecides, hcycle⟩

/-- Its mode and its written targets. -/
theorem Dev.zoneCycle_plain_zone :
    ((s.zoneCycle z).zones[z.val]).mode = s.zones[z.val].defMode ∧ ((s.zoneCycle z).zones[z.val]).reason = 1 ∧
    (((s.zoneCycle z).zones[z.val].outs[0]).blocked = false →
      ((s.zoneCycle z).zones[z.val]).wroteH = (s.zones[z.val].setpoints s.zones[z.val].defMode).1) ∧
    (((s.zoneCycle z).zones[z.val].outs[1]).blocked = false →
      ((s.zoneCycle z).zones[z.val]).wroteC = (s.zones[z.val].setpoints s.zones[z.val].defMode).2) := by
  obtain ⟨t, dew, vent, hdec, heq⟩ := Dev.zoneCycle_plain hen h
  obtain ⟨outs, hdrive⟩ := t.zoneDrive_zone (z := z) ((s.zones[z.val].setpoints s.zones[z.val].defMode).1 * 256)
    ((s.zones[z.val].setpoints s.zones[z.val].defMode).2 * 256) dew vent (decide ((s.zones[z.val].mode = 0) ≠ (s.zones[z.val].defMode = 0)))
  rw [heq, Dev.onZone_get, hdrive]
  exact ⟨hdec.mode, hdec.reason, fun hb => if_neg (ne_true_of_eq_false hb), fun hb => if_neg (ne_true_of_eq_false hb)⟩

theorem Dev.zoneCycle_plain_raises (hne : s.zones[z.val].mode ≠ s.zones[z.val].defMode) :
    ∃ e ∈ (s.zoneCycle z).raised, e.code = EV_ZONE_MODE ∧ e.handle = hZone z ∧
      e.arg = mkWord [(0, 3, s.zones[z.val].defMode), (4, 3, s.zones[z.val].mode), (8, 3, 1)] := by
  obtain ⟨t, dew, vent, hdec, heq⟩ := Dev.zoneCycle_plain hen h
  obtain ⟨e, hmem, he⟩ := hdec.raised hne
  rw [heq, Dev.onZone_raised]
  exact ⟨e, (t.zoneDrive_keeps z ..).raised hmem, he⟩

/-- Its heating target goes to the loop that its heating output names, the only one that is bound (06 R172, R178). -/
theorem Dev.zoneCycle_plain_loops {n : Fin 144} (ho : objOf s.zones[z.val].outs[0].handle = some (.loop n))
    (hothers : ∀ k : Fin 4, k ≠ 0 → s.zones[z.val].outs[k.val].handle = 0) (hf : s.zones[z.val].fresh) (hsrc : s.loops[n.val].spSrc = 1) :
    (s.zoneCycle z).loops = vmod s.loops n fun l =>
      { l with target := (s.zones[z.val].setpoints s.zones[z.val].defMode).1 * 256,
               jump := l.jump || decide ((s.zones[z.val].mode = 0) ≠ (s.zones[z.val].defMode = 0)) } := by
  obtain ⟨t, dew, vent, hdec, heq⟩ := Dev.zoneCycle_plain hen h
  rw [heq, Dev.onZone_loops, Dev.zoneDrive_heat _ _ _ _ _ (by rw [hdec.outs]; exact hothers),
    Dev.zoneWrite_loop (n := n) _ _ (by rw [hdec.outs]; exact ho) (by rw [hdec.fresh]; exact hf) (by rw [hdec.loops]; exact hsrc), hdec.loops]

end

end

/-! ## The zones one after another (06 R171) -/

section
variable (s : Dev) (z : Fin 16)

/-- The cycles of other zones leave a zone, and the events raised before. -/
theorem Dev.zoneCycles_others {l : List (Fin 16)} (h : z ∉ l) :
    (l.foldl Dev.zoneCycle s).zones[z.val] = s.zones[z.val] ∧ s.raised ⊆ (l.foldl Dev.zoneCycle s).raised := by
  induction l generalizing s with
  | nil => exact ⟨rfl, List.Subset.refl _⟩
  | cons y l ih =>
    obtain ⟨hzy, hl⟩ := not_or.1 (mt List.mem_cons.2 h)
    obtain ⟨hzone, hraised⟩ := ih (s.zoneCycle y) hl
    exact ⟨hzone.trans ((s.zoneCycle_keeps y).others z hzy), List.Subset.trans (s.zoneCycle_keeps y).raised hraised⟩

/-- Zones that are not enabled do nothing. -/
theorem Dev.zoneCycles_off {l : List (Fin 16)} (h : ∀ y ∈ l, s.zones[y.val].en = false) : l.foldl Dev.zoneCycle s = s := by
  induction l with
  | nil => rfl
  | cons y l ih =>
    rw [List.foldl_cons, Dev.zoneCycle_off (h y List.mem_cons_self)]
    exact ih fun w hw => h w (List.mem_cons_of_mem _ hw)

/-- Each zone has its place among the sixteen, once. -/
theorem finRange_split : ∃ before after, List.finRange 16 = before ++ z :: after ∧ z ∉ before ∧ z ∉ after := by
  obtain ⟨before, after, heq⟩ := List.append_of_mem (List.mem_finRange z)
  have hnodup := List.nodup_finRange 16
  rw [heq, List.nodup_append, List.nodup_cons] at hnodup
  obtain ⟨-, ⟨hafter, -⟩, hdisj⟩ := hnodup
  exact ⟨before, after, heq, fun hmem => hdisj z hmem z List.mem_cons_self rfl, hafter⟩

/-- A zone comes to its cycle as it was, and stays as that leaves it. -/
theorem Dev.zoneCycles_at : ∃ v : Dev, v.zones[z.val] = s.zones[z.val] ∧
    ((List.finRange 16).foldl Dev.zoneCycle s).zones[z.val] = (v.zoneCycle z).zones[z.val] ∧
    (v.zoneCycle z).raised ⊆ ((List.finRange 16).foldl Dev.zoneCycle s).raised := by
  obtain ⟨before, after, heq, hbefore, hafter⟩ := finRange_split z
  refine ⟨before.foldl Dev.zoneCycle s, (s.zoneCycles_others z hbefore).1, ?_⟩
  rw [heq, List.foldl_append, List.foldl_cons]
  exact Dev.zoneCycles_others _ z hafter

/-- Where one zone is enabled, the cycle is that zone's. -/
theorem Dev.zoneCycles_only (h : ∀ y : Fin 16, s.zones[y.val].en = decide (y = z)) :
    (List.finRange 16).foldl Dev.zoneCycle s = s.zoneCycle z := by
  have hoff (y : Fin 16) (hy : y ≠ z) : s.zones[y.val].en = false := by rw [h, decide_eq_false hy]
  obtain ⟨before, after, heq, hbefore, hafter⟩ := finRange_split z
  rw [heq, List.foldl_append, List.foldl_cons, Dev.zoneCycles_off s fun y hy => hoff y (ne_of_mem_of_not_mem hy hbefore)]
  refine Dev.zoneCycles_off _ fun y hy => ?_
  have hne := ne_of_mem_of_not_mem hy hafter
  rw [(s.zoneCycle_keeps z).others y hne, hoff y hne]

/-- A time that is back ends the period of every zone (06 R184). -/
theorem Dev.zoneTimeBack_zone :
    (s.zoneTimeBack).zones[z.val] = { s.zones[z.val] with noTimeLogged := s.zones[z.val].noTimeLogged && !s.timeOk } := by
  unfold Dev.zoneTimeBack
  split_ifs with hok <;> simp [hok]

theorem Dev.zoneTimeBack_loops : s.zoneTimeBack.loops = s.loops := by
  unfold Dev.zoneTimeBack
  split_ifs <;> rfl

/-- An enabled zone stays so, and its first cycle is over. -/
theorem Dev.zoneCycle_on (h : s.zones[z.val].en) : (s.zoneCycle z).zones[z.val].en ∧ (s.zoneCycle z).zones[z.val].fresh = false := by
  refine ⟨(s.zoneCycle_keeps z).en.trans h, ?_⟩
  rw [Dev.zoneCycle_eq h rfl (Prod.eta _).symm, Dev.onZone_get]
  rfl

end

/-! ## The obligation -/

/-- A cycle while function 15 works. -/
theorem execZoneCycle_active {s : State} (h : s.dev.active 15) :
    exec .zoneCycle s = .next { s with dev := (List.finRange 16).foldl Dev.zoneCycle s.dev.zoneTimeBack } := by
  have hdev : (if s.dev.active 15 then (List.finRange 16).foldl Dev.zoneCycle s.dev.zoneTimeBack else s.dev) =
      (List.finRange 16).foldl Dev.zoneCycle s.dev.zoneTimeBack := if_pos h
  rw [← hdev]
  rfl

theorem execZoneCycle_stopped {s : State} (h : s.dev.active 15 = false) : exec .zoneCycle s = .next s := by
  have hdev : (if s.dev.active 15 then (List.finRange 16).foldl Dev.zoneCycle s.dev.zoneTimeBack else s.dev) = s.dev := if_neg (by simp [h])
  exact congrArg (fun v => Host.Outcome.next { s with dev := v }) hdev

/-- Settles O42: what a zone resolves, then a cycle of all zones, then that of a zone in its default mode. -/
theorem zoneCycles : Obligations.ZoneCycles := by
  unfold Obligations.ZoneCycles
  refine ⟨fun x b h => x.resolve_window b h, fun x b o hw ho hm => x.resolve_override b hw ho hm,
    fun x b hw ho hbound hb hp => x.resolve_absent b hw ho hbound hb hp, fun x m h => x.setpoints_apart h, fun x => rfl,
    fun x m hf hv => ⟨(x.demand_mem m hf hv).1, (x.demand_mem m hf hv).2, x.demand_off⟩, fun x n h => x.dewTarget_fails n h,
    fun x p h => if_pos h, fun s h => ⟨s, execZoneCycle_stopped h, rfl⟩,
    fun s h => ⟨_, execZoneCycle_active h, ⟨rfl, rfl, rfl⟩, fun z => ⟨fun hen => ?off, fun hen => ?on⟩⟩,
    fun s z h hen hsched hovr hin => ⟨_, execZoneCycle_active h, ?default⟩,
    fun s z n h hen hsched hovr hin ho hothers hf hsrc => ⟨_, execZoneCycle_active h, ?loop⟩⟩
  case off =>
    obtain ⟨v, hv, hzone, -⟩ := s.dev.zoneTimeBack.zoneCycles_at z
    rw [Dev.zoneTimeBack_zone] at hv
    rw [Fin.getElem_fin, hzone, Dev.zoneCycle_off (by rw [hv]; exact hen), hv]
    rfl
  case on =>
    obtain ⟨v, hv, hzone, -⟩ := s.dev.zoneTimeBack.zoneCycles_at z
    rw [Dev.zoneTimeBack_zone] at hv
    rw [Fin.getElem_fin, hzone]
    exact v.zoneCycle_on z (by rw [hv]; exact hen)
  case default =>
    obtain ⟨v, hv, hzone, hraised⟩ := s.dev.zoneTimeBack.zoneCycles_at z
    rw [Dev.zoneTimeBack_zone] at hv
    have hplain : v.zones[z.val].Plain := by
      rw [hv]
      exact ⟨hsched, hovr, hin⟩
    have hen : v.zones[z.val].en := by
      rw [hv]
      exact hen
    have hcycle := Dev.zoneCycle_plain_zone hen hplain
    have hraises := Dev.zoneCycle_plain_raises hen hplain
    rw [hv] at hcycle hraises
    obtain ⟨hmode, hreason, hheat, hcool⟩ := hcycle
    simp only [Fin.getElem_fin, hzone]
    refine ⟨hmode, hreason, hheat, hcool, fun hne => ?_⟩
    obtain ⟨e, hmem, he⟩ := hraises hne
    exact ⟨e, hraised hmem, he⟩
  case loop =>
    have hback := s.dev.zoneTimeBack_zone z
    have hplain : s.dev.zoneTimeBack.zones[z.val].Plain := by
      rw [hback]
      exact ⟨hsched, hovr, hin⟩
    have honly (y : Fin 16) : s.dev.zoneTimeBack.zones[y.val].en = decide (y = z) := by
      rw [Dev.zoneTimeBack_zone]
      exact hen y
    have hloops := Dev.zoneCycle_plain_loops (n := n) (by simp [honly]) hplain (by rw [hback]; exact ho) (by rw [hback]; exact hothers)
      (by rw [hback]; exact hf) (by rw [Dev.zoneTimeBack_loops]; exact hsrc)
    rw [hback, Dev.zoneTimeBack_loops] at hloops
    simp only [Fin.getElem_fin, Dev.zoneCycles_only _ z honly, hloops, vmod_self]
    refine ⟨rfl, fun hjump => ?_, fun k hk => vmod_other _ _ _ _ hk⟩
    rw [hjump]
    exact Bool.false_or _

end Sys2Proof.Machine
end

section
/-! What the valve drive's shared operations do (08 R229, R232, R233, R235, R238, R239): a change of one channel, the decays and gates of a
pair, and, on a pair that is not paralleled, the start of a profile, a change of phase, a grant of the rail and its return. -/

namespace Sys2Proof.Machine

/-! ## The channels of a pair (08 R228) -/

@[simp] theorem pairOf_partnerOf : ∀ c : Fin 16, pairOf (partnerOf c) = pairOf c := by decide

@[simp] theorem partnerOf_partnerOf : ∀ c : Fin 16, partnerOf (partnerOf c) = c := by decide

@[simp] theorem isOdd_partnerOf : ∀ c : Fin 16, isOdd (partnerOf c) = !isOdd c := by decide

theorem partnerOf_ne : ∀ c : Fin 16, partnerOf c ≠ c := by decide

/-- The even channel of a pair is any one of its channels or that one's partner. -/
theorem channels_of_pair : ∀ c : Fin 16,
    isOdd c = false ∧ evenOf (pairOf c) = c ∧ oddOf (pairOf c) = partnerOf c ∨
    isOdd c = true ∧ evenOf (pairOf c) = partnerOf c ∧ oddOf (pairOf c) = c := by decide

theorem pairOf_evenOf : ∀ k : Fin 8, pairOf (evenOf k) = k := by decide

theorem pairOf_oddOf : ∀ k : Fin 8, pairOf (oddOf k) = k := by decide

/-! ## A change of one channel -/

/-- A channel of the device. -/
abbrev Dev.valve (s : Dev) (c : Fin 16) : Valve := s.valves[c.val]

/-- A pair of the device. -/
abbrev Dev.pair (s : Dev) (k : Fin 8) : Pair := s.pairs[k.val]

theorem Dev.valve_congr {s t : Dev} (h : t.valves = s.valves) (c : Fin 16) : t.valve c = s.valve c := by rw [Dev.valve, h]

theorem Dev.pair_congr {s t : Dev} (h : t.pairs = s.pairs) (k : Fin 8) : t.pair k = s.pair k := by rw [Dev.pair, h]

section
variable (s : Dev) (c : Fin 16) (f g : Valve → Valve)

@[simp] theorem Dev.onValve_get : (s.onValve c f).valve c = f (s.valve c) := vmod_self ..

theorem Dev.onValve_other {j : Fin 16} (h : j ≠ c) : (s.onValve c f).valve j = s.valve j := vmod_other _ _ _ _ h

@[simp] theorem Dev.onValve_pair (k : Fin 8) : (s.onValve c f).pair k = s.pair k := rfl

@[simp] theorem Dev.onPair_valve (k : Fin 8) (f : Pair → Pair) (j : Fin 16) : (s.onPair k f).valve j = s.valve j := rfl

@[simp] theorem Dev.report_valve (src : Word) (f : Nat) (sev : Sev) (code : BitVec 11) (arg : Word) (j : Fin 16) :
    (s.report src f sev code arg).1.valve j = s.valve j := Dev.valve_congr (Dev.report_valves ..) j

@[simp] theorem Dev.onPair_get (k : Fin 8) (f : Pair → Pair) : (s.onPair k f).pair k = f (s.pair k) := vmod_self ..

@[simp] theorem Dev.onValve_onValve : (s.onValve c f).onValve c g = s.onValve c fun v => g (f v) := by simp [Dev.onValve]

variable {s c f g}

/-- A change that keeps the channel keeps the device. -/
theorem Dev.onValve_eq_self (h : f (s.valve c) = s.valve c) : s.onValve c f = s := by rw [Dev.onValve, vmod_eq_self _ _ h]

theorem Dev.onValve_congr (h : f (s.valve c) = g (s.valve c)) : s.onValve c f = s.onValve c g := by
  simp only [Dev.onValve, vmod, h]

theorem Dev.onPair_par {k : Fin 8} {f : Pair → Pair} (h : ∀ p, (f p).par = p.par) : (s.onPair k f).par c = s.par c := by
  unfold Dev.par
  by_cases hk : pairOf c = k
  · subst hk
    exact (congrArg Pair.par (Dev.onPair_get ..)).trans (h _)
  · rw [Dev.onPair_pairs, vmod_other _ _ _ _ hk]

theorem Dev.par_partnerOf : s.par (partnerOf c) = s.par c :=
  congrArg (fun k => (s.pair k).par) (pairOf_partnerOf c)

theorem Dev.lead_eq (hp : s.par c = false) : s.lead c = c := by simp [Dev.lead, hp]

theorem Dev.onHalves_eq (hp : s.par c = false) : s.onHalves c f = s.onValve c f := by simp [Dev.onHalves, hp]

end

/-! ## The decays and gates of a pair (08 R229, R233) -/

/-- A channel whose fast decay is replaced by a slow one. -/
def Valve.slowed (v : Valve) : Valve := { v with chop := .slow, subst := true, substLogged := true }

theorem Valve.slowed_isOn (v : Valve) : v.slowed.isOn := by simp [Valve.isOn, Valve.slowed]

/-- The fast decay of a channel is replaced (08 R233). -/
def Dev.replaces (s : Dev) (c : Fin 16) : Bool :=
  (s.valve c).chop == .fast && !((s.valve c).phase == .off && (s.valve c).offAt == some s.now) && !s.par c
    && ((s.valve (partnerOf c)).isOn || (s.pair (pairOf c)).rail == some (isOdd (partnerOf c)))

theorem Dev.replaces_fast {s : Dev} {c : Fin 16} (h : s.replaces c) : (s.valve c).chop = .fast := by
  simp only [Dev.replaces, Bool.and_eq_true, beq_iff_eq] at h
  exact h.1.1.1

/-- An error that is handled after a report was handled before, or is the one reported (17 R482). -/
theorem Dev.mem_report_errs {s : Dev} {src : Word} {f : Nat} {sev : Sev} {code : BitVec 11} {arg : Word} {e : ErrState}
    (h : e ∈ (s.report src f sev code arg).1.log.errs) : e ∈ s.log.errs ∨ e.cls = sev ∧ e.code = code := by
  have hlog (o : Occ) : (s.logPut o).1.log.errs = s.log.errs := logPut_errs ..
  unfold Dev.report at h
  split at h
  · exact .inl h
  · split at h
    · simp only [hlog, List.mem_append, List.mem_singleton] at h
      exact h.imp_right fun he => by simp [he]
    · dsimp only at h
      split at h
      · simp only [hlog, List.mem_map] at h
        obtain ⟨x, hx, rfl⟩ := h
        split_ifs
        · exact .inr ⟨rfl, rfl⟩
        · exact .inl hx
      · exact .inl (by simpa [hlog] using h)

/-- A source that handles an error still does after a report (17 R482). -/
theorem Dev.handling_report {s : Dev} {h : Word} (hs : s.handling h) (src : Word) (f : Nat) (sev : Sev) (code : BitVec 11) (arg : Word) :
    (s.report src f sev code arg).1.handling h := by
  have hlog (o : Occ) : (s.logPut o).1.log.errs = s.log.errs := logPut_errs ..
  simp only [Dev.handling, List.any_eq_true, beq_iff_eq] at hs ⊢
  obtain ⟨e, he, hsrc⟩ := hs
  unfold Dev.report
  split
  · exact ⟨e, he, hsrc⟩
  · split
    · exact ⟨e, by simp [hlog, he], hsrc⟩
    · dsimp only
      split
      · refine ⟨_, List.mem_map.2 ⟨e, by simpa [hlog] using he, rfl⟩, ?_⟩
        split_ifs <;> exact hsrc
      · exact ⟨e, by simpa [hlog] using he, hsrc⟩

/-- What the replacement of decays leaves: fast decays of the pair that have become slow, and the warnings of that. -/
structure Dev.SlowsIn (k : Fin 8) (s t : Dev) : Prop where
  rest : ∃ vs g, t = { s with valves := vs, log := g }
  valve : ∀ j : Fin 16, t.valve j = s.valve j ∨
    pairOf j = k ∧ (s.valve j).chop = .fast ∧ t.valve j = (s.valve j).slowed
  errs : ∀ e ∈ t.log.errs, e ∈ s.log.errs ∨ e.cls = .warn ∧ e.code = LG_VALVE_DECAY_SUBST
  handled : ∀ src, s.handling src → t.handling src

namespace Dev.SlowsIn

variable {k : Fin 8} {s t v : Dev}

theorem refl (k : Fin 8) (s : Dev) : SlowsIn k s s := ⟨⟨_, _, rfl⟩, fun _ => .inl rfl, fun _ => .inl, fun _ => id⟩

theorem after (h : SlowsIn k t v) (h' : SlowsIn k s t) : SlowsIn k s v where
  rest := by
    obtain ⟨vs, g, rfl⟩ := h'.rest
    obtain ⟨vs', g', rfl⟩ := h.rest
    exact ⟨_, _, rfl⟩
  valve j := by
    rcases h'.valve j with e' | ⟨hk, hf, e'⟩
    · rw [← e']
      exact h.valve j
    · rcases h.valve j with e | ⟨-, hf', -⟩
      · exact .inr ⟨hk, hf, e.trans e'⟩
      · rw [e'] at hf'
        cases hf'
  errs e he := (h.errs e he).elim (h'.errs e) .inr
  handled src := h.handled src ∘ h'.handled src

end Dev.SlowsIn

section
variable {s : Dev} {c : Fin 16}

theorem Dev.substDecay_of_not (h : s.replaces c = false) : s.substDecay c = s := if_neg (by simpa [Dev.replaces] using h)

theorem Dev.substDecay_of (h : s.replaces c) :
    (∀ j, (s.substDecay c).valve j = (s.onValve c Valve.slowed).valve j) ∧ Dev.SlowsIn (pairOf c) s (s.substDecay c) := by
  have heq : s.substDecay c =
      if (s.valve c).substLogged then s.onValve c Valve.slowed
      else ((s.onValve c Valve.slowed).report (hPair (pairOf c)) (pairFunc (pairOf c)) .warn LG_VALVE_DECAY_SUBST
        (mkWord [(0, 3, (s.valve c).phase.code)])).1 := if_pos h
  have hvalve (j : Fin 16) : (s.onValve c Valve.slowed).valve j = s.valve j ∨
      pairOf j = pairOf c ∧ (s.valve j).chop = .fast ∧ (s.onValve c Valve.slowed).valve j = (s.valve j).slowed := by
    by_cases hj : j = c
    · subst hj
      exact .inr ⟨rfl, Dev.replaces_fast h, Dev.onValve_get ..⟩
    · exact .inl (Dev.onValve_other _ _ _ hj)
  rw [heq]
  split_ifs
  · exact ⟨fun _ => rfl, ⟨_, _, rfl⟩, hvalve, fun _ => .inl, fun _ => id⟩
  · obtain ⟨g, hg⟩ := (s.onValve c Valve.slowed).report_shape (hPair (pairOf c)) (pairFunc (pairOf c)) .warn LG_VALVE_DECAY_SUBST
      (mkWord [(0, 3, (s.valve c).phase.code)])
    refine ⟨Dev.report_valve _ _ _ _ _ _, ⟨_, g, hg⟩, ?_, fun _ => Dev.mem_report_errs (s := s.onValve c Valve.slowed),
      fun _ hs => Dev.handling_report (s := s.onValve c Valve.slowed) hs ..⟩
    simpa only [Dev.report_valve] using hvalve

theorem Dev.substDecay_slows (s : Dev) (c : Fin 16) : Dev.SlowsIn (pairOf c) s (s.substDecay c) := by
  cases h : s.replaces c
  · rw [Dev.substDecay_of_not h]
    exact .refl ..
  · exact (Dev.substDecay_of h).2

end

/-- The decays of a pair, each judged until none is left to replace. -/
def Dev.decays (s : Dev) (k : Fin 8) : Dev := ((s.substDecay (evenOf k)).substDecay (oddOf k)).substDecay (evenOf k)

theorem Dev.pairSync_eq (s : Dev) (k : Fin 8) : s.pairSync k = (s.decays k).onPair k fun p => p.gates ((s.decays k).wantGate k) := rfl

section
variable (s : Dev) (k : Fin 8)

theorem Dev.decays_slows : Dev.SlowsIn k s (s.decays k) := by
  have heven (v : Dev) := v.substDecay_slows (evenOf k)
  have hodd (v : Dev) := v.substDecay_slows (oddOf k)
  rw [pairOf_evenOf] at heven
  rw [pairOf_oddOf] at hodd
  exact .after (heven _) (.after (hodd _) (heven _))

/-- A pair's decays and gates change channels, gates and the log alone. -/
theorem Dev.pairSync_shape : ∃ vs ps g, s.pairSync k = { s with valves := vs, pairs := ps, log := g } := by
  obtain ⟨vs, g, h⟩ := (s.decays_slows k).rest
  rw [Dev.pairSync_eq, h]
  exact ⟨_, _, _, rfl⟩

theorem Dev.pairSync_valve (j : Fin 16) : (s.pairSync k).valve j = s.valve j ∨
    pairOf j = k ∧ (s.valve j).chop = .fast ∧ (s.pairSync k).valve j = (s.valve j).slowed := by
  rw [Dev.pairSync_eq, Dev.onPair_valve]
  exact (s.decays_slows k).valve j

theorem Dev.pairSync_pair : (s.pairSync k).pair k = (s.pair k).gates ((s.decays k).wantGate k) := by
  obtain ⟨vs, g, h⟩ := (s.decays_slows k).rest
  rw [Dev.pairSync_eq, Dev.onPair_get, Dev.pair_congr (by rw [h]) k]

/-- But for its gates a pair stays as it is. -/
theorem Pair.gates_rest (p : Pair) (w : Option Bool) :
    ∃ bg hsg dead, p.gates w = { p with bg, hsg, dead } := by
  unfold Pair.gates
  extract_lets was dead
  split
  · exact ⟨_, _, _, rfl⟩
  · cases w with
    | none => exact ⟨_, _, _, rfl⟩
    | some g => dsimp only; split <;> exact ⟨_, _, _, rfl⟩

@[simp] theorem Pair.gates_rail (p : Pair) (w : Option Bool) : (p.gates w).rail = p.rail := by
  obtain ⟨_, _, _, h⟩ := p.gates_rest w; rw [h]

@[simp] theorem Pair.gates_par (p : Pair) (w : Option Bool) : (p.gates w).par = p.par := by
  obtain ⟨_, _, _, h⟩ := p.gates_rest w; rw [h]

@[simp] theorem Dev.pairSync_done : (s.pairSync k).done = s.done := by
  obtain ⟨_, _, _, h⟩ := s.pairSync_shape k; rw [h]

@[simp] theorem Dev.pairSync_raised : (s.pairSync k).raised = s.raised := by
  obtain ⟨_, _, _, h⟩ := s.pairSync_shape k; rw [h]

@[simp] theorem Dev.pairSync_vboost : (s.pairSync k).vboost = s.vboost := by
  obtain ⟨_, _, _, h⟩ := s.pairSync_shape k; rw [h]

@[simp] theorem Dev.pairSync_rail : ((s.pairSync k).pair k).rail = (s.pair k).rail := by
  rw [Dev.pairSync_pair, Pair.gates_rail]

variable {s k}

theorem Dev.pairSync_valve_of_not_fast {j : Fin 16} (h : (s.valve j).chop ≠ .fast) : (s.pairSync k).valve j = s.valve j :=
  (s.pairSync_valve k j).resolve_right fun hf => h hf.2.1

end

/-! ### What a channel shows but for its decay -/

theorem Dev.pairSync_get {s : Dev} {k : Fin 8} {j : Fin 16} {x : Valve} (h : s.valve j = x) (hx : x.chop ≠ .fast) :
    (s.pairSync k).valve j = x :=
  (Dev.pairSync_valve_of_not_fast (by rw [h]; exact hx)).trans h

/-- A channel without what the replacement of its decay changes. -/
def Valve.core (v : Valve) : Valve := { v with chop := .none, subst := false, substLogged := false }

theorem Dev.pairSync_core (s : Dev) (k : Fin 8) (j : Fin 16) : ((s.pairSync k).valve j).core = (s.valve j).core := by
  rcases s.pairSync_valve k j with h | ⟨-, -, h⟩ <;> rw [h]
  exact (rfl : Valve.core (Valve.slowed _) = _)

section
variable {x v : Valve} (h : x.core = v.core)
include h

theorem Valve.phase_congr : x.phase = v.phase := (congrArg Valve.phase h :)

theorem Valve.code_congr : x.code = v.code := (congrArg Valve.code h :)

theorem Valve.cause_congr : x.cause = v.cause := (congrArg Valve.cause h :)

theorem Valve.wait_congr : x.wait = v.wait := (congrArg Valve.wait h :)

theorem Valve.cur_congr : x.cur = v.cur := (congrArg Valve.cur h :)

theorem Valve.starts_congr : x.starts = v.starts := (congrArg Valve.starts h :)

theorem Valve.notReady_congr : x.notReady = v.notReady := (congrArg Valve.notReady h :)

end

@[simp] theorem Dev.pairSync_phase (s : Dev) (k : Fin 8) (j : Fin 16) : ((s.pairSync k).valve j).phase = (s.valve j).phase :=
  Valve.phase_congr (s.pairSync_core k j)

/-! ### Which decays are replaced -/

section
variable {k : Fin 8} {s t : Dev} {c : Fin 16}

theorem Dev.SlowsIn.of_not_fast {j : Fin 16} (h : SlowsIn k s t) (hj : (s.valve j).chop ≠ .fast) : t.valve j = s.valve j :=
  (h.valve j).resolve_right fun hf => hj hf.2.1

theorem Dev.SlowsIn.isOn {j : Fin 16} (h : SlowsIn k s t) (hj : (s.valve j).isOn) : (t.valve j).isOn := by
  rcases h.valve j with e | ⟨-, -, e⟩
  · rwa [e]
  · rw [e]
    exact Valve.slowed_isOn _

theorem Dev.SlowsIn.replaces (h : SlowsIn k s t) (hc : t.valve c = s.valve c) (hr : s.replaces c) : t.replaces c := by
  have hon := h.isOn (j := partnerOf c)
  obtain ⟨vs, g, rfl⟩ := h.rest
  simp only [Dev.replaces, Dev.par, Bool.and_eq_true, Bool.or_eq_true] at hr hc hon ⊢
  rw [hc]
  exact ⟨hr.1, hr.2.imp_left hon⟩

theorem Dev.substDecay_other {j : Fin 16} (h : j ≠ c) : (s.substDecay c).valve j = s.valve j := by
  cases hr : s.replaces c
  · rw [Dev.substDecay_of_not hr]
  · rw [(Dev.substDecay_of hr).1]
    exact Dev.onValve_other _ _ _ h

theorem Dev.substDecay_self (h : s.replaces c) : (s.substDecay c).valve c = (s.valve c).slowed := by
  rw [(Dev.substDecay_of h).1]
  exact Dev.onValve_get ..

/-- A fast decay that is to be replaced is slow when its pair has followed (08 R233). -/
theorem Dev.pairSync_slows (h : s.replaces c) : (s.pairSync (pairOf c)).valve c = (s.valve c).slowed := by
  have hslow (v : Dev) (j : Fin 16) (hv : v.valve c = (s.valve c).slowed) : (v.substDecay j).valve c = (s.valve c).slowed := by
    have hnot : (v.valve c).chop ≠ .fast := by rw [hv]; exact Chop.noConfusion
    rw [(v.substDecay_slows j).of_not_fast hnot, hv]
  rw [Dev.pairSync_eq, Dev.onPair_valve, Dev.decays]
  obtain ⟨-, he, ho⟩ | ⟨-, he, ho⟩ := channels_of_pair c
  · rw [he, ho]
    exact hslow _ _ (hslow _ _ (Dev.substDecay_self h))
  · rw [he, ho]
    have hself : (s.substDecay (partnerOf c)).valve c = s.valve c := Dev.substDecay_other (partnerOf_ne c).symm
    refine hslow _ _ ?_
    rw [Dev.substDecay_self ((s.substDecay_slows _).replaces hself h), hself]

/-- A fast decay is replaced while the partner is on, but on the TCLK at which an OFF decay starts (08 R233, R254). -/
theorem Dev.replaces_of (hp : s.par c = false) (hf : (s.valve c).chop = .fast)
    (hoff : (s.valve c).phase ≠ .off ∨ (s.valve c).offAt = none) (hq : (s.valve (partnerOf c)).isOn) : s.replaces c := by
  rcases hoff with hoff | hoff <;> simp [Dev.replaces, hf, hp, hq, hoff]

/-- An OFF decay that starts is judged at the end of its TCLK (08 R254). -/
theorem Dev.pairSync_offStarts (k : Fin 8) (hoff : (s.valve c).phase = .off) (hat : (s.valve c).offAt = some s.now) :
    (s.pairSync k).valve c = s.valve c := by
  have hkeep (v : Dev) (j : Fin 16) (h : v.now = s.now ∧ v.valve c = s.valve c) :
      (v.substDecay j).now = s.now ∧ (v.substDecay j).valve c = s.valve c := by
    obtain ⟨hnow, hv⟩ := h
    refine ⟨?_, ?_⟩
    · obtain ⟨_, _, hrest⟩ := (v.substDecay_slows j).rest
      rw [hrest]
      exact hnow
    · by_cases hj : c = j
      · subst hj
        rw [Dev.substDecay_of_not (by simp [Dev.replaces, hv, hoff, hat, hnow]), hv]
      · rw [Dev.substDecay_other hj, hv]
  rw [Dev.pairSync_eq, Dev.onPair_valve]
  exact (hkeep _ _ (hkeep _ _ (hkeep _ _ ⟨rfl, rfl⟩))).2

/-- Of two channels that are both off no decay is replaced while the rail is free. -/
theorem Dev.decays_off (hc : (s.valve c).isOn = false) (hq : (s.valve (partnerOf c)).isOn = false)
    (hr : (s.pair (pairOf c)).rail = none) : s.decays (pairOf c) = s := by
  have hself : s.replaces c = false := by simp [Dev.replaces, hq, hr]
  have hpart : s.replaces (partnerOf c) = false := by simp [Dev.replaces, hc, hr]
  obtain ⟨-, he, ho⟩ | ⟨-, he, ho⟩ := channels_of_pair c
  all_goals simp only [Dev.decays, he, ho, Dev.substDecay_of_not hself, Dev.substDecay_of_not hpart]

end

/-! ## Phases (08 R232, R235, R236) -/

/-- A channel whose pair is not paralleled, as it moves to its next phase. -/
def Valve.movedTo (v : Valve) (nxt : VPhase) (above : Bool) (now : Nat) : Valve :=
  let x : Valve := { v with phase := nxt, ripple := none }
  let x := { x with code := x.phaseCode false }
  if x.code < v.code then
    let x := { x with fall := some (v.fastIn v.phase, now) }
    if above then x.decay (v.fastIn v.phase) else x
  else { x with fall := none }

/-- A channel whose pair is not paralleled, as its profile starts. -/
def Valve.started (v : Valve) (now : Nat) (skip : Bool) : Valve :=
  let cur := { v.prof with third := v.prof.third && !(v.failpos && v.fail == 1) }
  let x : Valve :=
    { v with cur, phase := if cur.tBoostMax ≠ 0 && !skip then .boost else cur.afterBoost, starts := v.starts + 1, substLogged := false,
             tStart := now, kink := v.kinkEn, closed := false, closeT := none, dith := 0, ripple := none }
  let x := { x.turnOn now with fall := none }
  { x with code := x.phaseCode false }

/-- A channel whose pair is not paralleled, as it goes to OFF. -/
def Valve.switchedOff (v : Valve) (now : Nat) : Valve :=
  ({ v with phase := .off, code := 0, offAt := some now } : Valve).decay (v.fastIn .off)

section
variable (v : Valve) (nxt : VPhase) (above : Bool) (now : Nat)

@[simp] theorem Valve.movedTo_phase : (v.movedTo nxt above now).phase = nxt := by
  unfold Valve.movedTo
  dsimp only
  split_ifs <;> rfl

@[simp] theorem Valve.movedTo_wait : (v.movedTo nxt above now).wait = v.wait := by
  unfold Valve.movedTo
  dsimp only
  split_ifs <;> rfl

variable {v}

/-- Outside the fail positions a profile runs with the stored values. -/
theorem Valve.started_cur (skip : Bool) (h : v.failpos = false) : (v.started now skip).cur = v.prof := by simp [Valve.started, Valve.turnOn, h]

theorem Valve.started_boost (h : v.prof.tBoostMax ≠ 0) : (v.started now false).phase = .boost := by simp [Valve.started, Valve.turnOn, h]

theorem Valve.started_afterBoost {skip : Bool} (hf : v.failpos = false) (h : v.prof.tBoostMax = 0 ∨ skip) :
    (v.started now skip).phase = v.prof.afterBoost := by
  have hphase : (v.started now skip).phase = if v.prof.tBoostMax ≠ 0 && !skip then .boost else v.prof.afterBoost := by
    simp [Valve.started, Valve.turnOn, hf]
  rw [hphase, if_neg]
  rcases h with h | h <;> simp [h]

theorem Valve.started_boostCode (hf : v.failpos = false) (h : v.prof.tBoostMax ≠ 0) :
    (v.started now false).code = codeOf v.prof.iBoost v.rshunt false := by
  simp [Valve.started, Valve.turnOn, Valve.phaseCode, hf, h]

end

section
variable {s : Dev} {c : Fin 16} (hp : s.par c = false)
include hp

theorem Dev.newCode_eq : s.newCode c = s.onValve c fun v => { v with code := v.phaseCode false } := by rw [Dev.newCode, hp]

theorem Dev.toPhase_eq (nxt : VPhase) (above : Bool) : s.toPhase c nxt above = s.onValve c fun v => v.movedTo nxt above s.now := by
  have hpar (f : Valve → Valve) : (s.onValve c f).par c = false := hp
  unfold Dev.toPhase
  simp only [Dev.newCode_eq (hpar _), Dev.onValve_onValve, Dev.onValve_get, Dev.onHalves_eq (hpar _), Dev.onValve_now]
  split <;> refine Dev.onValve_congr ?_ <;> simp_all [Valve.movedTo]

theorem Dev.startProfile_eq (skip : Bool) : s.startProfile c skip = s.onValve c fun v => v.started s.now skip := by
  have hpar (f : Valve → Valve) : (s.onValve c f).par c = false := hp
  unfold Dev.startProfile
  simp only [Dev.onHalves_eq (hpar _), Dev.onValve_onValve, Dev.newCode_eq (hpar _), Dev.onValve_now]
  rfl

theorem Dev.startOff_eq (h : (s.valve c).runs) :
    s.startOff c = (s.onValve c fun v => v.switchedOff s.now).leaveRail c ((s.valve c).phase == .boost) := by
  have hpar (f : Valve → Valve) : (s.onValve c f).par c = false := hp
  rw [Dev.startOff, if_pos h]
  simp only [Dev.onHalves_eq (hpar _), Dev.onValve_onValve]
  exact congrArg (Dev.leaveRail · c _) (Dev.onValve_congr rfl)

end

theorem Dev.startOff_idle {s : Dev} {c : Fin 16} (h : (s.valve c).runs = false) : s.startOff c = s := if_neg (by simp [h])

/-! ## The boost rail (08 R238, R239) -/

/-- VBOOST's comparison may draw a free value for it. -/
theorem Dev.senseVboost_shape (s : Dev) : ∃ n b a, s.senseVboost = { s with fresh := n, vboost := b, vboostAt := a } := by
  unfold Dev.senseVboost
  split <;> exact ⟨_, _, _, rfl⟩

@[simp] theorem Dev.senseVboost_valve (s : Dev) (j : Fin 16) : s.senseVboost.valve j = s.valve j := by
  obtain ⟨_, _, _, h⟩ := s.senseVboost_shape; rw [h]

@[simp] theorem Dev.senseVboost_pairs (s : Dev) : s.senseVboost.pairs = s.pairs := by
  obtain ⟨_, _, _, h⟩ := s.senseVboost_shape; rw [h]

@[simp] theorem Dev.senseVboost_waits (s : Dev) : s.senseVboost.waits = s.waits := by
  obtain ⟨_, _, _, h⟩ := s.senseVboost_shape; rw [h]

@[simp] theorem Dev.senseVboost_done (s : Dev) : s.senseVboost.done = s.done := by
  obtain ⟨_, _, _, h⟩ := s.senseVboost_shape; rw [h]

@[simp] theorem Dev.senseVboost_now (s : Dev) : s.senseVboost.now = s.now := by
  obtain ⟨_, _, _, h⟩ := s.senseVboost_shape; rw [h]

@[simp] theorem Dev.senseVboost_valveRes (s : Dev) (waited delayed skipped : Bool) :
    s.senseVboost.valveRes waited delayed skipped = s.valveRes waited delayed skipped := by
  obtain ⟨_, _, _, h⟩ := s.senseVboost_shape; rw [h]; rfl

/-- VBOOST's comparison depends on its own state alone. -/
theorem Dev.senseVboost_congr {s t : Dev} (hat : t.vboostAt = s.vboostAt) (hnow : t.now = s.now) (hv : t.vboost = s.vboost)
    (hf : t.fresh = s.fresh) : t.senseVboost.vboost = s.senseVboost.vboost := by
  unfold Dev.senseVboost Dev.draw
  rw [hat, hnow]
  split_ifs
  · exact hv
  · simp only [hf]

/-- A granted channel that finds VBOOST too low has reported it. -/
def Dev.boostLow (s : Dev) (c : Fin 16) : Dev :=
  ((s.senseVboost.onValve c fun v => { v with notReady := true }).report (hPair (pairOf c)) (pairFunc (pairOf c)) .warn
    LG_VALVE_BOOST_NOT_READY (mkWord [(0, 16, s.senseVboost.vboost), (16, 1, (s.pair (pairOf c)).bpol.toNat)])).1

section
variable (s : Dev) (c : Fin 16)

@[simp] theorem Dev.boostLow_valve : (s.boostLow c).valve c = { s.valve c with notReady := true } := by
  rw [Dev.boostLow, Dev.report_valve, Dev.onValve_get, Dev.senseVboost_valve]

theorem Dev.boostLow_other {j : Fin 16} (h : j ≠ c) : (s.boostLow c).valve j = s.valve j := by
  rw [Dev.boostLow, Dev.report_valve, Dev.onValve_other _ _ _ h, Dev.senseVboost_valve]

@[simp] theorem Dev.boostLow_pairs : (s.boostLow c).pairs = s.pairs := by simp [Dev.boostLow]

@[simp] theorem Dev.boostLow_done : (s.boostLow c).done = s.done := by simp [Dev.boostLow]

@[simp] theorem Dev.boostLow_now : (s.boostLow c).now = s.now := by simp [Dev.boostLow]

@[simp] theorem Dev.boostLow_valveRes (waited delayed skipped : Bool) :
    (s.boostLow c).valveRes waited delayed skipped = s.valveRes waited delayed skipped := by
  obtain ⟨_, h⟩ := (s.senseVboost.onValve c fun v => { v with notReady := true }).report_shape (hPair (pairOf c)) (pairFunc (pairOf c)) .warn
    LG_VALVE_BOOST_NOT_READY (mkWord [(0, 16, s.senseVboost.vboost), (16, 1, (s.pair (pairOf c)).bpol.toNat)])
  rw [Dev.boostLow, h, ← s.senseVboost_valveRes]
  rfl

end

/-- The rail of a pair in a channel's hands, or free. -/
def Dev.setRail (s : Dev) (k : Fin 8) (r : Option Bool) : Dev := s.onPair k fun p => { p with rail := r }

section
variable (s : Dev) (k : Fin 8) (r : Option Bool)

@[simp] theorem Dev.setRail_valve (j : Fin 16) : (s.setRail k r).valve j = s.valve j := rfl

@[simp] theorem Dev.setRail_done : (s.setRail k r).done = s.done := rfl

@[simp] theorem Dev.setRail_now : (s.setRail k r).now = s.now := rfl

@[simp] theorem Dev.setRail_rail : ((s.setRail k r).pair k).rail = r := by rw [Dev.setRail, Dev.onPair_get]

@[simp] theorem Dev.setRail_boostReady : ((s.setRail k r).pair k).boostReady = (s.pair k).boostReady := by
  rw [Dev.setRail, Dev.onPair_get]

@[simp] theorem Dev.setRail_par (c : Fin 16) : (s.setRail k r).par c = s.par c := Dev.onPair_par fun _ => rfl

@[simp] theorem Dev.setRail_setRail (r' : Option Bool) : (s.setRail k r).setRail k r' = s.setRail k r' := by simp [Dev.setRail, Dev.onPair]

theorem Dev.setRail_senseVboost : (s.setRail k r).senseVboost = s.senseVboost.setRail k r := by
  have hat : (s.setRail k r).vboostAt = s.vboostAt := rfl
  unfold Dev.senseVboost
  rw [hat, Dev.setRail_now]
  split <;> rfl

end

theorem Dev.senseVboost_par (s : Dev) (c : Fin 16) : s.senseVboost.par c = s.par c := by rw [Dev.par, s.senseVboost_pairs, Dev.par]

theorem Dev.boostLow_par (s : Dev) (c j : Fin 16) : (s.boostLow c).par j = s.par j := by rw [Dev.par, s.boostLow_pairs, Dev.par]

theorem Dev.granted_high {s : Dev} {c : Fin 16} {w : VWait} (h : (s.pair (pairOf c)).boostReady ≤ s.senseVboost.vboost) :
    s.granted c w =
      let s := (s.senseVboost.setRail (pairOf c) (some (isOdd c))).onValve c fun v => { v with wait := none }
      (s.startProfile c false, some (okOrLate w.late, s.valveRes w.waited false false)) := if_pos h

theorem Dev.granted_low {s : Dev} {c : Fin 16} {w : VWait} (h : s.senseVboost.vboost < (s.pair (pairOf c)).boostReady) :
    s.granted c w =
      if (s.pair (pairOf c)).bpol then
        let s := ((s.boostLow c).setRail (pairOf c) none).onValve c fun v => { v with wait := none }
        (s.startProfile c true, some (okOrLate w.late, s.valveRes w.waited false true))
      else
        (((s.boostLow c).setRail (pairOf c) (some (isOdd c))).onValve c fun v => { v with wait := some { w with rail := false } }, none) :=
  if_neg (not_le.2 h)

/-- Below ready VBOOST, BPOL DELAY holds the rail and waits. -/
theorem Dev.granted_delay {s : Dev} {c : Fin 16} (w : VWait) (h : s.senseVboost.vboost < (s.pair (pairOf c)).boostReady)
    (hb : (s.pair (pairOf c)).bpol = false) :
    s.granted c w =
      (((s.boostLow c).setRail (pairOf c) (some (isOdd c))).onValve c fun v => { v with wait := some { w with rail := false } }, none) := by
  rw [Dev.granted_low h, if_neg (by simp [hb])]

section
variable {s : Dev} {c : Fin 16} (hp : s.par c = false) (w : VWait)
include hp

/-- At ready VBOOST a grant starts BOOST. -/
theorem Dev.granted_ready (h : (s.pair (pairOf c)).boostReady ≤ s.senseVboost.vboost) :
    s.granted c w =
      ((s.senseVboost.setRail (pairOf c) (some (isOdd c))).onValve c fun v => ({ v with wait := none } : Valve).started s.now false,
        some (okOrLate w.late, s.valveRes w.waited false false)) := by
  have hpar (f : Valve → Valve) : ((s.senseVboost.setRail (pairOf c) (some (isOdd c))).onValve c f).par c = false := by
    have hsame := s.senseVboost.setRail_par (pairOf c) (some (isOdd c)) c
    rw [s.senseVboost_par, hp] at hsame
    exact hsame
  rw [Dev.granted_high h]
  simp only [Dev.startProfile_eq (hpar _), Dev.onValve_onValve, Dev.onValve_now, Dev.setRail_now, Dev.senseVboost_now,
    ← s.senseVboost_valveRes]
  rfl

/-- Below it BPOL SKIP starts the profile without BOOST. -/
theorem Dev.granted_skip (h : s.senseVboost.vboost < (s.pair (pairOf c)).boostReady) (hb : (s.pair (pairOf c)).bpol) :
    s.granted c w =
      (((s.boostLow c).setRail (pairOf c) none).onValve c fun v => ({ v with wait := none } : Valve).started s.now true,
        some (okOrLate w.late, s.valveRes w.waited false true)) := by
  have hpar (f : Valve → Valve) : (((s.boostLow c).setRail (pairOf c) none).onValve c f).par c = false := by
    have hsame := (s.boostLow c).setRail_par (pairOf c) none c
    rw [s.boostLow_par, hp] at hsame
    exact hsame
  rw [Dev.granted_low h]
  simp only [hb, if_true, Dev.startProfile_eq (hpar _), Dev.onValve_onValve, Dev.onValve_now, Dev.setRail_now, Dev.boostLow_now,
    ← s.boostLow_valveRes c]
  rfl

end

end Sys2Proof.Machine
end

section
/-! The boost rail's return to a pair (08 R238, R242), and the frame of the valve operations: what one pair's operations leave of the rest of
the device. -/

namespace Sys2Proof.Machine

/-! ## The rail's return (08 R238) -/

section
variable {s : Dev} {c : Fin 16}

theorem Dev.finishCmd_shape (s : Dev) (d : Option Desc) (st : Status) (res : DWord) :
    ∃ ws g dn, s.finishCmd d st res = { s with waits := ws, log := g, done := dn } := by
  cases d with
  | none => exact ⟨_, _, _, rfl⟩
  | some d =>
    obtain ⟨g, dn, h⟩ := s.finish_shape 0x62 d st res []
    exact ⟨_, g, dn, h⟩

/-- With no completion given up, the end of a descriptor that waits answers it. -/
theorem Dev.finish_done {s : Dev} {op : Nat} {d : Desc} {st : Status} {res : DWord} {bulk : List (Nat × List Byte)}
    (h : ∀ q ∈ s.waits, q.ghost = false) : (s.finish op d st res bulk).done = s.done ++ [answerOf d st res bulk] := by
  rw [Dev.finish_calm _ _ _ _ _ _ h]

theorem Dev.finishCmd_done {s : Dev} {d : Desc} {st : Status} {res : DWord} (h : ∀ q ∈ s.waits, q.ghost = false) :
    (s.finishCmd (some d) st res).done = s.done ++ [answerOf d st res []] := Dev.finish_done h

@[simp] theorem Dev.finishCmd_valve (s : Dev) (d : Option Desc) (st : Status) (res : DWord) (j : Fin 16) :
    (s.finishCmd d st res).valve j = s.valve j := by
  obtain ⟨_, _, _, h⟩ := s.finishCmd_shape d st res; rw [h]

@[simp] theorem Dev.finishCmd_pairs (s : Dev) (d : Option Desc) (st : Status) (res : DWord) : (s.finishCmd d st res).pairs = s.pairs := by
  obtain ⟨_, _, _, h⟩ := s.finishCmd_shape d st res; rw [h]

@[simp] theorem Dev.finishCmd_vboost (s : Dev) (d : Option Desc) (st : Status) (res : DWord) : (s.finishCmd d st res).vboost = s.vboost := by
  obtain ⟨_, _, _, h⟩ := s.finishCmd_shape d st res; rw [h]

/-- A grant changes no other channel. -/
theorem Dev.granted_other {j : Fin 16} (hp : s.par c = false) (w : VWait) (h : j ≠ c) : (s.granted c w).1.valve j = s.valve j := by
  by_cases hr : (s.pair (pairOf c)).boostReady ≤ s.senseVboost.vboost
  · rw [Dev.granted_ready hp w hr, Dev.onValve_other _ _ _ h, Dev.setRail_valve, Dev.senseVboost_valve]
  · cases hb : (s.pair (pairOf c)).bpol
    · rw [Dev.granted_delay w (not_le.1 hr) hb, Dev.onValve_other _ _ _ h, Dev.setRail_valve, Dev.boostLow_other _ _ h]
    · rw [Dev.granted_skip hp w (not_le.1 hr) hb, Dev.onValve_other _ _ _ h, Dev.setRail_valve, Dev.boostLow_other _ _ h]

/-- A waiting command of a channel is granted the rail, and completes unless it waits on. -/
def Dev.grantWaiting (s : Dev) (c : Fin 16) (w : VWait) : Dev :=
  match (s.granted c w).2 with
  | some x => (s.granted c w).1.finishCmd w.d x.1 x.2
  | none => (s.granted c w).1

theorem Dev.grantWaiting_valve (s : Dev) (c : Fin 16) (w : VWait) (j : Fin 16) : (s.grantWaiting c w).valve j = (s.granted c w).1.valve j := by
  unfold Dev.grantWaiting
  split
  · exact Dev.finishCmd_valve ..
  · rfl

/-- A free rail goes to nobody while the partner does not wait for it. -/
theorem Dev.railFree_idle (hq : ∀ w, (s.valve (partnerOf c)).wait = some w → w.rail = false) :
    s.railFree (pairOf c) c = s.setRail (pairOf c) none := by
  unfold Dev.railFree
  simp only [Dev.onPair_valves]
  split
  · next w h => exact if_neg (by simp [hq w h])
  · rfl

/-- A partner that waits for the rail is granted it. -/
theorem Dev.railFree_waits {w : VWait} (hq : (s.valve (partnerOf c)).wait = some w) (hw : w.rail) :
    s.railFree (pairOf c) c = (s.setRail (pairOf c) none).grantWaiting (partnerOf c) { w with waited := true } := by
  unfold Dev.railFree
  simp only [Dev.onPair_valves, hq, hw, if_true]
  rfl

/-- The channel that leaves the rail is not changed by what its partner is granted. -/
theorem Dev.railFree_self (hp : s.par c = false) : (s.railFree (pairOf c) c).valve c = s.valve c := by
  by_cases hq : ∀ w, (s.valve (partnerOf c)).wait = some w → w.rail = false
  · rw [Dev.railFree_idle hq, Dev.setRail_valve]
  · push Not at hq
    obtain ⟨w, hq, hw⟩ := hq
    have hpart : (s.setRail (pairOf c) none).par (partnerOf c) = false := by rw [Dev.setRail_par, Dev.par_partnerOf, hp]
    rw [Dev.railFree_waits hq (by simpa using hw), Dev.grantWaiting_valve, Dev.granted_other hpart _ (partnerOf_ne c).symm, Dev.setRail_valve]

/-- A partner that waits for the rail and finds VBOOST ready starts its BOOST. -/
theorem Dev.railFree_boosts {w : VWait} (hp : s.par c = false) (hq : (s.valve (partnerOf c)).wait = some w) (hw : w.rail)
    (hr : (s.pair (pairOf c)).boostReady ≤ s.senseVboost.vboost) :
    s.railFree (pairOf c) c =
      ((s.senseVboost.setRail (pairOf c) (some (!isOdd c))).onValve (partnerOf c)
        fun v => ({ v with wait := none } : Valve).started s.now false).finishCmd w.d (okOrLate w.late) (s.valveRes true false false) := by
  have hpart : (s.setRail (pairOf c) none).par (partnerOf c) = false := by rw [Dev.setRail_par, Dev.par_partnerOf, hp]
  have hready : ((s.setRail (pairOf c) none).pair (pairOf (partnerOf c))).boostReady ≤ (s.setRail (pairOf c) none).senseVboost.vboost := by
    rw [pairOf_partnerOf, Dev.setRail_boostReady, Dev.setRail_senseVboost]
    exact hr
  rw [Dev.railFree_waits hq hw, Dev.grantWaiting, Dev.granted_ready hpart _ hready, Dev.setRail_senseVboost]
  simp only [pairOf_partnerOf, Dev.setRail_setRail, isOdd_partnerOf, Dev.setRail_now]
  rfl

theorem Dev.leaveRail_not {b : Bool} (h : (s.pair (pairOf c)).rail ≠ some (isOdd c)) : s.leaveRail c b = s := if_neg fun hc => h hc.1

/-- The end of a channel's BOOST, kept for its TCLK (08 R254). -/
def Dev.boostEnds (s : Dev) (c : Fin 16) (b : Bool) : Dev :=
  s.onPair (pairOf c) fun p => { p with freed := if b then some (isOdd c, s.now) else p.freed }

theorem Dev.boostEnds_par (s : Dev) (c j : Fin 16) (b : Bool) : (s.boostEnds c b).par j = s.par j := Dev.onPair_par fun _ => rfl

theorem Dev.leaveRail_of {b : Bool} (h : (s.pair (pairOf c)).rail = some (isOdd c)) (hw : (s.valve c).wait = none) :
    s.leaveRail c b = (s.boostEnds c b).railFree (pairOf c) c := if_pos ⟨h, by simp [hw]⟩

theorem Dev.leaveRail_self (hp : s.par c = false) (b : Bool) : (s.leaveRail c b).valve c = s.valve c := by
  unfold Dev.leaveRail
  split
  · exact Dev.railFree_self (s := s.boostEnds c b) (by rw [Dev.boostEnds_par, hp])
  · rfl

theorem Dev.cancelWait_none (st : Status) (h : (s.valve c).wait = none) : s.cancelWait c st = s := by simp only [Dev.cancelWait, h]

/-- What waits for the rail leaves no rail, and its descriptor completes. -/
theorem Dev.cancelWait_rail {w : VWait} {a : Desc} (st : Status) (h : (s.valve c).wait = some w) (hw : w.rail) (hd : w.d = some a) :
    s.cancelWait c st = (s.onValve c fun v => { v with wait := none }).finish 0x62 a st 0 := by
  simp only [Dev.cancelWait, h, hw, if_true, hd, Dev.finishCmd]

theorem Dev.cancelWait_self (hp : s.par c = false) (st : Status) : (s.cancelWait c st).valve c = { s.valve c with wait := none } := by
  unfold Dev.cancelWait
  split
  · next h => rw [← h]
  · next w h =>
    dsimp only
    have hget : (((s.onValve c fun v => { v with wait := none }).finishCmd w.d st 0).valve c) = { s.valve c with wait := none } := by
      rw [Dev.finishCmd_valve, Dev.onValve_get]
    have hpar : ((s.onValve c fun v => { v with wait := none }).finishCmd w.d st 0).par c = false := by
      rw [Dev.par, Dev.finishCmd_pairs]
      exact hp
    split
    · exact hget
    · rw [Dev.leaveRail_self hpar, hget]

end

/-! ## What a pair's operations leave of the device -/

/-- The device without what the operations of valve channels change. -/
def Dev.aside (s : Dev) : Dev :=
  { s with fresh := 0, waits := [], done := [], raised := [], valves := Vector.replicate 16 {}, pairs := Vector.replicate 8 {}, vboost := 0
           vboostAt := none, log := Log.reset }

/-- What the operations of pair `k` leave: the other pairs and their channels, the pair's own configuration, the rest of the device, and
everything that was answered, raised or handled; what they add to the errors are warnings. -/
structure Dev.PairOnly (k : Fin 8) (s t : Dev) : Prop where
  valves : ∀ j : Fin 16, pairOf j ≠ k → t.valve j = s.valve j
  pairs : ∀ i : Fin 8, i ≠ k → t.pair i = s.pair i
  par : (t.pair k).par = (s.pair k).par
  waits : t.waits ⊆ s.waits
  done : s.done ⊆ t.done
  raised : s.raised ⊆ t.raised
  handled : ∀ src, s.handling src → t.handling src
  warned : ∀ e ∈ t.log.errs, e ∈ s.log.errs ∨ e.cls = .warn
  aside : t.aside = s.aside

namespace Dev.PairOnly

variable {k : Fin 8} {c : Fin 16} {s t v : Dev}

theorem after (h : PairOnly k t v) (h' : PairOnly k s t) : PairOnly k s v where
  valves j hj := (h.valves j hj).trans (h'.valves j hj)
  pairs i hi := (h.pairs i hi).trans (h'.pairs i hi)
  par := h.par.trans h'.par
  waits := List.Subset.trans h.waits h'.waits
  done := List.Subset.trans h'.done h.done
  raised := List.Subset.trans h'.raised h.raised
  handled src := h.handled src ∘ h'.handled src
  warned e he := (h.warned e he).elim (h'.warned e) .inr
  aside := h.aside.trans h'.aside

theorem refl (k : Fin 8) (s : Dev) : PairOnly k s s :=
  ⟨fun _ _ => rfl, fun _ _ => rfl, rfl, List.Subset.refl _, List.Subset.refl _, List.Subset.refl _, fun _ => id, fun _ => .inl, rfl⟩

theorem onValve (hk : pairOf c = k) (f : Valve → Valve) : PairOnly k s (s.onValve c f) :=
  { refl k s with valves := fun _ hj => Dev.onValve_other _ _ _ fun h => hj (h ▸ hk) }

theorem onPair {f : Pair → Pair} (h : ∀ p, (f p).par = p.par) : PairOnly k s (s.onPair k f) :=
  { refl k s with
    pairs := fun _ hi => vmod_other _ _ _ _ hi
    par := by rw [Dev.onPair_get, h] }

theorem draw : PairOnly k s s.draw.2 := { refl k s with }

theorem senseVboost : PairOnly k s s.senseVboost := by
  obtain ⟨_, _, _, h⟩ := s.senseVboost_shape
  rw [h]
  exact { refl k s with }

theorem report (src : Word) (f : Nat) (code : BitVec 11) (arg : Word) : PairOnly k s (s.report src f .warn code arg).1 := by
  have hhandled (h : Word) (hs : s.handling h) := Dev.handling_report hs src f .warn code arg
  have hwarned (e) (he : e ∈ (s.report src f .warn code arg).1.log.errs) := (Dev.mem_report_errs he).imp_right And.left
  obtain ⟨g, h⟩ := s.report_shape src f .warn code arg
  rw [h] at hhandled hwarned ⊢
  exact { refl k s with handled := hhandled, warned := hwarned }

theorem finishCmd (d : Option Desc) (st : Status) (res : DWord) : PairOnly k s (s.finishCmd d st res) := by
  cases d with
  | none => exact refl k s
  | some d =>
    have hout (w : Dev) (hw : PairOnly k s w) (q : QDesc) : PairOnly k s (w.ends q st res []) := by
      unfold Dev.ends
      split
      · split
        · exact hw
        · exact (report ..).after hw
      · unfold Dev.conclude
        split
        · exact { hw with done := List.Subset.trans hw.done (List.subset_append_left ..) }
        · exact hw
    have herase : PairOnly k s { s with waits := s.waits.eraseP fun q => q.op == 0x62 && q.d == d } :=
      { refl k s with waits := List.eraseP_subset }
    exact hout _ herase _

end Dev.PairOnly

section
variable {k : Fin 8} {c : Fin 16} (s : Dev)

theorem Dev.onHalves_only (hk : pairOf c = k) (f : Valve → Valve) : PairOnly k s (s.onHalves c f) := by
  unfold Dev.onHalves
  split
  · exact .after (.onValve (by rw [pairOf_oddOf, hk]) _) (.onValve (by rw [pairOf_evenOf, hk]) _)
  · exact .onValve hk _

theorem Dev.newCode_only (hk : pairOf c = k) : PairOnly k s (s.newCode c) := .onValve hk _

theorem Dev.SlowsIn.only {s t : Dev} (h : SlowsIn k s t) : PairOnly k s t := by
  have hvalves (j : Fin 16) (hj : pairOf j ≠ k) : t.valve j = s.valve j := (h.valve j).resolve_right fun hs => hj hs.1
  have hhandled := h.handled
  have hwarned (e) (he : e ∈ t.log.errs) := (h.errs e he).imp_right And.left
  obtain ⟨vs, g, rfl⟩ := h.rest
  exact { PairOnly.refl k s with valves := hvalves, handled := hhandled, warned := hwarned }

theorem Dev.pairSync_only : PairOnly k s (s.pairSync k) := .after (.onPair fun p => p.gates_par _) (s.decays_slows k).only

theorem Dev.toPhase_only (hk : pairOf c = k) (nxt : VPhase) (above : Bool) : PairOnly k s (s.toPhase c nxt above) := by
  have hcode : PairOnly k s ((s.onValve c fun v => { v with phase := nxt, ripple := none }).newCode c) :=
    .after (Dev.newCode_only _ hk) (.onValve hk _)
  unfold Dev.toPhase
  dsimp only
  split
  · exact .after (Dev.onHalves_only _ hk _) hcode
  · exact .after (Dev.onHalves_only _ hk _) hcode

theorem Dev.startProfile_only (hk : pairOf c = k) (skip : Bool) : PairOnly k s (s.startProfile c skip) :=
  .after (Dev.newCode_only _ hk) (.after (Dev.onHalves_only _ hk _) (.onValve hk _))

theorem Dev.granted_only (hk : pairOf c = k) (w : VWait) : PairOnly k s (s.granted c w).1 := by
  subst hk
  have hlow : PairOnly (pairOf c) s (s.boostLow c) := .after (.report ..) (.after (.onValve rfl _) .senseVboost)
  by_cases hr : (s.pair (pairOf c)).boostReady ≤ s.senseVboost.vboost
  · rw [Dev.granted_high hr]
    exact .after (Dev.startProfile_only _ rfl _) (.after (.onValve rfl _) (.after (.onPair fun _ => rfl) .senseVboost))
  · rw [Dev.granted_low (not_le.1 hr)]
    split
    · exact .after (Dev.startProfile_only _ rfl _) (.after (.onValve rfl _) (.after (.onPair fun _ => rfl) hlow))
    · exact .after (.onValve rfl _) (.after (.onPair fun _ => rfl) hlow)

theorem Dev.railFree_only (hk : pairOf c = k) : PairOnly k s (s.railFree k c) := by
  subst hk
  have hset : PairOnly (pairOf c) s (s.setRail (pairOf c) none) := .onPair fun _ => rfl
  by_cases hq : ∀ w, (s.valve (partnerOf c)).wait = some w → w.rail = false
  · rwa [Dev.railFree_idle hq]
  · push Not at hq
    obtain ⟨w, hq, hw⟩ := hq
    rw [Dev.railFree_waits hq (by simpa using hw), Dev.grantWaiting]
    split
    · exact .after (.finishCmd ..) (.after (Dev.granted_only _ (pairOf_partnerOf c) _) hset)
    · exact .after (Dev.granted_only _ (pairOf_partnerOf c) _) hset

theorem Dev.leaveRail_only (hk : pairOf c = k) (b : Bool) : PairOnly k s (s.leaveRail c b) := by
  subst hk
  unfold Dev.leaveRail
  split
  · exact .after (Dev.railFree_only _ rfl) (.onPair fun _ => rfl)
  · exact .refl ..

theorem Dev.cancelWait_only (hk : pairOf c = k) (st : Status) : PairOnly k s (s.cancelWait c st) := by
  unfold Dev.cancelWait
  split
  · exact .refl ..
  · next w _ =>
    have hend : PairOnly k s ((s.onValve c fun v => { v with wait := none }).finishCmd w.d st 0) := .after (.finishCmd ..) (.onValve hk _)
    dsimp only
    split
    · exact hend
    · exact .after (Dev.leaveRail_only _ hk _) hend

theorem Dev.startOff_only (hk : pairOf c = k) : PairOnly k s (s.startOff c) := by
  unfold Dev.startOff
  dsimp only
  split
  · exact .after (Dev.leaveRail_only _ hk _) (.after (Dev.onHalves_only _ hk _) (.onValve hk _))
  · exact .refl ..

theorem Dev.valveOn_only (hk : pairOf c = k) (d : Option Desc) (late : Bool) : PairOnly k s (s.valveOn c d late).1 := by
  subst hk
  have hcancel := s.cancelWait_only (c := c) rfl .flushed
  unfold Dev.valveOn
  dsimp only
  split
  · exact .after (Dev.leaveRail_only _ rfl _) (.after (Dev.startProfile_only _ rfl _) hcancel)
  · split
    · exact .after (.onValve rfl _) hcancel
    · split
      · exact .after (Dev.railFree_only _ rfl) (.after (Dev.granted_only _ rfl _) hcancel)
      · exact .after (Dev.granted_only _ rfl _) hcancel

theorem Dev.valveSp_only (hk : pairOf c = k) (sp : Nat) : PairOnly k s (s.valveSp c sp) := by
  unfold Dev.valveSp
  dsimp only
  split
  · exact .refl ..
  · split
    · exact .after (Dev.newCode_only _ hk) (.onValve hk _)
    · exact .onValve hk _

theorem Dev.valveDo_only (hk : pairOf c = k) (d : Desc) (late : Bool) : PairOnly k s (s.valveDo c d late).1 := by
  have hend : PairOnly k s (s.endFail c) := .onValve hk _
  unfold Dev.valveDo
  dsimp only
  split
  · exact hend
  · have hsp : PairOnly k s (match setpOf d with | some x => (s.endFail c).valveSp c x | none => s.endFail c) := by
      split
      · exact .after (Dev.valveSp_only _ hk _) hend
      · exact hend
    split
    · exact .after (Dev.valveOn_only _ hk _ _) hsp
    · exact .after (Dev.startOff_only _ hk) (.after (Dev.cancelWait_only _ hk _) hsp)

theorem Dev.fireArmed_only (hk : pairOf c = k) (late : Bool) : PairOnly k s (s.fireArmed c late) := by
  unfold Dev.fireArmed
  split
  · exact .refl ..
  · next d _ =>
    have hdo : PairOnly k s ((s.onValve c fun v => { v with armed := none }).valveDo c d late).1 :=
      .after (Dev.valveDo_only _ hk _ _) (.onValve hk _)
    dsimp only
    split
    · exact .after (.finishCmd (some d) _ _) hdo
    · exact hdo

theorem Dev.pairTick_only : PairOnly k s (s.pairTick k) := by
  have heven := pairOf_evenOf k
  have hodd := pairOf_oddOf k
  have hfire {t : Dev} (m : Bool) (c : Fin 16) (hk : pairOf c = k) (h : PairOnly k s t) : PairOnly k s (if m then t.fireArmed c false else t) := by
    split
    · exact .after (Dev.fireArmed_only _ hk _) h
    · exact h
  unfold Dev.pairTick
  dsimp only
  split
  · exact .refl ..
  · exact .after (Dev.pairSync_only _) (.after (.onValve hodd _) (.after (.onValve heven _)
      (hfire _ _ hodd (hfire _ _ heven (.onPair fun _ => rfl)))))

end

end Sys2Proof.Machine
end

section
/-! VALVE_CMD and the other descriptors of class 0x6 (08 R229 to R250). -/

namespace Sys2Proof.Machine

/-! ## What the operations of a pair do not reach -/

section
variable {k : Fin 8} {s t : Dev} (h : Dev.PairOnly k s t)
include h

theorem Dev.PairOnly.valveRes (waited delayed skipped : Bool) : t.valveRes waited delayed skipped = s.valveRes waited delayed skipped :=
  (congrArg (fun v => Dev.valveRes v waited delayed skipped) h.aside :)

theorem Dev.PairOnly.held (f : Nat) : t.held f = s.held f := (congrArg (fun v => Dev.held v f) h.aside :)

theorem Dev.PairOnly.now : t.now = s.now := (congrArg Dev.now h.aside :)

end

/-! ## A change of one channel alone -/

/-- A descriptor that changes one channel is answered, and nothing else changes. -/
theorem State.desc_onValve {s : State} {i : OpInfo} {d : Desc} {o : Obj} {body : Obj → Dev → Dev × Res} {c : Fin 16} {f : Valve → Valve}
    {st : Status} {res : DWord} (h : s.admits i d o)
    (hb : body o (s.dev.taken i.op d) = ((s.dev.taken i.op d).onValve c f, .done st res)) :
    (s.desc i d body).answered d st res ∧ s.becomes (s.desc i d body) (Dev.withValve s.dev c (f (s.dev.valve c))) :=
  ⟨State.desc_answered h hb, by rw [State.desc_done h hb]; rfl⟩

/-! ## VALVE_CONFIG, VALVE_PROFILE, VALVE_PROP_SET, SADDLE_CONFIG, VALVE_ACK and VALVE_STATUS_GET -/

section
variable {s : Dev} {d : Desc} {c : Fin 16}

theorem doValveConfig_range (h : d.bits 8 0 16 < 50 ∨ d.bits 10 0 8 = 0 ∨ d.bits 18 0 16 ≤ d.bits 16 0 16) :
    doValveConfig d c s = refuse s .range := if_pos (by tauto)

theorem doValveConfig_stores (ho : s.oddPar c = false) (hq : (s.valve c).quiet) (hlo : 50 ≤ d.bits 8 0 16) (hhi : d.bits 8 0 16 ≤ 1000)
    (htoff : d.bits 10 0 8 ≠ 0) (hblank : d.bits 11 0 8 ≠ 0) (hblank' : d.bits 11 0 8 ≤ 40) (hkink : d.bits 13 0 8 ≠ 0)
    (hfail : codeOf (d.bits 14 0 16) (d.bits 8 0 16) (s.par c) ≤ 1023) (hwin : d.bits 16 0 16 < d.bits 18 0 16) (hshort : d.bits 20 0 16 ≤ 400) :
    doValveConfig d c s = (s.onValve c fun v => { v with
      rshunt := d.bits 8 0 16, toff := d.bits 10 0 8, tblank := d.bits 11 0 8, fail := d.bits 12 0 2, kinkEn := d.flag 12 2
      kinkTh := d.bits 13 0 8, failI := d.bits 14 0 16, kinkStart := d.bits 16 0 16, kinkEnd := d.bits 18 0 16
      shortT := d.bits 20 0 16, openT := d.bits 22 0 16 }, .ok) := by
  rw [doValveConfig, if_neg (by omega), if_neg (by simp [ho]), if_neg (by simp [hq])]

theorem doValveProfile_stores (ho : s.oddPar c = false)
    (hcodes : ∀ i ∈ [d.bits 8 0 16, d.bits 12 0 16, d.bits 16 0 16, d.bits 26 0 16], codeOf i (s.valve c).rshunt (s.par c) ≤ 1023)
    (hmax : d.bits 10 0 16 ≤ 10000) (hpeak : d.bits 10 0 16 = 0 ∨ d.bits 14 0 16 = 0 ∨ d.bits 12 0 16 ≤ d.bits 8 0 16)
    (hdith : d.bits 22 0 16 = 0 ∨ 50 ≤ d.bits 22 0 16 ∧ d.bits 22 0 16 ≤ 400) (hamp : d.bits 24 0 8 ≤ 25) :
    doValveProfile d c s = (s.onValve c fun v => { v with prof := profileOf d }, .ok) := by
  have hany : ([(profileOf d).iBoost, (profileOf d).iPeak, (profileOf d).iHold, (profileOf d).propMax].any
      fun i => 1023 < codeOf i (s.valve c).rshunt (s.par c)) = false :=
    List.any_eq_false.2 fun i hi => by simp [hcodes i hi]
  rw [doValveProfile, if_neg, if_neg (by simp [ho])]
  simp only [hany, Bool.false_or, Bool.or_eq_true, Bool.and_eq_true, decide_eq_true_eq, bne_iff_ne]
  simp only [profileOf]
  omega

theorem doValvePropSet_range (h : 1023 < codeOfSp (d.bits 8 0 32) (s.valve c).rshunt (s.par c)) : doValvePropSet d c s = refuse s .range :=
  if_pos h

theorem doValvePropSet_conflict (h : codeOfSp (d.bits 8 0 32) (s.valve c).rshunt (s.par c) ≤ 1023) (ho : (s.ownerOf (hValve c)).isSome) :
    doValvePropSet d c s = refuse s .conflict := by
  rw [doValvePropSet, if_neg (not_lt.2 h), if_pos (by simp [ho])]

/-- A set-point outside the fail positions is stored, and a channel in PROP takes it at once (08 R234, R236). -/
theorem Dev.valveSp_eq (sp : Nat) (hf : (s.valve c).failpos = false) :
    s.valveSp c sp = s.onValve c fun v => { v with
      sp, code := if v.phase = .prop then Valve.propCode { v with sp } (s.par c) else v.code } := by
  have hcode : (s.onValve c fun v => { v with sp }).newCode c =
      s.onValve c fun v => { v with sp, code := Valve.phaseCode { v with sp } (s.par c) } := Dev.onValve_onValve ..
  rw [Dev.valveSp, if_neg (by simp [hf])]
  split_ifs with hprop
  · rw [hcode]
    exact Dev.onValve_congr (by simp [Valve.phaseCode, hprop])
  · exact Dev.onValve_congr (by simp [hprop])

theorem doValvePropSet_stores (h : codeOfSp (d.bits 8 0 32) (s.valve c).rshunt (s.par c) ≤ 1023) (hp : s.oddPar c = false)
    (ho : (s.ownerOf (hValve c)).isSome = false) (hf : (s.valve c).failpos = false) :
    doValvePropSet d c s = (s.onValve c fun v => { v with
      sp := d.bits 8 0 32
      code := if v.phase = .prop then Valve.propCode { v with sp := d.bits 8 0 32 } (s.par c) else v.code },
      .done .ok (mkRes [(8, 0, 32, (s.valve c).sp)])) := by
  rw [doValvePropSet, if_neg (not_lt.2 h), if_neg (by simp [hp, ho]), Dev.valveSp_eq _ hf]

theorem doValveStatusGet_answers (h : s.oddPar c = false) :
    doValveStatusGet c s = (s, .done .ok (mkRes [(8, 0, 32, (s.valve c).status.toNat), (12, 0, 16, (s.valve c).closeT.getD 0xFFFF),
      (14, 0, 16, (s.valve c).starts.toNat)])) := if_neg (by simp [h])

theorem doValveStatusGet_conflict (h : s.oddPar c) : doValveStatusGet c s = refuse s .conflict := if_pos h

theorem doValveAck_conflict (h : (s.valve c).phase ≠ .fault) : doValveAck c s = refuse s .conflict := by
  rw [doValveAck, if_pos h, ite_self]

/-- The channels of a pair are quiet when one of them and its partner are. -/
theorem Dev.pair_quiet (s : Dev) (c : Fin 16) : ((s.valve (evenOf (pairOf c))).quiet && (s.valve (oddOf (pairOf c))).quiet) =
    ((s.valve c).quiet && (s.valve (partnerOf c)).quiet) := by
  obtain ⟨-, he, ho⟩ | ⟨-, he, ho⟩ := channels_of_pair c
  · rw [he, ho]
  · rw [he, ho, Bool.and_comm]

section
variable (hbw : 10 ≤ d.bits 10 0 16) (hbw' : d.bits 10 0 16 ≤ 2000) (hrw : d.bits 12 0 16 ≤ 2000) (hbr : 96 ≤ d.bits 14 0 16)
  (hbr' : d.bits 14 0 16 ≤ 260)
include hbw hbw' hrw hbr hbr'

theorem doSaddleConfig_stores (hc : (s.valve c).quiet) (hq : (s.valve (partnerOf c)).quiet) :
    doSaddleConfig d (pairOf c) s = (s.onPair (pairOf c) fun p =>
      { p with par := d.flag 8 0, bpol := d.flag 8 1, boostWait := d.bits 10 0 16, readyWait := d.bits 12 0 16, boostReady := d.bits 14 0 16 },
      .ok) := by
  rw [doSaddleConfig, if_neg (by omega), s.pair_quiet, if_neg (by simp [hc, hq])]

theorem doSaddleConfig_busy (hc : (s.valve c).quiet = false) : doSaddleConfig d (pairOf c) s = refuse s .busy := by
  rw [doSaddleConfig, if_neg (by omega), s.pair_quiet, if_pos (by simp [hc])]

end

theorem decaySubst_is_no_fault : LG_VALVE_DECAY_SUBST ≠ LG_VALVE_OPEN ∧ LG_VALVE_DECAY_SUBST ≠ LG_VALVE_SHORT := by decide

/-- VALVE_ACK ends a channel's fault and its pair's handling of it (08 R250). -/
theorem doValveAck_acks (hp : s.par c = false) (h : (s.valve c).phase = .fault) :
    ∃ t, doValveAck c s = (t, .ok) ∧ (t.valve c).phase = .idle ∧ (t.valve c).cause = 0 ∧
      ∀ e ∈ t.log.errs, e.source = hPair (pairOf c) → e.code ≠ LG_VALVE_OPEN ∧ e.code ≠ LG_VALVE_SHORT := by
  obtain ⟨u, hu⟩ : ∃ u, u = (s.onValve c fun v => { v with chop := .none, phase := .idle, cause := 0 }).endErrOf (hPair (pairOf c))
    [LG_VALVE_OPEN, LG_VALVE_SHORT] := ⟨_, rfl⟩
  have hget : u.valve c = { s.valve c with chop := .none, phase := .idle, cause := 0 } := by
    rw [hu]
    exact Dev.onValve_get ..
  have hkeep : (u.pairSync (pairOf c)).valve c = u.valve c :=
    Dev.pairSync_valve_of_not_fast (by rw [hget]; exact Chop.noConfusion)
  refine ⟨u.pairSync (pairOf c), ?_, by rw [hkeep, hget], by rw [hkeep, hget], fun e he hsrc => ?_⟩
  · rw [doValveAck, if_neg (by simp [Dev.oddPar, hp]), if_neg (by simp [h]), Dev.onHalves_eq hp, Dev.onValve_onValve, hu]
  · rw [Dev.pairSync_eq, Dev.onPair_log] at he
    rcases (u.decays_slows (pairOf c)).errs e he with hmem | ⟨-, hcode⟩
    · rw [hu] at hmem
      have hold := (List.mem_filter.1 hmem).2
      simpa [hsrc] using hold
    · exact hcode ▸ decaySubst_is_no_fault

end

/-! ## VALVE_CMD (08 R242, R243, R247) -/

section
variable {s : Dev} {d : Desc} {c : Fin 16}

theorem Dev.endFail_eq_self (h : (s.valve c).failpos = false) : s.endFail c = s := by
  refine Dev.onValve_eq_self ?_
  rw [h, Bool.false_and, ← h]

theorem Dev.endFail_endFail (s : Dev) (c : Fin 16) : (s.endFail c).endFail c = s.endFail c := by
  simp only [Dev.endFail, Dev.onValve_onValve, Dev.onValve_power, Bool.and_assoc, Bool.and_self]

theorem setpOf_none (h : d.flag 8 2 = false) : setpOf d = none := by simp [setpOf, h]

theorem doValveCmd_owned (h : d.flag 8 2) (ho : (s.ownerOf (hValve c)).isSome)
    (hr : codeOfSp (d.bits 12 0 32) (s.valve c).rshunt (s.par c) ≤ 1023) : doValveCmd d c s = refuse s .conflict := by
  have hset : setpOf d = some (d.bits 12 0 32) := by simp [setpOf, h]
  have hrange : ((setpOf d).any fun x => 1023 < codeOfSp x (s.valve c).rshunt (s.par c)) = false := by
    rw [hset, Option.any_some, decide_eq_false (not_lt.2 hr)]
  rw [doValveCmd, if_neg (by rw [hrange]; exact Bool.false_ne_true), if_pos (by simp [hset, ho])]

section
variable (hp : s.par c = false) (hset : d.flag 8 2 = false)
include hp hset

/-- A command to a channel in FAULT has no effect but for the end of a fail position. -/
theorem doValveCmd_fault (h : (s.valve c).phase = .fault) :
    doValveCmd d c s = (s.endFail c, if d.flag 8 0 then .done .busy else .done .ok (s.valveRes false false false)) := by
  rw [doValveCmd, setpOf_none hset, if_neg (by simp), if_neg (by simp [Dev.oddPar, hp]), if_pos h]

variable (hphase : (s.valve c).phase ≠ .fault)
include hphase

/-- A command that acts and completes. -/
theorem doValveCmd_completes {v : Dev} {st : Status} {res : DWord} (harm : (s.valve c).armed = none) (hdef : d.flag 8 1 = false)
    (h : (s.endFail c).valveDo c d false = (v, some (st, res))) : doValveCmd d c s = (v.pairSync (pairOf c), .done st res) := by
  rw [doValveCmd, setpOf_none hset, if_neg (by simp), if_neg (by simp [Dev.oddPar, hp]), if_neg hphase]
  simp only [harm, hdef, Bool.false_and, Bool.false_eq_true, if_false, Dev.valveAct, h]

/-- A command that acts and waits for the rail or for VBOOST. -/
theorem doValveCmd_waits {v : Dev} (harm : (s.valve c).armed = none) (hdef : d.flag 8 1 = false)
    (h : (s.endFail c).valveDo c d false = (v, none)) : doValveCmd d c s = (v.pairSync (pairOf c), .wait) := by
  rw [doValveCmd, setpOf_none hset, if_neg (by simp), if_neg (by simp [Dev.oddPar, hp]), if_neg hphase]
  simp only [harm, hdef, Bool.false_and, Bool.false_eq_true, if_false, Dev.valveAct, h]

theorem doValveCmd_arms (harm : (s.valve c).armed = none) (hdef : d.flag 8 1) (htb : s.tb.valid) :
    doValveCmd d c s = ((s.endFail c).onValve c fun v => { v with armed := some d }, .wait) := by
  rw [doValveCmd, setpOf_none hset, if_neg (by simp), if_neg (by simp [Dev.oddPar, hp]), if_neg hphase]
  simp only [harm, hdef, Bool.true_and]
  exact if_pos htb

/-- A command replaces the one that is armed, which completes with ST_FLUSHED. -/
theorem doValveCmd_rearms {a : Desc} (harm : (s.valve c).armed = some a) (hdef : d.flag 8 1) (htb : s.tb.valid) :
    doValveCmd d c s = ((((s.onValve c fun v => { v with armed := none }).finish 0x62 a .flushed 0).endFail c).onValve c
      fun v => { v with armed := some d }, .wait) := by
  have hvalid : (((s.onValve c fun v => { v with armed := none }).finish 0x62 a .flushed 0).endFail c).tb.valid := by
    rwa [Dev.endFail, Dev.onValve_tb, Dev.finish_tb, Dev.onValve_tb]
  rw [doValveCmd, setpOf_none hset, if_neg (by simp), if_neg (by simp [Dev.oddPar, hp]), if_neg hphase]
  simp only [harm, hdef, Bool.true_and]
  exact if_pos hvalid

end

section
variable (hset : d.flag 8 2 = false) (hphase : (s.valve c).phase ≠ .fault) (late : Bool)
include hset hphase

theorem Dev.valveDo_on (hf : (s.valve c).failpos = false) (hon : d.flag 8 0) : s.valveDo c d late = s.valveOn c (some d) late := by
  rw [Dev.valveDo, Dev.endFail_eq_self hf]
  simp only [hphase, if_false, setpOf_none hset, hon, if_true]

/-- An OFF ends what waits, and what runs. -/
theorem Dev.valveDo_off (hoff : d.flag 8 0 = false) :
    s.valveDo c d late = ((((s.endFail c).cancelWait c .flushed).startOff c), some (okOrLate late, s.valveRes false false false)) := by
  have hres : (((s.endFail c).cancelWait c .flushed).startOff c).valveRes false false false = s.valveRes false false false :=
    (Dev.PairOnly.after (Dev.startOff_only _ rfl) (.after (Dev.cancelWait_only _ rfl _) (.onValve rfl _))).valveRes ..
  have hend : ((s.endFail c).valve c).phase ≠ .fault := by
    rw [Dev.endFail, Dev.onValve_get]
    exact hphase
  rw [Dev.valveDo]
  simp only [hend, if_false, setpOf_none hset, hoff, Bool.false_eq_true, hres]

end

/-! ### ON (08 R236, R238, R239) -/

section
variable (hwait : (s.valve c).wait = none) (od : Option Desc) (late : Bool)
include hwait

theorem Dev.valveOn_noBoost (h : (s.valve c).prof.tBoostMax = 0) :
    s.valveOn c od late = ((s.startProfile c false).leaveRail c, some (okOrLate late, s.valveRes false false false)) := by
  have hres : (s.startProfile c false).valveRes false false false = s.valveRes false false false := (Dev.startProfile_only s rfl false).valveRes ..
  simp only [Dev.valveOn, Dev.cancelWait_none _ hwait, h, if_true, hres]

variable (hboost : (s.valve c).prof.tBoostMax ≠ 0)
include hboost

/-- With the rail in the partner's hands an ON waits for it. -/
theorem Dev.valveOn_waits (hr : (s.pair (pairOf c)).rail = some (!isOdd c))
    (hf : (s.pair (pairOf c)).freed ≠ some (!isOdd c, s.now)) :
    s.valveOn c od late = (s.onValve c fun v => { v with wait := some { d := od, rail := true, late } }, none) := by
  simp only [Dev.valveOn, Dev.cancelWait_none _ hwait, hboost, if_false, hr, if_true, beq_eq_false_iff_ne.2 hf]

variable (hr : (s.pair (pairOf c)).rail = none) (hf : (s.pair (pairOf c)).freed ≠ some (!isOdd c, s.now))
include hr hf

/-- An ON is granted the free rail. -/
theorem Dev.valveOn_granted :
    s.valveOn c od late =
      let r := s.granted c { d := od, rail := true, late }
      (if (r.1.pair (pairOf c)).rail.isNone then r.1.railFree (pairOf c) c else r.1, r.2) := by
  simp only [Dev.valveOn, Dev.cancelWait_none _ hwait, hboost, if_false, hr, beq_eq_false_iff_ne.2 hf, reduceCtorEq]

/-- A grant that keeps the rail. -/
theorem Dev.valveOn_keeps {v : Dev} {r : Option (Status × DWord)} {b : Bool} (hg : s.granted c { d := od, rail := true, late } = (v, r))
    (hv : (v.pair (pairOf c)).rail = some b) : s.valveOn c od late = (v, r) := by
  rw [Dev.valveOn_granted hwait od late hboost hr hf, hg]
  exact Prod.ext (if_neg (by simp [hv])) rfl

/-- A grant that gives the rail back to a pair in which nothing waits. -/
theorem Dev.valveOn_returns {v : Dev} {r : Option (Status × DWord)} (hg : s.granted c { d := od, rail := true, late } = (v, r))
    (hv : (v.pair (pairOf c)).rail = none) (hq : (v.valve (partnerOf c)).wait = none) :
    s.valveOn c od late = (v.setRail (pairOf c) none, r) := by
  rw [Dev.valveOn_granted hwait od late hboost hr hf, hg]
  refine Prod.ext ((if_pos (by simp [hv])).trans (Dev.railFree_idle fun w hw => ?_)) rfl
  rw [hq] at hw
  cases hw

end

end

end Sys2Proof.Machine
end

section
/-! The outcomes of VALVE_CMD by what stands in its way (08 R236, R238, R239, R242, R243), and the descriptors of class 0x6 together. -/

namespace Sys2Proof.Machine

/-! ## How a VALVE_CMD ends -/

section
variable {s : State} {d : Desc} {c : Fin 16} {v : Dev} (h : s.admits opValveCmd d (.valve c))
include h

theorem execValveCmd_done {st : Status} {res : DWord} (hb : doValveCmd d c (s.dev.taken 0x62 d) = (v, .done st res)) :
    ∃ t, exec (.valveCmd d) s = .next t ∧ t.answered d st res ∧ s.onlyDev t ∧ t.dev.valves = v.valves ∧ t.dev.pairs = v.pairs ∧
      t.dev.done = v.done ++ [answerOf d st res []] := by
  refine ⟨_, rfl, State.desc_answered (body := onValveObj (doValveCmd d)) h hb, ⟨rfl, rfl, rfl⟩, ?_⟩
  rw [State.desc_done (body := onValveObj (doValveCmd d)) h hb]
  exact ⟨rfl, rfl, rfl⟩

theorem execValveCmd_wait (hb : doValveCmd d c (s.dev.taken 0x62 d) = (v, .wait)) :
    ∃ t, exec (.valveCmd d) s = .next t ∧ t.waiting 0x62 d ∧ t.dev.valves = v.valves ∧ t.dev.pairs = v.pairs ∧ t.dev.done = v.done := by
  refine ⟨_, rfl, State.desc_waiting (body := onValveObj (doValveCmd d)) h hb, ?_⟩
  rw [State.desc_wait (body := onValveObj (doValveCmd d)) h hb]
  exact ⟨rfl, rfl, rfl⟩

end

theorem Dev.taken_vboost (s : Dev) (op : Nat) (d : Desc) : (s.taken op d).senseVboost.vboost = s.senseVboost.vboost :=
  Dev.senseVboost_congr rfl rfl rfl rfl

/-! ## ON to a free channel (08 R236, R238, R239) -/

theorem FreeChan.wait {v : Valve} (h : FreeChan v) : v.wait = none := h.left

theorem FreeChan.failpos {v : Valve} (h : FreeChan v) : v.failpos = false := by
  obtain ⟨-, -, hfail, -⟩ := h
  exact hfail

section
variable {s : State} {d : Desc} {c : Fin 16} (h : s.admits opValveCmd d (.valve c)) (hp : s.dev.par c = false)
  (hfree : FreeChan (s.dev.valve c)) (hdef : d.flag 8 1 = false) (hset : d.flag 8 2 = false) (hon : d.flag 8 0)
include h hp hfree hdef hset hon

theorem valveCmd_on_done {v : Dev} {st : Status} {res : DWord} (hb : (s.dev.taken 0x62 d).valveOn c (some d) false = (v, some (st, res))) :
    ∃ t, exec (.valveCmd d) s = .next t ∧ t.answered d st res ∧ s.onlyDev t ∧ (∀ j, t.dev.valve j = (v.pairSync (pairOf c)).valve j) ∧
      ∀ k, t.dev.pair k = (v.pairSync (pairOf c)).pair k := by
  obtain ⟨-, harm, hfail, hphase⟩ := hfree
  have hdo : ((s.dev.taken 0x62 d).endFail c).valveDo c d false = (v, some (st, res)) := by
    rw [Dev.endFail_eq_self (s := s.dev.taken 0x62 d) hfail, Dev.valveDo_on (s := s.dev.taken 0x62 d) hset hphase false hfail hon, hb]
  obtain ⟨t, ht, hans, hdev, hvalves, hpairs, -⟩ :=
    execValveCmd_done h (doValveCmd_completes (s := s.dev.taken 0x62 d) hp hset hphase harm hdef hdo)
  exact ⟨t, ht, hans, hdev, Dev.valve_congr hvalves, Dev.pair_congr hpairs⟩

theorem valveCmd_on_wait {v : Dev} (hb : (s.dev.taken 0x62 d).valveOn c (some d) false = (v, none)) :
    ∃ t, exec (.valveCmd d) s = .next t ∧ t.waiting 0x62 d ∧ t.dev.done = v.done ∧ (∀ j, t.dev.valve j = (v.pairSync (pairOf c)).valve j) ∧
      ∀ k, t.dev.pair k = (v.pairSync (pairOf c)).pair k := by
  obtain ⟨-, harm, hfail, hphase⟩ := hfree
  have hdo : ((s.dev.taken 0x62 d).endFail c).valveDo c d false = (v, none) := by
    rw [Dev.endFail_eq_self (s := s.dev.taken 0x62 d) hfail, Dev.valveDo_on (s := s.dev.taken 0x62 d) hset hphase false hfail hon, hb]
  obtain ⟨t, ht, hwait, hvalves, hpairs, hdone⟩ :=
    execValveCmd_wait h (doValveCmd_waits (s := s.dev.taken 0x62 d) hp hset hphase harm hdef hdo)
  exact ⟨t, ht, hwait, hdone.trans (v.pairSync_done _), Dev.valve_congr hvalves, Dev.pair_congr hpairs⟩

/-- A profile without BOOST starts at once. -/
theorem valveCmd_noBoost (hb : (s.dev.valve c).prof.tBoostMax = 0) :
    ∃ t, exec (.valveCmd d) s = .next t ∧ t.answered d .ok (s.dev.valveRes false false false) ∧ s.onlyDev t ∧
      t.dev.valve c = (s.dev.valve c).started s.dev.now false ∧
      ∀ j : Fin 16, pairOf j ≠ pairOf c → t.dev.valve j = s.dev.valve j := by
  obtain ⟨t, ht, hans, hdev, hvalves, -⟩ :=
    valveCmd_on_done h hp hfree hdef hset hon (Dev.valveOn_noBoost (s := s.dev.taken 0x62 d) (FreeChan.wait hfree) _ _ hb)
  have hstart := Dev.startProfile_eq (s := s.dev.taken 0x62 d) hp false
  have hkeep := Dev.leaveRail_self (s := (s.dev.taken 0x62 d).startProfile c false) (c := c) (by rw [hstart]; exact hp) false
  have honly : Dev.PairOnly (pairOf c) (s.dev.taken 0x62 d) ((((s.dev.taken 0x62 d).startProfile c false).leaveRail c).pairSync (pairOf c)) :=
    .after (Dev.pairSync_only _) (.after (Dev.leaveRail_only _ rfl _) (Dev.startProfile_only _ rfl _))
  refine ⟨t, ht, hans, hdev, ?_, fun j hj => ?_⟩
  · rw [hvalves]
    refine Dev.pairSync_get (hkeep.trans ?_) Chop.noConfusion
    rw [hstart]
    exact Dev.onValve_get ..
  · rw [hvalves]
    exact honly.valves j hj

section
variable (hb : (s.dev.valve c).prof.tBoostMax ≠ 0) (hf : (s.dev.pair (pairOf c)).freed ≠ some (!isOdd c, s.dev.now))
include hb hf

/-- While the partner holds the rail the channel goes on as it was, and waits. -/
theorem valveCmd_waitsRail (hr : (s.dev.pair (pairOf c)).rail = some (!isOdd c)) :
    ∃ t, exec (.valveCmd d) s = .next t ∧ t.waiting 0x62 d ∧ t.dev.done = s.dev.done ∧
      (t.dev.valve c).core = ({ s.dev.valve c with wait := some { d := some d, rail := true, late := false } } : Valve).core ∧
      (t.dev.pair (pairOf c)).rail = some (!isOdd c) := by
  obtain ⟨t, ht, hwait, hdone, hvalves, hpairs⟩ := valveCmd_on_wait h hp hfree hdef hset hon
    (Dev.valveOn_waits (s := s.dev.taken 0x62 d) (FreeChan.wait hfree) _ _ hb hr hf)
  refine ⟨t, ht, hwait, hdone, ?_, ?_⟩
  · rw [hvalves]
    exact (Dev.pairSync_core ..).trans (congrArg Valve.core (Dev.onValve_get ..))
  · rw [hpairs]
    exact (Dev.pairSync_rail ..).trans hr

variable (hr : (s.dev.pair (pairOf c)).rail = none)
include hr

/-- With the rail free and VBOOST ready BOOST starts. -/
theorem valveCmd_boosts (hv : (s.dev.pair (pairOf c)).boostReady ≤ s.dev.senseVboost.vboost) :
    ∃ t, exec (.valveCmd d) s = .next t ∧ t.answered d .ok (s.dev.valveRes false false false) ∧
      t.dev.valve c = ({ s.dev.valve c with wait := none } : Valve).started s.dev.now false ∧
      (t.dev.pair (pairOf c)).rail = some (isOdd c) := by
  have hgrant := Dev.granted_ready (s := s.dev.taken 0x62 d) hp { d := some d, rail := true, late := false }
    (by rw [Dev.taken_vboost]; exact hv)
  obtain ⟨t, ht, hans, -, hvalves, hpairs⟩ := valveCmd_on_done h hp hfree hdef hset hon
    (Dev.valveOn_keeps (s := s.dev.taken 0x62 d) (FreeChan.wait hfree) _ _ hb hr hf hgrant (Dev.setRail_rail ..))
  refine ⟨t, ht, hans, ?_, ?_⟩
  · rw [hvalves]
    refine Dev.pairSync_get ((Dev.onValve_get ..).trans ?_) Chop.noConfusion
    rw [Dev.setRail_valve, Dev.senseVboost_valve]
    rfl
  · rw [hpairs]
    exact (Dev.pairSync_rail ..).trans (Dev.setRail_rail ..)

variable (hv : s.dev.senseVboost.vboost < (s.dev.pair (pairOf c)).boostReady)
include hv

/-- With VBOOST too low and BPOL SKIP the profile starts without BOOST, and the rail is free. -/
theorem valveCmd_skips (hq : (s.dev.valve (partnerOf c)).wait = none) (hskip : (s.dev.pair (pairOf c)).bpol) :
    ∃ t, exec (.valveCmd d) s = .next t ∧ t.answered d .ok (s.dev.valveRes false false true) ∧
      t.dev.valve c = ({ s.dev.valve c with notReady := true, wait := none } : Valve).started s.dev.now true ∧
      (t.dev.pair (pairOf c)).rail = none := by
  have hgrant := Dev.granted_skip (s := s.dev.taken 0x62 d) hp { d := some d, rail := true, late := false }
    (by rw [Dev.taken_vboost]; exact hv) hskip
  have hpart : (((((s.dev.taken 0x62 d).boostLow c).setRail (pairOf c) none).onValve c
      fun v => ({ v with wait := none } : Valve).started s.dev.now true).valve (partnerOf c)).wait = none := by
    rw [Dev.onValve_other _ _ _ (partnerOf_ne c), Dev.setRail_valve, Dev.boostLow_other _ _ (partnerOf_ne c)]
    exact hq
  obtain ⟨t, ht, hans, -, hvalves, hpairs⟩ := valveCmd_on_done h hp hfree hdef hset hon
    (Dev.valveOn_returns (s := s.dev.taken 0x62 d) (FreeChan.wait hfree) _ _ hb hr hf hgrant (Dev.setRail_rail ..) hpart)
  refine ⟨t, ht, hans, ?_, ?_⟩
  · rw [hvalves]
    refine Dev.pairSync_get ((Dev.onValve_get ..).trans ?_) Chop.noConfusion
    rw [Dev.setRail_valve, Dev.boostLow_valve]
    rfl
  · rw [hpairs]
    exact (Dev.pairSync_rail ..).trans (Dev.setRail_rail ..)

/-- With VBOOST too low and BPOL DELAY the channel holds the rail and waits. -/
theorem valveCmd_delays (hdelay : (s.dev.pair (pairOf c)).bpol = false) :
    ∃ t, exec (.valveCmd d) s = .next t ∧ t.waiting 0x62 d ∧ t.dev.done = s.dev.done ∧
      (t.dev.valve c).core =
        ({ s.dev.valve c with notReady := true, wait := some { d := some d, rail := false, late := false } } : Valve).core ∧
      (t.dev.pair (pairOf c)).rail = some (isOdd c) := by
  have hgrant := Dev.granted_delay (s := s.dev.taken 0x62 d) (c := c) { d := some d, rail := true, late := false }
    (by rw [Dev.taken_vboost]; exact hv) hdelay
  obtain ⟨t, ht, hwait, hdone, hvalves, hpairs⟩ := valveCmd_on_wait h hp hfree hdef hset hon
    (Dev.valveOn_keeps (s := s.dev.taken 0x62 d) (FreeChan.wait hfree) _ _ hb hr hf hgrant (Dev.setRail_rail ..))
  refine ⟨t, ht, hwait, hdone.trans (Dev.boostLow_done ..), ?_, ?_⟩
  · rw [hvalves]
    refine (Dev.pairSync_core ..).trans (congrArg Valve.core ((Dev.onValve_get ..).trans ?_))
    rw [Dev.setRail_valve, Dev.boostLow_valve]
    rfl
  · rw [hpairs]
    exact (Dev.pairSync_rail ..).trans (Dev.setRail_rail ..)

end

end

/-! ## OFF (08 R235, R236, R247) -/

section
variable {s : State} {d : Desc} {c : Fin 16} (h : s.admits opValveCmd d (.valve c)) (hp : s.dev.par c = false)
  (hphase : (s.dev.valve c).phase ≠ .fault) (harm : (s.dev.valve c).armed = none) (hdef : d.flag 8 1 = false)
  (hset : d.flag 8 2 = false) (hoff : d.flag 8 0 = false)
include h hp hphase harm hdef hset hoff

theorem valveCmd_off :
    ∃ t, exec (.valveCmd d) s = .next t ∧ t.answered d .ok (s.dev.valveRes false false false) ∧
      (∀ j, t.dev.valve j = (((((s.dev.taken 0x62 d).endFail c).cancelWait c .flushed).startOff c).pairSync (pairOf c)).valve j) ∧
      t.dev.done = ((((s.dev.taken 0x62 d).endFail c).cancelWait c .flushed).startOff c).done ++
        [answerOf d .ok (s.dev.valveRes false false false) []] := by
  have hend : (((s.dev.taken 0x62 d).endFail c).valve c).phase ≠ .fault := by
    rw [Dev.endFail, Dev.onValve_get]
    exact hphase
  have hdo := Dev.valveDo_off hset hend false hoff
  rw [Dev.endFail_endFail] at hdo
  obtain ⟨t, ht, hans, -, hvalves, -, hdone⟩ :=
    execValveCmd_done h (doValveCmd_completes (s := s.dev.taken 0x62 d) hp hset hphase harm hdef hdo)
  exact ⟨t, ht, hans, Dev.valve_congr hvalves, by rw [hdone, Dev.pairSync_done]; rfl⟩

/-- OFF to a channel that runs and holds no rail starts its OFF phase. -/
theorem valveCmd_off_runs (hwait : (s.dev.valve c).wait = none) (hfail : (s.dev.valve c).failpos = false)
    (hrun : (s.dev.valve c).runs) (hr : (s.dev.pair (pairOf c)).rail = none) :
    ∃ t, exec (.valveCmd d) s = .next t ∧ t.answered d .ok (s.dev.valveRes false false false) ∧
      t.dev.valve c = (s.dev.valve c).switchedOff s.dev.now := by
  have hstart : ((((s.dev.taken 0x62 d).endFail c).cancelWait c .flushed).startOff c) =
      (s.dev.taken 0x62 d).onValve c fun v => v.switchedOff s.dev.now := by
    rw [Dev.endFail_eq_self (s := s.dev.taken 0x62 d) hfail, Dev.cancelWait_none (s := s.dev.taken 0x62 d) _ hwait,
      Dev.startOff_eq (s := s.dev.taken 0x62 d) hp hrun, Dev.leaveRail_not]
    · rfl
    · exact fun hc => absurd (hr.symm.trans hc) (by simp)
  obtain ⟨t, ht, hans, hvalves, -⟩ := valveCmd_off h hp hphase harm hdef hset hoff
  refine ⟨t, ht, hans, ?_⟩
  rw [hvalves, hstart]
  refine (Dev.pairSync_offStarts _ ?_ ?_).trans (Dev.onValve_get ..) <;> rw [Dev.onValve_get] <;> rfl

/-- OFF to a channel in IDLE whose ON waits for the rail cancels it. -/
theorem valveCmd_off_waits {a : Desc} {w : VWait} (hcalm : ∀ x ∈ s.dev.waits, x.ghost = false) (hidle : (s.dev.valve c).phase = .idle)
    (hwait : (s.dev.valve c).wait = some w) (hw : w.rail) (hd : w.d = some a) :
    ∃ t, exec (.valveCmd d) s = .next t ∧ (t.dev.valve c).wait = none ∧ (t.dev.valve c).phase = .idle ∧
      t.dev.done = s.dev.done ++ [answerOf a .flushed 0 [], answerOf d .ok (s.dev.valveRes false false false) []] := by
  have hget : ((s.dev.taken 0x62 d).endFail c).valve c =
      { s.dev.valve c with failpos := (s.dev.valve c).failpos && s.dev.power.valveFail } := Dev.onValve_get ..
  have hcancel := Dev.cancelWait_rail .flushed ((congrArg Valve.wait hget).trans hwait) hw hd
  have hself := Dev.cancelWait_self (s := (s.dev.taken 0x62 d).endFail c) hp .flushed
  have hstill : ((((s.dev.taken 0x62 d).endFail c).cancelWait c .flushed).valve c).phase = .idle := by
    rw [hself, hget]
    exact hidle
  obtain ⟨t, ht, -, hvalves, hdone⟩ := valveCmd_off h hp hphase harm hdef hset hoff
  rw [Dev.startOff_idle (by simp [Valve.runs, hstill])] at hvalves hdone
  have hcore := (congrArg Valve.core (hvalves c)).trans (Dev.pairSync_core ..)
  refine ⟨t, ht, (Valve.wait_congr hcore).trans (congrArg Valve.wait hself), (Valve.phase_congr hcore).trans hstill, ?_⟩
  rw [hdone, hcancel, Dev.finish_done (by exact hcalm), List.append_assoc]
  rfl

end

/-! ## A channel in FAULT (08 R242, R247) -/

section
variable {s : State} {d : Desc} {c : Fin 16} (h : s.admits opValveCmd d (.valve c)) (hp : s.dev.par c = false) (hset : d.flag 8 2 = false)
  (hfault : (s.dev.valve c).phase = .fault)
include h hp hset hfault

theorem valveCmd_fault_on (hon : d.flag 8 0) :
    (s.desc opValveCmd d (onValveObj (doValveCmd d))).answered d .busy 0 ∧
      s.becomes (s.desc opValveCmd d (onValveObj (doValveCmd d)))
        (Dev.withValve s.dev c { s.dev.valve c with failpos := (s.dev.valve c).failpos && s.dev.power.valveFail }) :=
  State.desc_onValve (f := fun v => { v with failpos := v.failpos && s.dev.power.valveFail }) (body := onValveObj (doValveCmd d)) h
    ((doValveCmd_fault (s := s.dev.taken 0x62 d) hp hset hfault).trans (by rw [if_pos hon]; rfl))

theorem valveCmd_fault_off (hoff : d.flag 8 0 = false) :
    (s.desc opValveCmd d (onValveObj (doValveCmd d))).answered d .ok (s.dev.valveRes false false false) ∧
      s.becomes (s.desc opValveCmd d (onValveObj (doValveCmd d)))
        (Dev.withValve s.dev c { s.dev.valve c with failpos := (s.dev.valve c).failpos && s.dev.power.valveFail }) :=
  State.desc_onValve (f := fun v => { v with failpos := v.failpos && s.dev.power.valveFail }) (body := onValveObj (doValveCmd d)) h
    ((doValveCmd_fault (s := s.dev.taken 0x62 d) hp hset hfault).trans (by rw [hoff]; rfl))

end

/-! ## DEFER (08 R243) -/

section
variable {s : State} {d : Desc} {c : Fin 16} (h : s.admits opValveCmd d (.valve c)) (hp : s.dev.par c = false)
  (hphase : (s.dev.valve c).phase ≠ .fault) (hdef : d.flag 8 1) (hset : d.flag 8 2 = false) (htb : s.dev.tb.valid)
include h hp hphase hdef hset htb

/-- A deferred command is armed, and nothing else changes. -/
theorem valveCmd_arms (harm : (s.dev.valve c).armed = none) (hfail : (s.dev.valve c).failpos = false) :
    ∃ t, exec (.valveCmd d) s = .next t ∧ t.waiting 0x62 d ∧ t.dev.done = s.dev.done ∧
      t.dev.valves = s.dev.valves.set c.val { s.dev.valve c with armed := some d } ∧ t.dev.pairs = s.dev.pairs := by
  obtain ⟨t, ht, hwait, hvalves, hpairs, hdone⟩ := execValveCmd_wait h (doValveCmd_arms (s := s.dev.taken 0x62 d) hp hset hphase harm hdef htb)
  rw [Dev.endFail_eq_self (s := s.dev.taken 0x62 d) hfail] at hvalves hpairs hdone
  exact ⟨t, ht, hwait, hdone, hvalves, hpairs⟩

/-- A deferred command takes the place of the one armed before. -/
theorem valveCmd_rearms {a : Desc} (hcalm : ∀ x ∈ s.dev.waits, x.ghost = false) (harm : (s.dev.valve c).armed = some a) :
    ∃ t, exec (.valveCmd d) s = .next t ∧ t.waiting 0x62 d ∧ t.answered a .flushed 0 ∧ (t.dev.valve c).armed = some d := by
  obtain ⟨t, ht, hwait, hvalves, -, hdone⟩ := execValveCmd_wait h (doValveCmd_rearms (s := s.dev.taken 0x62 d) hp hset hphase harm hdef htb)
  rw [Dev.onValve_done, Dev.endFail, Dev.onValve_done, Dev.finish_done (by exact hcalm)] at hdone
  refine ⟨t, ht, hwait, ⟨answerOf a .flushed 0 [], by rw [hdone, List.getLast?_concat], rfl, rfl, rfl, rfl, rfl⟩, ?_⟩
  rw [Dev.valve_congr hvalves, Dev.onValve_get]

end

/-! ## The obligation -/

/-- Settles O45, opcode by opcode; VALVE_CMD by what stands in its way. -/
theorem valveDescriptors : Obligations.ValveDescriptors := by
  unfold Obligations.ValveDescriptors
  intro s d c v k q
  refine ⟨fun h ho hq h1 h2 h3 h4 h5 h6 h7 h8 h9 => ?config,
    fun h hbad => ⟨_, rfl, State.desc_onlyAnswers (body := onValveObj (doValveConfig d)) h (doValveConfig_range hbad)⟩,
    fun h ho h1 h2 h3 h4 h5 => ?profile,
    fun h hp hfree hdef hset hon hb => ?noBoost,
    fun h hp hfree hdef hset hon hb hr hf _ hv => ?boost,
    fun h hp hfree hdef hset hon hb hr hf => ?waitsRail,
    fun h hp hfree hdef hset hon hb hr hf hq hv => ⟨fun hskip => ?skip, fun hdelay => ?delay⟩,
    fun h hp hfree hdef hset hoff hrun hr => ?off,
    fun a h hp hcalm hidle harm hwait hdef hset hoff => ?offWaits,
    fun h hp hfault hset => ⟨fun hon => ⟨_, rfl, valveCmd_fault_on h hp hset hfault hon⟩,
      fun hoff => ⟨_, rfl, valveCmd_fault_off h hp hset hfault hoff⟩⟩,
    fun h hp hfree hdef hset htb => ?arms,
    fun a h hp hcalm hphase harm hdef hset htb => ?rearms,
    fun h hset ho hcode => ⟨_, rfl, State.desc_onlyAnswers (body := onValveObj (doValveCmd d)) h
      (doValveCmd_owned (s := s.dev.taken 0x62 d) hset ho hcode)⟩,
    fun h ho hcode hown hfail => ?propSet,
    fun h hcode => ⟨_, rfl, State.desc_onlyAnswers (body := onValveObj (doValvePropSet d)) h
      (doValvePropSet_range (s := s.dev.taken 0x63 d) hcode)⟩,
    fun h hcode hown => ⟨_, rfl, State.desc_onlyAnswers (body := onValveObj (doValvePropSet d)) h
      (doValvePropSet_conflict (s := s.dev.taken 0x63 d) hcode hown)⟩,
    fun h h1 h2 h3 h4 h5 hv hq => ?saddle,
    fun h h1 h2 h3 h4 h5 hv => ⟨_, rfl, State.desc_onlyAnswers (body := onPairObj (doSaddleConfig d)) h
      (doSaddleConfig_busy (s := s.dev.taken 0x64 d) h1 h2 h3 h4 h5 hv)⟩,
    fun h hp hfault => ?ack,
    fun h hphase => ⟨_, rfl, State.desc_onlyAnswers (body := onValveObj doValveAck) h (doValveAck_conflict (s := s.dev.taken 0x65 d) hphase)⟩,
    fun h ho => ⟨_, rfl, State.desc_onlyAnswers (body := onValveObj doValveStatusGet) h (doValveStatusGet_answers (s := s.dev.taken 0x66 d) ho)⟩,
    fun ho h => ⟨_, rfl, State.desc_onlyAnswers (body := onValveObj doValveStatusGet) h (doValveStatusGet_conflict (s := s.dev.taken 0x66 d) ho)⟩⟩
  case config =>
    exact ⟨_, rfl, State.desc_onValve (body := onValveObj (doValveConfig d)) h
      (doValveConfig_stores (s := s.dev.taken 0x60 d) ho hq h1 h2 h3 h4 h5 h6 h7 h8 h9)⟩
  case profile =>
    exact ⟨_, rfl, State.desc_onValve (body := onValveObj (doValveProfile d)) h (doValveProfile_stores (s := s.dev.taken 0x61 d) ho h1 h2 h3 h4 h5)⟩
  case noBoost =>
    have hfail := FreeChan.failpos hfree
    obtain ⟨t, ht, hans, hdev, hvalve, hothers⟩ := valveCmd_noBoost h hp hfree hdef hset hon hb
    refine ⟨t, ht, ?_⟩
    simp only [Fin.getElem_fin, hvalve]
    exact ⟨hans, hdev, Valve.started_afterBoost _ hfail (.inl hb), Valve.started_cur _ _ hfail, rfl, rfl, rfl, rfl, rfl, hothers⟩
  case boost =>
    have hfail := FreeChan.failpos hfree
    obtain ⟨t, ht, hans, hvalve, hrail⟩ := valveCmd_boosts h hp hfree hdef hset hon hb hf hr hv
    refine ⟨t, ht, ?_⟩
    simp only [Fin.getElem_fin, hvalve]
    exact ⟨hans, Valve.started_boost _ hb, Valve.started_boostCode _ hfail hb, hrail, rfl⟩
  case waitsRail =>
    obtain ⟨t, ht, hwait, hdone, hcore, hrail⟩ := valveCmd_waitsRail h hp hfree hdef hset hon hb hf hr
    exact ⟨t, ht, hwait, hdone, (Valve.phase_congr hcore :), (Valve.cur_congr hcore :), (Valve.starts_congr hcore :),
      (Valve.wait_congr hcore :), hrail⟩
  case skip =>
    have hfail := FreeChan.failpos hfree
    obtain ⟨t, ht, hans, hvalve, hrail⟩ := valveCmd_skips h hp hfree hdef hset hon hb hf hr hv hq hskip
    refine ⟨t, ht, ?_⟩
    simp only [Fin.getElem_fin, hvalve]
    exact ⟨hans, Valve.started_afterBoost _ hfail (.inr rfl), rfl, hrail⟩
  case delay =>
    obtain ⟨t, ht, hwait, hdone, hcore, hrail⟩ := valveCmd_delays h hp hfree hdef hset hon hb hf hr hv hdelay
    exact ⟨t, ht, hwait, hdone, (Valve.phase_congr hcore :), (Valve.notReady_congr hcore :), hrail⟩
  case off =>
    obtain ⟨hwait, harm, hfail, hphase⟩ := hfree
    obtain ⟨t, ht, hans, hvalve⟩ := valveCmd_off_runs h hp hphase harm hdef hset hoff hwait hfail hrun hr
    refine ⟨t, ht, ?_⟩
    simp only [Fin.getElem_fin, hvalve]
    exact ⟨hans, rfl, rfl, rfl, rfl, rfl⟩
  case offWaits =>
    obtain ⟨t, ht, hwaits, hphase, hdone⟩ := valveCmd_off_waits h hp (fun hf => by cases hidle.symm.trans hf) harm hdef hset hoff hcalm hidle hwait rfl rfl
    exact ⟨t, ht, hwaits, hphase, _, _, hdone, rfl, rfl, rfl, rfl⟩
  case arms =>
    obtain ⟨hwait, harm, hfail, hphase⟩ := hfree
    exact valveCmd_arms h hp hphase hdef hset htb harm hfail
  case rearms => exact valveCmd_rearms h hp hphase hdef hset htb hcalm harm
  case propSet =>
    exact ⟨_, rfl, State.desc_onValve (body := onValveObj (doValvePropSet d)) h (doValvePropSet_stores (s := s.dev.taken 0x63 d) hcode ho hown hfail)⟩
  case saddle =>
    obtain ⟨hans, hdev⟩ := State.desc_ok (body := onPairObj (doSaddleConfig d)) h (doSaddleConfig_stores (s := s.dev.taken 0x64 d) h1 h2 h3 h4 h5 hv hq)
    exact ⟨_, rfl, hans, by rw [hdev]; rfl⟩
  case ack =>
    obtain ⟨u, hack, hphase, hcause, herrs⟩ := doValveAck_acks (s := s.dev.taken 0x65 d) hp hfault
    obtain ⟨hans, hdev⟩ := State.desc_ok (body := onValveObj doValveAck) h hack
    refine ⟨_, rfl, hans, ?_⟩
    rw [hdev]
    exact ⟨hphase, hcause, herrs⟩

end Sys2Proof.Machine
end

section
/-! What comes about on a valve channel (08 R229 to R243, R254): crossings, expiries, load faults and detections. -/

namespace Sys2Proof.Machine

/-! ## Gates (08 R229) -/

/-- A gate that comes on while the other was on finds it off: a change between them passes through both off. -/
theorem Pair.gates_interlock (p : Pair) (w : Option Bool) : (p.bg → (p.gates w).hsg → p.hsg) ∧ (p.hsg → (p.gates w).bg → p.bg) ∧
    ((p.bg && p.hsg) = false → ((p.gates w).bg && (p.gates w).hsg) = false) := by
  unfold Pair.gates
  extract_lets was dead
  split
  · tauto
  · next hchange =>
    rcases w with - | g
    · simp
    · dsimp only
      split
      · simp
      · next hpass =>
        -- the gate that comes on is the one that was on last, which is the one that `was` names
        cases hbg : p.bg <;> cases hhsg : p.hsg <;> cases g <;> simp_all [was, dead]

/-- With both gates off and no dead time, the gate that the pair asks for comes on. -/
theorem Pair.gates_of_off {p : Pair} {g : Bool} (hbg : p.bg = false) (hhsg : p.hsg = false) (hdead : p.dead = none) :
    ((p.gates (some g)).bg = g) ∧ ((p.gates (some g)).hsg = !g) := by
  simp [Pair.gates, hbg, hhsg, hdead]

/-- A decay that becomes slow demands no less. -/
theorem Dev.SlowsIn.demands {k : Fin 8} {s t : Dev} {j : Fin 16} (h : SlowsIn k s t) (hj : (s.valve j).demands) : (t.valve j).demands := by
  rwa [h.of_not_fast fun hf => by simp [Valve.demands, hf] at hj]

/-- What a pair asks for stays while its decays are replaced. -/
theorem Dev.SlowsIn.wantGate {k : Fin 8} {s t : Dev} {g : Bool} (h : SlowsIn k s t) (hw : s.wantGate k = some g) : t.wantGate k = some g := by
  have hpairs : t.pairs = s.pairs := by
    obtain ⟨_, _, hrest⟩ := h.rest
    rw [hrest]
  have hdemands (hs : (s.valve (evenOf k)).demands || (s.valve (oddOf k)).demands) :
      (t.valve (evenOf k)).demands || (t.valve (oddOf k)).demands := by
    rw [Bool.or_eq_true] at hs ⊢
    exact hs.imp h.demands h.demands
  unfold Dev.wantGate at hw ⊢
  rw [hpairs]
  split_ifs at hw ⊢ <;> simp_all

/-- DEAD_TIME_END gives the pair the gate that it asks for. -/
theorem Dev.deadTimeEnd_gates {s : Dev} {k : Fin 8} {g : Bool} (hbg : (s.pair k).bg = false) (hhsg : (s.pair k).hsg = false)
    (hw : s.wantGate k = some g) :
    let t := (s.onPair k fun p => { p with dead := none }).pairSync k
    ((t.pair k).bg = g) ∧ ((t.pair k).hsg = !g) := by
  have hrail : ((s.onPair k fun p => { p with dead := none }).pair k).rail = (s.pair k).rail := by rw [Dev.onPair_get]
  have hwant : (s.onPair k fun p => { p with dead := none }).wantGate k = some g := by
    rw [← hw, Dev.wantGate, hrail]
    rfl
  have hdecays := ((s.onPair k fun p => { p with dead := none }).decays_slows k).wantGate hwant
  dsimp only
  rw [Dev.pairSync_pair, hdecays, Dev.onPair_get]
  exact Pair.gates_of_off hbg hhsg rfl

/-! ## Threshold crossings (08 R231, R235, R242) -/

/-- A channel that a crossing has chopped (08 R231, R232). -/
def Valve.chopped (v : Valve) (ripple : Option Nat) (now : Nat) : Valve :=
  let by_ := v.chopBy now (v.fastIn v.phase)
  { ({ v with crossed := true, ripple } : Valve).decay by_.1 with fall := if by_.2 then v.fall else none }

theorem Valve.chopped_chop (v : Valve) (ripple : Option Nat) (now : Nat) :
    (v.chopped ripple now).chop = if (v.chopBy now (v.fastIn v.phase)).1 then .fast else .slow := rfl

section
variable {s : Dev} {c : Fin 16} (hp : s.par c = false)
include hp

/-- A crossing is heard on a channel that is switched on, runs and is not blanked. -/
theorem Dev.crossing_unheard (h : (s.valve c).chop ≠ .on ∨ (s.valve c).blank ∨ (s.valve c).runs = false) : s.crossing c = s := by
  simp only [Dev.crossing, Dev.lead_eq hp]
  refine if_pos ?_
  rcases h with h | h | h <;> simp [h]

section
variable (hon : (s.valve c).chop = .on) (hblank : (s.valve c).blank = false)
include hon hblank

/-- In BOOST a crossing moves the channel to its next phase, and gives the rail back. -/
theorem Dev.crossing_boost (hphase : (s.valve c).phase = .boost) (hshort : (s.valve c).shortT = 0) :
    s.crossing c = ((s.onValve c fun v => ({ v with crossed := true } : Valve).movedTo (s.valve c).cur.afterBoost true s.now).leaveRail c
      true).pairSync (pairOf c) := by
  have hpar : (s.onValve c fun v => { v with crossed := true }).par c = false := hp
  simp only [Dev.crossing, Dev.lead_eq hp, hon, hblank, Valve.runs, hphase, hshort, Dev.toPhase_eq hpar, Dev.onValve_onValve]
  simp

/-- In the phases that regulate a crossing is a chop; in PROP its ripple is drawn. -/
theorem Dev.crossing_chop (hphase : (s.valve c).phase = .peak ∨ (s.valve c).phase = .hold ∨ (s.valve c).phase = .prop)
    (hshort : (s.valve c).shortT = 0) :
    ∃ n rip, s.crossing c = (({ s with fresh := n } : Dev).onValve c fun v => v.chopped rip s.now).pairSync (pairOf c) := by
  have hruns : (s.valve c).runs := by rcases hphase with h | h | h <;> simp [Valve.runs, h]
  have hboost : (s.valve c).phase ≠ .boost := by rcases hphase with h | h | h <;> simp [h]
  simp only [Dev.crossing, Dev.lead_eq hp]
  rw [if_neg (by simp [hon, hblank, hruns]), if_neg (by simp [hshort]), if_neg hboost]
  by_cases hprop : (s.valve c).phase = .prop
  · refine ⟨s.fresh + 1, some s.fresh, ?_⟩
    rw [if_pos (by simp [hprop])]
    have hdraw (f : Valve → Valve) : (s.onValve c f).draw = (s.fresh, ({ s with fresh := s.fresh + 1 } : Dev).onValve c f) := rfl
    simp only [hdraw, Dev.onValve_onValve]
    exact congrArg (Dev.pairSync · (pairOf c)) (Dev.onValve_congr rfl)
  · refine ⟨s.fresh, (s.valve c).ripple, ?_⟩
    rw [if_neg (by simp [hprop]), Dev.onValve_onValve]
    exact congrArg (Dev.pairSync · (pairOf c)) (Dev.onValve_congr rfl)

/-- A crossing at the end of the blanking, before SHORT_T is over, is a short. -/
theorem Dev.crossing_short {b : Nat} (hruns : (s.valve c).runs) (hshort : (s.valve c).shortT ≠ 0)
    (hend : (s.valve c).blankEnd = some b) (hnow : s.now ≤ b + 1) (hsoon : s.now - (s.valve c).onAt < (s.valve c).shortT * 10) :
    s.crossing c = (s.onValve c fun v => { v with crossed := true }).valveFault c 2 LG_VALVE_SHORT
      (mkWord [(0, 16, s.now - (s.valve c).onAt)]) := by
  simp only [Dev.crossing, Dev.lead_eq hp]
  rw [if_neg (by simp [hon, hblank, hruns]), if_pos (by simp [hshort, hend, hnow, hsoon])]
  rfl

end

end

/-- The fall to a lower threshold decides a chop only while there is one. -/
theorem Valve.chopBy_none {v : Valve} (now : Nat) (dflt : Bool) (h : v.fall = none) : (v.chopBy now dflt).1 = dflt := by
  simp [Valve.chopBy, h]

/-! ## Load faults (08 R242) -/

/-- A channel of which a load fault has come. -/
def Valve.faulted (v : Valve) (cause : Nat) : Valve := ({ v with phase := .fault, cause, code := 0 } : Valve).decay (v.fastIn .off)

/-- A fault is raised where its source handles nothing worse than a warning (17 R482). -/
theorem Dev.report_raises {s : Dev} {src : Word} (f : Nat) (code : BitVec 11) (arg : Word) (hheld : s.held f = false)
    (hwarn : ∀ e ∈ s.log.errs, e.source = src → e.cls = .warn) : (s.report src f .fault code arg).2 = true := by
  unfold Dev.report
  rw [if_neg (by simp [hheld])]
  split
  · rfl
  · next e he =>
    have hcls := hwarn e (List.mem_of_find?_eq_some he) (by simpa using List.find?_some he)
    simp [hcls, Sev.num]

theorem Dev.reportEv_valve (s : Dev) (src : Word) (f : Nat) (sev : Sev) (code : BitVec 11) (arg : Word) (ev : BitVec 16) (handle evArg : Word)
    (j : Fin 16) : (s.reportEv src f sev code arg ev handle evArg).valve j = s.valve j := by
  unfold Dev.reportEv
  dsimp only
  split <;> exact Dev.report_valve ..

/-- What the end of a command and the return of the rail, which a load fault brings, leave. -/
theorem Dev.fault_only (s : Dev) (c : Fin 16) (cause : Nat) : Dev.PairOnly (pairOf c) s
    (((s.onValve c fun v => v.faulted cause).cancelWait c .busy).leaveRail c ((s.valve c).phase == .boost)) :=
  .after (Dev.leaveRail_only _ rfl _) (.after (Dev.cancelWait_only _ rfl _) (.onValve rfl _))

section
variable {s : Dev} {c : Fin 16} (hp : s.par c = false) (cause : Nat) (code : BitVec 11) (arg : Word)
include hp

theorem Dev.valveFault_eq : s.valveFault c cause code arg =
    (((((s.onValve c fun v => v.faulted cause).cancelWait c .busy).leaveRail c ((s.valve c).phase == .boost)).reportEv (hPair (pairOf c))
      (pairFunc (pairOf c)) .fault code arg EV_VALVE_FAULT (hValve c) arg)).pairSync (pairOf c) := by
  have hpar (f : Valve → Valve) : (s.onValve c f).par c = false := hp
  simp only [Dev.valveFault, Dev.lead_eq hp, Dev.onHalves_eq (hpar _), Dev.onValve_onValve]
  have hv : (s.onValve c fun v => ({ v with phase := .fault, cause, code := 0 } : Valve).decay ((s.valve c).fastIn .off)) =
      s.onValve c fun v => v.faulted cause := Dev.onValve_congr rfl
  rw [hv]

theorem Dev.valveFault_core : ((s.valveFault c cause code arg).valve c).core = ({ (s.valve c).faulted cause with wait := none } : Valve).core := by
  have hcancel : ((s.onValve c fun v => v.faulted cause).cancelWait c .busy).par c = false := ((Dev.cancelWait_only _ rfl _).par).trans hp
  rw [Dev.valveFault_eq hp, Dev.pairSync_core, Dev.reportEv_valve, Dev.leaveRail_self hcancel,
    Dev.cancelWait_self (s := s.onValve c fun v => v.faulted cause) hp, Dev.onValve_get]

/-- The event of a load fault, where the pair handled no error. -/
theorem Dev.valveFault_raised (hheld : s.held (pairFunc (pairOf c)) = false) (hidle : s.handling (hPair (pairOf c)) = false) :
    ∃ e ∈ (s.valveFault c cause code arg).raised, e.code = EV_VALVE_FAULT ∧ e.handle = hValve c := by
  have honly := s.fault_only c cause
  rw [Dev.valveFault_eq hp, Dev.pairSync_raised]
  generalize Dev.leaveRail _ c _ = u at honly ⊢
  have hraises : (u.report (hPair (pairOf c)) (pairFunc (pairOf c)) .fault code arg).2 = true := by
    refine Dev.report_raises _ _ _ ((honly.held _).trans hheld) fun e he hsrc => (honly.warned e he).resolve_left fun hold => ?_
    exact List.any_eq_false.1 hidle e hold (beq_iff_eq.2 hsrc)
  have hev : u.reportEv (hPair (pairOf c)) (pairFunc (pairOf c)) .fault code arg EV_VALVE_FAULT (hValve c) arg =
    (u.report (hPair (pairOf c)) (pairFunc (pairOf c)) .fault code arg).1.raise EV_VALVE_FAULT (pairFunc (pairOf c)) (hValve c) arg := if_pos hraises
  rw [hev]
  exact ⟨_, List.mem_append_right _ List.mem_cons_self, rfl, rfl⟩

end

/-! ## Expiries (08 R231, R235, R242) -/

/-- A device with its source's error reported handles it, unless the function is held (17 R481, R482). -/
theorem Dev.handling_of_report {s : Dev} {src : Word} {f : Nat} (sev : Sev) (code : BitVec 11) (arg : Word) (hheld : s.held f = false) :
    (s.report src f sev code arg).1.handling src := by
  cases hidle : s.handling src
  · obtain ⟨-, e, herrs, hsrc, -⟩ := s.report_idle src f sev code arg hheld hidle
    exact List.any_eq_true.2 ⟨e, herrs ▸ List.mem_append_right _ List.mem_cons_self, beq_iff_eq.2 hsrc⟩
  · exact Dev.handling_report hidle ..

section
variable {s : Dev} {c : Fin 16}

theorem Dev.toffEnd_idle (hp : s.par c = false) (h : (s.valve c).runs = false) : s.toffEnd c = s := by
  simp only [Dev.toffEnd, Dev.lead_eq hp, h]
  rfl

/-- The off-time of a chop ends with the channel on again and its comparator blanked. -/
theorem Dev.toffEnd_valve (hp : s.par c = false) (h : (s.valve c).runs) (hoff : (s.valve c).chop = .slow ∨ (s.valve c).chop = .fast) :
    (s.toffEnd c).valve c = { (s.valve c).turnOn s.now with code := ((s.valve c).turnOn s.now).phaseCode false } := by
  have hpar : (s.onValve c fun v => v.turnOn s.now).par c = false := hp
  have heq : s.toffEnd c = (s.onValve c fun v => { v.turnOn s.now with code := (v.turnOn s.now).phaseCode false }).pairSync (pairOf c) := by
    simp only [Dev.toffEnd, Dev.lead_eq hp]
    rw [if_pos (by rcases hoff with h' | h' <;> simp [h, h']), Dev.newCode_eq hpar, Dev.onValve_onValve]
  rw [heq]
  exact Dev.pairSync_get (Dev.onValve_get ..) Chop.noConfusion

/-- BOOST that ends without its current goes on to the next phase, and is reported. -/
theorem Dev.boostMax_valve (hp : s.par c = false) (h : (s.valve c).phase = .boost) :
    ((s.boostMax c).valve c).phase = (s.valve c).cur.afterBoost ∧
      (s.held (pairFunc (pairOf c)) = false → (s.boostMax c).handling (hPair (pairOf c))) := by
  obtain ⟨u, hu⟩ : ∃ u, u = (s.draw.2.report (hPair (pairOf c)) (pairFunc (pairOf c)) .warn LG_VALVE_BOOST_TO
    (mkWord [(0, 10, (Config.boostCode s.draw.1).toNat)])).1 := ⟨_, rfl⟩
  have heq : s.boostMax c = ((u.toPhase c (s.valve c).cur.afterBoost false).leaveRail c true).pairSync (pairOf c) := by
    rw [hu]
    exact if_neg (by simp [h])
  have hpar : u.par c = false := by
    rw [hu, Dev.par, Dev.report_pairs]
    exact hp
  have hmoved : (u.toPhase c (s.valve c).cur.afterBoost false).par c = false := (Dev.toPhase_only u rfl _ _).par.trans hpar
  refine ⟨?_, fun hheld => ?_⟩
  · rw [heq, Dev.pairSync_phase, Dev.leaveRail_self hmoved, Dev.toPhase_eq hpar, Dev.onValve_get, Valve.movedTo_phase]
  · rw [heq]
    have honly : Dev.PairOnly (pairOf c) u (((u.toPhase c (s.valve c).cur.afterBoost false).leaveRail c true).pairSync (pairOf c)) :=
      .after (Dev.pairSync_only _) (.after (Dev.leaveRail_only _ rfl _) (Dev.toPhase_only _ rfl _ _))
    refine honly.handled _ ?_
    rw [hu]
    exact Dev.handling_of_report (s := s.draw.2) _ _ _ hheld

/-- PEAK ends in the last phase; the rail stays where it is. -/
theorem Dev.peakEnd_moves (hp : s.par c = false) (h : (s.valve c).phase = .peak) :
    ((s.peakEnd c).valve c).phase = (s.valve c).cur.last ∧
      ((s.peakEnd c).pair (pairOf c)).rail = (s.pair (pairOf c)).rail := by
  have heq : s.peakEnd c = (s.onValve c fun v => v.movedTo (s.valve c).cur.last false s.now).pairSync (pairOf c) := by
    rw [← Dev.toPhase_eq hp]
    exact if_pos h
  rw [heq, Dev.pairSync_rail, Dev.pairSync_phase, Dev.onValve_get, Valve.movedTo_phase]
  exact ⟨rfl, rfl⟩

/-- HOLD ends in OFF. -/
theorem Dev.holdEnd_off (hp : s.par c = false) (h : (s.valve c).phase = .hold) (ht : (s.valve c).cur.tHold ≠ 0)
    (hf : (s.valve c).failpos = false) : ((s.holdEnd c).valve c).phase = .off ∧ ((s.holdEnd c).valve c).code = 0 := by
  have heq : s.holdEnd c = ((s.onValve c fun v => v.switchedOff s.now).leaveRail c ((s.valve c).phase == .boost)).pairSync (pairOf c) := by
    rw [← Dev.startOff_eq hp (by simp [Valve.runs, h])]
    exact if_pos (by simp [h, ht, hf])
  have hcore : ((s.holdEnd c).valve c).core = ((s.valve c).switchedOff s.now).core := by
    rw [heq, Dev.pairSync_core, Dev.leaveRail_self (s := s.onValve c fun v => v.switchedOff s.now) hp, Dev.onValve_get]
  exact ⟨(Valve.phase_congr hcore :), (Valve.code_congr hcore :)⟩

theorem Dev.holdEnd_endless (h : (s.valve c).cur.tHold = 0) : s.holdEnd c = s := if_neg (by simp [h])

/-- The OFF decay ends in IDLE. -/
theorem Dev.offEnd_idle (hp : s.par c = false) (h : (s.valve c).phase = .off) :
    (s.offEnd c).valve c = { s.valve c with chop := .none, phase := .idle } := by
  have heq : s.offEnd c = (s.onValve c fun v => { v with chop := .none, phase := .idle }).pairSync (pairOf c) := by
    simp only [Dev.offEnd, h, Dev.onHalves_eq hp, Dev.onValve_onValve]
  rw [heq]
  exact Dev.pairSync_get (Dev.onValve_get ..) Chop.noConfusion

/-- The decay of a channel in FAULT ends in FAULT. -/
theorem Dev.offEnd_fault (hp : s.par c = false) (h : (s.valve c).phase = .fault) :
    (s.offEnd c).valve c = { s.valve c with chop := .none } := by
  have heq : s.offEnd c = (s.onValve c fun v => { v with chop := .none }).pairSync (pairOf c) := by
    simp only [Dev.offEnd, h, Dev.onHalves_eq hp]
  rw [heq]
  exact Dev.pairSync_get (Dev.onValve_get ..) Chop.noConfusion

theorem Dev.openEnd_disabled (hp : s.par c = false) (h : (s.valve c).openT = 0) : s.openEnd c = s := by
  simp only [Dev.openEnd, Dev.lead_eq hp]
  exact if_neg (by simp [h])

/-- No crossing within OPEN_T is an open load. -/
theorem Dev.openEnd_fault (hp : s.par c = false)
    (hphase : (s.valve c).phase = .peak ∨ (s.valve c).phase = .hold ∨ (s.valve c).phase = .prop) (h : (s.valve c).openT ≠ 0)
    (hon : (s.valve c).chop = .on) (hcross : (s.valve c).crossed = false) :
    s.openEnd c = s.valveFault c 1 LG_VALVE_OPEN (mkWord [(0, 16, (s.valve c).openT)]) := by
  simp only [Dev.openEnd, Dev.lead_eq hp]
  exact if_pos (by rcases hphase with h' | h' | h' <;> simp [h, h', hon, hcross])

end

/-! ## The waits for the rail and for VBOOST (08 R238, R239) -/

section
variable {s : Dev} {c : Fin 16}

/-- BOOST_WAIT abandons the command that waits for the rail. -/
theorem Dev.boostWaitEnd_abandons {w : VWait} {a : Desc} (hcalm : ∀ x ∈ s.waits, x.ghost = false) (hw : (s.valve c).wait = some w)
    (hrail : w.rail) (hd : w.d = some a) :
    (s.boostWaitEnd c).done = s.done ++ [answerOf a .conflict 0 []] ∧
      (s.boostWaitEnd c).valve c = { s.valve c with wait := none, overlap := true } ∧ (s.boostWaitEnd c).pairs = s.pairs := by
  have heq : s.boostWaitEnd c = (((s.onValve c fun v => { v with wait := none, overlap := true }).report (hPair (pairOf c)) (pairFunc (pairOf c))
      .warn LG_VALVE_SADDLE_OVERLAP (mkWord [(0, 16, (s.pair (pairOf c)).boostWait)])).1).finishCmd w.d .conflict 0 := by
    simp only [Dev.boostWaitEnd, hw, hrail, if_true]
  rw [heq]
  refine ⟨?_, ?_, ?_⟩
  · rw [hd, Dev.finishCmd_done (by rw [Dev.report_waits]; exact hcalm), Dev.report_done, Dev.onValve_done]
  · rw [Dev.finishCmd_valve, Dev.report_valve, Dev.onValve_get]
  · rw [Dev.finishCmd_pairs, Dev.report_pairs]
    rfl

/-- The channel of a pair that waits for VBOOST, while its partner waits for nothing. -/
theorem Dev.readyWaiter_of {w : VWait} (hw : (s.valve c).wait = some w) (hrail : w.rail = false)
    (hq : (s.valve (partnerOf c)).wait = none) : s.readyWaiter (pairOf c) = some (c, w) := by
  have hwait {i j : Fin 16} (h : i = j) : (s.valve i).wait = (s.valve j).wait := by rw [h]
  obtain ⟨-, he, ho⟩ | ⟨-, he, ho⟩ := channels_of_pair c
  · unfold Dev.readyWaiter
    rw [(hwait he).trans hw]
    dsimp only
    rw [if_pos (by simp [hrail]), he]
  · unfold Dev.readyWaiter
    rw [(hwait he).trans hq, (hwait ho).trans hw]
    dsimp only
    rw [if_pos (by simp [hrail]), ho]

/-- A channel whose partner waits for nothing answers nothing as it gives the rail up. -/
theorem Dev.leaveRail_done (hq : (s.valve (partnerOf c)).wait = none) (b : Bool) : (s.leaveRail c b).done = s.done := by
  unfold Dev.leaveRail
  split
  · have hfree : (s.boostEnds c b).railFree (pairOf c) c = (s.boostEnds c b).setRail (pairOf c) none :=
      Dev.railFree_idle fun w hw => by cases hq.symm.trans hw
    exact (congrArg Dev.done hfree :)
  · rfl

/-- A ready wait that ends starts the profile and completes its command. -/
theorem Dev.waitEnds_starts {w : VWait} {a : Desc} {skip : Bool} (hp : s.par c = false) (hcalm : ∀ x ∈ s.waits, x.ghost = false)
    (hd : w.d = some a) (res : DWord) :
    let t := (((s.onValve c fun v => { v with wait := none }).startProfile c skip).finishCmd w.d (okOrLate w.late) res)
    t.done = s.done ++ [answerOf a (okOrLate w.late) res []] ∧ t.pairs = s.pairs ∧
      ∀ j, t.valve j = (s.onValve c fun v => ({ v with wait := none } : Valve).started s.now skip).valve j := by
  have hpar : (s.onValve c fun v => { v with wait := none }).par c = false := hp
  rw [Dev.startProfile_eq hpar, Dev.onValve_onValve]
  refine ⟨?_, ?_, ?_⟩
  · rw [hd]
    exact Dev.finishCmd_done hcalm
  · exact Dev.finishCmd_pairs ..
  · exact Dev.finishCmd_valve _ _ _ _

end

/-! ## Dither and closing (08 R234, R241) -/

section
variable {s : Dev} {c : Fin 16}

theorem Dev.dither_steps (hp : s.par c = false) (hprop : (s.valve c).phase = .prop) (hf : (s.valve c).cur.dithF ≠ 0) :
    s.dither c = s.onValve c fun v => { v with
      dith := (v.dith + 1) % (if v.cur.tri then 64 else 2)
      code := Valve.propCode { v with dith := (v.dith + 1) % (if v.cur.tri then 64 else 2) } false } := by
  have hpar : (s.onValve c fun v => { v with dith := (v.dith + 1) % (if v.cur.tri then 64 else 2) }).par c = false := hp
  rw [Dev.dither, if_pos (by simp [hprop, hf]), Dev.newCode_eq hpar, Dev.onValve_onValve]
  exact Dev.onValve_congr (by simp [Valve.phaseCode, hprop])

theorem Dev.dither_still (h : (s.valve c).phase ≠ .prop ∨ (s.valve c).cur.dithF = 0) : s.dither c = s :=
  if_neg (by rcases h with h | h <;> simp [h])

theorem Dev.closing_outside
    (h : (s.now - (s.valve c).tStart) / 400 < (s.valve c).kinkStart ∨ (s.valve c).kinkEnd < (s.now - (s.valve c).tStart) / 400) :
    s.closing c = s := if_neg (by rcases h with h | h <;> simp [not_le.2 h])

theorem Dev.closing_unwatched (h : (s.valve c).kink = false) : s.closing c = s := if_neg (by simp [h])

theorem Dev.closing_inside (h : (s.valve c).kink) (hlo : (s.valve c).kinkStart ≤ (s.now - (s.valve c).tStart) / 400)
    (hhi : (s.now - (s.valve c).tStart) / 400 ≤ (s.valve c).kinkEnd) :
    s.closing c = (s.onValve c fun v => { v with kink := false, closed := true, closeT := some ((s.now - (s.valve c).tStart) / 400) }).raise
      EV_VALVE_CLOSED (pairFunc (pairOf c)) (hValve c) (mkWord [(0, 16, (s.now - (s.valve c).tStart) / 400)]) :=
  if_pos (by simp [h, hlo, hhi])

theorem Dev.kinkEnd_unwatched (h : (s.valve c).kink = false) : s.kinkEnd_ c = s := if_neg (by simp [h])

/-- A window that passes with no kink is told to the host. -/
theorem Dev.kinkEnd_tells (h : (s.valve c).kink) :
    (s.kinkEnd_ c).valve c = { s.valve c with kink := false } ∧
      (s.kinkEnd_ c).raised = s.raised ++ [{ code := EV_VALVE_CLOSED, src := pairFunc (pairOf c), handle := hValve c, arg := 0x80000000
                                             time := s.tick, lost := 0 }] := by
  have heq : s.kinkEnd_ c = (((s.onValve c fun v => { v with kink := false }).raise EV_VALVE_CLOSED (pairFunc (pairOf c)) (hValve c)
      0x80000000).report (hPair (pairOf c)) (pairFunc (pairOf c)) .warn LG_VALVE_NO_CLOSE (mkWord [(0, 16, (s.valve c).kinkEnd)])).1 := if_pos h
  rw [heq]
  refine ⟨?_, ?_⟩
  · rw [Dev.report_valve]
    exact Dev.onValve_get ..
  · rw [Dev.report_raised]
    rfl

end

end Sys2Proof.Machine
end

section
/-! The end of a TCLK on a pair (08 R233, R238, R243, R254): armed commands, then the judgement of OFF decays. -/

namespace Sys2Proof.Machine

/-! ## One pair's turn among the eight -/

/-- What the turns of the other pairs leave of a pair. -/
structure Dev.PairKept (k : Fin 8) (s t : Dev) : Prop where
  valves : ∀ j : Fin 16, pairOf j = k → t.valve j = s.valve j
  pair : t.pair k = s.pair k
  waits : t.waits ⊆ s.waits
  done : s.done ⊆ t.done
  aside : t.aside = s.aside

section
variable {k : Fin 8} {s t v : Dev}

theorem Dev.PairKept.refl (k : Fin 8) (s : Dev) : PairKept k s s := ⟨fun _ _ => rfl, rfl, List.Subset.refl _, List.Subset.refl _, rfl⟩

theorem Dev.PairKept.after (h : PairKept k t v) (h' : PairKept k s t) : PairKept k s v where
  valves j hj := (h.valves j hj).trans (h'.valves j hj)
  pair := h.pair.trans h'.pair
  waits := List.Subset.trans h.waits h'.waits
  done := List.Subset.trans h'.done h.done
  aside := h.aside.trans h'.aside

theorem Dev.PairOnly.kept {i : Fin 8} (h : PairOnly i s t) (hik : k ≠ i) : PairKept k s t where
  valves j hj := h.valves j fun hji => hik (hj.symm.trans hji)
  pair := h.pairs k hik
  waits := h.waits
  done := h.done
  aside := h.aside

theorem Dev.pairTicks_kept {l : List (Fin 8)} (h : k ∉ l) (s : Dev) : PairKept k s (l.foldl Dev.pairTick s) := by
  induction l generalizing s with
  | nil => exact .refl k s
  | cons i l ih =>
    rw [List.mem_cons, not_or] at h
    exact .after (ih h.2 _) ((s.pairTick_only).kept h.1)

/-- A pair comes to its turn as it was, and stays as that leaves it. -/
theorem Dev.valveTick_at (k : Fin 8) (s : Dev) : ∃ u, PairKept k s u ∧ PairKept k (u.pairTick k) s.valveTick := by
  obtain ⟨before, after, heq⟩ := List.append_of_mem (List.mem_finRange k)
  have hnodup := List.nodup_finRange 8
  rw [heq, List.nodup_append, List.nodup_cons] at hnodup
  obtain ⟨-, ⟨hafter, -⟩, hdisj⟩ := hnodup
  refine ⟨before.foldl Dev.pairTick s, pairTicks_kept (fun hmem => hdisj k hmem k List.mem_cons_self rfl) s, ?_⟩
  rw [Dev.valveTick, heq, List.foldl_append, List.foldl_cons]
  exact pairTicks_kept hafter _

end

/-! ## A turn -/

/-- OFF decays that started on this TCLK are judged with the others. -/
def Dev.offSeen (s : Dev) (k : Fin 8) : Dev :=
  (s.onValve (evenOf k) fun v => { v with offAt := none }).onValve (oddOf k) fun v => { v with offAt := none }

/-- The armed commands that a strobe has reached act, the even channel's first. -/
def Dev.fireStrobed (s : Dev) (k : Fin 8) (m : Nat) : Dev :=
  let s := s.onPair k fun p => { p with strobed := 0 }
  let s := if m.testBit 0 then s.fireArmed (evenOf k) false else s
  if m.testBit 1 then s.fireArmed (oddOf k) false else s

section
variable {s : Dev}

theorem Dev.pairTick_eq {k : Fin 8} (h : (s.pair k).strobed ≠ 0 ∨ (s.valve (evenOf k)).offAt.isSome ∨ (s.valve (oddOf k)).offAt.isSome) :
    s.pairTick k = ((s.fireStrobed k (s.pair k).strobed).offSeen k).pairSync k := by
  refine if_neg ?_
  rcases h with h | h | h <;> simp [h]

theorem Dev.offSeen_valve (s : Dev) (c : Fin 16) : (s.offSeen (pairOf c)).valve c = { s.valve c with offAt := none } := by
  have hne : evenOf (pairOf c) ≠ oddOf (pairOf c) := fun h => by simp [Fin.ext_iff] at h
  obtain ⟨-, he, ho⟩ | ⟨-, he, ho⟩ := channels_of_pair c
  · rw [Dev.offSeen, he, ho, Dev.onValve_other _ _ _ (partnerOf_ne c).symm, Dev.onValve_get]
  · rw [Dev.offSeen, he, ho, Dev.onValve_get, Dev.onValve_other _ _ _ (partnerOf_ne c).symm]

theorem Dev.offSeen_partner (s : Dev) (c : Fin 16) :
    (s.offSeen (pairOf c)).valve (partnerOf c) = { (s.valve (partnerOf c)) with offAt := none } := by
  have h := s.offSeen_valve (partnerOf c)
  rwa [pairOf_partnerOf] at h

theorem Dev.offSeen_pair (s : Dev) (k j : Fin 8) : (s.offSeen k).pair j = s.pair j := rfl

theorem Dev.fireStrobed_none (s : Dev) (k : Fin 8) : s.fireStrobed k 0 = s.onPair k fun p => { p with strobed := 0 } := by
  simp [Dev.fireStrobed]

/-- A strobe to one channel fires its armed command alone. -/
theorem Dev.fireStrobed_one (s : Dev) (c : Fin 16) :
    s.fireStrobed (pairOf c) (if isOdd c then 2 else 1) = (s.onPair (pairOf c) fun p => { p with strobed := 0 }).fireArmed c false := by
  obtain ⟨hc, he, -⟩ | ⟨hc, -, ho⟩ := channels_of_pair c
  · rw [hc]
    exact congrArg (Dev.fireArmed _ · false) he
  · rw [hc]
    exact congrArg (Dev.fireArmed _ · false) ho

section
variable {c : Fin 16} (hoff : (s.valve c).phase = .off) (hfast : (s.valve c).chop = .fast) (hat : (s.valve c).offAt.isSome)
  (hstrobe : (s.pair (pairOf c)).strobed = 0) (hrail : (s.pair (pairOf c)).rail = none) (hp : s.par c = false)
include hoff hfast hat hstrobe hrail hp

/-- An OFF decay is judged on its own TCLK's end (08 R233, R254). -/
theorem Dev.pairTick_judges : (s.pairTick (pairOf c)).valve c =
    if (s.valve (partnerOf c)).isOn then ({ s.valve c with offAt := none } : Valve).slowed
    else { s.valve c with offAt := none } := by
  have hseen : (s.valve (evenOf (pairOf c))).offAt.isSome ∨ (s.valve (oddOf (pairOf c))).offAt.isSome := by
    have hget {j : Fin 16} (h : j = c) : (s.valve j).offAt.isSome := by subst h; exact hat
    obtain ⟨-, he, -⟩ | ⟨-, -, ho⟩ := channels_of_pair c
    · exact .inl (hget he)
    · exact .inr (hget ho)
  obtain ⟨u, hu⟩ : ∃ u, u = (s.onPair (pairOf c) fun p => { p with strobed := 0 }).offSeen (pairOf c) := ⟨_, rfl⟩
  have htick : s.pairTick (pairOf c) = u.pairSync (pairOf c) := by rw [hu, Dev.pairTick_eq (.inr hseen), hstrobe, Dev.fireStrobed_none]
  have hself : u.valve c = { s.valve c with offAt := none } := by
    rw [hu]
    exact Dev.offSeen_valve ..
  have hpart : (u.valve (partnerOf c)).isOn = (s.valve (partnerOf c)).isOn := by
    rw [hu]
    exact (congrArg Valve.isOn (Dev.offSeen_partner ..) :)
  have hpar : u.par c = false := by
    rw [hu]
    exact (Dev.onPair_par (f := fun p => { p with strobed := 0 }) fun _ => rfl).trans hp
  rw [htick]
  split_ifs with hq
  · rw [Dev.pairSync_slows (Dev.replaces_of hpar (by rw [hself]; exact hfast) (.inr (by rw [hself])) (hpart.trans hq)), hself]
  · have hfree : (u.pair (pairOf c)).rail = none := by
      rw [hu, Dev.offSeen_pair, Dev.onPair_get]
      exact hrail
    have hoffSelf : (u.valve c).isOn = false := by rw [hself]; simp [Valve.isOn, Valve.runs, hoff, hfast]
    rw [Dev.pairSync_eq, Dev.onPair_valve, Dev.decays_off hoffSelf (hpart.trans (by simpa using hq)) hfree, hself]

end

section
variable {c : Fin 16} {d : Desc} (hp : s.par c = false) (hcalm : ∀ x ∈ s.waits, x.ghost = false) (harmed : (s.valve c).armed = some d)
  (hwait : (s.valve c).wait = none) (hfail : (s.valve c).failpos = false) (hphase : (s.valve c).phase ≠ .fault)
  (hon : d.flag 8 0) (hset : d.flag 8 2 = false) (hboost : (s.valve c).prof.tBoostMax = 0)
  (hrail : (s.pair (pairOf c)).rail = none)
include hp hcalm harmed hwait hfail hphase hon hset hboost hrail

/-- An armed ON without BOOST starts the profile, and is answered. -/
theorem Dev.fireArmed_starts :
    (s.fireArmed c false).valve c = ({ s.valve c with armed := none } : Valve).started s.now false ∧
      (s.fireArmed c false).done = s.done ++ [answerOf d .ok (s.valveRes false false false) []] := by
  obtain ⟨u, hu⟩ : ∃ u, u = s.onValve c fun v => { v with armed := none } := ⟨_, rfl⟩
  have hget : u.valve c = { s.valve c with armed := none } := by rw [hu, Dev.onValve_get]
  have hstart : u.startProfile c false = u.onValve c fun v => v.started u.now false := Dev.startProfile_eq (by rw [hu]; exact hp) false
  have hleave : (u.startProfile c false).leaveRail c = u.startProfile c false := Dev.leaveRail_not (by
    rw [hstart, Dev.onValve_pair, hu, Dev.onValve_pair, hrail]
    simp)
  have hdo : u.valveDo c d false = (u.startProfile c false, some (.ok, u.valveRes false false false)) := by
    rw [Dev.valveDo_on hset (by rw [hget]; exact hphase) false (by rw [hget]; exact hfail) hon,
      Dev.valveOn_noBoost (by rw [hget]; exact hwait) _ _ (by rw [hget]; exact hboost), hleave]
    rfl
  have hfire : s.fireArmed c false = (u.startProfile c false).finish 0x62 d .ok (u.valveRes false false false) := by
    rw [hu] at hdo ⊢
    simp only [Dev.fireArmed, harmed, hdo]
  rw [hfire, hstart]
  refine ⟨?_, ?_⟩
  · rw [Dev.valve_congr (Dev.finish_valves ..), Dev.onValve_get, hget]
    rw [hu, Dev.onValve_now]
  · refine (Dev.finish_done ?_).trans ?_
    · rw [hu]
      exact hcalm
    · rw [hu]
      rfl

/-- A strobe executes the armed command at the end of its TCLK (08 R243). -/
theorem Dev.pairTick_fires (hstrobe : (s.pair (pairOf c)).strobed = if isOdd c then 2 else 1) :
    (s.pairTick (pairOf c)).valve c = { ({ s.valve c with armed := none } : Valve).started s.now false with offAt := none } ∧
      (s.pairTick (pairOf c)).done = s.done ++ [answerOf d .ok (s.valveRes false false false) []] := by
  obtain ⟨u, hu⟩ : ∃ u, u = s.onPair (pairOf c) fun p => { p with strobed := 0 } := ⟨_, rfl⟩
  have htick : s.pairTick (pairOf c) = ((u.fireArmed c false).offSeen (pairOf c)).pairSync (pairOf c) := by
    rw [Dev.pairTick_eq (.inl (by rw [hstrobe]; split <;> simp)), hstrobe, Dev.fireStrobed_one, hu]
  have hpar : u.par c = false := by
    rw [hu]
    exact (Dev.onPair_par (f := fun p => { p with strobed := 0 }) fun _ => rfl).trans hp
  have hfree : (u.pair (pairOf c)).rail = none := by
    rw [hu, Dev.onPair_get]
    exact hrail
  have hvalves (j : Fin 16) : u.valve j = s.valve j := by rw [hu, Dev.onPair_valve]
  have hnow : u.now = s.now := by rw [hu, Dev.onPair_now]
  obtain ⟨hvalve, hdone⟩ := Dev.fireArmed_starts hpar (by rw [hu]; exact hcalm) (by simpa only [hvalves] using harmed)
    (by simpa only [hvalves] using hwait) (by simpa only [hvalves] using hfail) (by simpa only [hvalves] using hphase) hon hset
    (by simpa only [hvalves] using hboost) hfree
  rw [htick]
  refine ⟨?_, ?_⟩
  · refine Dev.pairSync_get ((Dev.offSeen_valve ..).trans ?_) Chop.noConfusion
    rw [hvalve]
    simp only [hvalves, hnow]
  · rw [Dev.pairSync_done]
    refine hdone.trans ?_
    rw [hu]
    rfl

end

end

end Sys2Proof.Machine
end

section
/-! The boost rail and VBOOST as BOOST and a ready wait end (08 R238, R239), and the moments of a valve channel together. -/

namespace Sys2Proof.Machine

/-! ## The end of BOOST (08 R235, R238) -/

/-- A channel's BOOST has ended with its current, and its rail is not yet given back. -/
def Dev.boostOver (s : Dev) (c : Fin 16) : Dev :=
  (s.onValve c fun v => ({ v with crossed := true } : Valve).movedTo (s.valve c).cur.afterBoost true s.now).boostEnds c true

section
variable (s : Dev) (c : Fin 16)

theorem Dev.boostOver_partner : (s.boostOver c).valve (partnerOf c) = s.valve (partnerOf c) := by
  rw [Dev.boostOver, Dev.boostEnds, Dev.onPair_valve, Dev.onValve_other _ _ _ (partnerOf_ne c)]

theorem Dev.boostOver_par : (s.boostOver c).par c = s.par c := Dev.boostEnds_par ..

theorem Dev.boostOver_boostReady : ((s.boostOver c).pair (pairOf c)).boostReady = (s.pair (pairOf c)).boostReady := by
  rw [Dev.boostOver, Dev.boostEnds, Dev.onPair_get, Dev.onValve_pair]

theorem Dev.boostOver_senseVboost : (s.boostOver c).senseVboost.vboost = s.senseVboost.vboost := Dev.senseVboost_congr rfl rfl rfl rfl

theorem Dev.boostOver_valveRes (waited delayed skipped : Bool) :
    (s.boostOver c).valveRes waited delayed skipped = s.valveRes waited delayed skipped := rfl

end

section
variable {s : Dev} {c : Fin 16} (hp : s.par c = false) (hon : (s.valve c).chop = .on) (hblank : (s.valve c).blank = false)
  (hphase : (s.valve c).phase = .boost) (hshort : (s.valve c).shortT = 0)
include hp hon hblank hphase hshort

theorem Dev.crossing_phase : ((s.crossing c).valve c).phase = (s.valve c).cur.afterBoost := by
  obtain ⟨u, hu⟩ : ∃ u, u = s.onValve c fun v => ({ v with crossed := true } : Valve).movedTo (s.valve c).cur.afterBoost true s.now := ⟨_, rfl⟩
  rw [Dev.crossing_boost hp hon hblank hphase hshort, ← hu, Dev.pairSync_phase, Dev.leaveRail_self (by rw [hu]; exact hp), hu, Dev.onValve_get,
    Valve.movedTo_phase]

variable (hrail : (s.pair (pairOf c)).rail = some (isOdd c)) (hwait : (s.valve c).wait = none)
include hrail hwait

theorem Dev.crossing_leaves : s.crossing c = ((s.boostOver c).railFree (pairOf c) c).pairSync (pairOf c) := by
  have hget : ((s.onValve c fun v => ({ v with crossed := true } : Valve).movedTo (s.valve c).cur.afterBoost true s.now).valve c).wait =
      none := by rw [Dev.onValve_get, Valve.movedTo_wait, hwait]
  rw [Dev.crossing_boost hp hon hblank hphase hshort, Dev.leaveRail_of (by exact hrail) hget, Dev.boostOver]

/-- The rail that BOOST leaves is free while the partner waits for nothing. -/
theorem Dev.crossing_frees (hq : (s.valve (partnerOf c)).wait = none) : ((s.crossing c).pair (pairOf c)).rail = none := by
  have hidle : ∀ w, ((s.boostOver c).valve (partnerOf c)).wait = some w → w.rail = false := fun w hw => by
    rw [s.boostOver_partner, hq] at hw
    cases hw
  rw [Dev.crossing_leaves hp hon hblank hphase hshort hrail hwait, Dev.pairSync_rail, Dev.railFree_idle hidle, Dev.setRail_rail]

/-- A partner that waits for the rail is granted it, and starts BOOST where VBOOST is ready. -/
theorem Dev.crossing_grants {w : VWait} {a : Desc} (hcalm : ∀ x ∈ s.waits, x.ghost = false)
    (hq : (s.valve (partnerOf c)).wait = some w) (hw : w.rail) (hd : w.d = some a)
    (hboost : (s.valve (partnerOf c)).prof.tBoostMax ≠ 0) (hv : (s.pair (pairOf c)).boostReady ≤ s.senseVboost.vboost) :
    ((s.crossing c).pair (pairOf c)).rail = some (!isOdd c) ∧ ((s.crossing c).valve (partnerOf c)).phase = .boost ∧
      (s.crossing c).done = s.done ++ [answerOf a (okOrLate w.late) (s.valveRes true false false) []] := by
  have hready : ((s.boostOver c).pair (pairOf c)).boostReady ≤ (s.boostOver c).senseVboost.vboost := by
    rw [s.boostOver_boostReady, s.boostOver_senseVboost]
    exact hv
  rw [Dev.crossing_leaves hp hon hblank hphase hshort hrail hwait,
    Dev.railFree_boosts ((s.boostOver_par c).trans hp) (by rw [s.boostOver_partner]; exact hq) hw hready, hd]
  refine ⟨?_, ?_, ?_⟩
  · rw [Dev.pairSync_rail]
    rw [Dev.pair_congr (Dev.finishCmd_pairs ..), Dev.onValve_pair, Dev.setRail_rail]
  · rw [Dev.pairSync_phase]
    rw [Dev.finishCmd_valve, Dev.onValve_get, Dev.setRail_valve, Dev.senseVboost_valve, s.boostOver_partner]
    exact Valve.started_boost _ hboost
  · have hcalm' : ∀ x ∈ (s.boostOver c).senseVboost.waits, x.ghost = false := by
      rw [Dev.senseVboost_waits]
      exact hcalm
    rw [Dev.pairSync_done, s.boostOver_valveRes, Dev.finishCmd_done (by exact hcalm'), Dev.onValve_done, Dev.setRail_done, Dev.senseVboost_done]
    rfl

end

/-! ## The end of a ready wait (08 R239) -/

section
variable {s : Dev} {c : Fin 16} {w : VWait} {a : Desc} (hp : s.par c = false) (hcalm : ∀ x ∈ s.waits, x.ghost = false)
  (hwait : (s.valve c).wait = some w) (hrail : w.rail = false) (hd : w.d = some a) (hq : (s.valve (partnerOf c)).wait = none)
include hp hcalm hwait hrail hd hq

/-- VBOOST that comes to be ready starts BOOST. -/
theorem Dev.vboostReady_boosts (hboost : (s.valve c).prof.tBoostMax ≠ 0) :
    (s.vboostReady (pairOf c)).done = s.done ++ [answerOf a (okOrLate w.late) (s.valveRes w.waited true false) []] ∧
      ((s.vboostReady (pairOf c)).valve c).phase = .boost ∧
      (s.pair (pairOf c)).boostReady ≤ (s.vboostReady (pairOf c)).vboost := by
  obtain ⟨u, hu⟩ : ∃ u, u = { s.senseVboost with vboost := max s.senseVboost.vboost ((s.senseVboost.pair (pairOf c)).boostReady) } := ⟨_, rfl⟩
  have hvalves (j : Fin 16) : u.valve j = s.valve j := by rw [hu]; exact s.senseVboost_valve j
  have hpar : u.par c = false := by rw [hu]; exact (s.senseVboost_par c).trans hp
  have hready : u.readyWaiter (pairOf c) = some (c, w) :=
    Dev.readyWaiter_of (by simpa only [hvalves] using hwait) hrail (by simpa only [hvalves] using hq)
  have hres : ((u.onValve c fun v => { v with wait := none }).startProfile c false).valveRes w.waited true false = s.valveRes w.waited true false := by
    rw [(Dev.startProfile_only (k := pairOf c) _ rfl false).valveRes, hu]
    exact s.senseVboost_valveRes ..
  have heq : s.vboostReady (pairOf c) = (((u.onValve c fun v => { v with wait := none }).startProfile c false).finishCmd w.d (okOrLate w.late)
      (s.valveRes w.waited true false)).pairSync (pairOf c) := by
    rw [← hres]
    unfold Dev.vboostReady
    dsimp only
    rw [← hu, hready]
  obtain ⟨hdone, -, hvalve⟩ := Dev.waitEnds_starts (skip := false) hpar (by rw [hu]; simpa using hcalm) hd (s.valveRes w.waited true false)
  rw [heq]
  refine ⟨?_, ?_, ?_⟩
  · rw [Dev.pairSync_done, hdone, hu]
    exact congrArg (· ++ _) s.senseVboost_done
  · rw [Dev.pairSync_phase]
    simp only [hvalve, Dev.onValve_get, hvalves]
    exact Valve.started_boost _ hboost
  · rw [Dev.pairSync_vboost, Dev.finishCmd_vboost, Dev.startProfile_eq (s := u.onValve c _) hpar, Dev.onValve_vboost, Dev.onValve_vboost, hu]
    exact (congrArg Pair.boostReady (Dev.pair_congr s.senseVboost_pairs _)).ge.trans (le_max_right ..)

/-- READY_WAIT ends without BOOST, and gives the rail back. -/
theorem Dev.readyWaitEnd_skips (hfail : (s.valve c).failpos = false) :
    (s.readyWaitEnd (pairOf c)).done = s.done ++ [answerOf a (okOrLate w.late) (s.valveRes w.waited true true) []] ∧
      ((s.readyWaitEnd (pairOf c)).valve c).phase = (s.valve c).prof.afterBoost := by
  have hres : ((s.onValve c fun v => { v with wait := none }).startProfile c true).valveRes w.waited true true = s.valveRes w.waited true true :=
    (Dev.startProfile_only (k := pairOf c) _ rfl true).valveRes ..
  obtain ⟨u, hu⟩ : ∃ u, u = ((s.onValve c fun v => { v with wait := none }).startProfile c true).finishCmd w.d (okOrLate w.late)
    (s.valveRes w.waited true true) := ⟨_, rfl⟩
  have heq : s.readyWaitEnd (pairOf c) = (u.leaveRail c).pairSync (pairOf c) := by
    rw [hu, ← hres]
    unfold Dev.readyWaitEnd
    rw [Dev.readyWaiter_of hwait hrail hq]
  obtain ⟨hdone, hpairs, hvalve⟩ := Dev.waitEnds_starts (skip := true) hp hcalm hd (s.valveRes w.waited true true)
  rw [← hu] at hdone hpairs hvalve
  have hpart : (u.valve (partnerOf c)).wait = none := by
    simp only [hvalve, Dev.onValve_other _ _ _ (partnerOf_ne c)]
    exact hq
  rw [heq]
  refine ⟨?_, ?_⟩
  · rw [Dev.pairSync_done, Dev.leaveRail_done hpart, hdone]
  · rw [Dev.pairSync_phase, Dev.leaveRail_self (by rw [Dev.par, hpairs]; exact hp)]
    simp only [hvalve, Dev.onValve_get]
    exact Valve.started_afterBoost _ hfail (.inr rfl)

end

end Sys2Proof.Machine
end

section
/-! The moments of a valve channel together (08 R229 to R254). -/

namespace Sys2Proof.Machine

/-- A crossing that chops keeps the phase and its threshold; a fast decay beside a partner that is on is slow (08 R231 to R233). -/
theorem Dev.crossing_chops {s : Dev} {c : Fin 16} (hp : s.par c = false) (hon : (s.valve c).chop = .on) (hblank : (s.valve c).blank = false)
    (hphase : (s.valve c).phase = .peak ∨ (s.valve c).phase = .hold ∨ (s.valve c).phase = .prop)
    (hshort : (s.valve c).shortT = 0) :
    let x := (s.crossing c).valve c
    let fast := ((s.valve c).chopBy s.now ((s.valve c).fastIn (s.valve c).phase)).1
    x.phase = (s.valve c).phase ∧ x.code = (s.valve c).code ∧ (fast = false → x.chop = .slow ∧ x.subst = (s.valve c).subst) ∧
      (fast → (s.valve (partnerOf c)).isOn → x.chop = .slow ∧ x.subst) := by
  obtain ⟨n, rip, heq⟩ := Dev.crossing_chop hp hon hblank hphase hshort
  obtain ⟨u, hu⟩ : ∃ u, u = ({ s with fresh := n } : Dev).onValve c fun v => v.chopped rip s.now := ⟨_, rfl⟩
  have hget : u.valve c = (s.valve c).chopped rip s.now := by rw [hu, Dev.onValve_get]
  have hcore := u.pairSync_core (pairOf c) c
  rw [hget] at hcore
  rw [heq, ← hu]
  refine ⟨(Valve.phase_congr hcore :), (Valve.code_congr hcore :), fun hslow => ?_, fun hfast hq => ?_⟩
  · have hchop : ((s.valve c).chopped rip s.now).chop = .slow := by rw [Valve.chopped_chop, hslow]; rfl
    rw [Dev.pairSync_get hget (by rw [hchop]; exact Chop.noConfusion)]
    exact ⟨hchop, rfl⟩
  · have hchop : ((s.valve c).chopped rip s.now).chop = .fast := by rw [Valve.chopped_chop, hfast]; rfl
    have hnot : ((s.valve c).chopped rip s.now).phase ≠ .off := fun hoff => by
      rcases hphase with h | h | h <;> cases h.symm.trans hoff
    have hpart : (u.valve (partnerOf c)).isOn := by
      rw [hu, Dev.onValve_other _ _ _ (partnerOf_ne c)]
      exact hq
    rw [Dev.pairSync_slows (Dev.replaces_of (by rw [hu]; exact hp) (by rw [hget]; exact hchop) (.inl (by rw [hget]; exact hnot)) hpart)]
    exact ⟨rfl, rfl⟩

/-- The end of a TCLK judges an OFF decay (08 R233, R254). -/
theorem Dev.valveTick_judges {s : Dev} {c : Fin 16} (hp : s.par c = false) (hoff : (s.valve c).phase = .off)
    (hfast : (s.valve c).chop = .fast) (hat : (s.valve c).offAt.isSome) (hstrobe : (s.pair (pairOf c)).strobed = 0)
    (hrail : (s.pair (pairOf c)).rail = none) : s.valveTick.valve c =
      if (s.valve (partnerOf c)).isOn then ({ s.valve c with offAt := none } : Valve).slowed
      else { s.valve c with offAt := none } := by
  obtain ⟨u, hbefore, hafter⟩ := Dev.valveTick_at (pairOf c) s
  have hself := hbefore.valves c rfl
  have hjudge := Dev.pairTick_judges (s := u) (c := c) (by rw [hself, hoff]) (by rw [hself, hfast]) (by rw [hself]; exact hat)
    (by rw [hbefore.pair, hstrobe]) (by rw [hbefore.pair, hrail]) ((congrArg Pair.par hbefore.pair).trans hp)
  rw [hafter.valves c rfl, hjudge, hself, hbefore.valves (partnerOf c) (pairOf_partnerOf c)]

/-- The end of a TCLK executes an armed command that a strobe has reached (08 R243). -/
theorem Dev.valveTick_fires {s : Dev} {c : Fin 16} {d : Desc} (hp : s.par c = false) (hcalm : ∀ x ∈ s.waits, x.ghost = false)
    (harmed : (s.valve c).armed = some d) (hwait : (s.valve c).wait = none) (hfail : (s.valve c).failpos = false)
    (hphase : (s.valve c).phase ≠ .fault) (hon : d.flag 8 0) (hset : d.flag 8 2 = false) (hboost : (s.valve c).prof.tBoostMax = 0)
    (hrail : (s.pair (pairOf c)).rail = none) (hstrobe : (s.pair (pairOf c)).strobed = if isOdd c then 2 else 1) :
    s.valveTick.valve c = { ({ s.valve c with armed := none } : Valve).started s.now false with offAt := none } ∧
      answerOf d .ok (s.valveRes false false false) [] ∈ s.valveTick.done := by
  obtain ⟨u, hbefore, hafter⟩ := Dev.valveTick_at (pairOf c) s
  have hself := hbefore.valves c rfl
  have hnow : u.now = s.now := (congrArg Dev.now hbefore.aside :)
  have hres : u.valveRes false false false = s.valveRes false false false := (congrArg (fun v => Dev.valveRes v false false false) hbefore.aside :)
  obtain ⟨hvalve, hdone⟩ := Dev.pairTick_fires (s := u) (c := c) (d := d) ((congrArg Pair.par hbefore.pair).trans hp)
    (fun x hx => hcalm x (hbefore.waits hx)) (by rw [hself, harmed]) (by rw [hself, hwait]) (by rw [hself, hfail]) (by rw [hself]; exact hphase)
    hon hset (by rw [hself, hboost]) (by rw [hbefore.pair, hrail]) (by rw [hbefore.pair, hstrobe])
  rw [hself, hnow] at hvalve
  rw [hres] at hdone
  refine ⟨(hafter.valves c rfl).trans hvalve, hafter.done ?_⟩
  rw [hdone]
  exact List.mem_append_right _ List.mem_cons_self

/-- A newest completion answers its descriptor. -/
theorem State.answered_of_done {t : State} {l : List Completion} {a : Desc} {st : Status} {res : DWord}
    (h : t.dev.done = l ++ [answerOf a st res []]) : t.answered a st res :=
  ⟨answerOf a st res [], by rw [h, List.getLast?_concat], rfl, rfl, rfl, rfl, rfl⟩

/-- A command that leaves the device as it is leaves the machine as it is. -/
theorem State.onDev_eq_self {s : State} {f : Dev → Dev} (h : f s.dev = s.dev) : s.onDev f = s := by rw [State.onDev, h]

/-- Settles O46, moment by moment. -/
theorem valveMoments : Obligations.ValveMoments := by
  unfold Obligations.ValveMoments
  refine ⟨Pair.gates_interlock, fun s c hp => ?_⟩
  refine ⟨fun h => ⟨_, rfl, State.onDev_eq_self (Dev.crossing_unheard hp h)⟩,
    fun hon hblank hphase hshort => ⟨_, rfl, Dev.crossing_phase hp hon hblank hphase hshort, ⟨rfl, rfl, rfl⟩,
      fun hrail hwait hq => Dev.crossing_frees hp hon hblank hphase hshort hrail hwait hq⟩,
    fun w a hon hblank hphase hshort hrail hcalm hwait hq hw hd hboost hv => ?grant,
    fun hon hblank hphase hshort => ?chop,
    fun b hon hblank hruns hshort hend hnow hsoon => ?short,
    fun hruns hoff => ?toff,
    fun h => ⟨_, rfl, State.onDev_eq_self (Dev.toffEnd_idle hp h)⟩,
    ⟨_, rfl, rfl⟩,
    fun h => ⟨_, rfl, Dev.boostMax_valve hp h⟩,
    fun h => ⟨_, rfl, State.onDev_eq_self (if_pos h)⟩,
    fun h => ⟨_, rfl, Dev.peakEnd_moves hp h⟩,
    fun h ht hf => ⟨_, rfl, Dev.holdEnd_off hp h ht hf⟩,
    fun h => ⟨_, rfl, State.onDev_eq_self (Dev.holdEnd_endless h)⟩,
    fun h => ?off,
    fun h => ?offFault,
    fun hphase hopen hon hcross => ?openLoad,
    fun h => ⟨_, rfl, State.onDev_eq_self (Dev.openEnd_disabled hp h)⟩,
    fun w a hcalm hwait hrail hd => ?boostWait,
    fun w a hcalm hwait hrail hd hq hboost hfail => ⟨?vboost, ?readyWait⟩,
    fun g hbg hhsg hw => ⟨_, rfl, Dev.deadTimeEnd_gates hbg hhsg hw⟩,
    fun hprop hf => ?dither,
    fun h => ⟨_, rfl, State.onDev_eq_self (Dev.dither_still h)⟩,
    fun h => ⟨_, rfl, State.onDev_eq_self (Dev.closing_outside h)⟩,
    fun h hlo hhi => ?closing,
    fun h => ?kinkEnd,
    fun h => ⟨⟨_, rfl, State.onDev_eq_self (Dev.closing_unwatched h)⟩, ⟨_, rfl, State.onDev_eq_self (Dev.kinkEnd_unwatched h)⟩⟩,
    fun hoff hfast hat hstrobe hrail => ?judges,
    fun arg h => ?strobe,
    fun d hcalm harmed hwait hfail hphase hon hset hboost hrail hstrobe => ?fires⟩
  case grant =>
    obtain ⟨hrail', hphase', hdone⟩ := Dev.crossing_grants hp hon hblank hphase hshort hrail hwait hcalm hq hw hd hboost hv
    exact ⟨_, rfl, hrail', hphase', State.answered_of_done hdone⟩
  case chop =>
    obtain ⟨hphase', hcode, hslow, hfast⟩ := Dev.crossing_chops hp hon hblank hphase hshort
    exact ⟨_, rfl, hphase', hcode, Valve.chopBy_none _ _, hslow, hfast⟩
  case short =>
    refine answers_onDev rfl (Dev.crossing_short hp hon hblank hruns hshort hend hnow hsoon) ?_
    have hcore := Dev.valveFault_core (s := s.dev.onValve c fun v => { v with crossed := true }) (c := c) hp 2 LG_VALVE_SHORT
      (mkWord [(0, 16, s.dev.now - (s.dev.valve c).onAt)])
    exact ⟨(Valve.phase_congr hcore :), (Valve.cause_congr hcore :), (Valve.code_congr hcore :),
      Dev.valveFault_raised (s := s.dev.onValve c fun v => { v with crossed := true }) hp _ _ _⟩
  case toff =>
    have hvalve := Dev.toffEnd_valve hp hruns hoff
    refine ⟨_, rfl, ?_⟩
    simp only [Fin.getElem_fin, State.onDev_dev, hvalve]
    exact ⟨rfl, rfl, rfl, rfl, rfl⟩
  case off =>
    have hvalve := Dev.offEnd_idle hp h
    refine ⟨_, rfl, ?_⟩
    simp only [Fin.getElem_fin, State.onDev_dev, hvalve, and_self]
  case offFault =>
    have hvalve := Dev.offEnd_fault hp h
    refine ⟨_, rfl, ?_⟩
    simp only [Fin.getElem_fin, State.onDev_dev, hvalve, and_true]
    exact h
  case openLoad =>
    refine answers_onDev rfl (Dev.openEnd_fault hp hphase hopen hon hcross) ?_
    have hcore := Dev.valveFault_core (s := s.dev) (c := c) hp 1 LG_VALVE_OPEN (mkWord [(0, 16, (s.dev.valve c).openT)])
    exact ⟨(Valve.phase_congr hcore :), (Valve.cause_congr hcore :), (Valve.code_congr hcore :)⟩
  case boostWait =>
    obtain ⟨hdone, hvalve, hpairs⟩ := Dev.boostWaitEnd_abandons hcalm hwait hrail hd
    refine ⟨_, rfl, State.answered_of_done hdone, ?_⟩
    simp only [Fin.getElem_fin, State.onDev_dev, hvalve, true_and]
    exact hpairs
  case vboost =>
    obtain ⟨hdone, hphase, hready⟩ := Dev.vboostReady_boosts hp hcalm hwait hrail hd hq hboost
    exact ⟨_, rfl, State.answered_of_done hdone, hphase, hready⟩
  case readyWait =>
    obtain ⟨hdone, hphase⟩ := Dev.readyWaitEnd_skips hp hcalm hwait hrail hd hq hfail
    exact ⟨_, rfl, State.answered_of_done hdone, hphase⟩
  case dither => exact answers_onDev rfl (Dev.dither_steps hp hprop hf) rfl
  case closing =>
    refine answers_onDev rfl (Dev.closing_inside h hlo hhi) ?_
    have hvalve := s.dev.onValve_get c fun v => { v with kink := false, closed := true, closeT := some ((s.dev.now - (s.dev.valve c).tStart) / 400) }
    simp only [Fin.getElem_fin, Dev.raise_valves, hvalve, true_and]
    exact ⟨_, List.mem_append_right _ List.mem_cons_self, rfl, rfl, rfl⟩
  case kinkEnd =>
    obtain ⟨hvalve, hraised⟩ := Dev.kinkEnd_tells h
    refine ⟨_, rfl, ?_⟩
    simp only [Fin.getElem_fin, State.onDev_dev, hvalve, hraised, true_and]
    exact ⟨_, List.mem_append_right _ List.mem_cons_self, rfl, rfl, rfl⟩
  case judges =>
    have hvalve := Dev.valveTick_judges hp hoff hfast hat hstrobe hrail
    simp only [Fin.getElem_fin, hvalve]
    split_ifs with hq
    · exact ⟨rfl, fun _ => rfl, rfl⟩
    · exact ⟨hfast, fun hq' => absurd hq' hq, rfl⟩
  case strobe =>
    rw [Dev.valveStrobe, if_pos h]
    exact ⟨congrArg Pair.strobed (Dev.onPair_get ..), rfl⟩
  case fires =>
    obtain ⟨hvalve, hdone⟩ := Dev.valveTick_fires hp hcalm harmed hwait hfail hphase hon hset hboost hrail hstrobe
    simp only [Fin.getElem_fin, hvalve]
    exact ⟨Valve.started_afterBoost _ hfail (.inl hboost), rfl, rfl, _, hdone, rfl, rfl, rfl, rfl⟩

end Sys2Proof.Machine
end
